-- ==== Sys2Proof/Word.lean ====
section
/-!
DEFINITION. The words of the hardware and their plainest arithmetic: bytes, 32-bit registers, 64-bit counters, and the two
byte orders (00_scope R5 and R6).
-/
namespace Sys2Proof

/-- One byte. -/
abbrev Byte := BitVec 8
/-- One register (00_scope R7: every register is 32 bits wide). -/
abbrev Word := BitVec 32
/-- One 64-bit counter or one RESULT field. -/
abbrev Quad := BitVec 64
/-- A run of bytes, lowest address or first transmitted first. -/
abbrev Bytes := List Byte

/-- The number that bytes stand for in little-endian order (00_scope R5). -/
def leNat : Bytes → Nat
  | [] => 0
  | b :: bs => b.toNat + 256 * leNat bs

/-- The number that bytes stand for in big-endian order (00_scope R6). -/
def beNat (bs : Bytes) : Nat :=
  bs.foldl (fun acc b => 256 * acc + b.toNat) 0

/-- `len` bytes of `bs` from byte `off` on; shorter where `bs` ends. -/
def slice (bs : Bytes) (off len : Nat) : Bytes := (bs.drop off).take len

/-- The little-endian number in `len` bytes at `off`. -/
def leAt (bs : Bytes) (off len : Nat) : Nat := leNat (slice bs off len)

/-- The big-endian number in `len` bytes at `off`. -/
def beAt (bs : Bytes) (off len : Nat) : Nat := beNat (slice bs off len)

/-- The byte at `off`, 0 beyond the end. -/
def byteAt (bs : Bytes) (off : Nat) : Nat := ((bs[off]?).getD 0).toNat

/-- `n` as `len` little-endian bytes. -/
def leBytes : Nat → Nat → Bytes
  | 0, _ => []
  | len + 1, n => BitVec.ofNat 8 n :: leBytes len (n / 256)

/-- `n` as `len` big-endian bytes. -/
def beBytes (len n : Nat) : Bytes := (leBytes len n).reverse

/-- Bits `[lo + width - 1 : lo]` of a number. -/
def bitsOf (n lo width : Nat) : Nat := n / 2 ^ lo % 2 ^ width

/-- Bit `i` of a number. -/
def bitOf (n i : Nat) : Bool := n / 2 ^ i % 2 == 1

/-- 1 for true, 0 for false. -/
def b2n (b : Bool) : Nat := if b then 1 else 0

/-- Whether all bytes of a run are zero. -/
def allZero (bs : Bytes) : Bool := bs.all (· == 0)

/-- Saturating sum: `a + b`, at most `top`. -/
def satAdd (top a b : Nat) : Nat := min top (a + b)

end Sys2Proof
end

