-- ==== Sys2Proof/Config.lean ====
section
/-!
DEFINITION. What the spec leaves open and what other documents define: the free values (opaque, no body: nothing in Lean can
evaluate one) and the cryptographic functions, which are uninterpreted.
Each is named in a row of notes/assumptions.
-/
namespace Sys2Proof.Config

/-- The free value: the `n`-th value the spec leaves open in a run. `State.freeIx` counts `n` (notes/assumptions/1). -/
opaque free : Nat → Nat

/-- Whether the Bloom filter of a family and length, as built for the `gen`-th time, passes a prefix of a space that has no
entry there: a false positive (04_selectors, Structure and probing; notes/assumptions/2). -/
opaque bloomFalsePositive : (family length space key gen : Nat) → Bool

/-- The bucket that hash `which` (0 or 1) of an LPM key gives (04_selectors, Structure and probing: two hashes of SPACE,
LENGTH, PREFIX; the functions are not given; notes/assumptions/2). -/
opaque lpmHash : (family which space length key : Nat) → Nat

/-- AES-GCM or AES-GCM-XPN of IEEE 802.1AE over a frame: the ciphertext and ICV (05_secure_channels; the algorithm is the
standard's; notes/assumptions/3). -/
opaque gcmSeal : (key : Nat) → (iv : Nat) → (aad plain : Bytes) → Bytes

/-- The deciphered text of a frame (05_secure_channels; notes/assumptions/3). -/
opaque gcmOpen : (key : Nat) → (iv : Nat) → (aad cipher : Bytes) → Bytes

/-- The AES-GCM tag of 16 bytes (05_secure_channels; notes/assumptions/3). -/
opaque gcmTag : (key : Nat) → (iv : Nat) → (aad cipher : Bytes) → Bytes

/-- A keyed MAC or derivation of another standard, told apart by `use` (07_accord, 08_attar_key_store, 12_redundant_pair,
13_domain, 17_boot_and_identity; notes/assumptions/3). -/
opaque mac : (use key : Nat) → Bytes → Nat

/-- A key wrapped, sealed or encrypted under another (notes/assumptions/3). -/
opaque wrap : (use key : Nat) → Bytes → Bytes

/-- RFC 3394 key unwrap under a key: the unwrapped key, none where its integrity check fails (notes/assumptions/3). -/
opaque unwrap : (key : Nat) → Bytes → Option Nat

/-- Whether an ML-KEM-1024 encapsulation key passes the input check of FIPS 203 (07_accord R215; notes/assumptions/3). -/
opaque ekValid : Bytes → Bool

/-- Whether an interconnect address outside the BARs holds content that R521 locks against an access of the kind (write: true): the
addresses of those contents are not given (18_access_and_dma; notes/assumptions/14). -/
opaque lockedCell : (addr : Nat) → (write : Bool) → Bool

/-- Whether a signature of `alg` (0 RSA-3072, 1 SLH-DSA) over a text verifies under a key (17_boot_and_identity R496;
notes/assumptions/3). -/
opaque sigValid : (alg : Nat) → (key text sig : Bytes) → Bool

/-- SHA-384 (17_boot_and_identity; notes/assumptions/3). -/
opaque sha384 : Bytes → Nat

/-- The OTP's hash of a vendor key of `alg` in a slot (17_boot_and_identity R497; fused when the device is made). -/
opaque vendorHash : (alg slot : Nat) → Nat

/-- The leaf key of a certificate chain: whether it is the identity public key of a private key (17_boot_and_identity R513;
notes/assumptions/3). -/
opaque leafMatches : (alg priv : Nat) → (chain : Bytes) → Bool

end Sys2Proof.Config
end

