-- ==== Sys2Proof/Packet.lean ====
section
/-!
DEFINITION. The 64-byte command packet as an operand of a command (02_command_channel R42), and the field positions that the
layouts of the chapters give.
-/
namespace Sys2Proof

/-- A command of a host queue as CPU_CTL begins it: the function and queue pair that issued it, its sequence number (R52), its
64 bytes (byte `k` is bits `8k + 7 : 8k`), and the long payload that the DMA engine read at DATA_PTR (R43; empty for none). -/
structure Cmd where
  fn : Nat
  qp : Nat
  seq : Nat
  packet : BitVec 512
  payload : Bytes
  deriving DecidableEq, Repr

/-- A field of the packet: the byte its layout row starts at, its lowest bit within that row, its width. -/
structure Fld where
  byte : Nat
  lo : Nat
  width : Nat
  deriving DecidableEq, Repr

/-- The packet's bits as one number. -/
def Cmd.bits (c : Cmd) : Nat := c.packet.toNat

/-- The value of a field. -/
def Cmd.get (c : Cmd) (f : Fld) : Nat := bitsOf c.bits (8 * f.byte + f.lo) f.width

/-- A field of one bit as a truth value. -/
def Cmd.flag (c : Cmd) (byte bit : Nat) : Bool := bitOf c.bits (8 * byte + bit)

/-- The byte at an offset. -/
def Cmd.u8 (c : Cmd) (byte : Nat) : Nat := bitsOf c.bits (8 * byte) 8
/-- The 16-bit field at an offset. -/
def Cmd.u16 (c : Cmd) (byte : Nat) : Nat := bitsOf c.bits (8 * byte) 16
/-- The 32-bit field at an offset. -/
def Cmd.u32 (c : Cmd) (byte : Nat) : Nat := bitsOf c.bits (8 * byte) 32
/-- The 64-bit field at an offset. -/
def Cmd.u64 (c : Cmd) (byte : Nat) : Nat := bitsOf c.bits (8 * byte) 64

/-- R42: OPCODE. -/
def Cmd.opcode (c : Cmd) : Nat := c.u16 0
/-- R42: FENCE. -/
def Cmd.fence (c : Cmd) : Bool := c.flag 2 0
/-- R42: NO_INTR. -/
def Cmd.noIntr (c : Cmd) : Bool := c.flag 2 1
/-- R42: TAG. -/
def Cmd.tag (c : Cmd) : Nat := c.u32 4
/-- R42: DATA_PTR. -/
def Cmd.dataPtr (c : Cmd) : Nat := c.u64 56

/-- The byte that names a field in DETAIL: the byte that holds its lowest bit (R632). -/
def Fld.at (f : Fld) : Nat := f.byte + f.lo / 8

/-- The bits a field covers, as a mask over the packet. -/
def Fld.mask (f : Fld) : Nat := (2 ^ f.width - 1) * 2 ^ (8 * f.byte + f.lo)

/-- The bits every layout defines: the header of R42 but for its reserved bits, and DATA_PTR. -/
def headerMask : Nat :=
  (Fld.mask ⟨0, 0, 16⟩) ||| (Fld.mask ⟨2, 0, 2⟩) ||| (Fld.mask ⟨4, 0, 32⟩) ||| (Fld.mask ⟨56, 0, 64⟩)

/-- The mask of the bits that an opcode's layout defines. -/
def layoutMask (fs : List Fld) : Nat := fs.foldl (fun m f => m ||| f.mask) headerMask

/-- The byte offset of the lowest bit set in the lowest `n` bytes of a number, `none` where all are zero. -/
def lowestByte : Nat → Nat → Option Nat
  | 0, _ => none
  | n + 1, v => if v % 256 = 0 then (lowestByte n (v / 256)).map (· + 1) else some 0

/-- The byte of the lowest reserved bit that is set (R10, R632), given the layout's fields. -/
def Cmd.reservedAt (c : Cmd) (fs : List Fld) : Option Nat :=
  lowestByte 64 (c.bits - (c.bits &&& layoutMask fs))

/-- A line of a reservoir channel that no longer holds what was written (10_reservoir R317, R318, R325): its kind (0 a data line of
frame `index`; 1 the leaf, 2 the level-1 node, 3 the level-2 node numbered `index`; 4 an on-die root node whose copies all differ),
for a data line its number in the frame, the subchannel and rank, the bad symbols by device (0 to 7 D0 to D7, 8 E0, 9 E1), and
whether it decodes but fails its tag. -/
structure DramError where
  kind : Nat
  index : Nat
  line : Nat
  sub : Nat
  rank : Nat
  bad : List (Nat × Nat)
  tag : Bool
  deriving DecidableEq, Repr

/-- A soft error that a frame's head brings to light or leaves behind: the entry whose stored bits no longer match their parity
or check value. The tables are those of 01_architecture R28. -/
inductive Upset
  /-- an entry of a selector table 0 to 4 (04 R134) -/
  | selector (table index : Nat)
  /-- a filter or bitmap word of a prefix length (04 R137) -/
  | filter (family length : Nat)
  /-- an SC entry (05 R165) -/
  | sc (n : Nat)
  /-- an SA entry (05 R163) -/
  | sa (n : Nat)
  /-- an Attar slot, not found yet (08 R253) -/
  | slot (n : Nat)
  /-- a leaf, service node, port node or meter (11 R368) -/
  | leaf (n : Nat)
  | service (n : Nat)
  | portNode (n : Nat)
  | meter (n : Nat)
  /-- a multicast group or member (09 R301) -/
  | group (n : Nat)
  | member (n : Nat)
  /-- a line of a reservoir channel (10 R325) -/
  | dram (channel : Nat) (e : DramError)
  deriving DecidableEq, Repr

/-- What the board and the outside give a start (17_boot_and_identity R500, R512; 10_reservoir R308): the four channels, each its
outcome (0 no DIMM, 1 bring-up failed, 2 trained), capacity code and whether it has two ranks; the banks whose reads fail (0 A, 1 B);
whether the entropy unit's known-answer tests pass; how many identity block copies are bad; whether an OTP field has no majority. -/
structure Board where
  dimms : List (Nat × Nat × Bool) := []
  badBanks : List Nat := []
  kat : Bool := true
  idBad : Nat := 0
  otpBad : Bool := false
  deriving DecidableEq, Repr

end Sys2Proof
end

