-- ==== Sys2Proof/Syntax.lean ====
section
/-!
DEFINITION. The commands of the block: one constructor for each row of spec/opcode_table.json, in the table's order.
An operand is what the row takes from outside: a register value, a packet, a frame, a port, what a read of host memory returned.
-/
namespace Sys2Proof

/-- A command: a row of the opcode table. -/
inductive Instr
  /-- REGISTER_WRITE (R8): A write to any register that has no row of its own (including W1C status bits and RW control fields) updates the writable fields and ignores reserved bits. -/
  | registerWrite (fn : Nat) (bar2 : Bool) (off : Nat) (value : Word)
  /-- BAD_REGISTER_ACCESS (R7): A register access that is not a naturally aligned 32-bit access completes with read data 0 or a dropped write, and GEN_BAD_ACCESS is incremented. -/
  | badRegisterAccess (fn : Nat) (read : Bool)
  /-- COUNTER_LOW_READ (R142): A read of the low word of a 64-bit counter latches its high word for the next read. -/
  | counterLowRead (off : Nat)
  /-- PMC_SLOT_LOW_READ (R577): A read of a PMC slot's low word latches its high word, or all 96 bits of a chained pair, for the requester. -/
  | pmcSlotLowRead (fn : Nat) (bar2 : Bool) (off : Nat)
  /-- GEN_BAD_ACCESS_READ (R9): A read of GEN_BAD_ACCESS returns the count and clears it atomically. -/
  | genBadAccessRead (fn : Nat)
  /-- CMD_EQ_LOST_READ (R65): A read of CMD_EQ_LOST returns the number of discarded events and clears it. -/
  | cmdEqLostRead (fn : Nat)
  /-- SEL_PARITY_COUNT_READ (R134): A read of a SEL_PARITY_COUNT register returns the table's parity-failure count and clears it. -/
  | selParityCountRead (table : Nat)
  /-- SA_FLUSH_STATUS_READ (R174): A read of SA_FLUSH_STATUS returns and clears the SATURATED count of SAs that became STATS_INCOMPLETE. -/
  | saFlushStatusRead
  /-- GATE_VIOL_COUNT_READ (R523): A read of GATE_VIOL_COUNT returns the denials since the last read and clears the count. -/
  | gateViolCountRead
  /-- GATE_VIOL_INFO_CLEAR (R523): Writing 1 to GATE_VIOL_INFO.VALID clears the captured denial and arms the next capture. -/
  | gateViolInfoClear
  /-- TIM_SNAP_NS_READ (R436): A read of TIM_SNAP_NS latches TO for the reading function so the seconds registers return the latched seconds. -/
  | timSnapNsRead (fn : Nat)
  /-- CMD_QP_SQ_TAIL_WRITE (R45): A write of the SQ doorbell makes the slots before TAIL fetchable, or sets DB_ERR if out of range or the pair is disabled. -/
  | cmdQpSqTailWrite (fn : Nat) (qp : Nat) (value : Word)
  /-- CMD_QP_CQ_HEAD_WRITE (R53): A write of the CQ doorbell frees completion slots before HEAD, allowing further fetches from the SQ. -/
  | cmdQpCqHeadWrite (fn : Nat) (qp : Nat) (value : Word)
  /-- CMD_QP_ENABLE (R36): Writing ENABLE from 0 to 1 resets the pair's indices, sequence count and phase, or sets CFG_ERR for an invalid size or base. -/
  | cmdQpEnable (fn : Nat) (qp : Nat) (value : Word) (writable : Bool)
  /-- CMD_QP_DISABLE (R37): Writing ENABLE to 0 stops fetching at once; fetched commands still complete and unfetched ones are discarded. -/
  | cmdQpDisable (fn : Nat) (qp : Nat) (value : Word)
  /-- CMD_EQ_ENABLE (R65): Enabling the event queue starts event posting; the PF's first enable posts the held boot events. -/
  | cmdEqEnable (fn : Nat) (value : Word) (writable : Bool)
  /-- CMD_EQ_HEAD_WRITE (R65): A write of the EQ head frees event slots; if events were lost, one EVENTS_LOST is posted when space exists. -/
  | cmdEqHeadWrite (fn : Nat) (value : Word)
  /-- CQ_DELAY_EXPIRY (R40): The CQ_DELAY moderation timer expires and vector 0 is signalled for the unsignalled completions. -/
  | cqDelayExpiry (fn : Nat)
  /-- SEL_CMD_READ (R131): A SEL_CMD READ returns the entry at INDEX into SEL_DATA, or RESULT PARITY with zero data. -/
  | selCmdRead (value : Word) (upset : Bool)
  /-- SEL_CMD_WRITE (R131): A SEL_CMD WRITE writes a whole entry from SEL_DATA, keyed or indexed, inserting or evicting under the table's policy. -/
  | selCmdWrite (value : Word)
  /-- SEL_CMD_CLEAR (R131): A SEL_CMD CLEAR makes the entry at INDEX invalid. -/
  | selCmdClear (value : Word)
  /-- SEL_CMD_FIND (R131): A SEL_CMD FIND looks up a keyed table by the key in SEL_DATA and returns the entry and INDEX or NOT_FOUND. -/
  | selCmdFind (value : Word) (upset : Bool)
  /-- FAB_MC_READ (R300): A FAB_MC_CMD READ returns a group or member entry in FAB_MC_DATA, or PARITY. -/
  | fabMcRead (value : Word) (upset : Bool)
  /-- FAB_MC_WRITE (R300): A FAB_MC_CMD WRITE writes a group or member entry after range and IN_USE checks. -/
  | fabMcWrite (value : Word)
  /-- FAB_HR_ENABLE (R302): Enabling a host ring resets its TAIL, LIMIT and phase and binds its QUEUE, or sets CFG_ERR. -/
  | fabHrEnable (ring : Nat) (value : Word)
  /-- FAB_HR_DISABLE (R302): Disabling a host ring unbinds its queue at once; frames admitted toward it drop in FAB_HOST_RING_DROP. -/
  | fabHrDisable (ring : Nat) (value : Word)
  /-- FAB_HR_LIMIT_WRITE (R295): Software writes LIMIT to mark descriptors ready for the device to fill. -/
  | fabHrLimitWrite (ring : Nat) (value : Word)
  /-- BOOT_RECOVERY_GO (R501): Writing GO in recovery makes the ROM check the image in the window and run it if valid. -/
  | bootRecoveryGo (value : Word)
  /-- I2C_POINTER_WRITE (R623): An I2C write sets the management target's register pointer. -/
  | i2cPointerWrite (data : Bytes)
  /-- I2C_READ (R623): An I2C read returns bytes from the pointer onward, latching each 32-bit register whole. -/
  | i2cRead (count : Nat)
  /-- COMMAND_FETCH (R46): Once a CQ slot is reserved, the device reads one command from an SQ and advances SQ_HEAD. -/
  | commandFetch (fn : Nat) (qp : Nat) (packet : BitVec 512) (ok : Bool)
  /-- COMMAND_BEGIN (R47): CPU_CTL chooses the next command by function and SQ round-robin, checks it in R61 order, and executes it or completes it with an error. -/
  | commandBegin (writable : Bool)
  /-- CLASS_TIMEOUT (R55): A command's class time ends while it runs and it completes with TIMEOUT, or ABORTED if waiting on a DMA fault. -/
  | classTimeout (index : Nat)
  /-- FUNCTION_RESET (R59): A PCIe function-level or VF reset removes the function's queues, stops its commands at DMA boundaries and clears its translation. -/
  | functionReset (fn : Nat)
  /-- EVENT_HOLD_EXPIRY (R636): The 10 ms coalescing hold of an event key ends and one entry is posted for the gathered occurrences, or the key is freed. -/
  | eventHoldExpiry (code : Nat) (scope : Nat)
  /-- DEV_INFO (R68): Returns firmware version, function, lifecycle, bank and enabled queue pairs. -/
  | devInfo (c : Cmd)
  /-- DEV_RESET (R598): Schedules a full or firmware reset DELAY_MS after its completion. -/
  | devReset (c : Cmd)
  /-- DEV_EVENTS_MASK (R69): Sets the issuing function's event mask and returns the previous one. -/
  | devEventsMask (c : Cmd)
  /-- DEV_CONFIG_SAVE (R272): Writes a new Flacon generation with a replaced configuration section. -/
  | devConfigSave (c : Cmd)
  /-- DEV_TENANT_SET (R70): Enables a VF as a tenant and reserves its SC, SA and key quotas. -/
  | devTenantSet (c : Cmd)
  /-- PORT_CONFIG (R83): Sets the mode of one octet and the FEC, training, AN and admin settings of its ports. -/
  | portConfig (c : Cmd)
  /-- PORT_STATUS (R103): Reports one port's link state and optionally writes its counter block. -/
  | portStatus (c : Cmd)
  /-- LANE_TUNE (R95): Reads and optionally sets equalisation, polarity and PRBS settings of one lane. -/
  | laneTune (c : Cmd)
  /-- PORT_MAP (R99): Ties or unties ports for the express path, or sets or clears buffered mode. -/
  | portMap (c : Cmd)
  /-- SEL_BULK_LOAD (R138): Writes a run of selector entries from host memory, stopping at the first it cannot write. -/
  | selBulkLoad (c : Cmd)
  /-- SEL_SHADOW_COMPARE (R140): Compares software's shadow of a table with the live table and writes mismatch records. -/
  | selShadowCompare (c : Cmd)
  /-- SEL_LPM_MODE (R117): Sets the selector mode and routing space of one client port. -/
  | selLpmMode (c : Cmd)
  /-- SC_CREATE (R177): Creates one SC for the issuing function and returns its number. -/
  | scCreate (c : Cmd)
  /-- SC_DELETE (R178): Deletes one SC and retires its SAs immediately, completing after the drain. -/
  | scDelete (c : Cmd)
  /-- SA_INSTALL (R179): Writes one SA into a free slot of an SC, with its key in clear or wrapped. -/
  | saInstall (c : Cmd)
  /-- SA_RETIRE (R180): Retires the SA in one slot at once, or starts its overlap window. -/
  | saRetire (c : Cmd)
  /-- SA_STATUS (R181): Reports one slot's SA state, encoding flag, PN state and counters. -/
  | saStatus (c : Cmd)
  /-- SA_ROLL (R196): Arms, disarms or performs the switch of a transmit SC to NEXT_AN. -/
  | saRoll (c : Cmd)
  /-- SC_TENANT_ASSIGN (R182): Moves an SC and its SAs to another function. -/
  | scTenantAssign (c : Cmd)
  /-- KEY_WRITE (R257): Writes one level-2 Attar slot, in clear or unwrapped under its parent. -/
  | keyWrite (c : Cmd)
  /-- KEY_INVALIDATE (R260): Destroys one slot or the session root by raising its generation. -/
  | keyInvalidate (c : Cmd)
  /-- KEY_STATUS (R273): Reports one slot's state, type, usage, tenant and generations. -/
  | keyStatus (c : Cmd)
  /-- FLACON_COMMIT (R268): Writes a new Flacon generation of the PERSIST slots and raises the floor. -/
  | flaconCommit (c : Cmd)
  /-- FLACON_LOAD (R271): Verifies both Flacon copies and optionally repairs slots in INTEGRITY. -/
  | flaconLoad (c : Cmd)
  /-- ACC_COMMUNITY_SET (R204): Creates, changes or deletes one Accord community. -/
  | accCommunitySet (c : Cmd)
  /-- ACC_PEER_LIST (R240): Copies peer records or a bitmap page into host memory. -/
  | accPeerList (c : Cmd)
  /-- ACC_PEER_DROP (R241): Tears one peer down, optionally sending FAREWELL and suppressing it. -/
  | accPeerDrop (c : Cmd)
  /-- ACC_POLICY (R212): Sets the device-wide Accord parameters and returns the previous values. -/
  | accPolicy (c : Cmd)
  /-- FAB_BUFFER_PARTITION (R298): Sets the buffer class quotas and the express queue limit. -/
  | fabBufferPartition (c : Cmd)
  /-- FAB_AUDIT (R299): Runs a free-list audit at once, optionally with a sweep. -/
  | fabAudit (c : Cmd)
  /-- RSV_CONFIG (R332): Sets spill enable, channel drain mask, device-fail threshold and page fill time. -/
  | rsvConfig (c : Cmd)
  /-- RSV_STATUS (R333): Reports reservoir status and per-channel records. -/
  | rsvStatus (c : Cmd)
  /-- RSV_SCRUB (R334): Runs the patrol scrub at once over a range of frames. -/
  | rsvScrub (c : Cmd)
  /-- SCH_NODE_SET (R358): Sets, queries or deletes a service node or port node. -/
  | schNodeSet (c : Cmd)
  /-- SCH_QUEUE_SET (R360): Sets, queries or deletes one leaf queue. -/
  | schQueueSet (c : Cmd)
  /-- MTR_SET (R362): Sets, queries or deletes one meter. -/
  | mtrSet (c : Cmd)
  /-- PAIR_CONFIG (R394): Forms or clears a redundant pair, or sets or clears a line merge. -/
  | pairConfig (c : Cmd)
  /-- PAIR_STATUS (R396): Reports pair state, claims, lag and merge records. -/
  | pairStatus (c : Cmd)
  /-- PAIR_EXERCISE (R397): Hands the active role over at a chosen slot, optionally returning it after DWELL. -/
  | pairExercise (c : Cmd)
  /-- PAIR_RESYNC (R398): Starts resynchronisation of the pair from the issuing device's state. -/
  | pairResync (c : Cmd)
  /-- DOM_CONFIG (R420): Sets the device's domain role, link rate, time discipline and distributed key range. -/
  | domConfig (c : Cmd)
  /-- DOM_GLOBAL (R422): Starts a global operation across the domain tree. -/
  | domGlobal (c : Cmd)
  /-- DOM_MEMBERS (R424): Reports domain membership and per-member records. -/
  | domMembers (c : Cmd)
  /-- TIM_STEP (R447): Steps a tracked time domain once, now or at the next PPS edge, or time-resets it. -/
  | timStep (c : Cmd)
  /-- TIM_RATE (R448): Sets a tracked domain's rate adjustment and refresh timeout. -/
  | timRate (c : Cmd)
  /-- TIM_SELECT (R449): Selects the domain TO follows, with failover and slew rate. -/
  | timSelect (c : Cmd)
  /-- TIM_SCHEDULE (R443): Sets or cancels a ROLL, EVENT or pin action at a TO instant. -/
  | timSchedule (c : Cmd)
  /-- ENT_READ (R462): Writes random bytes from the DRBG to host memory. -/
  | entRead (c : Cmd)
  /-- ENT_STATUS (R463): Reports the entropy unit's state. -/
  | entStatus (c : Cmd)
  /-- ENT_TEST_PATTERN (R464): Enables or disables a factory entropy test mode. -/
  | entTestPattern (c : Cmd)
  /-- TMP_CONFIG (R485): Sets one tamper source's rank, enable, mode and debounce, fuses it off, or sets FAREWELL. -/
  | tmpConfig (c : Cmd)
  /-- TMP_EVIDENCE (R486): Reports the Sillage record, optionally clearing it in FACTORY. -/
  | tmpEvidence (c : Cmd)
  /-- TMP_ACK (R487): Clears PENDING of named sources whose condition is absent, releasing the lock when none of rank 2 or more remains. -/
  | tmpAck (c : Cmd)
  /-- LC_ADVANCE (R509): Advances the lifecycle state in OTP, with the work each target requires. -/
  | lcAdvance (c : Cmd)
  /-- TMP_SELFTEST (R488): Applies a built-in stimulus to each named source and reports pass or fail. -/
  | tmpSelftest (c : Cmd)
  /-- PIN_ASSIGN (R489): Assigns a function to a GPIO or releases it. -/
  | pinAssign (c : Cmd)
  /-- FW_STAGE (R504): Begins, writes, finishes or aborts staging of a firmware image into the idle bank. -/
  | fwStage (c : Cmd)
  /-- FW_ACTIVATE (R506): Changes the bank control record or commits the SVN floor, optionally restarting the cores. -/
  | fwActivate (c : Cmd)
  /-- ATTEST (R514): Writes a report of the device's state signed with both identity keys. -/
  | attest (c : Cmd)
  /-- ID_CERTS (R513): Reads or writes one identity certificate chain. -/
  | idCerts (c : Cmd)
  /-- GATE_LOAD (R543): Loads 64 rules into the inactive gate set. -/
  | gateLoad (c : Cmd)
  /-- GATE_SWAP (R529): Makes the loaded inactive set active, raises GATE_EPOCH and waits for old accesses to drain. -/
  | gateSwap (c : Cmd)
  /-- GATE_EDIT (R545): Rewrites one rule of the active or inactive set. -/
  | gateEdit (c : Cmd)
  /-- GATE_BARRIER (R546): Completes when every access that entered before it has completed. -/
  | gateBarrier (c : Cmd)
  /-- DMA_XLT_SET (R547): Sets the function's translation root, invalidates cached translations, or disables translation. -/
  | dmaXltSet (c : Cmd)
  /-- DMA_RESUME (R537): Resumes a transfer stopped by a named DMA fault from the faulting page. -/
  | dmaResume (c : Cmd)
  /-- PMC_CONFIG (R582): Sets, queries or grants PMCs, sets the bandwidth window, or takes a snapshot. -/
  | pmcConfig (c : Cmd)
  /-- STATS_READ (R580): Writes SA, SC, block, snapshot or PMC counter records to host memory. -/
  | statsRead (c : Cmd)
  /-- WD_CONFIG (R567): Sets or queries the configurable watchdog parameters. -/
  | wdConfig (c : Cmd)
  /-- DIAG_LOOPBACK (R583): Sets or clears a PCS, serial or far loopback on a port or auxiliary lane. -/
  | diagLoopback (c : Cmd)
  /-- PORT_SIGNAL_LOSS (R89): Loss of signal or lock on a lane takes an up port down, or restarts bring-up of a port coming up. -/
  | portSignalLoss (port : Nat) (lock : Bool)
  /-- PORT_LOCAL_FAULT_DETECT (R89): Local fault received continuously for 100 µs takes the link down. -/
  | portLocalFaultDetect (port : Nat)
  /-- PORT_REMOTE_FAULT_DETECT (R89): Remote fault received for 100 µs posts REMOTE_FAULT and the port sends idle instead of frames. -/
  | portRemoteFaultDetect (port : Nat)
  /-- PORT_REMOTE_FAULT_CLEAR (R89): The received remote fault clears and the port resumes sending frames. -/
  | portRemoteFaultClear (port : Nat)
  /-- PORT_AN_COMPLETE (R88): The Clause 73 exchange completes and bring-up proceeds to training. -/
  | portAnComplete (port : Nat)
  /-- PORT_TRAINING_COMPLETE (R88): Link training completes and bring-up proceeds to lock. -/
  | portTrainingComplete (port : Nat)
  /-- PORT_LOCK_ACHIEVED (R88): CDR, block or alignment-marker lock and FEC lock are reached with no local fault. -/
  | portLockAchieved (port : Nat)
  /-- PORT_LINK_UP_TIMER (R88): 10 ms after lock the link is declared up and LINK_UP is posted. -/
  | portLinkUpTimer (port : Nat)
  /-- TRAINING_TIMEOUT (R88): AN or training exceeds its limit; TRAINING_FAILED is posted and a retry is scheduled after 1 s. -/
  | trainingTimeout (port : Nat) (lane : Nat)
  /-- TRAINING_RETRY (R88): One second after a training failure bring-up restarts from step 1. -/
  | trainingRetry (port : Nat)
  /-- FEC_WINDOW_END (R105): A 1-second FEC window ends and FEC_DEGRADED is set or cleared, posting FEC_DEGRADED_CHANGE on a change. -/
  | fecWindowEnd (port : Nat) (corrected : Nat) (uncorrectable : Nat) (blocks : Nat) (symbols : Nat) (laneErrors : List Nat)
  /-- FAULT_PROPAGATE_HOLDOFF (R94): A tied port has been down for PROPAGATE_HOLDOFF and its partner starts sending local fault. -/
  | faultPropagateHoldoff (port : Nat)
  /-- CLIENT_FRAME_HEAD (R22): A client frame's head is parsed and selected, metered and admitted to the fabric and queue, or dropped in one counter. -/
  | clientFrameHead (port : Nat) (head : Bytes) (whole : Bool) (backlog : Nat) (upsets : List Upset)
  /-- CLIENT_FRAME_TAIL (R169): A client frame's tail gives the FCS verdict, charging meters and stomping or dropping a bad frame. -/
  | clientFrameTail (port : Nat) (rest : Bytes) (fcs : Bool)
  /-- LINE_FRAME_HEAD (R634): A line frame's head is parsed, its receive SC found, learned, its SA checked and replay-checked, then decrypted toward the fabric or dropped. -/
  | lineFrameHead (port : Nat) (head : Bytes) (whole : Bool) (upsets : List Upset)
  /-- LINE_FRAME_TAIL (R168): A line frame's tail gives the ICV and FCS verdicts, updating the SA or stomping or dropping the frame. -/
  | lineFrameTail (port : Nat) (rest : Bytes) (fcs : Bool)
  /-- FABRIC_MATCH (R279): Each cell time each plane computes a matching of ingress pipes to outputs and transfers cells. -/
  | fabricMatch (plane : Nat)
  /-- CELL_ARRIVAL (R281): A cell reaches its output, is CRC-checked, stored and resequenced into the frame assembler. -/
  | cellArrival (input : Nat) (output : Nat) (plane : Nat) (ok : Bool)
  /-- RESEQ_TIMEOUT (R282): A resequencing gap lasts 4 µs; the frames with bytes in it are dropped or stomped and FAB_CELL_LOST posted. -/
  | reseqTimeout (input : Nat) (output : Nat)
  /-- EXPRESS_FRAME_ASSEMBLED (R288): An express frame's head is assembled at its egress and goes cut-through or joins the express queue. -/
  | expressFrameAssembled (frame : Nat)
  /-- LE_FRAME_HEAD (R634): A line egress frame head checks port state and SC, applies any rollover switch, fetches the SA and assigns a PN. -/
  | leFrameHead (port : Nat) (upsets : List Upset) (descParity : Bool)
  /-- CE_FRAME_HEAD (R288): A client egress pipe begins framing a frame with a new FCS, unless squelched or the port is down. -/
  | ceFrameHead (port : Nat) (descParity : Bool)
  /-- EXPRESS_UNDERRUN (R289): A word of an express frame is missing when the port needs it; the frame is stomped. -/
  | expressUnderrun (port : Nat)
  /-- MP_FRAME_HEAD (R291): The multicast port reads the group and makes one admitted or refused copy per member. -/
  | mpFrameHead (frame : Nat) (upsets : List Upset)
  /-- SCHEDULER_RELEASE (R338): When a port's egress holds under 512 bytes the scheduler chooses a leaf and releases its first frame. -/
  | schedulerRelease (node : Nat) (upsets : List Upset) (descParity : Bool)
  /-- FINE_SLOT (R344): A fine wheel slot is processed and its nodes are made eligible, up to 8 per cycle. -/
  | fineSlot (inst : Nat) (slot : Nat)
  /-- COARSE_BOUNDARY (R344): At a coarse slot boundary its nodes are refiled on the fine wheel or parked again. -/
  | coarseBoundary (inst : Nat) (slot : Nat)
  /-- HOST_FRAME_DELIVER (R296): A stored host-bound frame is written to the next ready descriptor of its ring, or dropped. -/
  | hostFrameDeliver (ring : Nat) (buf : Nat) (ok : Bool)
  /-- FAB_HOST_FRAMES_WINDOW (R296): The 1 ms host-ring event window ends and FAB_HOST_FRAMES is posted. -/
  | fabHostFramesWindow (ring : Nat)
  /-- FAB_AUDIT_PERIOD (R297): Each audit period the free and held cell counts are latched and compared, starting a sweep on a mismatch. -/
  | fabAuditPeriod
  /-- FAB_SWEEP_END (R297): A sweep ends and unmarked cells return to the free list, posting FAB_LEAKED_CELLS_FOUND. -/
  | fabSweepEnd
  /-- MEMBER_IN_USE_CLEAR (R293): 1 µs after the last covering group changes, a member entry's IN_USE is cleared. -/
  | memberInUseClear (member : Nat)
  /-- MC_SCRUB (R301): CPU_HK scrubs the multicast tables every 10 s for parity failures. -/
  | mcScrub (found : List (Bool × Nat))
  /-- MC_PARITY_RESTORE (R301): CPU_HK rewrites a parity-failed group or member entry from its copy and posts FAB_MC_PARITY. -/
  | mcParityRestore (member : Bool) (index : Nat) (copy : Bool)
  /-- SPILL_PAGE_WRITE (R312): A page of 4,096 gathered bytes of a queue is written to the reservoir. -/
  | spillPageWrite (leaf : Nat) (misses : Nat) (upsets : List Upset)
  /-- PAGE_FILL_TIMEOUT (R312): PAGE_FILL_US after its first byte, a partial page is written padded. -/
  | pageFillTimeout (leaf : Nat) (misses : Nat) (upsets : List Upset)
  /-- PAGE_WRITE_COMPLETE (R314): A spill page write completes in the reservoir. -/
  | pageWriteComplete (leaf : Nat) (pageSeq : Nat)
  /-- PAGE_READ_COMPLETE (R314): A requested page arrives in STAGING, is verified and joins its leaf's on-die part. -/
  | pageReadComplete (leaf : Nat) (misses : Nat) (upsets : List Upset)
  /-- RSV_LAP_REST_END (R323): A channel paused by the 10 ms lap rule resumes taking pages. -/
  | rsvLapRestEnd (channel : Nat)
  /-- RSV_KEY_DRAWN (R308): When the entropy unit first delivers, the reservoir key is drawn and the metadata initialised. -/
  | rsvKeyDrawn
  /-- RSV_RETRAIN_ATTEMPT_END (R329): A channel retrain attempt ends in success or failure; three failures lose the channel. -/
  | rsvRetrainAttemptEnd (channel : Nat) (ok : Bool)
  /-- RSV_PATROL (R331): CPU_HK patrols every online channel once per scrub period. -/
  | rsvPatrol (upsets : List Upset)
  /-- AGE_TICK (R127): Each AGE_TICK every valid learning entry ages by one and entries reaching AGE_LIMIT are removed. -/
  | ageTick (pipe : Nat)
  /-- SELECTOR_SCRUB (R134): CPU_HK scrubs every selector table once every 10 s for parity failures. -/
  | selectorScrub (found : List (Nat × Nat × Nat))
  /-- LINE_ENTRY_REWRITE (R135): CPU_ACC rewrites a parity-failed Accord line direct entry from its peer table within 1 ms. -/
  | lineEntryRewrite (peer : Nat)
  /-- BLOOM_REBUILD (R123): After 1,024 clears on a length, the rebuilt Bloom filter is swapped in whole. -/
  | bloomRebuild (family : Nat) (length : Nat)
  /-- FILTER_PARITY_REBUILD (R137): A Bloom or bitmap word that failed parity is rebuilt from the pool within 10 ms. -/
  | filterParityRebuild (family : Nat) (length : Nat)
  /-- SC_PARITY_RESTORE (R165): CPU_HK rewrites a parity-failed SC entry from its reservoir copy within 1 ms. -/
  | scParityRestore (sc : Nat)
  /-- SCH_PARITY_RESTORE (R368): CPU_HK restores a held node, leaf or meter from its copy and posts SCH_RESTORED. -/
  | schParityRestore (kind : Nat) (index : Nat) (copy : Bool)
  /-- SA_FLUSH (R173): CPU_HK flushes an SA's deltas into the merge buffer on half-full, period or retirement. -/
  | saFlush (sa : Nat)
  /-- STATS_SWEEP (R323): CPU_HK writes pending statistics merges into the reservoir statistics region in address order. -/
  | statsSweep (upsets : List Upset)
  /-- RETIREMENT_DEADLINE (R189): An overlap deadline passes; the slot is made invalid and SA_RETIRED posted. -/
  | retirementDeadline (sa : Nat)
  /-- SA_DRAIN_COMPLETE (R171): Every frame that fetched a retired SA has passed its tail and the entry is freed. -/
  | saDrainComplete (sa : Nat)
  /-- ROLL_FIRE (R193): TO reaches a scheduled ROLL instant and the SC's fire flag is latched, or SA_ROLL_SKIPPED posted. -/
  | rollFire (sc : Nat)
  /-- HELLO_INTERVAL (R221): Every HELLO_MS the engine sends HELLO for each enabled community on each up port. -/
  | helloInterval
  /-- ACC_FRAME_RX (R211): A line pipe passes an Accord or CLAIM frame to the engine queue, reassembling fragments. -/
  | accFrameRx (port : Nat)
  /-- ACC_FRAG_TIMEOUT (R211): A held first fragment sees no second within 10 ms and is dropped. -/
  | accFragTimeout (port : Nat)
  /-- ACC_HELLO_RX (R222): A verified HELLO creates or refreshes a peer, handles a new epoch, or answers a SOLICIT. -/
  | accHelloRx (port : Nat)
  /-- ACC_OFFER_RX (R226): A verified OFFER is refused or answered with ACCEPT after writing the receive and standby transmit SAs. -/
  | accOfferRx (port : Nat)
  /-- ACC_ACCEPT_RX (R226): A verified ACCEPT ends the exchange with backoff or leads to SA writes and CONFIRM. -/
  | accAcceptRx (port : Nat)
  /-- ACC_CONFIRM_RX (R226): A verified CONFIRM leads to the final CONFIRM and the switch, or completes the initiator's exchange. -/
  | accConfirmRx (port : Nat)
  /-- ACC_ROLL_RX (R230): A ROLL arms the transmit SC and schedules the switch, answering with an acknowledgement. -/
  | accRollRx (port : Nat)
  /-- ACC_FAREWELL_RX (R224): A valid FAREWELL tears the peer down. -/
  | accFarewellRx (port : Nat)
  /-- DISCOVERY_RECORD (R223): An accepted discovery record triggers a solicited HELLO to the source MAC. -/
  | discoveryRecord
  /-- PEER_MISS_CHECK (R224): Every 10 ms CPU_ACC compares last-seen times with T_miss, freeing DISCOVERED peers or making ACTIVE ones LOST. -/
  | peerMissCheck
  /-- PEER_HOLD_EXPIRY (R224): A LOST peer's HOLD expires and it is torn down with PORT_PEERS_DOWN. -/
  | peerHoldExpiry (peer : Nat)
  /-- PEER_SUPPRESS_END (R224): A SUPPRESSED peer's suppression ends and its entry is deleted. -/
  | peerSuppressEnd (peer : Nat)
  /-- DISCOVERED_WAIT_EXPIRY (R224): A peer with lower own DEVICE_ID stays DISCOVERED 1 s without an OFFER and the device opens an exchange. -/
  | discoveredWaitExpiry (peer : Nat)
  /-- OFFER_RETRANSMIT (R226): No ACCEPT at 200, 400 or 800 ms and the OFFER is resent. -/
  | offerRetransmit (peer : Nat)
  /-- OFFER_GIVE_UP (R226): No ACCEPT 1.6 s after the first OFFER and the exchange ends with reason 8. -/
  | offerGiveUp (peer : Nat)
  /-- CONFIRM_RETRANSMIT (R226): No final CONFIRM at 200, 400 or 800 ms and the CONFIRM is resent. -/
  | confirmRetransmit (peer : Nat)
  /-- CONFIRM_GIVE_UP (R226): No final CONFIRM 1.6 s after the first CONFIRM; the exchange ends and the transmit SA is retired. -/
  | confirmGiveUp (peer : Nat)
  /-- ACCEPT_TIMEOUT (R226): The responder has no CONFIRM 2 s after ACCEPT and retires the exchange's SAs. -/
  | acceptTimeout (peer : Nat)
  /-- EXCHANGE_BACKOFF_EXPIRY (R228): A refusal or timeout backoff ends and the initiator opens a new exchange. -/
  | exchangeBackoffExpiry (peer : Nat)
  /-- REKEY_INTERVAL_EXPIRY (R232): REKEY_INTERVAL since the last agreement expires and CPU_ACC opens a rekey. -/
  | rekeyIntervalExpiry (peer : Nat)
  /-- ROLL_RESEND (R230): No ROLL acknowledgement within 50 ms and the initiator resends ROLL, arming anyway after the third. -/
  | rollResend (peer : Nat)
  /-- ROLL_WAIT_EXPIRY (R230): A responder with no ROLL 1 s after its final CONFIRM switches at once. -/
  | rollWaitExpiry (peer : Nat)
  /-- SUPERSEDED_RETIRE (R232): CPU_ACC retires a superseded Accord transmit SA within 100 ms of SA_SWITCHED. -/
  | supersededRetire (sa : Nat)
  /-- COMMUNITY_TEARDOWN (R207): After a community DELETE every peer receives FAREWELL and is torn down within 1 s. -/
  | communityTeardown (community : Nat)
  /-- RESPONDER_ENTROPY_TIMEOUT (R236): A responder cannot draw its values within 10 ms and refuses with RESULT 5. -/
  | responderEntropyTimeout (peer : Nat)
  /-- ATT_SCRUB_PERIOD (R253): Each scrub period every Attar slot's check value is verified, failures entering INTEGRITY. -/
  | attScrubPeriod (upsets : List Nat)
  /-- ATT_AUTO_REPAIR (R254): CPU_HK restores a committed slot in INTEGRITY from the active Flacon copy within 200 ms. -/
  | attAutoRepair (slot : Nat)
  /-- FLACON_ERASE_DONE (R267): The background erase of the older Flacon copy finishes. -/
  | flaconEraseDone
  /-- PAIR_SLOT_END (R373): At the end of each 64 ns slot the active sends ORDER with the slot's heads, verdicts, releases and exceptions. -/
  | pairSlotEnd
  /-- PAIR_ORDER_RX (R373): The standby receives ORDER and decides the slot's held heads, releases and exceptions as given. -/
  | pairOrderRx (data : Bytes) (crc : Bool)
  /-- PAIR_MIRROR_RX (R381): A MIRROR message is authenticated and its items applied at their APPLY_SLOT. -/
  | pairMirrorRx (data : Bytes) (crc : Bool)
  /-- PAIR_STATUS_RX (R380): A STATUS message updates partner state, triggers resend on NACK, or takeover on FAULT. -/
  | pairStatusRx (data : Bytes) (crc : Bool)
  /-- PAIR_STATUS_INTERVAL (R380): Every 1 µs each device sends STATUS. -/
  | pairStatusInterval
  /-- PAIR_ALIVE_TOGGLE (R370): Every 1 µs the device toggles PAIR_ALIVE_OUT while its data path runs. -/
  | pairAliveToggle (partner : Bool)
  /-- PAIR_SILENCE_TIMEOUT (R388): The pair link or ALIVE pin is silent for 10 µs and the standby takes over, goes ISOLATED, or reports a pin fault. -/
  | pairSilenceTimeout (pin : Bool)
  /-- PAIR_CUT_IN (R391): At cut-in slot S both devices set NEXT_PN leads and the syncing device matches heads and becomes STANDBY. -/
  | pairCutIn
  /-- PAIR_RESYNC_RETRY (R371): One second after a failed resynchronisation it is tried again. -/
  | pairResyncRetry
  /-- PAIR_HANDOVER_SLOT (R393): At the handover slot the roles of active and standby exchange. -/
  | pairHandoverSlot
  /-- PAIR_DWELL_EXPIRY (R393): After DWELL of a round-trip exercise the role is handed back. -/
  | pairDwellExpiry
  /-- CLAIM_INTERVAL (R385): Every 10 ms each pair device sends CLAIM on every up, ungated line port. -/
  | claimInterval
  /-- ACC_CLAIM_RX (R387): A verified CLAIM on a merged port is recorded and the claimed port updated. -/
  | accClaimRx (port : Nat)
  /-- MERGE_CLAIM_UPDATE (R387): Every 1 ms the merge re-evaluates live claims and may switch the claimed port. -/
  | mergeClaimUpdate
  /-- MERGE_HOLD_END (R387): A held frame of the unclaimed port reaches head arrival plus MERGE_SKEW and is accepted or discarded. -/
  | mergeHoldEnd (frame : Nat)
  /-- DOM_KEEPALIVE_INTERVAL (R407): Every 1 µs each end of a domain link sends KEEPALIVE. -/
  | domKeepaliveInterval
  /-- DOM_KEEPALIVE_RX (R406): A KEEPALIVE establishes or renews a session, carries acknowledgement and delay measurement. -/
  | domKeepaliveRx (link : Nat) (data : Bytes) (crc : Bool)
  /-- DOM_JOIN_RX (R409): A JOIN is numbered and forwarded up, refused, or answered with WELCOME by the manager. -/
  | domJoinRx (link : Nat) (data : Bytes) (crc : Bool)
  /-- DOM_WELCOME_RX (R409): A worker receiving WELCOME RESULT 0 takes its number and DOMAIN_GEN and derives k_dom. -/
  | domWelcomeRx (link : Nat) (data : Bytes) (crc : Bool)
  /-- DOM_JOIN_RETRY (R409): A refused worker retries JOIN every 1 s. -/
  | domJoinRetry
  /-- DOM_KEYS_RX (R412): A KEYS message writes, compares or deletes a distributed key slot. -/
  | domKeysRx (link : Nat) (data : Bytes) (crc : Bool)
  /-- DOM_TIME_INTERVAL (R413): Every 1 ms the manager sends TIME from its TO. -/
  | domTimeInterval
  /-- DOM_TIME_RX (R413): A worker disciplines its selected time domain from TIME and forwards it corrected. -/
  | domTimeRx (link : Nat) (data : Bytes) (crc : Bool)
  /-- DOM_GLOBAL_RX (R416): A member acts on a GLOBAL operation and forwards it to its children. -/
  | domGlobalRx (link : Nat) (data : Bytes) (crc : Bool)
  /-- DOM_GLOBAL_ACK_RX (R417): A member combines GLOBAL_ACKs of its subtree and sends them up. -/
  | domGlobalAckRx (link : Nat) (data : Bytes) (crc : Bool)
  /-- DOM_ACK_TIMEOUT (R417): A child's acknowledgement is missing 10 µs after the member's own part; it is marked FAILED. -/
  | domAckTimeout (opid : Nat)
  /-- DOM_REPORT_RX (R419): The manager records a member's REPORT and gathers it for merging. -/
  | domReportRx (link : Nat) (data : Bytes) (crc : Bool)
  /-- DOM_REPORT_MERGE (R419): 10 ms after the first report the manager posts one DOM_WORKER_EVENT per CODE and OBJECT. -/
  | domReportMerge (code : Nat) (object : Nat)
  /-- DOM_LINK_LOSS (R410): A domain link silent for 10 ms is lost; members below leave the domain and keep their keys. -/
  | domLinkLoss (link : Nat)
  /-- DOM_SCHEDULED_INSTANT (R414): At a SCHEDULE_ROLL or GATE_EPOCH instant each member switches or swaps its gate set. -/
  | domScheduledInstant (op : Nat) (id : Nat)
  /-- DOM_LATCH_INSTANT (R416): At the SNAPSHOT or RESET latch instant every member latches counters or resets. -/
  | domLatchInstant (board : Board)
  /-- TIME_DOMAIN_HOLD_EXPIRY (R429): A LOCKED domain receives no TIM_RATE within HOLD and becomes LOST. -/
  | timeDomainHoldExpiry (domain : Nat)
  /-- TO_SLEW_CONVERGED (R433): A slewing TO comes within 1.6 ns of its domain and enters TRACKING. -/
  | toSlewConverged
  /-- PPS_IN_EDGE (R442): An accepted PPS input edge captures TO, TA and TB and applies a pending AT_PPS step. -/
  | ppsInEdge (gpio : Nat)
  /-- PPS_MISSING (R442): 1.5 s pass after an accepted edge with no further edge and TIM_PPS_MISSING is posted. -/
  | ppsMissing
  /-- PPS_OUT_SECOND (R441): At each TO second boundary the PPS output rises for WIDTH_US. -/
  | ppsOutSecond
  /-- TIMER_FIRE (R444): A timer's instant arrives and it posts TIM_SCHEDULED or drives its pin. -/
  | timerFire (timer : Nat)
  /-- ENT_WINDOW_END (R453): A source's adaptive-proportion window ends; passing bits are released to the conditioner. -/
  | entWindowEnd (windows : List (Nat × Nat × Nat))
  /-- ENT_HEALTH_FAIL (R452): A repetition-count or adaptive-proportion test fails; output stops and the unit enters RETEST. -/
  | entHealthFail (source : Nat) (rct : Bool)
  /-- ENT_RETEST_TIMEOUT (R456): 10 ms in RETEST without two healthy sources; waiting requests fail and the unit is FAILED. -/
  | entRetestTimeout
  /-- ENT_FAILED_RETEST (R456): Once a second a FAILED unit retests its sources and may return to READY. -/
  | entFailedRetest (passed : List Nat)
  /-- ENT_SOURCE_RETEST (R457): Every 10 s an excluded source is retested and readmitted after two passes. -/
  | entSourceRetest (source : Nat) (passed : Bool)
  /-- ENT_REQUEST_SERVE (R460): When output is available the generator serves waiting requests in priority order. -/
  | entRequestServe
  /-- TAMPER_ONSET (R473): A tamper source alarms and the response of its rank is applied in hardware. -/
  | tamperOnset (sources : List Nat)
  /-- TAMPER_PIN_ON_CELL (R478): On the cell alone a pin alarm zeroises the keeper key and is recorded for the next start. -/
  | tamperPinOnCell (sources : List Nat)
  /-- TAMPER_CONDITION_END (R468): A source's condition has been absent long enough to clear ACTIVE and rearm it. -/
  | tamperConditionEnd (source : Nat)
  /-- FAREWELL_WINDOW_END (R472): 1 ms after a squelch onset the FAREWELL window ends and line transmitters are squelched. -/
  | farewellWindowEnd
  /-- POWER_ON_RESET (R500): PORST_N or a brown-out resets the device, which boots from ROM through firmware to CMD_READY. -/
  | powerOnReset (cause : Nat) (removed : Bool) (off : Nat) (vpp : Bool) (refclk : Bool) (banks : List (Bool × Bytes)) (board : Board)
  /-- FULL_RESET (R595): A full reset from DEV_RESET or DOM_GLOBAL restarts the device from its ROM. -/
  | fullReset (byDomain : Bool) (board : Board)
  /-- DEV_RESET_START (R599): DELAY_MS after DEV_RESET's completion the requested reset begins. -/
  | devResetStart (board : Board)
  /-- HOST_RESET (R596): PERST_N, hot reset or link down resets the host side while traffic continues. -/
  | hostReset
  /-- FIRMWARE_RESET (R596): A firmware reset reloads firmware while the data path and BAR0 state are kept. -/
  | firmwareReset
  /-- BATTERY_LOSS (R477): VBAT falls below 1.10 V with main power off and the battery domain's contents are lost. -/
  | batteryLoss
  /-- L0_FLUSH (R554): A stage stalled for 1 µs is flushed; its frames are dropped or stomped. -/
  | l0Flush (unit : Nat) (stage : Nat) (frames : List Nat) (cells : List (Nat × Nat × Nat))
  /-- L1_EXPIRY (R555): A table operation exceeds 10 µs, is retried once, and on a second expiry ends with PARITY or FAULT. -/
  | l1Expiry (what : Nat) (table : Nat) (pipe : Nat) (entry : Nat) (index : Nat)
  /-- L2_EXPIRY (R556): A DDR access exceeds 20 µs and the channel is retrained. -/
  | l2Expiry (channel : Nat) (index : Option Nat)
  /-- L3_EXPIRY (R557): A DMA transaction unanswered for 50 ms raises a KIND 6 DMA fault. -/
  | l3Expiry (index : Nat)
  /-- L5_EXPIRY (R559): A function's command outlasts its class time plus L5_GRACE; its queues are disabled and commands aborted. -/
  | l5Expiry (fn : Nat)
  /-- L6_EXPIRY (R560): A core gives no watchdog kick for L6_MS and is held in reset for restart. -/
  | l6Expiry (core : Nat)
  /-- CORE_RESTART_COMPLETE (R560): The restarted core runs at ENTRY and WD_CORE_RESTART is posted. -/
  | coreRestartComplete (core : Nat) (hashOk : Bool) (bad : List Bool)
  /-- L7_FW_ALIVE_TIMEOUT (R562): The partner's FW_ALIVE is 0 for 10 ms and PAIR_FW_SILENT is posted. -/
  | l7FwAliveTimeout
  /-- DMA_TURN (R539): The DMA engine gives one command of the next function a turn of up to 64 KiB. -/
  | dmaTurn (entries : List (Option Quad)) (pages : List (Option Bytes)) (parity : Bool) (buffer : Nat) (bad : List Nat)
  /-- GATE_RULE_RESTORE (R526): CPU_HK rewrites a parity-failed gate rule from its copy within 1 ms. -/
  | gateRuleRestore (setB : Bool) (rule : Nat)
  /-- GATE_SWAP_DRAIN_END (R529): Every access admitted under the old set completes and GATE_SWAP completes with GATE_SWAPPED. -/
  | gateSwapDrainEnd
  /-- BW_WINDOW_END (R574): A bandwidth window ends; all totals are written and PMC_BW_SEQ incremented. -/
  | bwWindowEnd
  /-- PMC_WRAP (R572): A PMC or chained pair wraps, sets OVERFLOW and posts PMC_OVERFLOW. -/
  | pmcWrap (counter : Nat)
  /-- REFCLK_LOSS (R590): REFCLK is absent or out of range; the root PLL enters holdover and TS5 alarms. -/
  | refclkLoss
  /-- REFCLK_RETURN (R590): REFCLK returns in range and the PLL slews back to lock. -/
  | refclkReturn (offset : Nat)
  /-- TEMP_SAMPLE (R606): Every 1 ms the temperature sensors are read, setting OVER_TEMP or alarming TS4 as needed. -/
  | tempSample (tj : Int) (current : Nat) (power : Nat)
  /-- REAPPEARANCE_HOLD_EXPIRY (R233): HOLD after a peer's reappearance was seen, the old receive SA is retired unless R188 retired it sooner. -/
  | reappearanceHoldExpiry (peer : Nat)
  /-- ENDED_EXCHANGE_RETIRE (R238): 2 s after CPU_ACC resumes, it retires receive and standby transmit SAs of exchanges ended before DONE under which no frame has verified. -/
  | endedExchangeRetire (peer : Nat)
  /-- ENTROPY_WAIT_EXPIRY (R459): An ENT_READ or KEY_CREATE that has waited 10 ms for entropy output completes with NOT_READY or ENTROPY_FAIL. -/
  | entropyWaitExpiry (index : Nat)
  /-- STANDBY_HOLD_EXPIRY (R373): A standby that would have to hold an ingress port's frames longer than 2 µs leaves lockstep with PAIR_SYNC_LOST. -/
  | standbyHoldExpiry (port : Nat)
  /-- RELEASE_FRAME_WAIT_EXPIRY (R373): A logged release names a leaf whose next frame the standby does not hold within 20 µs, and the standby leaves lockstep. -/
  | releaseFrameWaitExpiry
  /-- LOCAL_FAULT_CLEAR (R90): The local fault received on a port ends, and the port stops transmitting remote fault ordered sets. -/
  | localFaultClear (port : Nat)
  /-- BARRIER_DRAIN_END (R530): Every access that entered before a GATE_BARRIER has completed, and the barrier completes with GATE_EPOCH. -/
  | barrierDrainEnd
  /-- DEBUG_ACCESS (R524): A JTAG debug access to the control interconnect is gate-checked as requester 36, and is carried out or denied and logged. -/
  | debugAccess (addr : Nat) (write : Bool) (value : Word) (badRules : List Nat)
  /-- PPS_OUT_WIDTH_END (R441): WIDTH_US after a TO second boundary, the PPS_OUT pin falls. -/
  | ppsOutWidthEnd
  /-- ROOT_PLL_LOCK_LOSS (R388): The root PLL itself loses lock, and the device declares FAULT to a pair partner. -/
  | rootPllLockLoss
  deriving DecidableEq, Repr

end Sys2Proof
end

