-- ==== Sys2Proof/Machine/State.lean ====
section
/-!
DEFINITION. The machine's state as plain data: one record for each subsystem of the spec, and the state after reset.
Sparse tables are lists of (index, entry) pairs in one canonical form (`Table`): indices strictly rising, and no entry equal to
the table's default where the table has one.
-/
namespace Sys2Proof.Machine

/-! ## Tables -/

/-- A sparse table: (index, entry) pairs, indices strictly rising. -/
structure Table (α : Type) where
  cells : List (Nat × α)
  deriving DecidableEq, Repr

/-- The table with no entry. -/
def Table.empty {α : Type} : Table α := ⟨[]⟩

/-- The entry at an index of a list of cells. -/
def cellsFind {α : Type} (k : Nat) : List (Nat × α) → Option α
  | [] => none
  | (j, v) :: rest => if j = k then some v else cellsFind k rest

/-- The list with the entry at `k` replaced or put in its place. -/
def cellsInsert {α : Type} (k : Nat) (v : α) : List (Nat × α) → List (Nat × α)
  | [] => [(k, v)]
  | (j, w) :: rest =>
    if k < j then (k, v) :: (j, w) :: rest
    else if k = j then (k, v) :: rest
    else (j, w) :: cellsInsert k v rest

/-- The list without the entry at `k`. -/
def cellsErase {α : Type} (k : Nat) : List (Nat × α) → List (Nat × α)
  | [] => []
  | (j, w) :: rest => if j = k then cellsErase k rest else (j, w) :: cellsErase k rest

/-- Whether the indices rise strictly, all of them at least `lo`. -/
def cellsRise {α : Type} (lo : Nat) : List (Nat × α) → Bool
  | [] => true
  | (j, _) :: rest => decide (lo ≤ j) && cellsRise (j + 1) rest

/-- The entry at an index, if there is one. -/
def Table.find {α : Type} (t : Table α) (k : Nat) : Option α := cellsFind k t.cells

/-- The entry at an index, a default where there is none. -/
def Table.get {α : Type} (t : Table α) (d : α) (k : Nat) : α := (t.find k).getD d

/-- Whether an index has an entry. -/
def Table.has {α : Type} (t : Table α) (k : Nat) : Bool := (t.find k).isSome

/-- The table with an entry written. -/
def Table.set {α : Type} (t : Table α) (k : Nat) (v : α) : Table α := ⟨cellsInsert k v t.cells⟩

/-- The table with an index made empty. -/
def Table.erase {α : Type} (t : Table α) (k : Nat) : Table α := ⟨cellsErase k t.cells⟩

/-- The table with an entry written, where writing the default empties the index. -/
def Table.put {α : Type} [DecidableEq α] (t : Table α) (d : α) (k : Nat) (v : α) : Table α :=
  if v = d then t.erase k else t.set k v

/-- The table with the entry at an index changed by `f`; unchanged where the index is empty. -/
def Table.modify {α : Type} (t : Table α) (k : Nat) (f : α → α) : Table α :=
  match t.find k with
  | some v => t.set k (f v)
  | none => t

/-- The canonical form: indices strictly rising. -/
def Table.wf {α : Type} (t : Table α) : Bool := cellsRise 0 t.cells

/-- The indices that have an entry, rising. -/
def Table.keys {α : Type} (t : Table α) : List Nat := t.cells.map (·.1)

/-- How many entries satisfy a condition on index and entry. -/
def Table.countIf {α : Type} (t : Table α) (p : Nat → α → Bool) : Nat :=
  (t.cells.filter (fun c => p c.1 c.2)).length

/-- The indices whose entries satisfy a condition, rising. -/
def Table.keysIf {α : Type} (t : Table α) (p : Nat → α → Bool) : List Nat :=
  (t.cells.filter (fun c => p c.1 c.2)).map (·.1)

/-- The first index, from `lo` on and below `lo + n`, with no entry. -/
def Table.firstFree {α : Type} (t : Table α) (lo : Nat) : Nat → Option Nat
  | 0 => none
  | n + 1 => if t.has lo then t.firstFree (lo + 1) n else some lo

/-- The entries with a change applied to each; an entry changed to `none` leaves. -/
def Table.mapSome {α : Type} (t : Table α) (f : Nat → α → Option α) : Table α :=
  ⟨t.cells.filterMap (fun c => (f c.1 c.2).map (fun v => (c.1, v)))⟩

/-! ## The command channel (02_command_channel) -/

/-- A command read from an SQ and not yet begun (R46). -/
structure Fetched where
  packet : BitVec 512
  seq : Nat
  deriving DecidableEq, Repr

/-- The internals of one queue pair beside its registers (R36, R46, R52). -/
structure QueuePair where
  /-- CMD_QPn_STATUS.SQ_HEAD: the next SQ slot to fetch. -/
  sqHead : Nat := 0
  /-- The internal CQ tail (R36). -/
  cqTail : Nat := 0
  /-- The sequence count: commands fetched, modulo 32,768 (R52). -/
  seq : Nat := 0
  /-- The phase written in completions (R52). -/
  phase : Bool := true
  /-- Completions written and not yet consumed: the slots that CMD_QPn_CQ_HEAD has not passed (R46, R53). -/
  unread : Nat := 0
  /-- CQ slots reserved for commands that are fetched and not completed (R46). -/
  reserved : Nat := 0
  /-- Fetched commands that wait to begin, oldest first (R47, R48). -/
  fetched : List Fetched := []
  /-- The pair has stopped after FETCH_ERR until ENABLE is toggled (R38). -/
  stopped : Bool := false
  /-- The outside refuses writes to the CQ (R38): what the row that carried it said last. -/
  cqFails : Bool := false
  deriving DecidableEq, Repr

/-- An event as raised (R63), before it is given a queue's SEQUENCE and PHASE. -/
structure Event where
  code : Nat
  severity : Nat
  subject : Nat
  time : Nat
  object : Nat
  count : Nat
  /-- Bytes 20 to 31 as one little-endian number. -/
  detail : Nat
  deriving DecidableEq, Repr

/-- An entry of an event queue (R63). -/
structure EqEntry where
  event : Event
  phase : Bool
  sequence : Nat
  deriving DecidableEq, Repr

/-- A completion (R52). -/
structure Completion where
  tag : Nat
  status : Nat
  detail : Nat
  sequence : Nat
  phase : Bool
  result : Quad
  deriving DecidableEq, Repr

/-- A coalescing hold (R636): the key, the occurrences gathered and the first of them. -/
structure Hold where
  code : Nat
  scope : Nat
  gathered : Nat
  first : Option Event
  deriving DecidableEq, Repr

/-- The tenant rights and quotas of a function (R70, R71). -/
structure Tenant where
  enable : Bool := false
  keyOwner : Bool := false
  scQuota : Nat := 0
  saQuota : Nat := 0
  keyQuota : Nat := 0
  deriving DecidableEq, Repr

/-- What the channel keeps for one PCIe function, beside its registers. -/
structure Function where
  qp0 : QueuePair := {}
  qp1 : QueuePair := {}
  qp2 : QueuePair := {}
  qp3 : QueuePair := {}
  /-- CMD_EQ_STATUS.TAIL. -/
  eqTail : Nat := 0
  /-- Entries written and not yet consumed: the slots that CMD_EQ_HEAD has not passed (R65). -/
  eqUnread : Nat := 0
  /-- Events posted since enable (R63). -/
  eqSeq : Nat := 0
  eqPhase : Bool := true
  /-- Events discarded and not yet told by an EVENTS_LOST (R65). -/
  eqOwed : Nat := 0
  /-- Posting has stopped after WRITE_ERR. -/
  eqStopped : Bool := false
  /-- The outside refuses writes to the EQ: what CMD_EQ_ENABLE said last. -/
  eqFails : Bool := false
  /-- DEV_EVENTS_MASK (R69): bit g - 1 masks group g. -/
  groupMask : Nat := 0
  minSeverity : Nat := 0
  /-- Completions not yet signalled on vector 0, and whether the CQ_DELAY timer runs (R40). -/
  unsignalled : Nat := 0
  delayRuns : Bool := false
  /-- The next queue pair of this function to be served (R47). -/
  nextQp : Nat := 0
  tenant : Tenant := {}
  deriving DecidableEq, Repr

/-- An object that a command can lock (R49). -/
inductive Lock
  | sc (n : Nat)
  | sa (n : Nat)
  | slot (n : Nat)
  | community (id : Nat)
  | selTable (table : Nat)
  | selEntries (table start count : Nat)
  | node (n : Nat)
  | meter (n : Nat)
  | queue (n : Nat)
  | port (n : Nat)
  | lane (n : Nat)
  | pin (n : Nat)
  | peer (n : Nat)
  | member (n : Nat)
  | pmc (n : Nat)
  | gate (set : Nat)
  | flash
  | identity
  | timer (n : Nat)
  | clock (n : Nat)
  | domain
  | pair
  | source (n : Nat)
  deriving DecidableEq, Repr

/-- Execution classes (R55). -/
inductive Class
  | a | b | c | d
  deriving DecidableEq, Repr

/-- What a begun command that has not completed waits for. -/
inductive Wait
  /-- the DMA engine (18 R539) -/
  | transfer
  /-- the entropy unit (15 R459) -/
  | entropy
  /-- the event that the opcode's chapter names -/
  | work
  deriving DecidableEq, Repr

/-- The transfer of a command between the device and host memory (18 R533 to R539). -/
structure Xfer where
  toHost : Bool
  addr : Nat
  length : Nat
  /-- Bytes moved; for an atomic result, bytes whose pages are translated. -/
  moved : Nat := 0
  /-- The data to write, or what has been read. -/
  data : Bytes := []
  /-- The FAULT_ID that stopped it (18 R536). -/
  fault : Option Nat := none
  /-- A partial command: entries applied or compared so far (18 R538). -/
  done : Nat := 0
  /-- SEL_SHADOW_COMPARE: records found and how many of their bytes stand at LIST_PTR; valid shadow entries; the end is reached. -/
  list : Bytes := []
  listed : Nat := 0
  live : Nat := 0
  ended : Bool := false
  full : Bool := false
  /-- The number of its last turn (18 R539). -/
  turn : Nat := 0
  deriving DecidableEq, Repr

/-- What a command completes with: STATUS, DETAIL, RESULT, and the data it writes at DATA_PTR. -/
structure Reply where
  status : Nat
  detail : Nat := 0
  result : Nat := 0
  data : Bytes := []
  deriving DecidableEq, Repr

/-- A begun command that has not completed (R48 to R50, R55). -/
structure Running where
  cmd : Cmd
  cls : Class
  locks : List Lock
  wait : Wait
  xfer : Option Xfer := none
  /-- The completion to post once its data is written. -/
  reply : Option Reply := none
  deriving DecidableEq, Repr

/-! ## Lanes, octets and ports (03_lanes_and_ports) -/

/-- Where link bring-up stands (R88). -/
inductive Bringup
  /-- ADMIN_UP = 0: the transmitter is squelched -/
  | off
  /-- step 2: Clause 73 exchange -/
  | negotiating
  /-- step 3: link training -/
  | training
  /-- steps 4 and 5: waiting for locks and the absence of a local fault -/
  | locking
  /-- step 6: locked, the 10 ms of link-up run -/
  | settling
  | up
  /-- TRAINING_FAILED was posted; restarts in 1 s -/
  | retryWait
  deriving DecidableEq, Repr

/-- Path modes of a port (R100). -/
inductive PathMode
  | unassigned | express | buffered
  deriving DecidableEq, Repr

/-- One configured port (R79 to R105). -/
structure Port where
  /-- PORT_STATUS.RATE: 1 10G to 6 400G. -/
  rate : Nat
  /-- The slot byte of PORT_CONFIG (R83). -/
  slot : Nat
  bringup : Bringup := .off
  signal : Bool := false
  locked : Bool := false
  localFault : Bool := false
  remoteFault : Bool := false
  /-- The transmitter sends idle in place of frames under a remote fault that lasted 100 us (R89). -/
  idleForRemote : Bool := false
  /-- Local fault is sent in place of idle because the tie partner is down (R94). -/
  propagating : Bool := false
  /-- The tick at which LINK_UP last changed (R103 SINCE). -/
  sinceTick : Nat := 0
  fecDegraded : Bool := false
  /-- 0 none, 1 PCS, 2 SERIAL, 3 FAR (20 R583). -/
  loopback : Nat := 0
  loopTxOn : Bool := false
  /-- Frames transmitted under PCS or SERIAL loopback and not yet received back, oldest first; true: stomped (20 R584). -/
  looped : List (Bytes × Bool) := []
  path : PathMode := .unassigned
  /-- The tie partner on the other side, when tied. -/
  partner : Nat := 0
  faultPropagate : Bool := false
  holdoff : Nat := 0
  /-- R104 counters by index. -/
  counters : Table Quad := .empty
  deriving DecidableEq, Repr

/-- The four quarter modes of an octet (R83). -/
structure Octet where
  q0 : Nat := 0
  q1 : Nat := 0
  q2 : Nat := 0
  q3 : Nat := 0
  deriving DecidableEq, Repr

/-- The settings of one lane (R95). -/
structure Lane where
  txInvert : Bool := false
  rxInvert : Bool := false
  pre2 : Nat := 0
  pre1 : Nat := 0
  main : Nat := 32
  post1 : Nat := 0
  rxAdapt : Nat := 0
  ctle : Nat := 0
  dfe : Bool := false
  vga : Nat := 0
  prbs : Nat := 0
  prbsTx : Bool := false
  prbsRx : Bool := false
  deriving DecidableEq, Repr

/-- Lanes, octets and ports. Client port p is index p, line port p is index 64 + p. -/
structure Ports where
  octets : Table Octet := .empty
  ports : Table Port := .empty
  /-- Lane index: set * 64 + lane (R95: set 0 client, 1 line, 2 auxiliary). -/
  lanes : Table Lane := .empty
  /-- Loopback of auxiliary lanes (20 R583): mode and TX_ON by lane. -/
  auxLoops : Table (Nat × Bool) := .empty
  deriving DecidableEq, Repr

/-! ## Selectors (04_selectors) -/

/-- An entry of a selector table as software sees it (R109, R113, R116, R120), byte 0 lowest, with the parity-failed state
(R134) and the insertion order used for eviction. -/
structure SelEntry where
  data : Nat
  parityFailed : Bool := false
  order : Nat := 0
  deriving DecidableEq, Repr

/-- A learning entry (R124); an entry in the table is VALID. -/
structure Learned where
  /-- The SCI's eight wire bytes, byte 0 lowest. -/
  sci : Nat
  /-- The source MAC's six wire bytes, byte 0 lowest. -/
  mac : Nat
  port : Nat
  known : Bool
  age : Nat
  notified : Bool
  deriving DecidableEq, Repr

/-- The filter and bitmap of one prefix length of a family (R123, R137). -/
structure LpmLength where
  /-- Clears since the last rebuild. -/
  clears : Nat := 0
  /-- Rebuilds so far: which build of the filter is in force. -/
  build : Nat := 0
  /-- A filter or bitmap word has failed parity and is not rebuilt yet. -/
  parityFailed : Bool := false
  deriving DecidableEq, Repr

/-- The selector mode of a client port (R117). -/
structure LpmMode where
  mode : Nat := 0
  space : Nat := 0
  deriving DecidableEq, Repr

/-- Selectors and tables. -/
structure Selectors where
  client : Table SelEntry := .empty
  line : Table SelEntry := .empty
  foreign : Table SelEntry := .empty
  lpm4 : Table SelEntry := .empty
  lpm6 : Table SelEntry := .empty
  /-- Index: pipe * 4,096 + entry. -/
  learned : Table Learned := .empty
  /-- Index: family * 256 + length. -/
  lengths : Table LpmLength := .empty
  modes : Table LpmMode := .empty
  /-- The next insertion order. -/
  nextOrder : Nat := 0
  /-- SEL_STATUS: INDEX, EVICTED, RESULT. -/
  statusIndex : Nat := 0
  statusEvicted : Bool := false
  statusResult : Nat := 0
  /-- SEL_LINE_SPLIT.CURRENT: 0 before the copy of R133. -/
  lineSplit : Nat := 0
  /-- The tables whose fill is known to be high (R143 0303h). -/
  fillHigh : List Nat := []
  deriving DecidableEq, Repr

/-! ## Secure channels and associations (05_secure_channels, 06_key_rollover) -/

/-- A secure channel entry (R146). An entry in the table is VALID. -/
structure Sc where
  /-- The SCI's eight wire bytes, byte 0 lowest. -/
  sci : Nat
  /-- The SA in each AN slot (SLOTn_VALID is presence). -/
  slot0 : Option Nat := none
  slot1 : Option Nat := none
  slot2 : Option Nat := none
  slot3 : Option Nat := none
  /-- DIR: true for receive. -/
  receive : Bool
  suite : Nat
  co : Nat
  replayProtect : Bool
  accord : Bool
  /-- ENC_AN; 4 while an Accord transmit SC has no encoding slot (07 R227). -/
  encAn : Nat := 0
  includeSci : Bool
  es : Bool
  scb : Bool
  tagsInClear : Nat
  tenant : Nat
  port : Nat
  replayWindow : Nat
  /-- OVERLAP in units of 100 ms. -/
  overlap : Nat
  nextAn : Nat := 0
  armedPn : Bool := false
  armedTime : Bool := false
  /-- A scheduled ROLL has fired since ARMED_TIME was set (R192, R193). -/
  rollFired : Bool := false
  /-- The entry has failed parity and is not rewritten yet (R165). -/
  parityFailed : Bool := false
  deriving DecidableEq, Repr

/-- The four counters of an SA or SC record (R172, R175). -/
structure Counts where
  c0 : Nat := 0
  c1 : Nat := 0
  c2 : Nat := 0
  c3 : Nat := 0
  incomplete : Bool := false
  deriving DecidableEq, Repr

/-- A security association entry (R147). An entry in the table is VALID or draining (R171). -/
structure Sa where
  /-- Bytes 0 to 31 as one little-endian number. -/
  key : Nat
  nextPn : Nat
  /-- LOW_PN on receive, THRESHOLD on transmit. -/
  low : Nat
  salt : Nat
  ssci : Nat
  receive : Bool
  key128 : Bool
  accord : Bool
  exhausted : Bool := false
  retiring : Bool := false
  statsIncomplete : Bool := false
  failed : Bool := false
  failedOrphan : Bool := false
  parentSlot : Nat
  parentIsRoot : Bool
  parentGen : Nat
  an : Nat
  /-- The SC whose slot holds the SA. -/
  sc : Nat
  /-- CHECK does not match bytes 0 to 87 (R147, R163 step 3). -/
  corrupt : Bool := false
  /-- Transmit: the slot was the encoding slot and no longer is (TX_SUPERSEDED, R170). -/
  superseded : Bool := false
  /-- SA_PN_THRESHOLD has been posted (R158). -/
  thresholdTold : Bool := false
  /-- The millisecond at which the overlap window ends, while it runs (R189). -/
  deadline : Option Nat := none
  /-- The slot is invalid and the entry waits for its last frames (R171). -/
  draining : Bool := false
  /-- The deltas of R172. -/
  deltas : Counts := {}
  deriving DecidableEq, Repr

/-- Secure channels, associations and their statistics. -/
structure Channels where
  scs : Table Sc := .empty
  sas : Table Sa := .empty
  /-- Deltas read by a flush and not yet swept (R173, 10 R323). -/
  merge : Table Counts := .empty
  /-- The SA records of the statistics region (R173). -/
  saTotals : Table Counts := .empty
  /-- The SC totals records (R175). -/
  scTotals : Table Counts := .empty
  /-- SA_FLUSH_STATUS.SATURATED and STRETCHED. -/
  saturated : Nat := 0
  stretched : Bool := false
  /-- SCs of Accord whose SA has reached its threshold or failed, for CPU_ACC to rekey (07 R232). -/
  rekeyDue : List Nat := []
  deriving DecidableEq, Repr

/-! ## Accord (07_accord) -/

/-- A community (R202, R204). -/
structure Community where
  id : Nat
  suite : Nat
  co : Nat
  /-- ROLL_MODE: AT_TIME when true. -/
  atTime : Bool
  keySlot : Nat
  portMask : Nat
  replayWindow : Nat
  /-- OVERLAP and HOLD in units of 100 ms. -/
  overlap : Nat
  hold : Nat
  rekey : Nat
  rxQueue : Nat
  rxBuffered : Bool
  rxMeterEn : Bool
  rxMeter : Nat
  rollLead : Nat
  owner : Nat
  /-- A DELETE has been accepted and the teardown of R207 has not ended. -/
  tearing : Bool := false
  /-- The key slot has been found unusable (R237). -/
  keyLost : Bool := false
  /-- SEQ of the last message sent, by line port (R209). -/
  seqs : Table Nat := .empty
  deriving DecidableEq, Repr

/-- Where an exchange stands (R226). -/
inductive Stage
  | offered | confirmed | accepted | done
  deriving DecidableEq, Repr

/-- An exchange with a peer (R226). -/
structure Exchange where
  /-- EXCHANGE, chosen by the initiator. -/
  number : Nat
  initiator : Bool
  stage : Stage
  /-- The agreement is an initial one, or one after a reappearance (R227, R233), or a rekey (R232). -/
  rekey : Bool
  /-- The receive and transmit slots of the new SAs, and the SAs once written. -/
  rxAn : Nat := 0
  txAn : Nat := 0
  rxSa : Option Nat := none
  txSa : Option Nat := none
  /-- The exchange created the peer's SCs and line direct entry (R227). -/
  created : Bool := false
  /-- The generation of the connectivity key at the start (R251). -/
  keyGen : Nat := 0
  /-- The private values drawn: nonce, X25519 key, ML-KEM key or shared secret. -/
  nonce : Nat := 0
  x25519 : Nat := 0
  kem : Nat := 0
  /-- Header and body of the OFFER and the ACCEPT (R217, R219). -/
  offer : Bytes := []
  accept : Bytes := []
  confirm : Bytes := []
  /-- PRK of R217 once derived. -/
  prk : Nat := 0
  /-- The last message sent, for resends, and the last one received (R220). -/
  sent : Bytes := []
  last : Bytes := []
  resends : Nat := 0
  /-- ROLL: its TIME, and whether its ACK is awaited (R230). -/
  rollSec : Nat := 0
  rollNs : Nat := 0
  rollWait : Bool := false
  /-- A responder's OFFER waits for the entropy unit (R236). -/
  waits : Bool := false
  /-- A frame has verified under its receive SA since a restart of CPU_ACC ended it (R238). -/
  verified : Bool := false
  deriving DecidableEq, Repr

/-- States of a peer entry (R224); FREE is no entry. -/
inductive PeerState
  | discovered | active | lost | suppressed
  deriving DecidableEq, Repr

/-- A peer (R202, R222, R224, R240). -/
structure Peer where
  community : Nat
  port : Nat
  mac : Nat
  state : PeerState
  deviceId : Nat
  epoch : Nat
  seq : Nat
  helloMs : Nat := 250
  localPi : Nat
  peerPi : Nat := 0
  txSc : Option Nat := none
  rxSc : Option Nat := none
  agreements : Nat := 0
  /-- Milliseconds of the last valid HELLO and the last agreement. -/
  seenMs : Nat
  agreedMs : Nat := 0
  lastFail : Nat := 0
  exchange : Option Exchange := none
  /-- An opening waits for its turn (R235, R236): the REKEY flag. -/
  wish : Option Bool := none
  /-- A backoff runs, with the REKEY flag of the next opening, and the number of timeouts in a row (R228). -/
  backoff : Option Bool := none
  timeouts : Nat := 0
  /-- The wait of 1 s in DISCOVERED runs (R224). -/
  waiting : Bool := false
  /-- After a reappearance: the SAs of the old epoch, to retire after HOLD (R233). -/
  oldRx : List Nat := []
  /-- The peer's SCI must be written at the next switch (R233). -/
  newSci : Bool := false
  /-- An exchange ended by a restart of CPU_ACC left SAs to look at (R238). -/
  leftover : Option Exchange := none
  /-- A rekey that the domain scheduled: the instant of its switch (13 R414). -/
  rollAt : Option (Nat × Nat) := none
  deriving DecidableEq, Repr

/-- A complete message whose header has been checked: its port, source MAC, header and body, MAC field. -/
structure Message where
  port : Nat
  /-- The line port it came in on: `port`, or the other port of a merge (12 R387). -/
  wire : Nat
  src : Nat
  community : Nat
  /-- Header (FRAG and FRAG_INDEX cleared) and body. -/
  text : Bytes
  mac : Bytes
  /-- The frames that brought it: 2 when it came in fragments. -/
  frames : Nat := 1
  deriving DecidableEq, Repr

/-- A held first fragment (R211). -/
structure Fragment where
  port : Nat
  src : Nat
  header : Bytes
  data : Bytes
  deriving DecidableEq, Repr

/-- A period of R243 that gathers peers: the event, the port, the function, the cause of the first, the peers. -/
structure PeerPeriod where
  code : Nat
  port : Nat
  owner : Nat
  cause : Nat
  peers : List Nat
  deriving DecidableEq, Repr

/-- A bitmap page (R243). -/
structure PeerPage where
  gen : Nat := 0
  owner : Nat := 0
  peers : List Nat := []
  deriving DecidableEq, Repr

/-- An identifier that is in use until its peer's SAs have drained (R225). -/
structure HeldPi where
  port : Nat
  pi : Nat
  sas : List Nat
  deriving DecidableEq, Repr

/-- Accord. -/
structure Accord where
  communities : Table Community := .empty
  peers : Table Peer := .empty
  /-- ACC_POLICY (R212). -/
  etherType : Nat := 0x88b5
  helloMs : Nat := 250
  /-- GROUP_MAC and BASE_MAC as big-endian numbers; BASE_MAC none is the reset value of R212. -/
  groupMac : Nat := 0x0b0000009640
  baseMac : Option Nat := none
  mtu : Nat := 1500
  enable : Bool := false
  discovery : Bool := true
  suppressS : Nat := 60
  maxExchanges : Nat := 1024
  /-- This device's EPOCH, drawn at each start. -/
  epoch : Option Nat := none
  /-- Accord and CLAIM frames that a line pipe has received whole, oldest first: port and frame. -/
  arrived : List (Nat × Bytes) := []
  /-- Messages in the engine's queue, oldest first, and held first fragments. -/
  messages : List Message := []
  fragments : List Fragment := []
  heldPis : List HeldPi := []
  /-- Discovery records that wait (R223): port and source MAC. -/
  records : List (Nat × Nat) := []
  /-- {port, MAC} solicited within HELLO_MS (R223), with the millisecond. -/
  solicited : List (Nat × Nat × Nat) := []
  periods : List PeerPeriod := []
  pages : Table PeerPage := .empty
  nextPage : Nat := 0
  pageGen : Nat := 0
  /-- Openings are paused for entropy (R236). -/
  paused : Bool := false
  /-- ACC_RATE: the second that is counted, what it holds and what the second before held: agreements, failures. -/
  rateSecond : Nat := 0
  doneNow : Nat := 0
  failedNow : Nat := 0
  doneLast : Nat := 0
  failedLast : Nat := 0
  deriving DecidableEq, Repr

/-! ## The Attar key store (08_attar_key_store) -/

/-- An Attar slot (R246). -/
structure Slot where
  key : Nat := 0
  /-- TYPE: 0 EMPTY, 1 CONNECTIVITY, 2 MASTER, 3 WRAPPING, 4 PAIR. -/
  type : Nat := 0
  persist : Bool := false
  usage : Nat := 0
  tenant : Nat := 0
  parent : Nat := 0
  parentGen : Nat := 0
  gen : Nat := 0
  label : Nat := 0
  /-- CHECK fails: the slot is in INTEGRITY (R253). -/
  corrupt : Bool := false
  /-- CHECK would fail, and nothing has found it yet (R253). -/
  latent : Bool := false
  deriving DecidableEq, Repr

/-- One Flacon copy in flash (R266). STATUS is FLACON_LOAD's code (R271): 0 erased, 1 valid, 3 invalid, 4 read error; whether a
valid copy is active or below the floor follows from the floor and the active copy. -/
structure FlaconCopy where
  status : Nat := 0
  generation : Nat := 0
  /-- The key records by slot number. -/
  records : Table Slot := .empty
  config : Bytes := []
  /-- The storage key wrapped in the header, and the keeper key that wraps it. -/
  storageKey : Nat := 0
  keeperKey : Nat := 0
  deriving DecidableEq, Repr

/-- Attar: the slots, the system store, the battery-domain records and the flash image. -/
structure Attar where
  slots : Table Slot := .empty
  /-- ATT_ROOT_GEN (R245, R262). -/
  rootGen : Nat := 0
  /-- ATT_STATUS.SESSION_READY and the session root key. -/
  sessionReady : Bool := false
  sessionRoot : Nat := 0
  storageKey : Option Nat := none
  domainKey : Option Nat := none
  /-- DOMAIN_GEN: the generation of FFF2h (13 R405). -/
  domainGen : Nat := 0
  /-- Battery domain: keeper key (R265), tombstones {slot, GEN} (R263), floor (R267). -/
  keeper : Option Nat := none
  tombstones : Table Nat := .empty
  floor : Nat := 0
  copyA : FlaconCopy := {}
  copyB : FlaconCopy := {}
  /-- The active copy: none, A (false) or B (true). -/
  active : Option Bool := none
  /-- The copy under background erase. -/
  erasing : Option Bool := none
  /-- Attempts of the next commit that the board's flash will fail (R268 step 4): the board's, not set by any command. -/
  flashFailures : Nat := 0
  deriving DecidableEq, Repr

/-! ## Fabric and output buffers (09_fabric_and_buffers) -/

/-- Why a frame failed at its tail (R168, R169, R296 REASON). -/
inductive TailFault
  | none | icv | fcs
  deriving DecidableEq, Repr

/-- A frame on its way through the device, with the decision taken at its head (01 R17).
Ports are numbered 0 to 63 client and 64 to 127 line throughout. -/
structure Frame where
  /-- The port the frame arrived on. -/
  ingress : Nat
  /-- Bytes received so far, from the destination address to before the FCS; for a line frame as received, ciphertext. -/
  raw : Bytes
  /-- TO nanoseconds at the head (R295 TIME). -/
  time : Nat
  express : Bool := false
  bypass : Bool := false
  /-- PTP event or bypass handling of 14 R439. -/
  ptp : Bool := false
  mcast : Bool := false
  /-- Meter verdict: 0 green, 1 yellow, 2 red. -/
  colour : Nat := 0
  /-- The meter that coloured the frame (bit 17: privileged), none for METER_EN = 0 or no configured meter. -/
  meter : Option Nat := none
  /-- The transmit SC of an encrypted frame. -/
  txSc : Nat := 0
  /-- The receive SC of a decrypted frame. -/
  rxSc : Nat := 0
  /-- Receive: the SA and recovered PN of the SecTAG, where one was fetched. -/
  rxSa : Option Nat := none
  rxPn : Nat := 0
  /-- Receive: key, IV, confidentiality offset of the SA and SC as they stood at the head (01 R17). -/
  rxKey : Nat := 0
  rxIv : Nat := 0
  rxCo : Nat := 0
  /-- Receive: the offset of the SecTAG in `raw`, and its length. -/
  tagAt : Nat := 0
  tagLen : Nat := 0
  /-- The index of the selector entry that decided the frame (R295). -/
  selector : Nat := 0
  /-- The leaf queue, or the multicast group. -/
  queue : Nat := 0
  /-- The class under which cells are taken (R283). -/
  cls : Nat := 1
  /-- The fabric output: 0-7 LE, 8-15 CE, 16 MP, 17 HP (R276). -/
  output : Nat := 0
  /-- The egress port, once it is known. -/
  egress : Nat := 0
  /-- The decryption is done: `raw` is the plaintext frame. -/
  opened : Bool := false
  /-- Dropped at its head or later; kept only for its verdict at the tail (05 R635). -/
  dropped : Bool := false
  /-- A merge: 0 none, 1 held until its skew ends, 2 queued behind held frames (12 R387). -/
  mergeWait : Nat := 0
  /-- Stored whole before its egress begins, express or not (12 R387, CUT_THROUGH = 0). -/
  storeWhole : Bool := false
  /-- The port's ingress frame number (12 R379). -/
  inNo : Nat := 0
  /-- Its head came before the pair's cut-in slot (12 R391 step 5). -/
  early : Bool := false
  /-- An Accord or CLAIM frame, on its way to the engine. -/
  engine : Bool := false
  tailSeen : Bool := false
  fault : TailFault := .none
  /-- 64-byte words given to the stream, and words that reached the output. -/
  wordsSent : Nat := 0
  wordsIn : Nat := 0
  /-- Words that hold buffer cells of the frame's class, resequenced or not. -/
  wordsHeld : Nat := 0
  /-- Egress has begun to transmit the frame. -/
  headLeft : Bool := false
  /-- The egress stomps the frame when it ends (R167). -/
  stomp : Bool := false
  /-- The frame is whole at its output and its tail is good: a buffered frame may leave its queue (01 R21). -/
  stored : Bool := false
  /-- The class of the cells is STAGING and the frame waits in its leaf's staging tail or a page (11 R349). -/
  spilled : Bool := false
  /-- A multicast copy: the stored frame it refers to. -/
  source : Option Nat := none
  /-- A stored multicast frame: copies that still refer to it. -/
  refs : Nat := 0
  /-- The frame's number in its stream (R277). -/
  number : Nat := 0
  deriving DecidableEq, Repr

/-- The words of one frame that a cell carries. -/
structure Part where
  fid : Nat
  words : Nat
  number : Nat
  first : Bool
  last : Bool
  deriving DecidableEq, Repr

/-- A cell: its sequence number within the pair, the plane it goes on, what it carries (R276 to R278). -/
structure Cell where
  input : Nat
  output : Nat
  seq : Nat
  plane : Nat
  parts : List Part
  /-- Its last transfer failed its CRC; it waits for the plane's next granted cell time. -/
  resend : Bool := false
  /-- Transferred, not yet arrived. -/
  flying : Bool := true
  deriving DecidableEq, Repr

/-- The stream of an {ingress pipe, output} pair at the ingress pipe (R277, R278). -/
structure Stream where
  nextSeq : Nat := 0
  nextPlane : Nat := 0
  nextNumber : Nat := 0
  waiting : List Part := []
  deriving DecidableEq, Repr

/-- The resequencing state of a pair at the output (R281). -/
structure Reseq where
  expected : Nat := 0
  held : List Cell := []
  deadlineRuns : Bool := false
  /-- The number of the frame in progress. -/
  inProgress : Nat := 0
  deriving DecidableEq, Repr

/-- A multicast group entry (R290): FAB_MC_DATA0 as written. -/
structure McEntry where
  data : Nat := 0
  parityFailed : Bool := false
  deriving DecidableEq, Repr

/-- A host ring beside its registers (R294, R302). -/
structure HostRing where
  tail : Nat := 0
  limit : Nat := 0
  phase : Bool := true
  stopped : Bool := false
  /-- Descriptors written inside the current 1 ms window (R296), and whether the window runs. -/
  windowCount : Nat := 0
  windowRuns : Bool := false
  deriving DecidableEq, Repr

/-- What an egress port is transmitting (R288, 05 R157). -/
structure Tx where
  fid : Nat
  /-- For an encrypted frame: the SA, the key, IV, confidentiality offset, SecTAG and tags left in clear (05 R150 to R157). -/
  sa : Option Nat := none
  key : Nat := 0
  iv : Nat := 0
  co : Nat := 0
  tag : Bytes := []
  clear : Nat := 0
  /-- The port's egress frame number (12 R379). -/
  outNo : Nat := 0
  deriving DecidableEq, Repr

/-- An egress port: express queue, released frames, frame in transmission, device-generated frames that wait. -/
structure Egress where
  express : List Nat := []
  released : List Nat := []
  tx : Option Tx := none
  generated : List Bytes := []
  deriving DecidableEq, Repr

/-- One plane of the crossbar (R278, R279). -/
structure Plane where
  up : Bool := true
  /-- The ticks of its CRC failures within the last second. -/
  crcFails : List Nat := []
  /-- grant_ptr by output, accept_ptr by input. -/
  grant : Table Nat := .empty
  accept : Table Nat := .empty
  /-- Cell times since HP's last slot (HP takes one cell per 8 cell times). -/
  hpPhase : Nat := 0
  deriving DecidableEq, Repr

/-- Fabric and output buffers. -/
structure Fabric where
  /-- Frames in the device by number. -/
  frames : Table Frame := .empty
  nextFrame : Nat := 0
  /-- The frame being received on each port. -/
  rx : Table Nat := .empty
  plane0 : Plane := {}
  plane1 : Plane := {}
  /-- Index: input * 18 + output. -/
  streams : Table Stream := .empty
  cells : List Cell := []
  reseq : Table Reseq := .empty
  egress : Table Egress := .empty
  /-- Class quotas (R283) and EXPRESS_PORT_LIMIT (R298). -/
  quota0 : Nat := 16384
  quota1 : Nat := 80896
  quota2 : Nat := 16384
  quota3 : Nat := 8192
  quota4 : Nat := 3072
  expressLimit : Nat := 1024
  /-- 64-byte words held in cells of each class. -/
  words0 : Nat := 0
  words1 : Nat := 0
  words2 : Nat := 0
  words3 : Nat := 0
  words4 : Nat := 0
  /-- Cells that a broken chain held: neither free nor in a class (R287, R297). -/
  leaked : Nat := 0
  /-- A sweep runs: the cause of R304 0701h (0 periodic, 1 after parity, 2 FAB_AUDIT). -/
  sweep : Option Nat := none
  /-- FAB_AUDIT_STATUS.LAST_RETURNED. -/
  lastReturned : Nat := 0
  groups : Table McEntry := .empty
  members : Table McEntry := .empty
  /-- Members whose IN_USE waits for its 1 us to clear (R293). -/
  clearing : List Nat := []
  /-- FAB_MC_STATUS.RESULT. -/
  mcResult : Nat := 0
  ring0 : HostRing := {}
  ring1 : HostRing := {}
  ring2 : HostRing := {}
  ring3 : HostRing := {}
  deriving DecidableEq, Repr

/-! ## The reservoir (10_reservoir) -/

/-- States of a reservoir channel (R308, R333). -/
inductive ChState
  | absent
  /-- refused, failed or lost -/
  | failed
  /-- trained, not ONLINE until the key is drawn (R308 steps 3 to 6) -/
  | trained
  | online | retraining
  deriving DecidableEq, Repr

/-- A counter block (R320): MAJOR, the minor counters, and the number of the quarantine event while its children are unusable. -/
structure CounterBlock where
  major : Nat := 0
  minors : Table Nat := .empty
  quarantine : Option Nat := none
  deriving DecidableEq, Repr

/-- A spill page held in a channel: its leaf queue, number, records and place (R311). -/
structure Page where
  queue : Nat
  pageSeq : Nat
  /-- The frames with bytes in the page, in order, and how many bytes of each one's record. -/
  parts : List (Nat × Nat)
  place : Nat
  /-- Written to the channel and not yet confirmed; requested for read-back. -/
  writing : Bool := true
  reading : Bool := false
  deriving DecidableEq, Repr

/-- One channel RC0 to RC3. -/
structure Channel where
  state : ChState := .absent
  /-- 0 16 GB, 1 32 GB, 2 64 GB. -/
  capacity : Nat := 0
  ranks2 : Bool := false
  pages : List Page := []
  /-- Lines that no longer hold what was written, and that no access has met yet. -/
  latent : List DramError := []
  /-- Marked device by 2 * subchannel + rank (R319). -/
  failedDev : Table Nat := .empty
  /-- Corrected symbols of the last second by (2 * subchannel + rank) * 10 + device: (tick, symbols). -/
  corrected : Table (List (Nat × Nat)) := .empty
  /-- The ticks of the uncorrectable lines of the last second (R329). -/
  badLines : List Nat := []
  laps : Nat := 0
  /-- The tick at which the lap began (R323). -/
  lapTick : Nat := 0
  highMajor : Nat := 0
  ce : Nat := 0
  ue : Nat := 0
  quarantineEvents : Nat := 0
  /-- The fresh major of each quarantine event, once one of its blocks is re-initialised (R328). -/
  fresh : Table Nat := .empty
  /-- The spill pointer, and whether it rests until a lap may begin (R323). -/
  pointer : Nat := 0
  resting : Bool := false
  /-- The retrain attempt that runs, 1 to 3. -/
  retrain : Nat := 0
  /-- Counter blocks: level * 2^25 + index; level 0 leaves, 1, 2, 3 root. -/
  blocks : Table CounterBlock := .empty
  /-- MAJOR of the leaves of a statistics region that moved here and that no sweep has written yet (R330). -/
  statsMajor : Nat := 0
  deriving DecidableEq, Repr

/-- The reservoir. -/
structure Reservoir where
  ch0 : Channel := {}
  ch1 : Channel := {}
  ch2 : Channel := {}
  ch3 : Channel := {}
  keyReady : Bool := false
  key : Nat := 0
  fatal : Bool := false
  degraded : Bool := false
  /-- RSV_CONFIG (R332). -/
  spillEnable : Bool := false
  drainMask : Nat := 0
  failThreshold : Nat := 256
  pageFillUs : Nat := 2
  /-- The channel holding the statistics region; whether it is valid and whether it is moving (R310, R330). -/
  statsChannel : Option Nat := none
  statsMoving : Bool := false
  /-- The channel that takes the next page (R323: channels take pages in turn). -/
  nextChannel : Nat := 0
  deriving DecidableEq, Repr

/-! ## Scheduling, shaping and policing (11_scheduling_and_policing) -/

/-- States of a leaf (R337). -/
inductive LeafState
  | attached (service : Nat)
  | host
  deriving DecidableEq, Repr

/-- A shaper with its credit in 1/4,096 byte (R343, R344). -/
structure Shaper where
  rate : Nat := 0
  burst : Nat := 0
  credit : Int := 0
  /-- CK_SCHED nanoseconds of the last charge. -/
  tLast : Nat := 0
  eligible : Bool := true
  eligibleAt : Nat := 0
  deriving DecidableEq, Repr

/-- A leaf queue (R337, R341, R347, R349). -/
structure Leaf where
  state : LeafState
  prio : Nat
  weight : Nat
  spillable : Bool
  disable : Bool
  limit : Nat
  yellowLimit : Nat
  spillAt : Nat
  shaper : Shaper
  /-- The deficit of R342. -/
  deficit : Int
  /-- R349 mode: SPILLING. -/
  spilling : Bool := false
  /-- Frames on die, first to leave first; a frame joins at its head and can leave once it is stored (R339, R361). -/
  onDie : List Nat := []
  /-- Frames of the staging tail, not yet in a page. -/
  staging : List Nat := []
  /-- Bytes of the first staging frame's record that written pages already hold (R311). -/
  stagedOut : Nat := 0
  /-- PAGE_SEQ of the next page. -/
  pageSeq : Nat := 0
  /-- Held under R368, and whether its copy can restore it. -/
  held : Bool := false
  deriving DecidableEq, Repr

/-- A service node (R341). -/
structure Service where
  parent : Nat
  weight : Nat
  shaper : Shaper
  deficit : Int
  held : Bool := false
  deriving DecidableEq, Repr

/-- A port node (R340): its OVERHEAD, kept while the port is not in buffered mode. -/
structure PortNode where
  overhead : Nat := 20
  held : Bool := false
  deriving DecidableEq, Repr

/-- A meter (R352, R362) with its buckets in millionths of a byte. -/
structure Meter where
  mode : Nat
  keepTokens : Bool
  colourAware : Bool
  cir : Nat
  cbs : Nat
  eir : Nat
  ebs : Nat
  pcpMap : Nat
  deiYellow : Bool
  untagged : Nat
  bucketC : Int
  bucketE : Int
  tLast : Nat
  held : Bool := false
  deriving DecidableEq, Repr

/-- The wheels of one scheduler instance (R344): node numbers by slot. Leaf n is 2n, service node n is 2n + 1. -/
structure Wheels where
  fine : Table (List Nat) := .empty
  coarse : Table (List Nat) := .empty
  /-- Nodes carried over from the last fine slot (R345). -/
  carried : List Nat := []
  deriving DecidableEq, Repr

/-- Scheduling, shaping and policing. -/
structure Scheduling where
  leaves : Table Leaf := .empty
  services : Table Service := .empty
  portNodes : Table PortNode := .empty
  /-- Ordinary meter m is m, privileged meter m is 131,072 + m. -/
  meters : Table Meter := .empty
  /-- Instance p: 0-7 LE, 8-15 CE. -/
  wheels : Table Wheels := .empty
  /-- The round-robin order of each parent and level, front first. Index: (0 port node | 1 service node, parent, level). -/
  orders : Table (List Nat) := .empty
  deriving DecidableEq, Repr


/-! ## The redundant pair (12_redundant_pair) -/

/-- States of a device of a pair (R371). -/
inductive PairMode
  | off | sync | standby | active | alone | isolated
  deriving DecidableEq, Repr

/-- A merge of two line ports (R387). Line ports by their number 0 to 63. -/
structure Merge where
  portA : Nat
  portB : Nat
  cutThrough : Bool
  community : Nat
  skew : Nat
  /-- The claimed port is PORT_B. -/
  claimedB : Bool := false
  claimA : Nat := 0
  claimB : Nat := 0
  idA : Nat := 0
  idB : Nat := 0
  /-- Milliseconds of the last verified claims. -/
  timeA : Option Nat := none
  timeB : Option Nat := none
  /-- Frames accepted from the unclaimed port so far. -/
  filled : Nat := 0
  deriving DecidableEq, Repr

/-- A frame whose head is not decided yet: the standby waits for the log, the active for the end of the slot (R373, R374). -/
structure HeldHead where
  port : Nat
  head : Bytes
  whole : Bool
  upsets : List Upset
  backlog : Nat
  /-- The rest of the frame and whether its FCS is good, once the tail has come. -/
  tail : Option (Bytes × Bool) := none
  deriving DecidableEq, Repr

/-- An EXCEPTION entry of ORDER (R379). -/
structure Exc where
  kind : Nat
  port : Nat
  frame : Nat
  data : Nat
  deriving DecidableEq, Repr

/-- A tail that the standby has seen and not yet settled (R377): the frame, the slot, the rest of it and its FCS. -/
structure HeldTail where
  fid : Nat
  slot : Nat
  rest : Bytes
  fcs : Bool
  deriving DecidableEq, Repr

/-- An item of MIRROR (R381): APPLY_SLOT none for on receipt. -/
structure MirrorItem where
  apply : Option Nat
  kind : Nat
  index : Nat
  data : Bytes
  deriving DecidableEq, Repr

/-- How far a resynchronisation has come (R391). -/
inductive ResyncStage
  | none | nonces | items | cutIn
  deriving DecidableEq, Repr

/-- The pair. -/
structure Pair where
  mode : PairMode := .off
  /-- PAIR_SET: LINK_28G, CLAIM_COMMUNITY, PAIR_KEY, PARTNER_ID, GATE_MASK, PN_LEAD. -/
  link28 : Bool := false
  community : Nat := 0
  keySlot : Nat := 0
  partnerId : Nat := 0
  gateMask : Nat := 0
  pnLead : Nat := 1048576
  claim : Nat := 0
  /-- From the partner's last STATUS. -/
  partnerClaim : Nat := 0
  partnerMode : Option Nat := none
  partnerFault : Bool := false
  partnerFw : Bool := true
  linkUp : Bool := false
  aliveIn : Bool := false
  aliveOut : Bool := false
  faultSent : Bool := false
  /-- The nonces of R380 as 32 wire bytes, empty for none; the session key of R381. -/
  nonceOwn : Bytes := []
  nonceTheirs : Bytes := []
  session : Option Nat := none
  /-- MIRROR_SEQ sent last and received last. -/
  mirrorTx : Nat := 0
  mirrorRx : Nat := 0
  /-- SEQ of the next message to send, and the next one expected; a gap makes the receiver discard (R384). -/
  seqTx : Nat := 0
  seqRx : Nat := 0
  discarding : Bool := false
  /-- The next message from the partner sets the SEQ expected: nothing has come since SYNC or START. -/
  seqFresh : Bool := true
  /-- The last 64 KiB of messages sent: SEQ and bytes. -/
  sent : List (Nat × Bytes) := []
  /-- The slot in progress (active), or followed last (standby). -/
  slot : Nat := 0
  /-- The log of the slot in progress: heads (port, verdict, bytes 0 to 63), releases (node, leaf, frames), exceptions. -/
  heads : List (Nat × Nat × Bytes) := []
  runs : List (Nat × Nat × Nat) := []
  excs : List Exc := []
  /-- Exceptions the standby has received and not used; releases it cannot make yet. -/
  told : List Exc := []
  waitRuns : List (Nat × Nat × Nat) := []
  /-- Mirror items whose APPLY_SLOT has not come, and ORDER messages that wait for heads or for the cut-in. -/
  items : List MirrorItem := []
  orders : List Bytes := []
  held : List HeldHead := []
  /-- The log in progress cannot be followed: the cause of R400 0903h. -/
  unfollowed : Option Nat := none
  tails : List HeldTail := []
  /-- Frame numbers by port (R379). -/
  inNo : Table Nat := .empty
  outNo : Table Nat := .empty
  /-- Changes to mirror at the end of the slot: MIRROR KIND and index (R381), and commands. -/
  dirty : List (Nat × Nat) := []
  commands : List Cmd := []
  /-- The commands of settings that no table holds, as they have completed: what a resynchronisation sends (the model's own). -/
  history : List Cmd := []
  stage : ResyncStage := .none
  /-- This device is the source of the resynchronisation. -/
  source : Bool := false
  /-- The cut-in slot, and the cut-in records received: port, slot, CRC, heads. -/
  cutIn : Option Nat := none
  records : List (Nat × Nat × Nat × Nat) := []
  /-- At the source: P of each transmit SA (R391 step 3), and the heads gathered for the cut-in records: port, slot of the first
  head, heads, their bytes. -/
  leads : List (Nat × Nat) := []
  cuts : List (Nat × Nat × Nat × Bytes) := []
  startedMs : Nat := 0
  /-- The tick at which a PAIR_EXERCISE began. -/
  startedTick : Nat := 0
  /-- A resynchronisation has failed and is tried again after 1 s (R371). -/
  retry : Bool := false
  prePending : Bool := false
  /-- A planned handover: its slot, whether it is handed back, and after how many ms (R393, R397). -/
  handover : Option Nat := none
  roundTrip : Bool := false
  dwell : Nat := 100
  handBack : Bool := false
  lag : Nat := 0
  /-- The active device's BASE_MAC as mirrored (R382, R385); the EPOCH the pair shares stands with Accord. -/
  sharedMac : Option Nat := none
  merges : Table Merge := .empty
  deriving DecidableEq, Repr
/-! ## Manager and workers (13_domain) -/

/-- One domain link, DX0 to DX2 (R403 to R407). -/
structure DomLink where
  /-- A session is established (R406). -/
  up : Bool := false
  /-- This end's EPOCH since the link came up, and the partner's of the current session. -/
  epochOwn : Option Nat := none
  epochTheirs : Option Nat := none
  /-- SEQ of the next message to send, and the next one expected; a gap makes the receiver discard (R384). -/
  seqTx : Nat := 0
  seqRx : Nat := 0
  discarding : Bool := false
  /-- The last 16 KiB of messages sent: SEQ and bytes. -/
  sent : List (Nat × Bytes) := []
  /-- The partner's last TX_NS and TO nanoseconds at its receipt. -/
  txNs : Nat := 0
  rxNs : Nat := 0
  /-- The last 64 measured delays in ns, newest first (R407). -/
  delays : List Nat := []
  /-- From the partner's last KEEPALIVE: its flags and number. -/
  joined : Bool := false
  timeLocked : Bool := false
  member : Nat := 255
  deriving DecidableEq, Repr

/-- A member as the manager records it (R424). -/
structure Member where
  deviceId : Nat
  joined : Bool := true
  timeLocked : Bool := false
  /-- The millisecond at which JOINED last changed. -/
  sinceMs : Nat := 0
  lastReport : Bytes := []
  deriving DecidableEq, Repr

/-- A global operation that waits for acknowledgements of its children (R416, R417). -/
structure DomOp where
  op : Nat
  opid : Nat
  /-- The links whose GLOBAL_ACK is awaited. -/
  waiting : List Nat
  /-- Members of the subtree that completed, and the bitmap of those that did not. -/
  done : Nat := 0
  failed : Nat := 0
  deriving DecidableEq, Repr

/-- The barrier that a member holds (R416, R418). -/
structure Barrier where
  id : Nat
  own : Bool := false
  /-- The links whose subtree has arrived. -/
  links : List Nat := []
  done : Nat := 0
  failed : Nat := 0
  deriving DecidableEq, Repr

/-- A schedule whose instant lies ahead (R414): 8 SCHEDULE_ROLL, 9 GATE_EPOCH. -/
structure Schedule where
  op : Nat
  id : Nat
  sec : Nat
  ns : Nat
  deriving DecidableEq, Repr

/-- A latch instant of SNAPSHOT or RESET (R416): whether the counters are latched, and the kind of reset that this member takes. -/
structure Latch where
  sec : Nat
  ns : Nat
  snapshot : Bool
  resetKind : Option Nat
  deriving DecidableEq, Repr

/-- The domain (DOM_CONFIG R420 and what follows from it). DOMAIN_GEN and k_dom stand with the key store. -/
structure Domain where
  /-- 0 off, 1 manager, 2 worker. -/
  role : Nat := 0
  link28 : Bool := false
  timeB : Bool := false
  timeEnable : Bool := false
  community : Nat := 0
  minSeverity : Nat := 1
  domainId : Nat := 0
  slotBase : Nat := 0
  slotCount : Nat := 0
  /-- CAK, the connectivity key as DOM_CONFIG took it, and k_dlink (R405). -/
  cak : Nat := 0
  linkKey : Nat := 0
  /-- A worker has joined; the manager's domain is formed. -/
  joined : Bool := false
  member : Option Nat := none
  depth : Nat := 0
  /-- R413's step has been taken: TIME_LOCKED. -/
  stepped : Bool := false
  dx0 : DomLink := {}
  dx1 : DomLink := {}
  dx2 : DomLink := {}
  members : Table Member := .empty
  nextOpid : Nat := 1
  ops : List DomOp := []
  barrier : Option Barrier := none
  schedules : List Schedule := []
  latches : List Latch := []
  /-- Reports that wait for the uplink, oldest first (R419). -/
  reports : List Bytes := []
  /-- Reports gathered at the manager for merging: code, OBJECT, severity, member bitmap, reports. -/
  merging : List (Nat × Nat × Nat × Nat × Nat) := []
  /-- A JOIN has been refused and is retried (R409). -/
  retry : Bool := false
  /-- Commands of a BROADCAST queued in CPU_CTL, oldest first. -/
  broadcast : List (BitVec 512) := []
  deriving DecidableEq, Repr

/-! ## Time (14_time) -/

/-- A clock's value (R427): seconds, nanoseconds, fraction in 2^-32 ns. -/
structure Clock where
  sec : Nat := 0
  ns : Nat := 0
  frac : Nat := 0
  deriving DecidableEq, Repr

/-- States of a tracked domain (R429). -/
inductive DomState
  | unset | locked | lost
  deriving DecidableEq, Repr

/-- A tracked domain, TA or TB. -/
structure TimeDomain where
  clock : Clock := {}
  state : DomState := .unset
  /-- The rate word FRAC (R428). -/
  rate : Nat := 0x9999999a
  /-- HOLD in units of 100 ms (R448). -/
  hold : Nat := 20
  /-- Owned by the domain agent (R431). -/
  agent : Bool := false
  /-- A pending AT_PPS step: seconds and nanoseconds (R430). -/
  step : Option (Nat × Nat) := none
  deriving DecidableEq, Repr

/-- States of TO (R433). -/
inductive ToState
  | unset | tracking | slewing | holdover
  deriving DecidableEq, Repr

/-- An action held by one of the 64 timers (R443, R444). -/
structure TimerAction where
  owner : Nat
  /-- 2 EVENT, 3 PIN_HIGH, 4 PIN_LOW. -/
  action : Nat
  pin : Nat
  sec : Nat
  ns : Nat
  deriving DecidableEq, Repr

/-- Time. -/
structure Time where
  ta : TimeDomain := {}
  tb : TimeDomain := {}
  clock : Clock := {}
  state : ToState := .unset
  /-- The selected domain: TB when true. -/
  selected : Bool := false
  failover : Bool := false
  slewPpm : Nat := 100
  /-- The rate word TO ran at last, kept in HOLDOVER. -/
  rate : Nat := 0x9999999a
  /-- Seconds latched by each function's last read of TIM_SNAP_NS (R436). -/
  snaps : Table Nat := .empty
  /-- ROLL instants by transmit SC (R444): seconds and nanoseconds. -/
  rolls : Table (Nat × Nat) := .empty
  timers : Table TimerAction := .empty
  /-- TIM_PPS_IN_SEQ and the captures of the last accepted edge (R442). -/
  ppsSeq : Nat := 0
  ppsTo : Nat := 0
  ppsTa : Nat := 0
  ppsTb : Nat := 0
  /-- An edge has been accepted and its 1.5 s gap runs. -/
  ppsGapRuns : Bool := false
  /-- Less than 900 ms have passed since the last accepted edge: the tick of that edge. -/
  ppsTick : Option Nat := none
  /-- The PPS output is high (R441). -/
  ppsOut : Bool := false
  deriving DecidableEq, Repr

/-! ## The entropy unit (15_entropy) -/

/-- States of the entropy unit (R456). -/
inductive EntState
  | starting | ready | retest | failed | test
  deriving DecidableEq, Repr

/-- A noise source (R451, R452, R457). -/
structure Source where
  excluded : Bool := false
  /-- ENT_STATE.HEALTHY: the source passes its tests. -/
  healthy : Bool := false
  /-- Windows passed in a row since the unit last needed them, and how many it needs. -/
  passes : Nat := 0
  needs : Nat := 1
  aptMax : Nat := 0
  rctMax : Nat := 0
  deriving DecidableEq, Repr

/-- The entropy unit. -/
structure Entropy where
  state : EntState := .starting
  es0 : Source := {}
  es1 : Source := {}
  es2 : Source := {}
  es3 : Source := {}
  /-- ENT_TEST_PATTERN's MODE and SOURCE, and the pattern. -/
  mode : Nat := 0
  testSource : Nat := 0
  pattern : Bytes := []
  /-- A known-answer test has failed (R456). -/
  katFailed : Bool := false
  /-- Released raw bits in the conditioner, and seeds queued (R454). -/
  bits : Nat := 0
  seeds : Nat := 0
  /-- Requests since the last reseed (R455). -/
  requests : Nat := 0
  /-- The millisecond at which STATE last changed (R463). -/
  changedMs : Nat := 0
  /-- The function whose ENT_READ is served next (R460). -/
  nextFn : Nat := 0
  deriving DecidableEq, Repr

/-! ## Tamper, the battery domain and the GPIOs (16_tamper) -/

/-- A tamper source: its configuration in the battery policy (R467, R469, R485) and its Sillage entry (R479). -/
structure TamperSource where
  enabled : Bool := false
  rank : Nat := 0
  /-- Pins: 0 CLOSED, 1 OPEN, 2 MESH; DEBOUNCE in ms. -/
  mode : Nat := 0
  debounce : Nat := 10
  pending : Bool := false
  seen : Bool := false
  active : Bool := false
  fused : Bool := false
  selftestFail : Bool := false
  /-- RANK: the highest applied since PENDING was last clear. -/
  applied : Nat := 0
  count : Nat := 0
  firstS : Nat := 0
  lastS : Nat := 0
  deriving DecidableEq, Repr

/-- A source under the reset ranks of R467: TS0 to TS5 ALERT, TS6 to TS9 disabled, TS10 LOG, TS11 to TS15 fused off. -/
def sourceDefault (n : Nat) : TamperSource :=
  if n < 6 then { enabled := true, rank := 1 }
  else if n < 10 then {}
  else if n = 10 then { enabled := true }
  else { fused := true }

/-- A GPIO (R489): its function, 0 for a free input; its instance and inversion; the level a timer drives; held by the battery
policy. -/
structure Pin where
  function : Nat := 0
  inst : Nat := 0
  invert : Bool := false
  level : Bool := false
  battery : Bool := false
  deriving DecidableEq, Repr

/-- Tamper and the battery domain. -/
structure Tamper where
  /-- Sources that differ from their reset state, by number. -/
  sources : Table TamperSource := .empty
  /-- FAREWELL, and whether its window of 1 ms runs (R472). -/
  farewell : Bool := false
  farewellRuns : Bool := false
  otpCount : Nat := 0
  zeroisePending : Nat := 0
  pendingLost : Bool := false
  lostPower : Bool := false
  /-- BAT_SECONDS at the last power-on (R477). -/
  batBase : Nat := 0
  /-- VPP_OTP is present: the board's. -/
  vppOtp : Bool := false
  /-- GPIO 0 to 15. -/
  pins : Table Pin := .empty
  deriving DecidableEq, Repr

/-! ## Boot and identity (17_boot_and_identity) -/

/-- A bank control record (R499). -/
structure BankRecord where
  /-- ACTIVE: B when true. -/
  active : Bool := false
  trialSet : Bool := false
  trialUsed : Bool := false
  deriving DecidableEq, Repr

/-- The identity (R512): the private keys as the numbers they were drawn as, and the certificate chains. -/
structure Identity where
  rsa : Nat
  slh : Nat
  chainRsa : Bytes := []
  chainSlh : Bytes := []
  deriving DecidableEq, Repr

/-- Boot: OTP, the flash's banks and records, the running image, staging, recovery and replay. -/
structure Boot where
  /-- OTP: the lifecycle (R508), DEVICE_ID (R511), the SVN floor (R498), revoked vendor keys (R497: algorithm 0 RSA or 1 SLH-DSA,
  slot), and whether a field has no majority. -/
  lifecycle : Nat := 0
  deviceId : Nat := 0x9640000000000000
  floor : Nat := 0
  revoked : List (Nat × Nat) := []
  otpBad : Bool := false
  /-- What the board gave the last start. -/
  board : Board := {}
  /-- Flash: the contents of banks A and B from their first byte, the record in force (none: both copies invalid), the identity. -/
  bankA : Bytes := []
  bankB : Bytes := []
  record : Option BankRecord := none
  identity : Option Identity := none
  /-- BOOT_STATUS. -/
  stage : Nat := 0
  errorA : Nat := 0
  errorB : Nat := 0
  source : Nat := 0
  bank : Bool := false
  trial : Bool := false
  idValid : Bool := false
  /-- The running image: its header and the image region of the firmware SRAM. -/
  running : Bytes := []
  /-- A staging session (R504): the next offset expected. -/
  staging : Option Nat := none
  /-- The recovery window's words by index (R501). -/
  window : Table Word := .empty
  /-- BOOT_RECOVERY.LENGTH. -/
  recoveryLength : Nat := 0
  /-- BOOT_REPLAY. -/
  replayDone : Nat := 0
  replayFailed : Nat := 0
  deriving DecidableEq, Repr

/-! ## Access control and DMA (18_access_and_dma) -/

/-- A gate rule (R525). -/
structure GateRule where
  base : Nat := 0
  limit : Nat := 0
  functions : Nat := 0
  valid : Bool := false
  /-- 0 DENY, 1 READ, 2 READ_WRITE. -/
  action : Nat := 0
  debug : Bool := false
  /-- 0 register and DMA accesses, 1 register accesses, 2 DMA bursts. -/
  scope : Nat := 0
  parityFailed : Bool := false
  deriving DecidableEq, Repr

/-- The gate table (R526 to R531): rule r of set A at r, of set B at 64 + r. -/
structure Gate where
  rules : Table GateRule := .empty
  activeB : Bool := false
  loaded : Bool := false
  epoch : Nat := 0
  deriving DecidableEq, Repr

/-- A function's translation (R533). -/
structure Xlt where
  enabled : Bool := false
  root : Nat := 0
  l1 : Nat := 0
  deriving DecidableEq, Repr

/-- A cached translation (R534). -/
structure Translation where
  fn : Nat
  /-- The first function-virtual address of the page. -/
  va : Nat
  large : Bool
  write : Bool
  addr : Nat
  deriving DecidableEq, Repr

/-- The DMA engine. -/
structure Dma where
  xlt : Table Xlt := .empty
  /-- The translation cache, least recently used first. -/
  cache : List Translation := []
  /-- The next function to be served, and turns so far (R539). -/
  nextFn : Nat := 0
  turns : Nat := 0
  deriving DecidableEq, Repr

/-! ## Watchdogs (19_timeouts_and_recovery) -/

/-- A firmware core: running, its restarts of the last 60 s, and the millisecond at which it stopped. -/
structure Core where
  up : Bool := false
  restarts : List Nat := []
  downMs : Nat := 0
  deriving DecidableEq, Repr

/-- The watchdogs. -/
structure Watchdog where
  ctl : Core := {}
  acc : Core := {}
  hk : Core := {}
  stopped : Bool := false
  debugHold : Bool := false
  lastLevel : Nat := 0
  restarts : Nat := 0
  restartLimit : Nat := 3
  l6Ms : Nat := 500
  graceMs : Nat := 2000
  deriving DecidableEq, Repr

/-! ## Programmable counters and bandwidth windows (20_counters) -/

/-- A programmable counter (R569 to R573). -/
structure PmcCounter where
  value : Nat := 0
  overflow : Bool := false
  enable : Bool := false
  chain : Bool := false
  filterAll : Bool := false
  filter : Nat := 0
  event : Nat := 0
  /-- READERS: bit f lets function f read. -/
  readers : Nat := 1
  deriving DecidableEq, Repr

/-- A snapshot buffer (R578, R579): TO at the latch and the 128 slots, low and high word as one number. -/
structure Snapshot where
  sec : Nat := 0
  ns : Nat := 0
  slots : List Nat := []
  deriving DecidableEq, Repr

/-- Programmable counters, bandwidth windows, snapshots and grants. -/
structure Pmc where
  counters : Table PmcCounter := .empty
  /-- PMC_BW_WINDOW.WINDOW_US in force, and the one that applies from the next boundary (R575). -/
  windowUs : Nat := 1000
  nextUs : Nat := 1000
  /-- Bytes of the running window and totals of the last one: index 2 * q for RX, 2 * q + 1 for TX. -/
  running : Table Nat := .empty
  totals : Table Nat := .empty
  bwSeq : Nat := 0
  /-- PMC_GRANT and PMC_BW_GRANT. -/
  userRead : Nat := 0
  bwRead : Nat := 0
  bufA : Snapshot := {}
  bufB : Snapshot := {}
  /-- The buffer written last: B when true. -/
  lastB : Bool := false
  snapSeq : Nat := 0
  /-- Words latched by a read of a low word for a requester (R577): (requester, address, word). -/
  latched : List (Nat × Nat × Nat) := []
  deriving DecidableEq, Repr

/-! ## Clocks, resets and power (21_clocks_reset_power), and the I2C target (22_balls_and_electrical) -/

/-- A reset that a command has asked for (R599, 13 R416): FULL or FIRMWARE, and whether DOM_GLOBAL asked. -/
structure ResetWish where
  full : Bool
  byDomain : Bool
  deriving DecidableEq, Repr

/-- Clocks, power and resets. -/
structure Power where
  rootLock : Bool := false
  holdover : Bool := false
  holdoverSeen : Bool := false
  refclkOk : Bool := true
  pcieOk : Bool := true
  /-- REFCLK_OFFSET, as measured last. -/
  offset : Nat := 0
  /-- PWR_STATUS [31:25], CORE_OK highest. -/
  rails : Nat := 127
  overTemp : Bool := false
  /-- TJ and TJ_PEAK in degrees, CORE_CURRENT and POWER. -/
  tj : Int := 0
  tjPeak : Int := 0
  current : Nat := 0
  power : Nat := 0
  cause : Nat := 0
  hostResets : Nat := 0
  wish : Option ResetWish := none
  /-- The I2C target's register pointer (R623). -/
  pointer : Nat := 0
  deriving DecidableEq, Repr

/-! ## The whole -/

/-- What leaves the device: entries and data written to host memory, interrupt messages, read data, frames, messages, pins. -/
inductive Output
  /-- a completion written to a CQ at a bus address -/
  | completion (fn qp addr : Nat) (c : Completion)
  /-- an event written to an EQ at a bus address -/
  | event (fn addr : Nat) (e : EqEntry)
  /-- an MSI-X message -/
  | msix (fn vector : Nat)
  /-- the data that a register read returns -/
  | readData (fn : Nat) (value : Word)
  /-- a write to host memory at a function-virtual address -/
  | hostWrite (fn addr : Nat) (data : Bytes)
  /-- a write to host memory at a bus address -/
  | busWrite (addr : Nat) (data : Bytes)
  /-- a frame transmitted on a port, FCS apart; stomped: its FCS is inverted; cut: cut off by link loss -/
  | frame (port : Nat) (data : Bytes) (stomped cut : Bool)
  /-- a message sent on an auxiliary link: 0 the pair link, 1 DX0, 2 DX1, 3 DX2 -/
  | message (link : Nat) (data : Bytes)
  /-- a GPIO pin driven to a level -/
  | pin (gpio : Nat) (level : Bool)
  /-- bytes returned on the management I2C bus -/
  | i2c (data : Bytes)
  deriving DecidableEq, Repr

/-- Why the machine stops. -/
inductive Fault
  /-- Raised by no command of this model: every command of the block completes with a next state or is refused. Safe. -/
  | unreachable
  deriving DecidableEq, Repr

/-- Why a command has no meaning in the model. -/
inductive Refusal
  /-- Raised by an arm of `exec` for a command whose meaning is not written. Safe. -/
  | notModelled (mnemonic : String)
  /-- Raised by `execDebugAccess` for a write, which the gate lets through, of a memory whose contents the spec lays out nowhere. Safe. -/
  | unstatedMemory
  deriving DecidableEq, Repr

/-- The state of the block. -/
structure State where
  /-- The commands that are waiting, first in, first out. -/
  pending : List Instr := []
  /-- What has left the device, newest first. -/
  out : List Output := []
  /-- How many free values have been drawn (the model's own; notes/assumptions/1). -/
  freeIx : Nat := 0
  /-- CK_TS ticks of 1.6 ns since power-on (14 R427). -/
  tick : Nat := 0
  /-- The device has halted after a tamper response (16 R470). -/
  halted : Bool := false
  /-- Main power is present; without it only the battery domain lives (16 R478). -/
  powered : Bool := true
  /-- Registers that hold what software or the device last wrote, by interconnect address (18 R519); a register with no entry
  holds its reset value. -/
  regs : Table Word := .empty
  /-- The high word latched by the last read of a counter's low word: its address and the word (04 R142). -/
  latch : Option (Nat × Nat) := none
  /-- The 64-bit counters of BAR2 by offset. -/
  counters : Table Quad := .empty
  /-- CMD_FN_STATUS.CMD_READY. -/
  cmdReady : Bool := false
  fns : Table Function := .empty
  /-- The next function to be served (02 R47). -/
  nextFn : Nat := 0
  running : List Running := []
  holds : List Hold := []
  /-- Events held until the PF first enables its EQ (17 R502), oldest first, and whether it has. -/
  heldEvents : List Event := []
  eqSeen : Bool := false
  ports : Ports := {}
  selectors : Selectors := {}
  channels : Channels := {}
  attar : Attar := {}
  fabric : Fabric := {}
  reservoir : Reservoir := {}
  sched : Scheduling := {}
  time : Time := {}
  pair : Pair := {}
  entropy : Entropy := {}
  tamper : Tamper := {}
  boot : Boot := {}
  pmc : Pmc := {}
  accord : Accord := {}
  domain : Domain := {}
  watchdog : Watchdog := {}
  gate : Gate := {}
  power : Power := {}
  dma : Dma := {}
  deriving DecidableEq, Repr

/-- The machine right after reset. -/
def State.reset : State := {}

end Sys2Proof.Machine
end

