-- ==== Sys2Proof/Machine/Ops.lean ====
section
/-!
DEFINITION. The named operations every subsystem uses: the register bank, counters, free values, time stamps, events
(02_command_channel R63 to R66 and R636), MSI-X messages (R40, R41) and completions (R52).
-/
namespace Sys2Proof.Machine

open Sys2Proof

/-! ## Outcomes -/

/-- A command of a device that runs: the next state is `f s`. A halted device, or one without main power, takes part in nothing
until it is started again (16_tamper R474, R478). -/
def act (f : State → State) (s : State) : Host.Outcome State Fault Refusal :=
  .next (if s.halted || !s.powered || s.boot.otpBad then s else f s)

/-- A register read by a function, as `act`; a halted device, and one whose OTP does not read, answers 0 (16_tamper R474, 17 R500). -/
def actRead (fn : Nat) (f : State → State) (s : State) : Host.Outcome State Fault Refusal :=
  .next (if !s.powered then s else if s.halted || s.boot.otpBad then { s with out := .readData fn 0 :: s.out } else f s)

/-- A command that acts even on a halted device, or on the battery domain alone. -/
def always (f : State → State) (s : State) : Host.Outcome State Fault Refusal := .next (f s)

/-! ## Output and free values -/

/-- Append to the transcript of what leaves the device. -/
def emit (o : Output) (s : State) : State := { s with out := o :: s.out }

/-- Append several outputs, the first of the list first. -/
def emitAll (os : List Output) (s : State) : State := { s with out := os.reverse ++ s.out }

/-- Draw the next free value: a number of `bits` bits that nothing constrains. -/
def drawFree (bits : Nat) (s : State) : Nat × State :=
  (Config.free s.freeIx % 2 ^ bits, { s with freeIx := s.freeIx + 1 })

/-- Draw a free element of a list, `none` of an empty one. -/
def pickFree (xs : List Nat) (s : State) : Option Nat × State :=
  match xs with
  | [] => (none, s)
  | x :: rest => (some (((x :: rest)[Config.free s.freeIx % (rest.length + 1)]?).getD x), { s with freeIx := s.freeIx + 1 })

/-! ## The register bank -/

/-- The interconnect address of a BAR0 register of a function (18_access_and_dma R519). -/
def bar0 (fn off : Nat) : Nat := 0x01000000 + 0x10000 * fn + off

/-- The value of a stored register after power-on reset, by interconnect address; 0 where the chapter's table gives 0. -/
def regReset (a : Nat) : Word :=
  if a = 0x30 then 0x100                     -- SEL_LINE_SPLIT.SPLIT
  else if a = 0x34 then 0x03e87801           -- SEL_LEARN_CTRL
  else if a = 0x1804 then 0x10064            -- SA_FLUSH_CTRL
  else if a = 0x3014 then 0x103e8            -- ATT_SCRUB_CTRL
  else if a = 0x4004 then 0x1000a            -- FAB_AUDIT_CTRL
  else if a = 0x7004 then 0x18               -- RSV_SCRUB_CTRL
  else if a = 0xe010 then 7                  -- TIM_PTP_CTRL
  else if a = 0xe014 then 0x186a0            -- TIM_PPS_CTRL
  else if 0x01000000 ≤ a ∧ (a % 0x10000 = 0x200c ∨ a % 0x10000 = 0x201c ∨ a % 0x10000 = 0x202c) then 1
  else 0

/-- A stored register. -/
def reg (s : State) (a : Nat) : Word := (s.regs.find a).getD (regReset a)

/-- Store a register. -/
def setReg (a : Nat) (w : Word) (s : State) : State := { s with regs := s.regs.put (regReset a) a w }

/-- A field of a stored register. -/
def regField (s : State) (a lo width : Nat) : Nat := bitsOf (reg s a).toNat lo width

/-- One bit of a stored register. -/
def regBit (s : State) (a i : Nat) : Bool := bitOf (reg s a).toNat i

/-- Set bits of a stored register. -/
def regOr (a : Nat) (m : Word) (s : State) : State := setReg a (reg s a ||| m) s

/-- Clear bits of a stored register. -/
def regClear (a : Nat) (m : Word) (s : State) : State := setReg a (reg s a &&& ~~~m) s

/-- Count one in a 16-bit count that saturates at FFFFh, held in a register's low half. -/
def regCount16 (a : Nat) (s : State) : State :=
  setReg a (BitVec.ofNat 32 (satAdd 0xffff (reg s a).toNat 1)) s

/-! ## Functions and queue pairs -/

/-- What the channel keeps for a function. -/
def fnOf (s : State) (f : Nat) : Function := s.fns.get {} f

/-- Write what the channel keeps for a function. -/
def setFn (f : Nat) (v : Function) (s : State) : State := { s with fns := s.fns.put {} f v }

/-- A queue pair of a function. -/
def Function.qp (f : Function) (n : Nat) : QueuePair :=
  match n with
  | 0 => f.qp0
  | 1 => f.qp1
  | 2 => f.qp2
  | _ => f.qp3

/-- A function with a queue pair written. -/
def Function.setQp (f : Function) (n : Nat) (q : QueuePair) : Function :=
  match n with
  | 0 => { f with qp0 := q }
  | 1 => { f with qp1 := q }
  | 2 => { f with qp2 := q }
  | _ => { f with qp3 := q }

/-- A queue pair. -/
def qpOf (s : State) (f n : Nat) : QueuePair := (fnOf s f).qp n

/-- Write a queue pair. -/
def setQp (f n : Nat) (q : QueuePair) (s : State) : State := setFn f ((fnOf s f).setQp n q) s

/-- A queue pair register's address (02_command_channel, BAR0 queue registers). -/
def qpReg (f n off : Nat) : Nat := bar0 f (0x100 + 0x20 * n + off)

/-- CMD_QPn_CTRL.ENABLE. -/
def qpEnabled (s : State) (f n : Nat) : Bool := regBit s (qpReg f n 0x10) 0

/-- The number of SQ entries. -/
def sqSize (s : State) (f n : Nat) : Nat := 2 ^ regField s (qpReg f n 0x10) 8 4
/-- The number of CQ entries. -/
def cqSize (s : State) (f n : Nat) : Nat := 2 ^ regField s (qpReg f n 0x10) 12 4

/-- A 64-bit bus address in a LO and HI register pair. -/
def busBase (s : State) (lo : Nat) : Nat := (reg s lo).toNat + 2 ^ 32 * (reg s (lo + 4)).toNat

/-! ## Time -/

/-- TO's total nanoseconds. -/
def toTotal (s : State) : Nat := s.time.clock.sec * 1000000000 + s.time.clock.ns

/-- The 32-bit timestamp of R435 (14_time): 0 while TO is UNSET (R432). -/
def stamp (s : State) : Nat :=
  match s.time.state with
  | .unset => 0
  | _ => toTotal s % 2 ^ 32

/-- The free-running millisecond count derived from CK_TS (06_key_rollover R189): 625,000 ticks of 1.6 ns each. -/
def msNow (s : State) : Nat := s.tick / 625000

/-- Nanoseconds of the free-running count (CK_SCHED nanoseconds, 11 R344). -/
def nsNow (s : State) : Nat := s.tick * 8 / 5

/-! ## GPIOs (16_tamper R489) -/

/-- A GPIO, and the GPIOs assigned to a function of R489. -/
def pinOf (s : State) (g : Nat) : Pin := s.tamper.pins.get {} g
def setPin (g : Nat) (p : Pin) (s : State) : State := { s with tamper := { s.tamper with pins := s.tamper.pins.put {} g p } }
def pinsOf (s : State) (function : Nat) : List Nat := s.tamper.pins.keysIf (fun _ p => p.function == function)

/-- Drive a GPIO to a level, inverted where INVERT says so. -/
def drive (g : Nat) (level : Bool) (s : State) : State := emit (.pin g (level != (pinOf s g).invert)) s

/-- Drive every GPIO of a function. -/
def driveAll (function : Nat) (level : Bool) (s : State) : State := (pinsOf s function).foldl (fun s g => drive g level s) s

/-- Drive every LED of an instance: 0 CMD_READY, 1 TAMPER_LOCK, 2 PAIR_ACTIVE, 3 RSV_STATUS.DEGRADED. -/
def driveLed (inst : Nat) (level : Bool) (s : State) : State :=
  ((pinsOf s 8).filter (fun g => (pinOf s g).inst == inst)).foldl (fun s g => drive g level s) s

/-! ## Interrupts -/

/-- The MSI-X table entry's vector control register of a function's vector (02 R40; the format is PCIe's). -/
def msixControl (f v : Nat) : Nat := bar0 f (0x2000 + 16 * v + 12)

/-- Signal an MSI-X vector: a message, or the pending bit while the vector is masked (R40); IRQ_OUT is low while the PF's
vector 2 is pending (16 R489). -/
def msix (f v : Nat) (s : State) : State :=
  if regBit s (msixControl f v) 0 then
    let s := regOr (bar0 f 0x3000) (BitVec.ofNat 32 (2 ^ v)) s
    if f = 0 ∧ v = 2 then driveAll 9 false s else s
  else emit (.msix f v) s

/-! ## Events -/

/-- The number that little-endian fields of an event's bytes 20 to 31 make: (byte offset in the entry, value) pairs. -/
def detailOf (fs : List (Nat × Nat)) : Nat := (fs.map (fun f => f.2 * 2 ^ (8 * (f.1 - 20)))).foldl (· + ·) 0

/-- An event raised now, with COUNT 1. -/
def mkEvent (s : State) (code severity subject object detail : Nat) : Event :=
  { code, severity, subject, time := stamp s, object, count := 1, detail }

/-- CMD_EQ_CTRL.ENABLE. -/
def eqEnabled (s : State) (f : Nat) : Bool := regBit s (bar0 f 0x188) 0
/-- The number of EQ entries. -/
def eqSize (s : State) (f : Nat) : Nat := 2 ^ regField s (bar0 f 0x188) 8 4
/-- Whether the EQ has no free slot: every slot of an EQ is used (R65; notes/assumptions/12). -/
def eqFull (s : State) (f : Nat) : Bool := eqSize s f ≤ (fnOf s f).eqUnread

/-- Whether DEV_EVENTS_MASK masks an event: CRITICAL never (R66, R69). -/
def eventMasked (f : Function) (e : Event) : Bool :=
  e.severity < 3 && (bitOf f.groupMask (e.code / 256 - 1) || e.severity < f.minSeverity)

/-- Discard an event: CMD_EQ_LOST counts it and an EVENTS_LOST is owed (R65). -/
def loseEvent (f : Nat) (s : State) : State :=
  let s := regCount16 (bar0 f 0x194) s
  setFn f { fnOf s f with eqOwed := (fnOf s f).eqOwed + 1 } s

/-- An event's entry with PHASE and SEQUENCE zero (R63). -/
def eventBytes (e : Event) : Bytes :=
  leBytes 2 e.code ++ leBytes 1 e.severity ++ leBytes 1 e.subject ++ leBytes 4 0 ++ leBytes 4 e.time ++ leBytes 4 e.object ++
    leBytes 2 e.count ++ leBytes 2 0 ++ leBytes 12 e.detail

/-- A worker forwards what it posts to its own PF as a REPORT (13 R419): at most 256 wait. -/
def reportEvent (e : Event) (s : State) : State :=
  let d := s.domain
  if d.role ≠ 2 ∨ e.severity < d.minSeverity then s
  else if d.reports.length < 256 then { s with domain := { d with reports := d.reports ++ [eventBytes e] } }
  else { s with counters := s.counters.put 0 0xd138 ((s.counters.find 0xd138).getD 0 + 1) }

/-- Write an entry at the EQ's tail and signal its vector: 2 for CRITICAL and DMA faults, else 1 (R40, R63). -/
def writeEvent (f : Nat) (e : Event) (s : State) : State :=
  let F := fnOf s f
  let addr := busBase s (bar0 f 0x180) + 32 * F.eqTail
  let tail := (F.eqTail + 1) % eqSize s f
  let s := emit (.event f addr { event := e, phase := F.eqPhase, sequence := F.eqSeq % 2 ^ 32 }) s
  let s := setFn f
    { F with eqTail := tail, eqUnread := F.eqUnread + 1, eqSeq := F.eqSeq + 1
             eqPhase := if tail = 0 then !F.eqPhase else F.eqPhase } s
  let s := if f = 0 then reportEvent e s else s
  msix f (if e.severity = 3 ∨ e.code = 0x0f03 then 2 else 1) s

/-- Post an event to one function's EQ: the mask first (R66); discarded when the queue is disabled, stopped or full (R65). A
write that fails on PCIe sets WRITE_ERR, stops posting and signals vector 2. -/
def postTo (f : Nat) (e : Event) (s : State) : State :=
  if eventMasked (fnOf s f) e then s
  else if !eqEnabled s f || (fnOf s f).eqStopped || eqFull s f then loseEvent f s
  else if (fnOf s f).eqFails then
    let s := regOr (bar0 f 0x190) 8 s
    let s := setFn f { fnOf s f with eqStopped := true } s
    msix f 2 (loseEvent f s)
  else writeEvent f e s

/-- If events were lost and space exists, post one EVENTS_LOST with their number (R65, R67). -/
def postLost (f : Nat) (s : State) : State :=
  let F := fnOf s f
  if F.eqOwed = 0 || !eqEnabled s f || F.eqStopped || eqFull s f then s
  else
    let e := { mkEvent s 0x0101 1 0 0 0 with count := min 0xffff F.eqOwed }
    postTo f e (setFn f { F with eqOwed := 0 } s)

/-- Post an event about an object of function `owner` (R64): to the PF, and to the owner where it is a VF. Before the PF first
enables its EQ events are held, up to 64 (17 R502). -/
def post (owner : Nat) (e : Event) (s : State) : State :=
  let s := if owner = 0 then s else postTo owner e s
  if s.eqSeen then postTo 0 e s
  else if s.heldEvents.length < 64 then { s with heldEvents := s.heldEvents ++ [e] }
  else loseEvent 0 s

/-- Raise a device-wide event. -/
def raise (code severity object detail : Nat) (s : State) : State :=
  post 0 (mkEvent s code severity 0 object detail) s

/-- Raise an event about an object of function `owner`. -/
def raiseFor (owner code severity object detail : Nat) (s : State) : State :=
  post owner (mkEvent s code severity owner object detail) s

/-- Whether a hold is open for a key. -/
def holdOpen (s : State) (code scope : Nat) : Bool := s.holds.any (fun h => h.code == code && h.scope == scope)

/-- The first gathered occurrence after another one: unchanged, but SC_TAG_FAIL's byte 24 tells whether any of the window's
failures was stomped (05 R185), and PAIR_MERGE_FILL's bytes 24 to 27 count the window's frames (12 R400). -/
def joinFirst (first : Option Event) (e : Event) : Event :=
  match first with
  | none => e
  | some f =>
    if f.code = 0x040a then { f with detail := f.detail ||| e.detail / 2 ^ 32 * 2 ^ 32 }
    else if f.code = 0x0906 then { f with detail := f.detail + e.detail }
    else f

/-- Gather an occurrence into the open hold of its key. -/
def gather (code scope : Nat) (e : Event) (s : State) : State :=
  { s with holds := s.holds.map (fun h =>
      if h.code = code ∧ h.scope = scope then
        { h with gathered := h.gathered + e.count, first := some (joinFirst h.first e) }
      else h) }

/-- Post an event that R636 coalesces under the key {code, scope}: the first occurrence at once, opening a hold; an occurrence
during the hold is gathered. -/
def postHeld (owner scope : Nat) (e : Event) (s : State) : State :=
  if holdOpen s e.code scope then gather e.code scope e s
  else post owner e { s with holds := s.holds ++ [{ code := e.code, scope, gathered := 0, first := none }] }

/-- Raise a coalesced event whose key is its code and OBJECT. -/
def raiseHeld (owner code severity object detail : Nat) (s : State) : State :=
  postHeld owner object (mkEvent s code severity owner object detail) s

/-- Raise a coalesced event with a scope other than its OBJECT. -/
def raiseScoped (owner scope code severity object detail : Nat) (s : State) : State :=
  postHeld owner scope (mkEvent s code severity owner object detail) s

/-! ## Programmable counters (20_counters R569 to R573) -/

/-- A programmable counter. -/
def pmcOf (s : State) (n : Nat) : PmcCounter := s.pmc.counters.get {} n

/-- Write a programmable counter. -/
def setPmc (n : Nat) (c : PmcCounter) (s : State) : State :=
  { s with pmc := { s.pmc with counters := s.pmc.counters.put {} n c } }

/-- Whether counter `n` is the upper half of a chained pair, which ignores its own selection (R571). -/
def pmcUpper (s : State) (n : Nat) : Bool := n % 2 == 1 && (pmcOf s (n - 1)).chain

/-- A counter has wrapped (R572): OVERFLOW is set and PMC_OVERFLOW posted. -/
def pmcOverflow (n : Nat) (s : State) : State :=
  raiseHeld 0 0x1006 1 n 0 (setPmc n { pmcOf s n with overflow := true } s)

/-- Add occurrences to a counter (R569): 48 bits, or 96 with its chained partner. -/
def pmcAdd (n k : Nat) (s : State) : State :=
  let c := pmcOf s n
  if c.chain then
    let u := pmcOf s (n + 1)
    let v := c.value + 2 ^ 48 * u.value + k
    let s := setPmc (n + 1) { u with value := v / 2 ^ 48 % 2 ^ 48 } (setPmc n { c with value := v % 2 ^ 48 } s)
    if 2 ^ 96 ≤ v then pmcOverflow (n + 1) s else s
  else
    let v := c.value + k
    let s := setPmc n { c with value := v % 2 ^ 48 } s
    if 2 ^ 48 ≤ v then pmcOverflow n s else s

/-- Whether a counter counts an event of an object (R570). -/
def pmcCounts (s : State) (n : Nat) (c : PmcCounter) (ev obj : Nat) : Bool :=
  c.enable && c.event == ev && (c.filterAll || c.filter == obj) && !pmcUpper s n

/-- `k` occurrences of an event of an object are added to every counter that counts it. -/
def pmcEvent (ev obj k : Nat) (s : State) : State :=
  (s.pmc.counters.keysIf (fun n c => pmcCounts s n c ev obj)).foldl (fun s n => pmcAdd n k s) s

/-- The event and object of a 64-bit counter at a BAR2 offset (R570), where it has one. -/
def pmcOfCounter (off : Nat) : Option (Nat × Nat) :=
  if 0x200 ≤ off ∧ off < 0xa00 then some (0x100 + off % 0x80 / 8, (off - 0x200) / 0x80)
  else if 0x1000 ≤ off ∧ off < 0x1800 then some (0x110 + off % 0x80 / 8, (off - 0x1000) / 0x80)
  else if 0x2100 ≤ off ∧ off < 0x2180 then some (0x140 + off % 0x80 / 8, 0)
  else if 0x4c00 ≤ off ∧ off < 0x5080 then some (0x120 + off % 0x40 / 8, (off - 0x4c00) / 0x40)
  else if 0x5400 ≤ off ∧ off < 0x6400 then some (0x128 + off % 0x20 / 8, (off - 0x5400) / 0x20)
  else if 0x7100 ≤ off ∧ off < 0x7168 then some (0x150 + off % 0x80 / 8, 0)
  else if 0x8400 ≤ off ∧ off < 0xa440 then some (0x130 + off % 0x40 / 8, (off - 0x8400) / 0x40)
  else if 0xb100 ≤ off ∧ off < 0xb300 then some (0x138 + off % 0x20 / 8, (off - 0xb100) / 0x20)
  else none

/-! ## Counters -/

/-- The 64-bit counter at a BAR2 offset. -/
def counter (s : State) (off : Nat) : Quad := s.counters.get 0 off

/-- Add to the 64-bit counter at a BAR2 offset; it wraps. A PMC that counts its increments changes with it (R570). -/
def countBy (off n : Nat) (s : State) : State :=
  let s := { s with counters := s.counters.put 0 off (counter s off + BitVec.ofNat 64 n) }
  match pmcOfCounter off with
  | some (ev, obj) => pmcEvent ev obj n s
  | none => s

/-- Count one. -/
def count (off : Nat) (s : State) : State := countBy off 1 s

/-! ## Completions -/

/-- Signal vector 0 for completions that are not signalled yet. -/
def signalCompletions (f : Nat) (s : State) : State :=
  msix f 0 (setFn f { fnOf s f with unsignalled := 0, delayRuns := false } s)

/-- Count a completion toward vector 0 (R40): signalled at CQ_COUNT completions, every one for 0 or 1; with CQ_DELAY 0 there is
no delay (notes/assumptions/13); otherwise the delay runs from the first unsignalled one. -/
def moderate (f : Nat) (s : State) : State :=
  let ctl := bar0 f 0x1a0
  let n := (fnOf s f).unsignalled + 1
  let s := setFn f { fnOf s f with unsignalled := n, delayRuns := true } s
  if regField s ctl 0 8 ≤ 1 ∨ regField s ctl 0 8 ≤ n ∨ regField s ctl 8 16 = 0 then signalCompletions f s else s

/-- An SQ read or CQ write has failed on PCIe (R38): FETCH_ERR, QUEUE_ERROR, vector 2, and the pair stops. -/
def queueError (f n addr : Nat) (s : State) : State :=
  let s := regOr (qpReg f n 0x1c) 8 s
  let s := setQp f n { qpOf s f n with stopped := true } s
  msix f 2 (raiseFor f 0x0102 2 n (detailOf [(20, addr)]) s)

/-- Post a completion to a CQ (R52): the entry, the CQ tail and phase, the reservation given back, then vector 0. A command of no
queue pair (a replay's, 17 R516; a broadcast's, 13 R416) has none. -/
def postCompletion (c : Cmd) (status detail : Nat) (result : Nat) (s : State) : State :=
  let q := qpOf s c.fn c.qp
  let addr := busBase s (qpReg c.fn c.qp 8) + 16 * q.cqTail
  let tail := (q.cqTail + 1) % cqSize s c.fn c.qp
  if 4 ≤ c.qp then s
  else if q.cqFails then
    queueError c.fn c.qp addr (setQp c.fn c.qp { q with reserved := q.reserved - 1 } s)
  else
    let entry : Completion :=
      { tag := c.tag, status, detail, sequence := c.seq % 32768, phase := q.phase, result := BitVec.ofNat 64 result }
    let s := emit (.completion c.fn c.qp addr entry) s
    let s := setQp c.fn c.qp
      { q with cqTail := tail, unread := q.unread + 1, phase := if tail = 0 then !q.phase else q.phase
               reserved := q.reserved - 1 } s
    let s := pmcEvent 0x300 c.fn 1 s
    if c.noIntr then s else moderate c.fn s

end Sys2Proof.Machine
end

