-- ==== Sys2Proof/Machine/GateBase.lean ====
section
/-!
DEFINITION. The gate table (18_access_and_dma R518 to R526): the check of one access, what a denial does, and the commands that
reach a register through it.
-/
namespace Sys2Proof.Machine

open Sys2Proof

/-! ## The parts of the check -/

/-- The interconnect's targets (R519). -/
def hasTarget (addr : Nat) : Bool :=
  addr < 0x01200000 || (0x02000000 ≤ addr && addr < 0x02800000) || (0x04000000 ≤ addr && addr < 0x08100000) ||
    (0x09000000 ≤ addr && addr < 0x0a000000)

/-- IMAGE_BYTES of the running image (17 R495). -/
def imageBytes (s : State) : Nat := leAt s.boot.running 16 4

/-- The firmware image region (R519, R521). -/
def inImage (s : State) (addr : Nat) : Bool := 0x02000000 ≤ addr && addr < 0x02000000 + imageBytes s

/-- The locks of R521. -/
def gateLocked (s : State) (req addr : Nat) (write : Bool) : Bool :=
  if addr < 0x02800000 then write && req != 39 && inImage s addr else Config.lockedCell addr write

/-- Whether an address lies in a function's BAR0, and its offset there. -/
def inBar0 (f addr : Nat) : Bool := 0x01000000 + 0x10000 * f ≤ addr && addr < 0x01010000 + 0x10000 * f
def bar0Off (addr : Nat) : Nat := addr % 0x10000

/-- The fixed grants of R522; a DMA burst has none. -/
def fixedGrant (req addr : Nat) (dma : Bool) : Bool :=
  !dma && req < 32 && inBar0 req addr && (bar0Off addr < 0x1000 || (0x2000 ≤ bar0Off addr && bar0Off addr < 0x4000))

/-- The recovery window is mapped (17 R501). -/
def inRecovery (s : State) : Bool := s.boot.stage == 7

/-- The baseline of R522. A DMA burst touches only the buffers that CPU_CTL has bound to its command. -/
def gateBaseline (s : State) (req addr : Nat) (dma : Bool) : Bool :=
  if dma then true
  else if req < 32 then
    inBar0 req addr || (req == 0 && addr < 0x01000000 && (addr < 0x00800000 || inRecovery s))
  else req == 36 && s.boot.lifecycle ≤ 1

/-- Rule `r` of a set. -/
def gateRule (s : State) (b : Bool) (r : Nat) : GateRule := s.gate.rules.get {} (r + if b then 64 else 0)

/-- Write rule `r` of a set. -/
def setGateRule (b : Bool) (r : Nat) (v : GateRule) (s : State) : State :=
  { s with gate := { s.gate with rules := s.gate.rules.put {} (r + if b then 64 else 0) v } }

/-- Whether a rule names a requester's access. -/
def GateRule.names (r : GateRule) (req : Nat) (dma : Bool) : Bool :=
  if req = 36 then r.debug else bitOf r.functions req && (if dma then r.scope != 1 else r.scope != 2)

/-- What a rule says of an access that reaches it: `none` where it says nothing, else whether it allows. -/
def GateRule.decides (r : GateRule) (req addr : Nat) (write dma : Bool) : Option Bool :=
  if r.parityFailed then some false
  else if r.valid && decide (r.base ≤ addr / 4096) && decide (addr / 4096 ≤ r.limit) && r.names req dma then
    some (r.action == 2 || (r.action == 1 && !write))
  else none

/-- A rule's parity failure is found as the gate reads it (R526): the rule is failed and GATE_PARITY posted; CPU_HK holds the copy. -/
def gateParity (b : Bool) (r : Nat) (s : State) : State :=
  if (gateRule s b r).parityFailed then s
  else
    raiseHeld 0 0x0f02 2 (r + if b then 64 else 0) (detailOf [(20, b2n !s.watchdog.hk.up)])
      (setGateRule b r { gateRule s b r with parityFailed := true } s)

/-- The rules read in order from `r` on, up to the first that decides; `bad` are the rules whose parity fails now. -/
def gateScan (req addr : Nat) (write dma : Bool) (bad : List Nat) : Nat → Nat → State → State × Option Bool
  | 0, _, s => (s, none)
  | n + 1, r, s =>
    let s := if bad.contains r then gateParity s.gate.activeB r s else s
    match (gateRule s s.gate.activeB r).decides req addr write dma with
    | some v => (s, some v)
    | none => gateScan req addr write dma bad n (r + 1) s

/-- The verdict of R520: none allows; otherwise the reason of the denial: 1 lock, 2 rule, 3 no grant. -/
def gateCheck (req addr : Nat) (write dma : Bool) (bad : List Nat) (s : State) : State × Option Nat :=
  if gateLocked s req addr write then (s, some 1)
  else if !hasTarget addr then (s, some 3)
  else if fixedGrant req addr dma || [32, 33, 34, 37, 38, 39].contains req then (s, none)
  else
    match gateScan req addr write dma bad 64 0 s with
    | (s, some true) => (s, none)
    | (s, some false) => (s, some 2)
    | (s, none) => (s, if gateBaseline s req addr dma then none else some 3)

/-- A denial (R523): counted, captured unless a capture is held, and told to the PF. -/
def gateDeny (req addr : Nat) (write dma : Bool) (reason : Nat) (s : State) : State :=
  let s := regCount16 0x10210 (count 0x10280 s)
  let s := if regBit s 0x1020c 31 then s
    else
      let info := 2 ^ 31 + reason * 2 ^ 16 + b2n write * 2 ^ 15 + b2n dma * 2 ^ 14 + req
      setReg 0x1020c (BitVec.ofNat 32 info) (setReg 0x10208 (BitVec.ofNat 32 addr) s)
  raiseHeld 0 0x0f01 1 req (detailOf [(20, addr), (24, reason), (25, b2n write + 2 * b2n dma)]) s

/-- An access: carried out where the gate allows it, otherwise denied. -/
def gated (req addr : Nat) (write : Bool) (bad : List Nat) (body : State → State) (s : State) : State :=
  match gateCheck req addr write false bad s with
  | (s, none) => body s
  | (s, some reason) => gateDeny req addr write false reason s

/-- A write of a BAR2 register by the PF, through the gate. -/
def gatedWrite (addr : Nat) (body : State → State) (s : State) : State := gated 0 addr true [] body s

/-- A read of a BAR2 register by the PF, through the gate: a denied read returns 0. -/
def gatedRead (addr : Nat) (body : State → State) (s : State) : State :=
  match gateCheck 0 addr false false [] s with
  | (s, none) => body s
  | (s, some reason) => emit (.readData 0 0) (gateDeny 0 addr false false reason s)

/-- GATE_RULE_RESTORE: CPU_HK rewrites a failed rule from its copy (R526). -/
def execGateRuleRestore (setB : Bool) (rule : Nat) (s : State) : Host.Outcome State Fault Refusal :=
  act (fun s =>
    if s.watchdog.hk.up && rule < 64 && (gateRule s setB rule).parityFailed then
      count 0x10290 (setGateRule setB rule { gateRule s setB rule with parityFailed := false } s)
    else s) s

end Sys2Proof.Machine
end

