-- ==== Sys2Proof/Machine/Flags.lean ====
section
/-!
DEFINITION. Status codes of completions (02_command_channel R60) and the checks of a command in the order of R61, with the
choice of DETAIL that R632 gives.
-/
namespace Sys2Proof.Machine

open Sys2Proof

/-! ## Status codes (R60) -/

def stOk : Nat := 0x00
def stBusy : Nat := 0x01
def stBadOpcode : Nat := 0x02
def stBadParam : Nat := 0x03
def stNoPermission : Nat := 0x04
def stNoResource : Nat := 0x05
def stConflict : Nat := 0x06
def stTimeout : Nat := 0x07
def stIntegrity : Nat := 0x08
def stNotReady : Nat := 0x09
def stEntropyFail : Nat := 0x0a
def stTamperLock : Nat := 0x0b
def stFault : Nat := 0x0c
def stAborted : Nat := 0x0d
def stSigFail : Nat := 0x0e
def stState : Nat := 0x0f

/-- Who may issue an opcode (R75). -/
inductive Privilege
  /-- the PF only -/
  | p
  /-- the PF, or a VF acting under R74 -/
  | t
  /-- any function, on its own state -/
  | f
  deriving DecidableEq, Repr

/-- What a command's effect ends in: a completion, a wait after which another command of the table completes it, or a completion that
the effect itself has posted, because more follows it. -/
inductive Result
  | done (r : Reply)
  | wait (w : Wait)
  | posted

/-- An opcode as its row of the opcode summary (R75) and its layout give it: the checks of R61, each with its own condition,
and the effect. A condition is a truth value that holds when the check fails, with the byte that R632 names where it needs one. -/
structure OpSpec where
  opcode : Nat
  cls : Class
  privilege : Privilege
  /-- Allowed under TAMPER_LOCK (note L). -/
  underLock : Bool := false
  /-- Executes in DECOMMISSIONED (note X, or the form that X names). -/
  decommissioned : Cmd → Bool := fun _ => false
  /-- The lifecycle states that a note limits this command, or the field it uses, to. -/
  lifecycles : Cmd → Option (List Nat) := fun _ => none
  /-- The defined fields of bytes 8 to 55; every other bit of them is reserved. -/
  fields : Cmd → List Fld
  /-- Whether DATA_PTR may be given. -/
  pointer : Cmd → Bool := fun _ => false
  /-- The bytes the device reads at DATA_PTR. -/
  payloadLength : Cmd → Nat := fun _ => 0
  /-- A form that only the PF may issue (step 2). -/
  pfForm : Cmd → Bool := fun _ => false
  /-- A VF form refused at step 2 with another DETAIL (03h, tenant not key owner). -/
  vfRefused : Cmd → State → Option Nat := fun _ _ => none
  own : Cmd → State → List (Bool × Nat) := fun _ _ => []
  object : Cmd → State → Option Nat := fun _ _ => none
  missing : Cmd → State → Bool := fun _ _ => false
  objectParam : Cmd → State → List (Bool × Nat) := fun _ _ => []
  badState : Cmd → State → Bool := fun _ _ => false
  notReady : Cmd → State → Bool := fun _ _ => false
  locks : Cmd → List Lock := fun _ => []
  conflict : Cmd → State → Option Nat := fun _ _ => none
  noResource : Cmd → State → Bool := fun _ _ => false
  /-- RESULT beside a failing check: (status, DETAIL) to RESULT. -/
  failResult : Cmd → State → Nat → Nat → Nat := fun _ _ _ _ => 0
  effect : Cmd → State → State × Result

/-- The lowest byte among the conditions that hold (R632). -/
def lowestOf : List (Bool × Nat) → Option Nat
  | [] => none
  | (hit, b) :: rest =>
    match lowestOf rest with
    | none => if hit then some b else none
    | some m => if hit then some (min b m) else some m

/-- The first failure of a list of checks, in order. -/
def firstFail : List (Option (Nat × Nat)) → Option (Nat × Nat)
  | [] => none
  | some x :: _ => some x
  | none :: rest => firstFail rest

/-- A check that fails with a status and DETAIL when a condition holds. -/
def failIf (b : Bool) (status detail : Nat) : Option (Nat × Nat) := if b then some (status, detail) else none

/-- The lifecycle code (R60: DETAIL of STATE). -/
def lifecycle (s : State) : Nat := s.boot.lifecycle

/-- A tamper source. -/
def sourceOf (s : State) (n : Nat) : TamperSource := s.tamper.sources.get (sourceDefault n) n

/-- The tamper rank in force: the highest among the sources whose PENDING flag is set, 0 for none; TAMPER_LOCK stands from rank 2 on
(16_tamper R470, R471). -/
def tamperRank (s : State) : Nat :=
  ((List.range 11).map (fun n => if (sourceOf s n).pending then (sourceOf s n).applied else 0)).foldl max 0

/-- CMD_FN_STATUS.TAMPER_LOCK. -/
def tamperLock (s : State) : Bool := 2 ≤ tamperRank s

/-- The opcodes that change state which a pair mirrors (12 R381): by their own items, or as commands. -/
def mirroredCommands : List Nat := [0x0201, 0x0204, 0x0303, 0x0601, 0x0604, 0x0701, 0x0710, 0x0801, 0x0802, 0x0803]
def mirroredItems : List Nat := [0x0301, 0x0401, 0x0402, 0x0403, 0x0404, 0x0406, 0x0407, 0x0501, 0x0502, 0x0603]

/-- Whether a command is a query of an opcode that also sets. -/
def isQuery (c : Cmd) : Bool := 0x0801 ≤ c.opcode && c.opcode ≤ 0x0803 && c.get ⟨8, 0, 2⟩ == 1

/-- Whether a command changes mirrored state. -/
def mirrors (c : Cmd) : Bool := (mirroredCommands.contains c.opcode || mirroredItems.contains c.opcode) && !isQuery c

/-- Whether the pair's state forbids commands that change mirrored state (12 R372). -/
def pairForbids (c : Cmd) (s : State) : Bool :=
  mirrors c && (s.pair.mode == .sync || s.pair.mode == .standby || s.pair.mode == .isolated)

/-- The offending bytes of step 4 that every opcode shares: reserved bits (R10), and DATA_PTR (R43, 18 R532). -/
def headerErrors (spec : OpSpec) (c : Cmd) : List (Bool × Nat) :=
  [ ((c.reservedAt (spec.fields c)).isSome, (c.reservedAt (spec.fields c)).getD 0),
    (!spec.pointer c && c.dataPtr != 0, 56),
    (spec.pointer c && (c.dataPtr % 8 != 0 || decide (2 ^ 40 ≤ c.dataPtr)), 56) ]

/-- Whether an opcode's notes let it execute in the lifecycle state (R75, R508). -/
def lifecycleForbids (spec : OpSpec) (c : Cmd) (s : State) : Bool :=
  (lifecycle s == 4 && !spec.decommissioned c) ||
    (match spec.lifecycles c with
     | none => false
     | some allowed => !allowed.contains (lifecycle s))

/-- Whether a command needs an object that a running command has locked (R49). -/
def lockHeld (s : State) (ls : List Lock) : Bool := s.running.any (fun r => r.locks.any (fun l => ls.contains l))

/-- The checks of R61, the first failure first. -/
def checks (spec : OpSpec) (c : Cmd) (s : State) : Option (Nat × Nat) :=
  let vf : Bool := c.fn != 0
  firstFail [
    failIf (vf && spec.privilege == .p) stNoPermission 1,
    (if vf then (spec.vfRefused c s).map (fun d => (stNoPermission, d)) else none),
    failIf (vf && spec.pfForm c) stNoPermission 1,
    failIf (tamperLock s && !spec.underLock) stTamperLock (tamperRank s),
    (lowestOf (headerErrors spec c ++ spec.own c s)).map (fun b => (stBadParam, b)),
    (spec.object c s).map (fun d => (stNoPermission, d)),
    failIf (spec.missing c s) stState (lifecycle s),
    (lowestOf (spec.objectParam c s)).map (fun b => (stBadParam, b)),
    failIf (lifecycleForbids spec c s) stState (lifecycle s),
    failIf (vf && spec.privilege == .t && !(fnOf s c.fn).tenant.enable) stState (lifecycle s),
    failIf (spec.badState c s || pairForbids c s) stState (lifecycle s),
    failIf (spec.notReady c s) stNotReady 0,
    failIf (lockHeld s (spec.locks c)) stBusy 0,
    (spec.conflict c s).map (fun d => (stConflict, if vf then 0xff else d)),
    failIf (spec.noResource c s) stNoResource 0 ]

end Sys2Proof.Machine
end

