-- ==== Sys2Proof/Machine/Operands.lean ====
section
/-!
DEFINITION. How a command of a host queue runs: its checks, its effect, its data to DATA_PTR and its completion
(02_command_channel R51 to R54, R56, R61).
-/
namespace Sys2Proof.Machine

open Sys2Proof

/-- A signed number of `bits` bits. -/
def signedOf (bits n : Nat) : Int := if n < 2 ^ (bits - 1) then n else (n : Int) - 2 ^ bits

/-- A number as `bits` bits of two's complement. -/
def toSigned (bits : Nat) (i : Int) : Nat := (i % (2 ^ bits : Int)).toNat

/-- A number held within the range of `bits` signed bits. -/
def satSigned (bits : Nat) (i : Int) : Int := max (-(2 ^ (bits - 1) : Int)) (min (2 ^ (bits - 1) - 1 : Int) i)

/-- RESULT from (byte offset in the completion, value) pairs; bytes 8 to 15. -/
def resultOf (fs : List (Nat × Nat)) : Nat := (fs.map (fun f => f.2 * 2 ^ (8 * (f.1 - 8)))).foldl (· + ·) 0

/-- A completion with OK and a RESULT. -/
def ok (result : Nat) : Result := .done { status := stOk, result }

/-- A completion with another status. -/
def failed (status detail : Nat) : Result := .done { status, detail }

/-- Write a command's data at DATA_PTR and post its completion. -/
def finish (c : Cmd) (r : Reply) (s : State) : State :=
  let s := if r.data = [] then s else emit (.hostWrite c.fn c.dataPtr r.data) s
  postCompletion c r.status r.detail r.result s

/-- A begun command that waits. -/
def hold (spec : OpSpec) (c : Cmd) (w : Wait) (s : State) : State :=
  { s with running := s.running ++ [{ cmd := c, cls := spec.cls, locks := spec.locks c, wait := w }] }

/-- In a pair, the active device sends its partner the commands that set what no item carries (12 R381); a resynchronisation sends
them all (R391). -/
def mirrorCommand (c : Cmd) (status : Nat) (s : State) : State :=
  if status = stOk ∧ mirroredCommands.contains c.opcode ∧ !isQuery c then
    let s := { s with pair := { s.pair with history := s.pair.history ++ [c] } }
    if s.pair.mode = .active ∨ (s.pair.source ∧ s.pair.stage = .cutIn) then { s with pair := { s.pair with commands := s.pair.commands ++ [c] } } else s
  else s

/-- Run a command: the first failing check of R61 completes it without effect; otherwise its effect, then its completion. -/
def runOp (spec : OpSpec) (c : Cmd) (s : State) : State :=
  match checks spec c s with
  | some (status, detail) => postCompletion c status detail (spec.failResult c s status detail) s
  | none =>
    match spec.effect c s with
    | (t, .done r) => mirrorCommand c r.status (finish c r t)
    | (t, .wait w) => hold spec c w t
    | (t, .posted) => t

/-- The meaning of an opcode's row: the command begun with its payload read, while CPU_CTL begins commands (02 R39). -/
def hostOp (spec : OpSpec) (c : Cmd) (s : State) : Host.Outcome State Fault Refusal :=
  act (fun s => if s.cmdReady then runOp spec c s else s) s

/-- Whether a running command is one of an opcode. -/
def Running.isOp (r : Running) (opcode : Nat) : Bool := r.cmd.opcode == opcode

/-- The work of a running command is done: its completion is posted, after the DMA engine has written its data where the command was
begun by CPU_CTL and gives some (18 R538). -/
def finishRunning (r : Running) (reply : Reply) (s : State) : State :=
  match r.xfer with
  | none => finish r.cmd reply s
  | some _ =>
    if reply.data = [] then finish r.cmd reply s
    else
      let x : Xfer := { toHost := true, addr := r.cmd.dataPtr, length := reply.data.length, data := reply.data }
      { s with running := s.running ++ [{ r with wait := .transfer, xfer := some x, reply := some reply }] }

/-- Complete the running commands that satisfy a condition, each with its reply. -/
def completeRunning (p : Running → Bool) (reply : Running → Reply) (s : State) : State :=
  let done := s.running.filter p
  let s := { s with running := s.running.filter (fun r => !p r) }
  done.foldl (fun s r => finishRunning r (reply r) s) s

/-- The bytes of a header and of one record of STATS_READ (20_counters R580). -/
def statsHeader (c : Cmd) : Nat := if 3 ≤ c.get ⟨8, 0, 3⟩ then 32 else 0
def statsRecord (c : Cmd) : Nat := if c.get ⟨8, 0, 3⟩ ≤ 1 then 48 else 8

/-- RESULT of a command that stops early: how far a partial one got, in its own layout (R56); 0 for an atomic one. -/
def stopResult (r : Running) : Nat :=
  match r.xfer with
  | none => 0
  | some x =>
    if r.cmd.opcode = 0x0301 then resultOf [(8, x.done)]
    else if r.cmd.opcode = 0x0302 then resultOf [(8, x.done), (12, x.listed / 8)]
    else if r.cmd.opcode = 0x0602 then
      if r.cmd.flag 8 0 then resultOf [(8, x.moved)]
      else resultOf [(8, x.moved / 64), (12, leAt x.data (x.moved / 64 * 64) 2 % 16384)]
    else if r.cmd.opcode = 0x1002 then
      let n := (x.moved - statsHeader r.cmd) / statsRecord r.cmd
      resultOf [(8, n), (12, r.cmd.u32 12 + (if r.cmd.get ⟨8, 0, 3⟩ = 2 then 8 * n else n))]
    else 0

/-- Stop the running commands that satisfy a condition: each completes with a status, its work so far standing (R56). -/
def stopRunning (p : Running → Bool) (status detail : Nat) (s : State) : State :=
  let stopped := s.running.filter p
  let s := { s with running := s.running.filter (fun r => !p r) }
  stopped.foldl (fun s r => postCompletion r.cmd status detail (stopResult r) s) s

/-- A field of bytes 8 to 55 that fills whole bytes. -/
def fld (byte bytes : Nat) : Fld := ⟨byte, 0, 8 * bytes⟩

end Sys2Proof.Machine
end

