-- ==== Sys2Proof/Machine/Channel.lean ====
section
/-!
DEFINITION. The command channel (02_command_channel): queue pairs and the event queue, fetch, coalescing holds, moderation,
and the device group's commands that concern the channel.
-/
namespace Sys2Proof.Machine

open Sys2Proof

/-! ## Queue pairs -/

/-- The bits of a register value that CMD_QPn_CTRL keeps besides ENABLE. -/
def qpCtrlBits (w : Word) : Word := w &&& 0xff00

/-- Whether the sizes of a CMD_QPn_CTRL value are valid: 4 to 12 both. A base is aligned to 4 KiB by its register's layout. -/
def qpSizesValid (w : Word) : Bool :=
  let sq := bitsOf w.toNat 8 4
  let cq := bitsOf w.toNat 12 4
  4 ≤ sq && sq ≤ 12 && 4 ≤ cq && cq ≤ 12

/-- CMD_QPn_CTRL written with ENABLE = 1 (R36): from 0 to 1 the pair starts afresh, or CFG_ERR is set and ENABLE stays 0 for an
invalid size. `writable` says whether the outside accepts writes to the CQ. -/
def qpEnable (f n : Nat) (w : Word) (writable : Bool) (s : State) : State :=
  let ctl := qpReg f n 0x10
  if qpEnabled s f n then setReg ctl (qpCtrlBits w ||| 1) s
  else if qpSizesValid w then
    let s := setReg ctl (qpCtrlBits w ||| 1) s
    let s := setReg (qpReg f n 0x14) 0 (setReg (qpReg f n 0x18) 0 s)
    setQp f n { qpOf s f n with sqHead := 0, cqTail := 0, unread := 0, seq := 0, phase := true, reserved := 0,
                                stopped := false, cqFails := !writable } s
  else regOr (qpReg f n 0x1c) 2 (setReg ctl (qpCtrlBits w) s)

/-- CMD_QP_ENABLE. -/
def execCmdQpEnable (fn qp : Nat) (value : Word) (writable : Bool) (s : State) : Host.Outcome State Fault Refusal :=
  act (qpEnable fn qp value writable) s

/-- CMD_QPn_CTRL written with ENABLE = 0 (R37): fetching stops; fetched commands still run; a command of the pair that waits on
a DMA fault completes with ABORTED, DETAIL 04h (R58). -/
def qpDisable (f n : Nat) (w : Word) (s : State) : State :=
  let s := setReg (qpReg f n 0x10) (qpCtrlBits w) s
  stopRunning
    (fun r => r.cmd.fn == f && r.cmd.qp == n &&
      (match r.xfer with | some x => x.fault.isSome | none => false)) stAborted 4 s

/-- CMD_QP_DISABLE. -/
def execCmdQpDisable (fn qp : Nat) (value : Word) (s : State) : Host.Outcome State Fault Refusal :=
  act (qpDisable fn qp value) s

/-- The SQ doorbell (R45): the slots before TAIL become fetchable; DB_ERR for a value outside the ring or a disabled pair. -/
def sqTailWrite (f n : Nat) (w : Word) (s : State) : State :=
  let v := bitsOf w.toNat 0 12
  if qpEnabled s f n && v < sqSize s f n then setReg (qpReg f n 0x14) (BitVec.ofNat 32 v) s
  else regOr (qpReg f n 0x1c) 4 s

/-- CMD_QP_SQ_TAIL_WRITE. -/
def execCmdQpSqTailWrite (fn qp : Nat) (value : Word) (s : State) : Host.Outcome State Fault Refusal :=
  act (sqTailWrite fn qp value) s

/-- The CQ doorbell (R53): the slots before HEAD are free. -/
def cqHeadWrite (f n : Nat) (w : Word) (s : State) : State :=
  let v := bitsOf w.toNat 0 12
  let size := cqSize s f n
  if qpEnabled s f n && v < size then
    let q := qpOf s f n
    let freed := (v + size - regField s (qpReg f n 0x18) 0 12) % size
    setReg (qpReg f n 0x18) (BitVec.ofNat 32 v) (setQp f n { q with unread := q.unread - freed } s)
  else regOr (qpReg f n 0x1c) 4 s

/-- CMD_QP_CQ_HEAD_WRITE. -/
def execCmdQpCqHeadWrite (fn qp : Nat) (value : Word) (s : State) : Host.Outcome State Fault Refusal :=
  act (cqHeadWrite fn qp value) s

/-- CQ slots in use: written and not yet consumed, or reserved (R46; every slot of a CQ is used: notes/assumptions/12). -/
def cqBusy (s : State) (f n : Nat) : Nat := (qpOf s f n).unread + (qpOf s f n).reserved

/-- Whether the device may fetch the next command of a pair (R39, R45, R46); none between a DEV_RESET's completion and the reset (21
R599). -/
def fetchable (s : State) (f n : Nat) : Bool :=
  let q := qpOf s f n
  s.cmdReady && s.power.wish.isNone && qpEnabled s f n && !q.stopped && q.sqHead != regField s (qpReg f n 0x14) 0 12 &&
    cqBusy s f n < cqSize s f n

/-- A command is read from an SQ (R46): a CQ slot is reserved and SQ_HEAD advances; a read that fails on PCIe stops the pair
(R38). -/
def fetchCommand (f n : Nat) (packet : BitVec 512) (read : Bool) (s : State) : State :=
  if fetchable s f n then
    let q := qpOf s f n
    if read then
      setQp f n { q with
        sqHead := (q.sqHead + 1) % sqSize s f n
        seq := (q.seq + 1) % 32768
        reserved := q.reserved + 1
        fetched := q.fetched ++ [{ packet, seq := q.seq }] } s
    else queueError f n (busBase s (qpReg f n 0) + 64 * q.sqHead) s
  else s

/-- COMMAND_FETCH. -/
def execCommandFetch (fn qp : Nat) (packet : BitVec 512) (ok : Bool) (s : State) : Host.Outcome State Fault Refusal :=
  act (fetchCommand fn qp packet ok) s

/-! ## The event queue -/

/-- The events held until the PF's first enable are posted in the order raised (17_boot_and_identity R502). -/
def postHeldEvents (s : State) : State :=
  let es := s.heldEvents
  es.foldl (fun s e => postTo 0 e s) { s with heldEvents := [], eqSeen := true }

/-- CMD_EQ_CTRL written with ENABLE = 1 (R65): posting starts; CFG_ERR for an invalid size. `writable` says whether the outside
accepts writes to the queue. -/
def eqEnable (f : Nat) (w : Word) (writable : Bool) (s : State) : State :=
  let ctl := bar0 f 0x188
  let size := bitsOf w.toNat 8 4
  if eqEnabled s f then setReg ctl (w &&& 0xf01) s
  else if 4 ≤ size && size ≤ 12 then
    let s := setReg (bar0 f 0x18c) 0 (setReg ctl (w &&& 0xf01) s)
    let s := setFn f { fnOf s f with eqTail := 0, eqUnread := 0, eqSeq := 0, eqPhase := true, eqStopped := false,
                                     eqFails := !writable } s
    let s := if f = 0 && !s.eqSeen then postHeldEvents s else s
    postLost f s
  else regOr (bar0 f 0x190) 2 (setReg ctl (w &&& 0xf00) s)

/-- CMD_EQ_ENABLE. -/
def execCmdEqEnable (fn : Nat) (value : Word) (writable : Bool) (s : State) : Host.Outcome State Fault Refusal :=
  act (eqEnable fn value writable) s

/-- CMD_EQ_HEAD: slots before HEAD are free; one EVENTS_LOST is posted if events were lost (R65). -/
def eqHeadWrite (f : Nat) (w : Word) (s : State) : State :=
  let F := fnOf s f
  let size := eqSize s f
  let freed := (bitsOf w.toNat 0 12 + size - regField s (bar0 f 0x18c) 0 12 % size) % size
  postLost f (setReg (bar0 f 0x18c) (w &&& 0xfff) (setFn f { F with eqUnread := F.eqUnread - freed } s))

/-- CMD_EQ_HEAD_WRITE. -/
def execCmdEqHeadWrite (fn : Nat) (value : Word) (s : State) : Host.Outcome State Fault Refusal :=
  act (eqHeadWrite fn value) s

/-- CMD_EQ_LOST_READ: the count is returned and cleared (R9 RC, R65). -/
def execCmdEqLostRead (fn : Nat) (s : State) : Host.Outcome State Fault Refusal :=
  actRead fn (fun s => setReg (bar0 fn 0x194) 0 (emit (.readData fn (reg s (bar0 fn 0x194))) s)) s

/-- CQ_DELAY_EXPIRY: vector 0 is signalled for the completions not signalled yet (R40). -/
def execCqDelayExpiry (fn : Nat) (s : State) : Host.Outcome State Fault Refusal :=
  act (fun s => if (fnOf s fn).delayRuns then signalCompletions fn s else s) s

/-! ## Coalescing -/

/-- The entry posted for the occurrences a hold gathered: the first of them with their number as COUNT (R636). SC_TAG_FAIL's
DETAIL is a total: bytes 20 to 23 are the failures in the window (05 R185). -/
def heldEntry (h : Hold) (e : Event) : Event :=
  let n := min 0xffff h.gathered
  if e.code = 0x040a then { e with count := n, detail := h.gathered % 2 ^ 32 + e.detail / 2 ^ 32 * 2 ^ 32 }
  else { e with count := n }

/-- The hold of a key ends (R636): one entry for what was gathered, opening a new hold; with nothing gathered the key is free. -/
def holdExpiry (code scope : Nat) (s : State) : State :=
  match s.holds.find? (fun h => h.code == code && h.scope == scope) with
  | none => s
  | some h =>
    match h.first with
    | none => { s with holds := s.holds.filter (fun h => !(h.code == code && h.scope == scope)) }
    | some e =>
      let s := { s with holds := s.holds.map (fun h =>
        if h.code = code ∧ h.scope = scope then { h with gathered := 0, first := none } else h) }
      post e.subject (heldEntry h e) s

/-- The end of a 10 ms period of PORT_PEERS_UP, LOST or DOWN (07 R243): one entry for the peers gathered, in the next bitmap page.
The scope is the port and, times 64, the owning function. -/
def peerPeriodEnd (code scope : Nat) (s : State) : State :=
  let is (p : PeerPeriod) : Bool := p.code == code && p.port + 64 * p.owner == scope
  match s.accord.periods.find? is with
  | none => s
  | some p =>
    let page := s.accord.nextPage
    let gen := s.accord.pageGen + 1
    let s := { s with accord := { s.accord with
      periods := s.accord.periods.filter (fun q => !is q)
      pages := s.accord.pages.set page { gen, owner := p.owner, peers := p.peers }
      nextPage := (page + 1) % 16, pageGen := gen } }
    let e := mkEvent s code (if code = 0x0601 then 0 else 1) p.owner p.port
      (detailOf [(20, page), (21, if code = 0x0603 then p.cause else 0), (24, gen % 2 ^ 32)])
    post p.owner { e with count := min 0xffff p.peers.length } s

/-- EVENT_HOLD_EXPIRY: coalescing is CPU_HK's work (19 R560). -/
def execEventHoldExpiry (code scope : Nat) (s : State) : Host.Outcome State Fault Refusal :=
  act (fun s =>
    if s.watchdog.hk.up then
      if 0x0601 ≤ code ∧ code ≤ 0x0603 then peerPeriodEnd code scope s else holdExpiry code scope s
    else s) s

/-! ## DEV_EVENTS_MASK -/

/-- DEV_EVENTS_MASK (R69). -/
def specDevEventsMask : OpSpec where
  opcode := 0x0103
  cls := .a
  privilege := .f
  underLock := true
  decommissioned := fun _ => true
  fields := fun _ => [fld 8 2, ⟨10, 0, 2⟩]
  effect := fun c s =>
    let F := fnOf s c.fn
    (setFn c.fn { F with groupMask := c.u16 8, minSeverity := c.get ⟨10, 0, 2⟩ } s,
     ok (resultOf [(8, F.groupMask), (10, F.minSeverity)]))

/-- DEV_EVENTS_MASK. -/
def execDevEventsMask (c : Cmd) (s : State) : Host.Outcome State Fault Refusal := hostOp specDevEventsMask c s

/-! ## Tenants -/

/-- SCs that a function owns. -/
def scUsed (s : State) (f : Nat) : Nat := s.channels.scs.countIf (fun _ e => e.tenant == f)

/-- SAs that a function owns: those of its SCs. -/
def saUsed (s : State) (f : Nat) : Nat :=
  s.channels.sas.countIf (fun _ a => match s.channels.scs.find a.sc with | some e => e.tenant == f | none => false)

/-- Attar slots that a function owns. -/
def keyUsed (s : State) (f : Nat) : Nat := s.attar.slots.countIf (fun _ k => k.type != 0 && k.tenant == f)

/-- The sum over VFs 1 to 31, but for one of them, of a quota. -/
def quotaSum (s : State) (q : Tenant → Nat) (but : Nat) : Nat :=
  ((List.range 32).filter (fun f => f != 0 && f != but)).foldl (fun n f => n + q (fnOf s f).tenant) 0

/-- What a function may hold of a kind with a device capacity: its quota, or for the PF what no VF has reserved (R71). -/
def allowance (s : State) (q : Tenant → Nat) (capacity f : Nat) : Nat :=
  if f = 0 then capacity - quotaSum s q 0 else q (fnOf s f).tenant

def scCapacity : Nat := 131072
def saCapacity : Nat := 262144
def keyCapacity : Nat := 16384

/-- Whether a function's SC quota, or the table, has no room for `n` more (R71, R74). -/
def scFull (s : State) (f n : Nat) : Bool := allowance s (·.scQuota) scCapacity f < scUsed s f + n
/-- Whether a function's SA quota has no room for `n` more. -/
def saFull (s : State) (f n : Nat) : Bool := allowance s (·.saQuota) saCapacity f < saUsed s f + n
/-- Whether a function's key quota has no room for `n` more. -/
def keyFull (s : State) (f n : Nat) : Bool := allowance s (·.keyQuota) keyCapacity f < keyUsed s f + n

/-- DEV_TENANT_SET (R70, R71). -/
def specDevTenantSet : OpSpec where
  opcode := 0x0105
  cls := .a
  privilege := .p
  fields := fun _ => [⟨8, 0, 5⟩, ⟨9, 0, 2⟩, fld 12 4, fld 16 4, fld 20 4]
  own := fun c _ =>
    [(c.get ⟨8, 0, 5⟩ == 0, 8), (scCapacity < c.u32 12, 12), (saCapacity < c.u32 16, 16), (keyCapacity < c.u32 20, 20)]
  badState := fun c s =>
    let f := c.get ⟨8, 0, 5⟩
    c.u32 12 < scUsed s f || c.u32 16 < saUsed s f || c.u32 20 < keyUsed s f
  noResource := fun c s =>
    let f := c.get ⟨8, 0, 5⟩
    scCapacity < quotaSum s (·.scQuota) f + c.u32 12 || saCapacity < quotaSum s (·.saQuota) f + c.u32 16 ||
      keyCapacity < quotaSum s (·.keyQuota) f + c.u32 20
  effect := fun c s =>
    let f := c.get ⟨8, 0, 5⟩
    let t : Tenant := { enable := c.flag 9 0, keyOwner := c.flag 9 1, scQuota := c.u32 12, saQuota := c.u32 16, keyQuota := c.u32 20 }
    let s := setFn f { fnOf s f with tenant := t } s
    (raiseFor f 0x0104 0 f (detailOf [(20, t.scQuota), (24, t.saQuota), (28, t.keyQuota)]) s, ok 0)

/-- DEV_TENANT_SET. -/
def execDevTenantSet (c : Cmd) (s : State) : Host.Outcome State Fault Refusal := hostOp specDevTenantSet c s

/-! ## Bad accesses -/

/-- BAD_REGISTER_ACCESS (00_scope R7): GEN_BAD_ACCESS counts it; a read returns 0. -/
def execBadRegisterAccess (fn : Nat) (read : Bool) (s : State) : Host.Outcome State Fault Refusal :=
  if read then actRead fn (fun s => emit (.readData fn 0) (regCount16 (bar0 fn 8) s)) s
  else act (regCount16 (bar0 fn 8)) s

/-- GEN_BAD_ACCESS_READ: the count is returned and cleared (R9 RC). -/
def execGenBadAccessRead (fn : Nat) (s : State) : Host.Outcome State Fault Refusal :=
  actRead fn (fun s => setReg (bar0 fn 8) 0 (emit (.readData fn (reg s (bar0 fn 8))) s)) s

/-- A requester reads the low word of a 64-bit counter: it is returned and the high word latched (04_selectors R142). -/
def counterLowRead (req off : Nat) (s : State) : State :=
  let v := (counter s off).toNat
  emit (.readData req (BitVec.ofNat 32 v)) { s with latch := some (off + 4, v / 2 ^ 32) }

/-- COUNTER_LOW_READ. -/
def execCounterLowRead (off : Nat) (s : State) : Host.Outcome State Fault Refusal :=
  actRead 0 (gatedRead off (counterLowRead 0 off)) s

end Sys2Proof.Machine
end

