-- ==== Sys2Proof/Machine/PairBase.lean ====
section
/-!
DEFINITION. The pair as the frame path sees it (12_redundant_pair R371 to R377): which devices hold heads, and the log that the active
device keeps of a slot.
-/
namespace Sys2Proof.Machine

open Sys2Proof

/-- Change the pair. -/
def modPair (f : Pair → Pair) (s : State) : State := { s with pair := f s.pair }

/-- The device is in ACTIVE: it logs what it decides (R373). -/
def pairActive (s : State) : Bool := s.pair.mode == .active

/-- The device follows its partner's log (R372). -/
def pairFollows (s : State) : Bool := s.pair.mode == .standby

/-- The devices run in lockstep: frames join their leaves in the order of their heads (R374). -/
def pairLocked (s : State) : Bool := pairActive s || pairFollows s

/-- Heads wait before they are decided: for the log, or in ACTIVE for the end of their slot (R373, R374). -/
def pairHolds (s : State) : Bool :=
  match s.pair.mode with
  | .active | .standby | .sync | .isolated => true
  | _ => false

/-- The states in which commands that change mirrored state complete with STATE (R372). -/
def pairPassive (s : State) : Bool :=
  match s.pair.mode with
  | .standby | .sync | .isolated => true
  | _ => false

/-- The pair's counters (R399). -/
def pairCount (i : Nat) (s : State) : State := count (0xc100 + 8 * i) s

/-- Log a head: its port, its verdict, its first bytes (R373, R379). -/
def logHead (port verdict : Nat) (raw : Bytes) (s : State) : State :=
  if pairActive s then modPair (fun p => { p with heads := p.heads ++ [(port, verdict, raw.take 64)] }) s else s

/-- Add a release to the runs of a slot (R379): 1 to 63 frames in a row from one leaf. -/
def addRun (node leaf : Nat) : List (Nat × Nat × Nat) → List (Nat × Nat × Nat)
  | [] => [(node, leaf, 1)]
  | [(q, n, k)] => if q = node ∧ n = leaf ∧ k < 63 then [(q, n, k + 1)] else [(q, n, k), (node, leaf, 1)]
  | r :: rest => r :: addRun node leaf rest

/-- Log a release. -/
def logRun (node leaf : Nat) (s : State) : State :=
  if pairActive s then modPair (fun p => { p with runs := addRun node leaf p.runs }) s else s

/-- Log an exception (R379). -/
def logExc (kind port frame data : Nat) (s : State) : State :=
  if pairActive s then modPair (fun p => { p with excs := p.excs ++ [{ kind, port, frame := frame % 65536, data }] }) s else s

/-- Log a frame that did not end well: stomped or dropped, with the reason (R379 TAIL). -/
def logTail (f : Frame) (stomped : Bool) (reason : Nat) (s : State) : State :=
  if f.early then s else logExc 1 f.ingress f.inNo (b2n stomped * 2 ^ 36 + reason * 2 ^ 32) s

/-- A change of an object that is not a function of the log is mirrored (R381): MIRROR KIND and index. A source that has sent its tables
keeps what is written meanwhile (R391 step 2). -/
def markDirty (kind index : Nat) (s : State) : State :=
  if (pairActive s || (s.pair.source && s.pair.stage == .cutIn)) && !s.pair.dirty.contains (kind, index) then
    modPair (fun p => { p with dirty := p.dirty ++ [(kind, index)] }) s
  else s

/-- The next frame number of a port, ingress or egress (R379). -/
def takeInNo (port : Nat) (s : State) : Nat × State :=
  let n := s.pair.inNo.get 0 port
  (n, modPair (fun p => { p with inNo := p.inNo.put 0 port (n + 1) }) s)
def takeOutNo (port : Nat) (s : State) : Nat × State :=
  let n := s.pair.outNo.get 0 port
  (n, modPair (fun p => { p with outNo := p.outNo.put 0 port (n + 1) }) s)

/-- The merge that holds a line port (R387): its index and entry. -/
def mergeOf (s : State) (line : Nat) : Option (Nat × Merge) :=
  s.pair.merges.cells.find? (fun m => m.2.portA == line || m.2.portB == line)

/-- The line port whose index space and foreign keys a frame is looked up on, and on which its Accord messages arrive (R387). -/
def lookPort (s : State) (line : Nat) : Nat := match mergeOf s line with | some (_, m) => m.portA | none => line

/-- The DEVICE_ID that Accord messages carry: in a pair the lower of the two (R385). -/
def accordId (s : State) : Nat := if s.pair.mode = .off then s.boot.deviceId else min s.boot.deviceId s.pair.partnerId

/-- The device's own MAC on a line port (07 R208); the reset value of BASE_MAC is that of 07 R212. -/
def ownMac (s : State) (port : Nat) : Nat :=
  (s.accord.baseMac.getD (0x029640 * 2 ^ 24 + s.boot.deviceId % 2 ^ 18 * 64)) + port % 64

/-- The source MAC of Accord messages but CLAIM: in a pair that of the active device (R385). -/
def portMac (s : State) (port : Nat) : Nat :=
  match s.pair.mode, s.pair.sharedMac with
  | .off, _ => ownMac s port
  | _, some base => base + port % 64
  | _, none => ownMac s port

/-- SCI bytes from a MAC and a port identifier, as a table holds them. -/
def sciOf (mac pi : Nat) : Nat := leNat (beBytes 6 mac ++ beBytes 2 pi)

/-- In a pair only the active device's CPU_ACC decides, and only its engine runs (07 R238, R372). -/
def accordLeads (s : State) : Bool := s.pair.mode == .off || s.pair.mode == .active || s.pair.mode == .alone

end Sys2Proof.Machine
end

