-- ==== Sys2Proof/Machine/PortBase.lean ====
section
/-!
DEFINITION. Ports and lanes as every subsystem reads and writes them (03_lanes_and_ports): existence, rates of octet modes,
counters, and whether a port may transmit.
-/
namespace Sys2Proof.Machine

open Sys2Proof

/-! ## Access -/

/-- A configured port: client port p is p, line port p is 64 + p (R79). -/
def portOf (s : State) (p : Nat) : Option Port := s.ports.ports.find p

/-- Whether a number names a configured port. -/
def portExists (s : State) (p : Nat) : Bool := (portOf s p).isSome

/-- Change a port; nothing where there is none. -/
def modPort (p : Nat) (f : Port → Port) (s : State) : State :=
  { s with ports := { s.ports with ports := s.ports.ports.modify p f } }

/-- Write a port. -/
def setPort (p : Nat) (v : Port) (s : State) : State :=
  { s with ports := { s.ports with ports := s.ports.ports.set p v } }

/-- Remove a port. -/
def dropPort (p : Nat) (s : State) : State :=
  { s with ports := { s.ports with ports := s.ports.ports.erase p } }

/-- The PMC event of a counter of R104 (20_counters R570 014h to 017h), where it has one. -/
def pmcOfPort (i : Nat) : Option Nat :=
  match i with
  | 2 => some 0x14
  | 11 => some 0x15
  | 6 => some 0x16
  | 7 => some 0x17
  | _ => none

/-- Add to a counter of R104; a PMC that counts its increments changes with it. -/
def portCountBy (p i n : Nat) (s : State) : State :=
  let s := modPort p (fun v => { v with counters := v.counters.put 0 i (v.counters.get 0 i + BitVec.ofNat 64 n) }) s
  match pmcOfPort i with
  | some ev => pmcEvent ev p n s
  | none => s

/-- A frame of `bytes` bytes, from the destination address to the FCS, passes a port's PCS (20 R570 010h to 013h, R574): events and
the running bandwidth window. -/
def pcsPass (tx : Bool) (p bytes : Nat) (s : State) : State :=
  let ix := 2 * p + b2n tx
  let s := { s with pmc := { s.pmc with running := s.pmc.running.put 0 ix (s.pmc.running.get 0 ix + bytes) } }
  pmcEvent (0x11 + 2 * b2n tx) p bytes (pmcEvent (0x10 + 2 * b2n tx) p 1 s)

/-- Count one in a counter of R104. -/
def portCount (p i : Nat) (s : State) : State := portCountBy p i 1 s

/-- The octet of a port on its own side: index side * 8 + octet. -/
def octetOf (s : State) (i : Nat) : Octet := s.ports.octets.get {} i

/-- The OBJECT of a port event (R106): port in [5:0], side in [8]. -/
def portObject (p : Nat) : Nat := p % 64 + 256 * (p / 64)

/-! ## Octet modes (R78, R80, R83) -/

/-- The mode of quarter `q`. -/
def Octet.quarter (o : Octet) (q : Nat) : Nat :=
  match q with
  | 0 => o.q0
  | 1 => o.q1
  | 2 => o.q2
  | _ => o.q3

/-- The rate code of the port whose first lane is offset `i` of an octet, 0 where no port begins there. -/
def slotRate (o : Octet) (i : Nat) : Nat :=
  match o.quarter (i / 2) with
  | 1 => if i % 2 = 0 then 4 else 0
  | 2 => 3
  | 3 => 2
  | 4 => 1
  | 5 => if i % 4 = 0 then 5 else 0
  | 6 => if i = 0 then 6 else 0
  | _ => 0

/-- The lanes of a port of a rate (R80). -/
def rateLanes (rate : Nat) : Nat :=
  match rate with
  | 6 => 8
  | 5 => 4
  | 4 => 2
  | _ => 1

/-- Whether a FEC code is one of the rate's choices (R80). -/
def fecAllowed (rate fec : Nat) : Bool :=
  match rate with
  | 1 => fec ≤ 1
  | 2 => fec ≤ 2
  | _ => fec == 3

/-! ## The slot byte (R83) -/

def Port.fec (p : Port) : Nat := bitsOf p.slot 0 3
def Port.train (p : Port) : Bool := bitOf p.slot 3
def Port.an (p : Port) : Bool := bitOf p.slot 4
def Port.adminUp (p : Port) : Bool := bitOf p.slot 5
/-- LINK_UP (R88). -/
def Port.linkUp (p : Port) : Bool := p.bringup == .up

/-- Step 1 of R88: where bring-up begins for a slot byte. -/
def startBringup (p : Port) : Bringup :=
  if !p.adminUp then .off else if p.an then .negotiating else if p.train then .training else .locking

/-! ## Transmission -/

/-- Whether the pair's state gates a line port (12_redundant_pair R386): in SYNC and ISOLATED every line port, in STANDBY those
of GATE_MASK. -/
def lineGated (s : State) (line : Nat) : Bool :=
  match s.pair.mode with
  | .sync => true
  | .isolated => true
  | .standby => bitOf s.pair.gateMask line
  | _ => false

/-- Whether a transmitter is squelched by a tamper response of rank SQUELCH or higher, or gated (R93). Client transmitters
stay on under a tamper response (16_tamper R472). -/
def squelched (s : State) (p : Nat) : Bool :=
  64 ≤ p && (tamperLock s || lineGated s (p - 64))

/-- Whether a port is in PCS or SERIAL loopback (20 R583). -/
def Port.nearLoop (p : Port) : Bool := p.loopback == 1 || p.loopback == 2

/-- Whether a port is PORT_B of a merge, on which the device transmits nothing (12 R387). -/
def mergedB (s : State) (p : Nat) : Bool := 64 ≤ p && s.pair.merges.cells.any (fun m => m.2.portB == p - 64)

/-- Whether frames may leave on a port (R92): link up, ADMIN_UP, not squelched, not sending idle under a remote fault, not in FAR
loopback. Near-end loops run whatever is squelched (20 R584). -/
def mayTransmit (s : State) (p : Nat) : Bool :=
  match portOf s p with
  | none => false
  | some v => v.linkUp && v.adminUp && !v.idleForRemote && v.loopback != 3 && !mergedB s p && (v.nearLoop || !squelched s p)

/-- The port that receives a client side's or line side's octet: pipe number 0 to 7. -/
def pipeOf (p : Nat) : Nat := p % 64 / 8

/-- The ingress pipe of a port: 0 to 7 CI, 8 to 15 LI (04 R142). -/
def ingressPipe (p : Nat) : Nat := p / 64 * 8 + pipeOf p

end Sys2Proof.Machine
end

