-- ==== Sys2Proof/Machine/Egress.lean ====
section
/-!
DEFINITION. The transmitting end of a port: frames that have left, loopback, and the frames the device itself generates
(01_architecture R24, 03_lanes_and_ports R104, 20_counters R583 and R584).
-/
namespace Sys2Proof.Machine

open Sys2Proof

/-- An egress port. -/
def egressOf (s : State) (p : Nat) : Egress := s.fabric.egress.get {} p

/-- Write an egress port. -/
def setEgress (p : Nat) (e : Egress) (s : State) : State :=
  { s with fabric := { s.fabric with egress := s.fabric.egress.put {} p e } }

/-- A frame has passed a port's transmitter: the wire carries it unless a loop without TX_ON or a squelch keeps it inside; under
PCS or SERIAL loopback it comes back to the port's own receiver. -/
def onWire (p : Nat) (data : Bytes) (stomped cut : Bool) (s : State) : State :=
  match portOf s p with
  | none => s
  | some v =>
    if v.nearLoop then
      let s := setPort p { v with looped := v.looped ++ [(data, stomped || cut)] } s
      if v.loopTxOn && !squelched s p then emit (.frame p data stomped cut) s else s
    else emit (.frame p data stomped cut) s

/-- A frame has been transmitted to its end (R104): whole, or stomped. -/
def transmitted (p : Nat) (data : Bytes) (stomped : Bool) (s : State) : State :=
  let len := data.length + 4
  let s := pcsPass true p len s
  let s := if stomped then portCount p 11 s else portCountBy p 10 len (portCount p 9 s)
  onWire p data stomped false s

/-- A frame is cut off in transmission by link loss (R92): it is counted there. -/
def transmissionCut (p : Nat) (data : Bytes) (s : State) : State :=
  onWire p data false true (portCount p 12 (pcsPass true p data.length s))

/-- The device-generated frames that waited for the end of a frame leave (01 R24). -/
def sendWaiting (p : Nat) (s : State) : State :=
  let e := egressOf s p
  if e.tx.isSome then s
  else e.generated.foldl (fun s d => transmitted p d false s) (setEgress p { e with generated := [] } s)

/-- A device-generated frame enters a line egress pipe (01 R24): at once between frames, or after the frame in transmission. It is
not sent on a port that may not transmit (03 R92). Answers whether it is sent. -/
def sendGenerated (p : Nat) (data : Bytes) (s : State) : Bool × State :=
  if mayTransmit s p then
    let e := egressOf s p
    (true, sendWaiting p (setEgress p { e with generated := e.generated ++ [data] } s))
  else (false, s)

end Sys2Proof.Machine
end

