-- ==== Sys2Proof/Machine/EntropyBase.lean ====
section
/-!
DEFINITION. The entropy unit as its consumers see it (15_entropy R454, R455, R459, R465).
-/
namespace Sys2Proof.Machine

open Sys2Proof

/-- The counters of R465. -/
def entCount (i n : Nat) (s : State) : State := countBy (0xf100 + 8 * i) n s

/-- Reseeds that fall before the last of `n` more requests (R455). -/
def reseedsFor (s : State) (n : Nat) : Nat := (s.entropy.requests + n - 1) / 65536

/-- Whether the unit delivers `n` requests to a consumer now (R455, R459): READY, with a seed for every reseed. -/
def entServes (s : State) (n : Nat) : Bool := s.entropy.state == .ready && reseedsFor s n ≤ s.entropy.seeds

/-- The unit serves `n` generate requests that deliver `bytes` bytes (R455, R465). -/
def entServe (n bytes : Nat) (s : State) : State :=
  let k := reseedsFor s n
  let s := { s with entropy := { s.entropy with
    requests := s.entropy.requests + n - 65536 * k, seeds := s.entropy.seeds - k } }
  entCount 2 k (entCount 1 n (entCount 0 bytes s))

end Sys2Proof.Machine
end

