-- ==== Sys2Proof/Machine/SelTables.lean ====
section
/-!
DEFINITION. The selector tables and their register block (04_selectors): entry layouts, keyed places, insertion policies,
parity, and the four SEL_CMD operations.
-/
namespace Sys2Proof.Machine

open Sys2Proof

/-! ## CRC-32C -/

/-- One bit of the reflected CRC-32C. -/
def crcBit (c : Nat) : Nat := if c % 2 = 1 then (c / 2) ^^^ 0x82f63b78 else c / 2

/-- CRC-32C of bytes (04 R125; 12_redundant_pair R378): initial value and final complement FFFF_FFFFh (PRESUMED, the usual
Castagnoli form; notes/assumptions/4). -/
def crc32c (bs : Bytes) : Nat :=
  (bs.foldl (fun c b => crcBit (crcBit (crcBit (crcBit (crcBit (crcBit (crcBit (crcBit (c ^^^ b.toNat)))))))))
    0xffffffff) ^^^ 0xffffffff

/-! ## Entry layouts -/

/-- The client direct entry (R109). -/
structure ClientEntry where
  valid : Bool
  action : Nat
  buffered : Bool
  mcast : Bool
  meterEn : Bool
  txSc : Nat
  meter : Nat
  queue : Nat
  deriving DecidableEq, Repr

/-- Read a client direct entry. -/
def clientEntry (d : Nat) : ClientEntry where
  valid := bitOf d 0
  action := bitsOf d 1 2
  buffered := bitOf d 3
  mcast := bitOf d 4
  meterEn := bitOf d 5
  txSc := bitsOf d 32 17
  meter := bitsOf d 64 18
  queue := bitsOf d 96 17

/-- The bits of the client direct entry that are not reserved (R109). -/
def clientMask : Nat := 0x3f + (2 ^ 17 - 1) * 2 ^ 32 + (2 ^ 18 - 1) * 2 ^ 64 + (2 ^ 17 - 1) * 2 ^ 96

/-- The line direct or foreign-SCI entry (R113, R116). `port` is the foreign entry's PORT. -/
structure LineEntry where
  sci : Nat
  rxSc : Nat
  meter : Nat
  queue : Nat
  valid : Bool
  bypass : Bool
  accord : Bool
  drop : Bool
  buffered : Bool
  meterEn : Bool
  port : Nat
  deriving DecidableEq, Repr

/-- Read a line direct or foreign-SCI entry. -/
def lineEntry (d : Nat) : LineEntry where
  sci := bitsOf d 0 64
  rxSc := bitsOf d 64 17
  meter := bitsOf d 81 18
  queue := bitsOf d 99 17
  valid := bitOf d 116
  bypass := bitOf d 117
  accord := bitOf d 118
  drop := bitOf d 119
  buffered := bitOf d 120
  meterEn := bitOf d 121
  port := bitsOf d 122 6

/-- Write a line direct or foreign-SCI entry. -/
def LineEntry.word (e : LineEntry) : Nat :=
  e.sci % 2 ^ 64 + e.rxSc % 2 ^ 17 * 2 ^ 64 + e.meter % 2 ^ 18 * 2 ^ 81 + e.queue % 2 ^ 17 * 2 ^ 99 + b2n e.valid * 2 ^ 116 +
    b2n e.bypass * 2 ^ 117 + b2n e.accord * 2 ^ 118 + b2n e.drop * 2 ^ 119 + b2n e.buffered * 2 ^ 120 +
    b2n e.meterEn * 2 ^ 121 + e.port % 2 ^ 6 * 2 ^ 122

/-- Reverse the bytes of an `n`-byte number. -/
def swapBytes (n v : Nat) : Nat := beNat (leBytes n v)

/-- The port identifier of an SCI held with its wire bytes in ascending order: bytes 6 and 7, big-endian. -/
def sciPortId (sci : Nat) : Nat := swapBytes 2 (bitsOf sci 48 16)

/-- An LPM entry (R120): PREFIX as a big-endian number of 32 or 128 bits. -/
structure LpmEntry where
  prefixBits : Nat
  space : Nat
  length : Nat
  valid : Bool
  policy : Nat
  deriving DecidableEq, Repr

/-- Read an LPM entry; family 0 IPv4, 1 IPv6. -/
def lpmEntry (fam d : Nat) : LpmEntry :=
  if fam = 0 then
    { prefixBits := swapBytes 4 (bitsOf d 0 32), space := bitsOf d 32 8, length := bitsOf d 40 8, valid := bitOf d 48,
      policy := bitsOf d 64 18 }
  else
    { prefixBits := swapBytes 16 (bitsOf d 0 128), space := bitsOf d 128 8, length := bitsOf d 136 8, valid := bitOf d 144,
      policy := bitsOf d 160 18 }

/-- Address bits of a family. -/
def famBits (fam : Nat) : Nat := if fam = 0 then 32 else 128

/-- An address cut to a prefix length. -/
def maskTo (fam len addr : Nat) : Nat := addr - addr % 2 ^ (famBits fam - len)

/-- The bits of each table's entry that are not reserved. -/
def entryMask (table : Nat) : Nat :=
  match table with
  | 0 => clientMask
  | 1 => 2 ^ 122 - 1
  | 2 => 2 ^ 117 - 1 + 7 * 2 ^ 119 + 2 ^ 6 * 2 ^ 122 - 2 ^ 122
  | 3 => 2 ^ 49 - 1 + (2 ^ 18 - 1) * 2 ^ 64
  | _ => 2 ^ 145 - 1 + (2 ^ 18 - 1) * 2 ^ 160

/-- The bytes of an entry in software format. -/
def entryBytes (table : Nat) : Nat := if table = 4 then 32 else 16

/-- The number of entries of a table (01 R28, R124). -/
def tableSize (table : Nat) : Nat :=
  match table with
  | 0 => 262144
  | 1 => 262144
  | 2 => 4096
  | 3 => 131072
  | 4 => 32768
  | _ => 4096

/-- The VALID bit of each table's entry. -/
def entryValid (table d : Nat) : Bool :=
  match table with
  | 0 => bitOf d 0
  | 3 => bitOf d 48
  | 4 => bitOf d 144
  | _ => bitOf d 116

/-! ## Table access -/

/-- A selector table by TABLE code 0 to 4. -/
def Selectors.table (t : Selectors) (n : Nat) : Table SelEntry :=
  match n with
  | 0 => t.client
  | 1 => t.line
  | 2 => t.foreign
  | 3 => t.lpm4
  | _ => t.lpm6

/-- The tables with one written. -/
def Selectors.setTable (t : Selectors) (n : Nat) (v : Table SelEntry) : Selectors :=
  match n with
  | 0 => { t with client := v }
  | 1 => { t with line := v }
  | 2 => { t with foreign := v }
  | 3 => { t with lpm4 := v }
  | _ => { t with lpm6 := v }

/-- An empty entry. -/
def emptyEntry : SelEntry := { data := 0 }

/-- The entry of a table at an index. -/
def selEntry (s : State) (table idx : Nat) : SelEntry := (s.selectors.table table).get emptyEntry idx

/-- Write an entry whole (01 R29). -/
def putEntry (table idx : Nat) (e : SelEntry) (s : State) : State :=
  { s with selectors := s.selectors.setTable table ((s.selectors.table table).put emptyEntry idx e) }

/-- Whether an entry is in use and its parity holds. -/
def SelEntry.live (e : SelEntry) (table : Nat) : Bool := entryValid table e.data && !e.parityFailed

/-- How many entries of a table are valid. -/
def validCount (s : State) (table : Nat) : Nat := (s.selectors.table table).countIf (fun _ e => entryValid table e.data)

/-- Post SEL_FILL_HIGH when a keyed table rises above 90% or falls below 85% (R143). -/
def noteFill (table : Nat) (s : State) : State :=
  let used := validCount s table
  let high := s.selectors.fillHigh.contains table
  let set (l : List Nat) (s : State) : State := { s with selectors := { s.selectors with fillHigh := l } }
  if !high && 9 * tableSize table < 10 * used then
    raiseHeld 0 0x0303 1 table (detailOf [(20, 1), (24, used)]) (set (s.selectors.fillHigh ++ [table]) s)
  else if high && 20 * used < 17 * tableSize table then
    raiseHeld 0 0x0303 1 table (detailOf [(20, 0), (24, used)]) (set (s.selectors.fillHigh.filter (· != table)) s)
  else s

/-- An entry fails its parity (R134): counted, posted, and in the parity-failed state until it is written or cleared; a
learning entry is removed; one that has failed already is not found again. `how`: 0 lookup, 1 scrub, 2 READ. -/
def failParity (table pipe idx how : Nat) (s : State) : State :=
  if table != 5 && (selEntry s table idx).parityFailed then s else
  let s := regCount16 (0x40 + 4 * table) s
  let s := raiseScoped 0 table 0x0301 2 (idx + table * 2 ^ 20 + pipe * 2 ^ 23) (detailOf [(20, how)]) s
  if table = 5 then
    { s with selectors := { s.selectors with learned := s.selectors.learned.erase (4096 * pipe + idx) } }
  else putEntry table idx { selEntry s table idx with parityFailed := true } s

/-! ## LPM lengths (R123) -/

/-- The filter and bitmap record of a family and length. -/
def lengthOf (s : State) (fam len : Nat) : LpmLength := s.selectors.lengths.get {} (256 * fam + len)

/-- Write the filter and bitmap record of a length. -/
def setLength (fam len : Nat) (v : LpmLength) (s : State) : State :=
  { s with selectors := { s.selectors with lengths := s.selectors.lengths.put {} (256 * fam + len) v } }

/-- A clear of an LPM entry counts toward the rebuild of its length's filter. -/
def countClear (fam len : Nat) (s : State) : State :=
  setLength fam len { lengthOf s fam len with clears := (lengthOf s fam len).clears + 1 } s

/-- BLOOM_REBUILD: after 1,024 clears on a length its filter is rebuilt and swapped in whole (R123). -/
def execBloomRebuild (family length : Nat) (s : State) : Host.Outcome State Fault Refusal :=
  act (fun s =>
    let l := lengthOf s family length
    if 1024 ≤ l.clears then setLength family length { l with clears := l.clears - 1024, build := l.build + 1 } s else s) s

/-- A filter or bitmap word fails parity (R137): the length is treated as present until it is rebuilt. -/
def failFilter (fam len : Nat) (s : State) : State :=
  raiseScoped 0 (3 + fam) 0x0302 1 (len + 256 * fam) 0 (setLength fam len { lengthOf s fam len with parityFailed := true } s)

/-- FILTER_PARITY_REBUILD: the word's filter and bitmap are rebuilt from the pool (R137). -/
def execFilterParityRebuild (family length : Nat) (s : State) : Host.Outcome State Fault Refusal :=
  act (fun s =>
    let l := lengthOf s family length
    if l.parityFailed then setLength family length { l with parityFailed := false, build := l.build + 1 } s else s) s

/-! ## Places of keyed entries -/

/-- Whether two entries of a keyed table have the same key (R116, R131). -/
def sameKey (table a b : Nat) : Bool :=
  match table with
  | 2 => bitsOf a 0 64 == bitsOf b 0 64 && bitsOf a 122 6 == bitsOf b 122 6
  | 3 => bitsOf a 0 48 == bitsOf b 0 48
  | _ => bitsOf a 0 144 == bitsOf b 0 144

/-- The index of the valid entry with a key. -/
def findKey (s : State) (table d : Nat) : Option Nat :=
  ((s.selectors.table table).keysIf (fun _ e => entryValid table e.data && sameKey table e.data d)).head?

/-- The places an entry of a keyed table may take (R128): every index of the foreign-SCI table, the eight entries of two buckets
of an LPM pool. -/
def candidates (table d : Nat) : List Nat :=
  if table = 2 then List.range 4096
  else
    let fam := table - 3
    let e := lpmEntry fam d
    let buckets := tableSize table / 4
    let b0 := Config.lpmHash fam 0 e.space e.length e.prefixBits % buckets
    let b1 := Config.lpmHash fam 1 e.space e.length e.prefixBits % buckets
    (List.range 4).map (4 * b0 + ·) ++ (List.range 4).map (4 * b1 + ·)

/-- SEL_POLICY's code for a keyed table (R128). -/
def insertionPolicy (s : State) (table : Nat) : Nat := regField s 0x28 (2 * (table - 2)) 2

/-- The candidate written earliest. -/
def oldestOf (s : State) (table : Nat) : List Nat → Option Nat
  | [] => none
  | i :: rest =>
    match oldestOf s table rest with
    | none => some i
    | some j => if (selEntry s table i).order ≤ (selEntry s table j).order then some i else some j

/-- Write an entry at an index with the next insertion order; LPM lookups see it at once (R123). -/
def storeEntry (table idx d : Nat) (s : State) : State :=
  let s := markDirty 1 (table * 2 ^ 24 + idx) (putEntry table idx { data := d, order := s.selectors.nextOrder } s)
  { s with selectors := { s.selectors with nextOrder := s.selectors.nextOrder + 1 } }

/-- Make an entry invalid. -/
def clearEntry (table idx : Nat) (s : State) : State :=
  let e := selEntry s table idx
  let s := markDirty 1 (table * 2 ^ 24 + idx) (putEntry table idx emptyEntry s)
  let s := if 3 ≤ table && entryValid table e.data then countClear (table - 3) (lpmEntry (table - 3) e.data).length s else s
  if 2 ≤ table then noteFill table s else s

/-- What a keyed insertion comes to: the index written and the entry evicted, if any. -/
inductive Placed
  | at (idx : Nat) (evicted : Option Nat)
  | noRoom
  deriving DecidableEq, Repr

/-- Insert an entry with no match under a policy (R128): a free place, chosen freely (notes/assumptions/5), else the policy. -/
def insertEntry (table policy d : Nat) (s : State) : Placed × State :=
  let cs := candidates table d
  match pickFree (cs.filter (fun i => !(s.selectors.table table).has i)) s with
  | (some i, s) => (.at i none, noteFill table (storeEntry table i d s))
  | (none, s) =>
    let evict (i : Nat) (s : State) : Placed × State :=
      (.at i (some (selEntry s table i).data), storeEntry table i d (clearEntry table i s))
    match policy with
    | 1 =>
      match oldestOf s table cs with
      | some i => evict i s
      | none => (.noRoom, s)
    | 2 =>
      if entServes s 1 then
        match pickFree cs (entServe 1 4 s) with
        | (some i, s) => evict i s
        | (none, s) => (.noRoom, s)
      else
        match oldestOf s table cs with
        | some i => evict i (count (0xf100 + 8 * 7) s)
        | none => (.noRoom, s)
    | _ => (.noRoom, s)

/-! ## What a write is refused for -/

/-- The conditions of R110 on a client entry, reserved bits included. -/
def clientRefused (d : Nat) : Bool :=
  let e := clientEntry d
  e.action == 3 || (e.action == 2 && d - d % 8 != 0) || (e.action == 1 && e.txSc != 0) ||
    (!e.buffered && (e.queue != 0 || e.mcast)) || (!e.meterEn && e.meter != 0) ||
    (bitOf e.meter 17 && bitsOf e.meter 12 5 != 0)

/-- The conditions on a line or foreign entry's meter and queue that R110 gives for its path. -/
def lineFieldsRefused (e : LineEntry) : Bool :=
  (!e.buffered && e.queue != 0) || (!e.meterEn && e.meter != 0) || (bitOf e.meter 17 && bitsOf e.meter 12 5 != 0)

/-- The conditions of R114 on a line direct entry at an index. -/
def lineRefused (idx d : Nat) : Bool :=
  let e := lineEntry d
  let ident := idx % 4096
  (ident == 0 && !e.bypass) || (ident != 0 && e.bypass) || (!e.bypass && sciPortId e.sci != ident) || e.accord ||
    lineFieldsRefused e

/-- The conditions of R120 on an LPM entry. -/
def lpmRefused (fam d : Nat) : Bool :=
  let e := lpmEntry fam d
  famBits fam < e.length || e.prefixBits % 2 ^ (famBits fam - e.length) != 0

/-- Whether an entry is refused with BAD_PARAM (R110, R114, R116, R120, R131). An entry with VALID = 0 acts as a CLEAR, and
only its reserved bits are looked at (notes/assumptions/6). -/
def entryRefused (table idx d : Nat) : Bool :=
  d &&& entryMask table != d ||
    (entryValid table d &&
      (match table with
       | 0 => clientRefused d
       | 1 => lineRefused idx d
       | 2 => lineFieldsRefused (lineEntry d)
       | 3 => lpmRefused 0 d
       | _ => lpmRefused 1 d))

/-- Whether a line direct index belongs to Accord, or CURRENT is not set yet (R114, R133). -/
def accordOwns (s : State) (idx : Nat) : Bool := s.selectors.lineSplit ≤ idx % 4096

/-- Whether a running SEL_BULK_LOAD holds an entry (R131 LOCKED, R139). -/
def bulkHolds (s : State) (table idx : Nat) : Bool :=
  s.running.any (fun r => r.locks.any (fun l =>
    match l with
    | .selTable t => t == table
    | .selEntries t start n => t == table && start ≤ idx && idx < start + n
    | _ => false))

/-! ## The register block -/

/-- SEL_DATA as one number of 32 bytes. -/
def selData (s : State) : Nat :=
  (List.range 8).foldl (fun n i => n + (reg s (4 + 4 * i)).toNat * 2 ^ (32 * i)) 0

/-- Write SEL_DATA. -/
def setSelData (d : Nat) (s : State) : State :=
  (List.range 8).foldl (fun s i => setReg (4 + 4 * i) (BitVec.ofNat 32 (bitsOf d (32 * i) 32)) s) s

/-- Set SEL_STATUS.RESULT, INDEX and EVICTED. -/
def selDone (result idx : Nat) (evicted : Bool) (s : State) : State :=
  { s with selectors := { s.selectors with statusResult := result, statusIndex := idx, statusEvicted := evicted } }

/-- The fields of a SEL_CMD value (04, SEL_CMD). -/
def cmdIndex (w : Word) : Nat := bitsOf w.toNat 12 18
def cmdPipe (w : Word) : Nat := bitsOf w.toNat 8 3
def cmdTable (w : Word) : Nat := bitsOf w.toNat 4 3

/-- SEL_CMD.PIPE or TABLE outside its range (R131). -/
def cmdRefused (w : Word) : Bool := 6 ≤ cmdTable w || (cmdTable w != 5 && cmdPipe w != 0)

/-- Store SEL_CMD's writable bits. -/
def storeSelCmd (w : Word) (s : State) : State := setReg 0 (w &&& 0x3ffff773) s

/-- A learning entry in software format (R124). -/
def Learned.word (e : Learned) : Nat :=
  e.sci % 2 ^ 64 + e.mac % 2 ^ 48 * 2 ^ 64 + (e.port % 64 + b2n e.known * 64 + 128) * 2 ^ 112 +
    (e.age % 128 + b2n e.notified * 128) * 2 ^ 120

/-- SEL_CMD READ (R131). `upset`: the entry read fails its parity. -/
def selRead (w : Word) (upset : Bool) (s : State) : State :=
  let s := storeSelCmd w s
  let t := cmdTable w
  let i := cmdIndex w
  if cmdRefused w || tableSize t ≤ i then selDone 3 i false s
  else
    let s := if upset then failParity t (cmdPipe w) i 2 s else s
    if t = 5 then
      if upset then selDone 4 i false (setSelData 0 s)
      else
        match s.selectors.learned.find (4096 * cmdPipe w + i) with
        | some e => selDone 0 i false (setSelData e.word s)
        | none => selDone 0 i false (setSelData 0 s)
    else if (selEntry s t i).parityFailed then selDone 4 i false (setSelData 0 s)
    else selDone 0 i false (setSelData (selEntry s t i).data s)

/-- SEL_CMD_READ. -/
def execSelCmdRead (value : Word) (upset : Bool) (s : State) : Host.Outcome State Fault Refusal := act (gatedWrite 0 (selRead value upset)) s

/-- SEL_CMD WRITE (R128 to R131). -/
def selWrite (w : Word) (s : State) : State :=
  let s := storeSelCmd w s
  let t := cmdTable w
  let i := cmdIndex w
  let d := bitsOf (selData s) 0 (8 * entryBytes t)
  if cmdRefused w then selDone 3 i false s
  else if t = 5 then selDone 5 i false s
  else if t ≤ 1 && tableSize t ≤ i then selDone 3 i false s
  else if t = 1 && accordOwns s i then selDone 5 i false s
  else if entryRefused t i d then selDone 3 i false s
  else if t ≤ 1 then
    if bulkHolds s t i then selDone 6 i false s
    else if entryValid t d then selDone 0 i false (storeEntry t i d s)
    else selDone 0 i false (clearEntry t i s)
  else if bulkHolds s t i then selDone 6 i false s
  else
    match findKey s t d with
    | some j =>
      if entryValid t d then selDone 0 j false (storeEntry t j d s) else selDone 0 j false (clearEntry t j s)
    | none =>
      if entryValid t d then
        match insertEntry t (insertionPolicy s t) d s with
        | (.at j none, s) => selDone 0 j false s
        | (.at j (some old), s) => selDone 0 j true (setSelData old s)
        | (.noRoom, s) => selDone 2 i false s
      else selDone 1 i false s

/-- SEL_CMD_WRITE. -/
def execSelCmdWrite (value : Word) (s : State) : Host.Outcome State Fault Refusal := act (gatedWrite 0 (selWrite value)) s

/-- SEL_CMD CLEAR (R131). -/
def selClear (w : Word) (s : State) : State :=
  let s := storeSelCmd w s
  let t := cmdTable w
  let i := cmdIndex w
  if cmdRefused w || tableSize t ≤ i then selDone 3 i false s
  else if t = 1 && accordOwns s i then selDone 5 i false s
  else if t = 5 then
    selDone 0 i false { s with selectors := { s.selectors with learned := s.selectors.learned.erase (4096 * cmdPipe w + i) } }
  else if bulkHolds s t i then selDone 6 i false s
  else selDone 0 i false (clearEntry t i s)

/-- SEL_CMD_CLEAR. -/
def execSelCmdClear (value : Word) (s : State) : Host.Outcome State Fault Refusal := act (gatedWrite 0 (selClear value)) s

/-- The way of its bucket that holds an SCI in a pipe's learning table (R125), as an INDEX. -/
def learnedAt (s : State) (pipe sci : Nat) : Option Nat :=
  let b := crc32c (leBytes 8 sci) % 1024
  (List.range 4).foldr (fun w acc =>
    match s.selectors.learned.find (4096 * pipe + (4 * b + w)) with
    | some e => if e.sci = sci then some (4 * b + w) else acc
    | none => acc) none

/-- SEL_CMD FIND (R131). `upset`: the entry found fails its parity. -/
def selFind (w : Word) (upset : Bool) (s : State) : State :=
  let s := storeSelCmd w s
  let t := cmdTable w
  let i := cmdIndex w
  let d := selData s
  if cmdRefused w || t ≤ 1 then selDone 3 i false s
  else if t = 5 then
    match learnedAt s (cmdPipe w) (bitsOf d 0 64) with
    | none => selDone 1 i false s
    | some j =>
      if upset then selDone 4 j false (setSelData 0 (failParity 5 (cmdPipe w) j 2 s))
      else
        match s.selectors.learned.find (4096 * cmdPipe w + j) with
        | some e => selDone 0 j false (setSelData e.word s)
        | none => selDone 1 i false s
  else
    match findKey s t d with
    | none => selDone 1 i false s
    | some j =>
      let s := if upset then failParity t 0 j 2 s else s
      if (selEntry s t j).parityFailed then selDone 4 j false (setSelData 0 s)
      else selDone 0 j false (setSelData (selEntry s t j).data s)

/-- SEL_CMD_FIND. -/
def execSelCmdFind (value : Word) (upset : Bool) (s : State) : Host.Outcome State Fault Refusal := act (gatedWrite 0 (selFind value upset)) s

/-- A requester reads a register of type RC: it is returned and cleared (R9). -/
def clearingRead (req a : Nat) (s : State) : State := setReg a 0 (emit (.readData req (reg s a)) s)

/-- SEL_PARITY_COUNT_READ. There are six tables; another number names no such register, and a reserved one reads 0. -/
def execSelParityCountRead (table : Nat) (s : State) : Host.Outcome State Fault Refusal :=
  actRead 0 (gatedRead (0x40 + 4 * table) (fun s => if table ≤ 5 then clearingRead 0 (0x40 + 4 * table) s else emit (.readData 0 0) s)) s

/-- SELECTOR_SCRUB: the scrub of every table finds entries that fail parity, each as {TABLE, PIPE, INDEX} (R134). -/
def execSelectorScrub (found : List (Nat × Nat × Nat)) (s : State) : Host.Outcome State Fault Refusal :=
  act (fun s => found.foldl (fun s f => if f.1 ≤ 5 && f.2.2 < tableSize f.1 then failParity f.1 f.2.1 f.2.2 1 s else s) s) s

/-! ## Learning tables -/

/-- AGE_TICK (R127): every valid entry of an LI pipe ages by one; one that reaches AGE_LIMIT is removed, unless AGE_LIMIT is 0. -/
def ageTick (pipe : Nat) (s : State) : State :=
  let limit := regField s 0x34 8 7
  let mine (k : Nat) : Bool := k / 4096 == pipe
  let gone (k : Nat) (e : Learned) : Bool := mine k && limit != 0 && limit ≤ min 127 (e.age + 1)
  let n := s.selectors.learned.countIf gone
  let t := s.selectors.learned.mapSome (fun k e =>
    if gone k e then none else if mine k then some { e with age := min 127 (e.age + 1) } else some e)
  countBy (0x200 + 0x80 * (8 + pipe) + 8 * 12) n { s with selectors := { s.selectors with learned := t } }

/-- AGE_TICK. -/
def execAgeTick (pipe : Nat) (s : State) : Host.Outcome State Fault Refusal := act (ageTick pipe) s

/-! ## SEL_LPM_MODE, SEL_BULK_LOAD, SEL_SHADOW_COMPARE -/

/-- SEL_LPM_MODE (R117). -/
def specSelLpmMode : OpSpec where
  opcode := 0x0303
  cls := .b
  privilege := .p
  fields := fun _ => [⟨8, 0, 6⟩, ⟨9, 0, 2⟩, fld 10 1]
  missing := fun c s => !portExists s (c.get ⟨8, 0, 6⟩)
  locks := fun c => [.port (c.get ⟨8, 0, 6⟩)]
  effect := fun c s =>
    let m : LpmMode := { mode := c.get ⟨9, 0, 2⟩, space := c.u8 10 }
    ({ s with selectors := { s.selectors with modes := s.selectors.modes.put {} (c.get ⟨8, 0, 6⟩) m } }, ok 0)

/-- SEL_LPM_MODE. -/
def execSelLpmMode (c : Cmd) (s : State) : Host.Outcome State Fault Refusal := hostOp specSelLpmMode c s

/-- How SEL_BULK_LOAD's run ends: entries written, stop cause (0 none, 1 NO_RESOURCE, 2 bad entry, 3 Accord's range). -/
def bulkLoad (table start : Nat) : Nat → Nat → Bytes → State → State × Nat × Nat
  | 0, done, _, s => (s, done, 0)
  | n + 1, done, bs, s =>
    let len := entryBytes table
    let d := leNat (bs.take len)
    let idx := start + done
    if table = 1 && accordOwns s idx then (s, done, 3)
    else if entryRefused table idx d then (s, done, 2)
    else if table ≤ 1 then
      let s := if entryValid table d then storeEntry table idx d s else clearEntry table idx s
      bulkLoad table start n (done + 1) (bs.drop len) s
    else
      match findKey s table d with
      | some j =>
        let s := if entryValid table d then storeEntry table j d s else clearEntry table j s
        bulkLoad table start n (done + 1) (bs.drop len) s
      | none =>
        if entryValid table d then
          match insertEntry table 0 d s with
          | (.at _ _, s) => bulkLoad table start n (done + 1) (bs.drop len) s
          | (.noRoom, s) => (s, done, 1)
        else bulkLoad table start n (done + 1) (bs.drop len) s

/-- SEL_BULK_LOAD (R138, R139). -/
def specSelBulkLoad : OpSpec where
  opcode := 0x0301
  cls := .c
  privilege := .p
  fields := fun c => [⟨8, 0, 3⟩, fld 16 4] ++ (if c.get ⟨8, 0, 3⟩ ≤ 1 then [⟨12, 0, 18⟩] else [])
  pointer := fun _ => true
  payloadLength := fun c => c.u32 16 * entryBytes (c.get ⟨8, 0, 3⟩)
  own := fun c _ =>
    let t := c.get ⟨8, 0, 3⟩
    [(5 ≤ t, 8), (c.u32 16 == 0 || tableSize t < c.u32 16, 16),
     (t ≤ 1 && tableSize t < c.get ⟨12, 0, 18⟩ + c.u32 16, 12)]
  locks := fun c =>
    let t := c.get ⟨8, 0, 3⟩
    if t ≤ 1 then [.selEntries t (c.get ⟨12, 0, 18⟩) (c.u32 16)] else [.selTable t]
  effect := fun c s =>
    let (s, done, stop) := bulkLoad (c.get ⟨8, 0, 3⟩) (c.get ⟨12, 0, 18⟩) (c.u32 16) 0 c.payload s
    let result := resultOf [(8, done), (12, stop)]
    (s, match stop with
      | 0 => ok result
      | 1 => .done { status := stNoResource, result }
      | 2 => .done { status := stBadParam, detail := 56, result }
      | _ => .done { status := stState, detail := lifecycle s, result })

/-- SEL_BULK_LOAD. -/
def execSelBulkLoad (c : Cmd) (s : State) : Host.Outcome State Fault Refusal := hostOp specSelBulkLoad c s

/-- One 8-byte mismatch record of R141. -/
def mismatch (idx kind : Nat) : Bytes := leBytes 4 idx ++ leBytes 4 kind

/-- The mismatch of one shadow entry with the live table, if any (R141). -/
def compareOne (s : State) (table idx pos d : Nat) : Option Bytes :=
  if table ≤ 1 then
    let e := selEntry s table idx
    if table = 1 && accordOwns s idx then none
    else if e.parityFailed then some (mismatch idx 2)
    else if e.data = d then none
    else if !entryValid table e.data then some (mismatch idx 1)
    else some (mismatch idx 0)
  else if !entryValid table d then none
  else
    match findKey s table d with
    | none => some (mismatch pos 1)
    | some j =>
      if (selEntry s table j).parityFailed then some (mismatch pos 2)
      else if (selEntry s table j).data = d then none
      else some (mismatch pos 0)

/-- The compare of R141: entries compared, records, valid shadow entries, and whether the list filled. -/
def compareAll (s : State) (table start room : Nat) : Nat → Nat → Bytes → List Bytes → Nat → Nat × List Bytes × Nat × Bool
  | 0, pos, _, recs, live => (pos, recs, live, false)
  | n + 1, pos, bs, recs, live =>
    let len := entryBytes table
    let d := leNat (bs.take len)
    let live := if entryValid table d then live + 1 else live
    match compareOne s table (start + pos) pos d with
    | none => compareAll s table start room n (pos + 1) (bs.drop len) recs live
    | some r =>
      if room ≤ recs.length then (pos, recs, live, true)
      else compareAll s table start room n (pos + 1) (bs.drop len) (recs ++ [r]) live

/-- SEL_SHADOW_COMPARE (R140, R141). The records go to LIST_PTR. -/
def specSelShadowCompare : OpSpec where
  opcode := 0x0302
  cls := .d
  privilege := .p
  fields := fun c => [⟨8, 0, 3⟩, fld 16 4, fld 20 4, fld 24 8] ++ (if c.get ⟨8, 0, 3⟩ ≤ 1 then [⟨12, 0, 18⟩] else [])
  pointer := fun _ => true
  payloadLength := fun c => c.u32 16 * entryBytes (c.get ⟨8, 0, 3⟩)
  own := fun c _ =>
    let t := c.get ⟨8, 0, 3⟩
    [(5 ≤ t, 8), (t ≤ 1 && tableSize t < c.get ⟨12, 0, 18⟩ + c.u32 16, 12), (c.u32 20 == 0 || 65536 < c.u32 20, 20),
     (c.u64 24 % 8 != 0 || decide (2 ^ 40 ≤ c.u64 24), 24)]
  effect := fun c s =>
    let t := c.get ⟨8, 0, 3⟩
    let (n, recs, live, full) := compareAll s t (c.get ⟨12, 0, 18⟩) (c.u32 20) (c.u32 16) 0 c.payload [] 0
    let differ := !full && 2 ≤ t && live != validCount s t
    let full := full || (differ && c.u32 20 ≤ recs.length)
    let recs := if differ && recs.length < c.u32 20 then recs ++ [mismatch (validCount s t) 3] else recs
    let s := if recs = [] then s else emit (.hostWrite c.fn (c.u64 24) recs.flatten) s
    let result := resultOf [(8, n), (12, recs.length)]
    (s, if full then .done { status := stNoResource, result } else ok result)

/-- SEL_SHADOW_COMPARE. -/
def execSelShadowCompare (c : Cmd) (s : State) : Host.Outcome State Fault Refusal := hostOp specSelShadowCompare c s

end Sys2Proof.Machine
end

