-- ==== Sys2Proof/Machine/KeyBase.lean ====
section
/-!
DEFINITION. Attar slots, generations and the chain that an SA's lineage is checked against (08_attar_key_store R246 to R254),
and the use of SA entries (05_secure_channels R163).
-/
namespace Sys2Proof.Machine

open Sys2Proof

/-! ## Slots -/

/-- The pseudo-slot numbers (R245). -/
def storageSlot : Nat := 0xfff1
def domainSlot : Nat := 0xfff2
def rootSlot : Nat := 0xffff

/-- The greatest generation (R248). -/
def genLimit : Nat := 0x7fffffff

/-- A slot. -/
def slotOf (s : State) (n : Nat) : Slot := s.attar.slots.get {} n

/-- Write a slot whole; its CHECK is recomputed (R252); a pair mirrors it (12 R381). -/
def setSlot (n : Nat) (v : Slot) (s : State) : State :=
  markDirty 4 n { s with attar := { s.attar with slots := s.attar.slots.put {} n v } }

/-- The generation of a pseudo-slot that level-2 slots may have as parent. -/
def systemGen (s : State) (q : Nat) : Nat := if q = domainSlot then s.attar.domainGen else 0

/-- The generation that a parent issues to SAs (R249 attar_gen). -/
def issuedGen (s : State) (root : Bool) (p : Nat) : Nat :=
  if root then s.attar.rootGen else (slotOf s p).gen + s.attar.rootGen

/-- What a check of lineage comes to. -/
inductive Lineage
  | ok | integrity | orphan
  deriving DecidableEq, Repr

/-- The chain above a slot (R249 attar_chain_ok). -/
def chainOk (s : State) (p : Nat) : Lineage :=
  let v := slotOf s p
  if v.type = 0 then .orphan
  else if v.parent = storageSlot ∨ v.parent = domainSlot then
    if v.parentGen = systemGen s v.parent then .ok else .orphan
  else if (slotOf s v.parent).corrupt then .integrity
  else if (slotOf s v.parent).type = 0 ∨ v.parentGen ≠ (slotOf s v.parent).gen then .orphan
  else .ok

/-- Whether a slot can be used: its own check and its chain (R253, R249). -/
def slotUsable (s : State) (p : Nat) : Lineage := if (slotOf s p).corrupt then .integrity else chainOk s p

/-- The state of a slot as the mirror holds it (R633): 0 EMPTY, 1 VALID, 2 INTEGRITY, 3 ORPHANED. -/
def slotState (s : State) (p : Nat) : Nat :=
  if (slotOf s p).corrupt then 2
  else if (slotOf s p).type = 0 then 0
  else
    match chainOk s p with
    | .ok => 1
    | .integrity => 2
    | .orphan => 3

/-- A slot is found to fail its CHECK (R253): it enters INTEGRITY, is counted and posted. `how`: 0 use, 1 scrub. -/
def slotFails (n how : Nat) (s : State) : State :=
  let v := slotOf s n
  if v.corrupt then s
  else
    let s := setSlot n { v with corrupt := true, latent := false } s
    raiseHeld v.tenant 0x0501 2 n (detailOf [(20, how)]) (count (0x3100 + 8) s)

/-- The verifier checks a slot's CHECK at its use (R253): whether it holds. -/
def slotCheck (n : Nat) (s : State) : Bool × State :=
  if (slotOf s n).latent then (false, slotFails n 0 s) else (!(slotOf s n).corrupt, s)

/-- A transfer of a slot's key over the private key bus (R253, R255): counted; the slot's CHECK is verified first. -/
def keyTransfer (n : Nat) (s : State) : Bool × State := slotCheck n (count 0x3100 s)

/-- A slot emptied by an invalidation (R261): everything cleared, GEN raised by one, or kept at its limit. -/
def emptied (v : Slot) : Slot := { gen := min genLimit (v.gen + 1) }

/-! ## SAs and SCs -/

/-- An SC. -/
def scOf (s : State) (n : Nat) : Option Sc := s.channels.scs.find n

/-- Write an SC whole. -/
def setSc (n : Nat) (v : Sc) (s : State) : State := { s with channels := { s.channels with scs := s.channels.scs.set n v } }

/-- Change an SC. -/
def modSc (n : Nat) (f : Sc → Sc) (s : State) : State :=
  { s with channels := { s.channels with scs := s.channels.scs.modify n f } }

/-- An SA. -/
def saOf (s : State) (n : Nat) : Option Sa := s.channels.sas.find n

/-- Write an SA whole. -/
def setSa (n : Nat) (v : Sa) (s : State) : State := { s with channels := { s.channels with sas := s.channels.sas.set n v } }

/-- Change an SA. -/
def modSa (n : Nat) (f : Sa → Sa) (s : State) : State :=
  { s with channels := { s.channels with sas := s.channels.sas.modify n f } }

/-- The SA in an AN slot. -/
def Sc.slot (c : Sc) (an : Nat) : Option Nat :=
  match an with
  | 0 => c.slot0
  | 1 => c.slot1
  | 2 => c.slot2
  | 3 => c.slot3
  | _ => none

/-- An SC with an AN slot written. -/
def Sc.setSlot (c : Sc) (an : Nat) (v : Option Nat) : Sc :=
  match an with
  | 0 => { c with slot0 := v }
  | 1 => { c with slot1 := v }
  | 2 => { c with slot2 := v }
  | 3 => { c with slot3 := v }
  | _ => c

/-- Whether a suite is an XPN suite (R149). -/
def xpn (suite : Nat) : Bool := 2 ≤ suite

/-- Whether a suite has a 128-bit key. -/
def suite128 (suite : Nat) : Bool := suite % 2 == 0

/-- PN_END of a suite (R159). -/
def pnEnd (suite : Nat) : Nat := if xpn suite then 2 ^ 64 - 1 else 2 ^ 32 - 1

/-- The default THRESHOLD of a suite (R158). -/
def defaultThreshold (suite : Nat) : Nat := if xpn suite then 2 ^ 64 - 2 ^ 40 else 2 ^ 32 - 2 ^ 24

/-- The state code of an SA (R170): `enc` says that its slot is the encoding slot of a transmit SC. -/
def saState (a : Sa) (enc : Bool) : Nat :=
  if a.draining then 0
  else if a.failed then (if a.failedOrphan then 8 else 7)
  else if a.receive then (if a.retiring then 2 else 1)
  else if enc then (if a.exhausted then 6 else 4)
  else if a.exhausted || a.superseded then 5
  else 3

/-- Steps 3 to 5 of R163 on an SA (sa_usable): the check, with the slot that failed and whether the failure was the SA's own
check value. -/
def saUsable (s : State) (a : Sa) : Lineage × Nat × Bool :=
  if a.corrupt then (.integrity, 0, true)
  else if a.failed then ((if a.failedOrphan then .orphan else .integrity), a.parentSlot, false)
  else if a.parentIsRoot then
    if a.parentGen = s.attar.rootGen then (.ok, 0, false) else (.orphan, rootSlot, false)
  else if (slotOf s a.parentSlot).corrupt then (.integrity, a.parentSlot, false)
  else if issuedGen s false a.parentSlot ≠ a.parentGen then (.orphan, a.parentSlot, false)
  else
    match chainOk s a.parentSlot with
    | .ok => (.ok, 0, false)
    | .integrity => (.integrity, (slotOf s a.parentSlot).parent, false)
    | .orphan => (.orphan, (slotOf s a.parentSlot).parent, false)

/-- The OBJECT of an SC or SA event (R185): SC in [16:0], AN in [18:17]. -/
def scObject (sc an : Nat) : Nat := sc + an * 2 ^ 17

/-- Raise an SC/SA event: to the owner and the PF, one per code and SC in a window (R185). -/
def raiseSc (sc an code severity detail : Nat) (s : State) : State :=
  let owner := match scOf s sc with | some c => c.tenant | none => 0
  raiseScoped owner sc code severity (scObject sc an) detail s

/-- An SA of Accord asks for a rekey (07 R232): CPU_ACC takes it from here. -/
def rekeyDue (sc : Nat) (s : State) : State :=
  { s with channels := { s.channels with rekeyDue := s.channels.rekeyDue ++ [sc] } }

/-- The number of an SA's parent slot, FFFFh for the session root (R147). -/
def parentNumber (a : Sa) : Nat := if a.parentIsRoot then 0xffff else a.parentSlot

/-- The first failure of steps 3 to 5 on an SA (R163): FAILED is set and its event posted; nothing where FAILED already is. -/
def markFailed (n : Nat) (l : Lineage) (slot : Nat) (own : Bool) (s : State) : State :=
  match saOf s n with
  | none => s
  | some a =>
    if a.failed then s
    else
      let s := setSa n { a with failed := true, failedOrphan := l == .orphan, corrupt := false } s
      let s := if a.accord then rekeyDue a.sc s else s
      match l with
      | .orphan => raiseSc a.sc a.an 0x0404 1 (detailOf [(20, n), (26, slot)]) s
      | _ => raiseSc a.sc a.an 0x0403 2 (detailOf [(20, n), (24, b2n (!own)), (26, if own then parentNumber a else slot)]) s

end Sys2Proof.Machine
end

