-- ==== Sys2Proof/Machine/Secure.lean ====
section
/-!
DEFINITION. Secure channels and associations outside the frame path (05_secure_channels, 06_key_rollover): the SC and SA
commands, arming and the switch, retirement, and the statistics of an SA.
-/
namespace Sys2Proof

/-- The SC of bytes 8 to 11. -/
def Cmd.sc (c : Cmd) : Nat := c.get ⟨8, 0, 17⟩

/-- The AN of byte 12. -/
def Cmd.an (c : Cmd) : Nat := c.get ⟨12, 0, 2⟩

/-- SA_INSTALL's PARENT is the session root. -/
def Cmd.parentIsRoot (c : Cmd) : Bool := c.u16 14 == 0xffff

/-- SA_ROLL's MODE. -/
def Cmd.rollMode (c : Cmd) : Nat := c.get ⟨12, 2, 3⟩

end Sys2Proof

namespace Sys2Proof.Machine

open Sys2Proof

/-! ## Statistics (05 R172 to R175) -/

/-- A delta's maximum. -/
def deltaTop : Nat := 2 ^ 24 - 1

/-- One counter of a record. -/
def Counts.at (c : Counts) (i : Nat) : Nat :=
  match i with
  | 0 => c.c0
  | 1 => c.c1
  | 2 => c.c2
  | _ => c.c3

/-- A record with one counter written. -/
def Counts.put (c : Counts) (i v : Nat) : Counts :=
  match i with
  | 0 => { c with c0 := v }
  | 1 => { c with c1 := v }
  | 2 => { c with c2 := v }
  | _ => { c with c3 := v }

/-- The sum of two records, 64 bits each. -/
def Counts.add (a b : Counts) : Counts where
  c0 := (a.c0 + b.c0) % 2 ^ 64
  c1 := (a.c1 + b.c1) % 2 ^ 64
  c2 := (a.c2 + b.c2) % 2 ^ 64
  c3 := (a.c3 + b.c3) % 2 ^ 64
  incomplete := a.incomplete || b.incomplete

/-- Count in a delta (R172). A delta that reaches its maximum stops counting, sets STATS_INCOMPLETE and posts
SA_STATS_SATURATED (R174). -/
def countDelta (n i k : Nat) (s : State) : State :=
  match saOf s n with
  | none => s
  | some a =>
    let v := a.deltas.at i
    let s := setSa n { a with deltas := a.deltas.put i (satAdd deltaTop v k), statsIncomplete := a.statsIncomplete || deltaTop ≤ v + k } s
    if v < deltaTop && deltaTop ≤ v + k then
      let s := raiseSc a.sc a.an 0x0409 1 (detailOf [(20, n), (24, i)]) s
      if a.statsIncomplete then s
      else { s with channels := { s.channels with saturated := satAdd 255 s.channels.saturated 1 } }
    else s

/-- Whether the statistics store is available (05 R174, 10 R324, R330). -/
def statsStore (s : State) : Bool := s.reservoir.statsChannel.isSome && !s.reservoir.statsMoving

/-- Flush an SA's deltas into the merge buffer (R173). -/
def flushSa (n : Nat) (s : State) : State :=
  match saOf s n with
  | none => s
  | some a =>
    let m := s.channels.merge.get {} n
    let s := setSa n { a with deltas := {} } s
    { s with channels := { s.channels with merge := s.channels.merge.put {} n (m.add { a.deltas with incomplete := a.statsIncomplete }) } }

/-- Whether CPU_HK runs (19_timeouts_and_recovery). -/
def hkUp (s : State) : Bool := s.watchdog.hk.up

/-- Whether the merge buffer is full: 8,192 lines of two SA records each (R173, 10 R323). -/
def mergeFull (s : State) : Bool := decide (8192 ≤ ((s.channels.merge.keys.map (· / 2)).eraseDups).length)

/-- SA_FLUSH: CPU_HK flushes an SA's deltas, while the statistics store is available and the merge buffer has room (R173, R174, 10 R323). -/
def execSaFlush (sa : Nat) (s : State) : Host.Outcome State Fault Refusal :=
  act (fun s => if statsStore s && hkUp s && !mergeFull s then flushSa sa s else s) s

/-- An SA's flushed total and current delta, as STATS_READ and SA_STATUS report them (R173, R181). -/
def saCounts (s : State) (n : Nat) : Counts :=
  let d := match saOf s n with | some a => { a.deltas with incomplete := a.statsIncomplete } | none => {}
  ((s.channels.saTotals.get {} n).add (s.channels.merge.get {} n)).add d

/-- An SA's final counters join the totals record of its SC, and its own record is cleared (R175). -/
def retireCounts (n : Nat) (s : State) : State :=
  match saOf s n with
  | none => s
  | some a =>
    let t := saCounts s n
    let u := s.channels.scTotals.get {} a.sc
    { s with channels := { s.channels with
        scTotals := s.channels.scTotals.put {} a.sc (u.add t)
        saTotals := s.channels.saTotals.erase n
        merge := s.channels.merge.erase n } }

/-- SA_FLUSH_STATUS. PENDING counts the SAs with a delta at half or above while HALF_FULL is 1 (R173). -/
def flushStatus (s : State) : Nat :=
  b2n (regBit s 0x1804 16) *
      (s.channels.sas.countIf (fun _ a => [0, 1, 2, 3].any (fun i => decide (2 ^ 23 ≤ a.deltas.at i))) % 2 ^ 18) +
    b2n s.channels.stretched * 2 ^ 23 + s.channels.saturated * 2 ^ 24

/-- A requester reads SA_FLUSH_STATUS: SATURATED is cleared (R174). -/
def flushStatusRead (req : Nat) (s : State) : State :=
  emit (.readData req (BitVec.ofNat 32 (flushStatus s))) { s with channels := { s.channels with saturated := 0 } }

/-- SA_FLUSH_STATUS_READ. -/
def execSaFlushStatusRead (s : State) : Host.Outcome State Fault Refusal :=
  actRead 0 (gatedRead 0x1808 (flushStatusRead 0)) s

/-! ## Retirement (05 R170, R171; 06 R188, R189) -/

/-- The slot of an SA is made invalid; the entry waits for its last frames (R171). Retiring an armed target clears the arming
in the same write (06 R195). -/
def vacate (n : Nat) (s : State) : State :=
  match saOf s n with
  | none => s
  | some a =>
    let s := markDirty 3 n (markDirty 2 a.sc (setSa n { a with draining := true, deadline := none, retiring := false } s))
    modSc a.sc (fun c =>
      let c := if c.slot a.an = some n then c.setSlot a.an none else c
      if c.nextAn = a.an ∧ (c.armedPn ∨ c.armedTime) then { c with armedPn := false, armedTime := false, rollFired := false } else c) s

/-- Whether frames that fetched an SA are still on their way (R171): received frames before their tail, or frames being
transmitted. -/
def saBusy (s : State) (n : Nat) : Bool :=
  s.fabric.frames.cells.any (fun c => c.2.rxSa == some n && !c.2.tailSeen) ||
    s.fabric.egress.cells.any (fun c => match c.2.tx with | some t => t.sa == some n | none => false)

/-- A drained SA's entry is freed after its final counters are taken (R171, R175), and the command that waited for its last SA
completes. -/
def freeSa (n : Nat) (s : State) : State :=
  match saOf s n with
  | none => s
  | some a =>
    if a.draining && !saBusy s n then
      let s := retireCounts n s
      let s := { s with channels := { s.channels with sas := s.channels.sas.erase n } }
      let waits (r : Running) : Bool :=
        (r.isOp 0x0404 || r.isOp 0x0402) && r.locks.contains (.sc a.sc) && r.wait == .work &&
          !(s.channels.sas.cells.any (fun c => c.2.draining && c.2.sc == a.sc && r.locks.contains (.sa c.1)))
      completeRunning waits (fun _ => { status := stOk }) s
    else s

/-- Start the overlap window of a receive SA (R170). -/
def startRetiring (n : Nat) (s : State) : State :=
  match saOf s n with
  | none => s
  | some a =>
    match scOf s a.sc with
    | none => s
    | some c => setSa n { a with retiring := true, deadline := some (msNow s + 100 * c.overlap) } s

/-- A retirement as the log gives it: the SC and AN, from the port's next frame on (12 R379). -/
def logRetire (sc an : Nat) (s : State) : State :=
  match scOf s sc with
  | none => s
  | some c => logExc 3 (64 + c.port) (s.pair.inNo.get 0 (64 + c.port)) (sc + an * 2 ^ 17) s

/-- RETIREMENT_DEADLINE: an overlap window ends (R189): the slot is invalid, SA_RETIRED is posted, the entry drains. A
standby takes retirements from the log (12 R375). -/
def execRetirementDeadline (sa : Nat) (s : State) : Host.Outcome State Fault Refusal :=
  act (fun s =>
    match saOf s sa with
    | none => s
    | some a =>
      if a.deadline.isSome && !pairFollows s then
        vacate sa (logRetire a.sc a.an (raiseSc a.sc a.an 0x0406 0 (detailOf [(20, sa)]) s))
      else s) s

/-- A frame has verified in slot `an` of a receive SC (06 R188): in slot NEXT_AN it moves every other RX_ACTIVE SA of the SC to
RX_RETIRING. -/
def verifiedIn (sc an : Nat) (s : State) : State :=
  match scOf s sc with
  | none => s
  | some c =>
    if c.nextAn = an then
      [0, 1, 2, 3].foldl (fun s i =>
        match (if i = an then none else c.slot i) with
        | none => s
        | some n =>
          match saOf s n with
          | none => s
          | some a => if saState a false = 1 then startRetiring n s else s) s
    else s

/-! ## The switch (06 R192 to R194) -/

/-- Why a target may not be switched to (R194): none, 0 not TX_STANDBY, 1 a check failed, 2 orphaned. -/
def switchRefused (s : State) (c : Sc) (an : Nat) : Option Nat :=
  match c.slot an with
  | none => some 0
  | some n =>
    match saOf s n with
    | none => some 0
    | some a =>
      match (saUsable s a).1 with
      | .integrity => some 1
      | .orphan => some 2
      | .ok => if c.encAn ≠ an ∧ saState a false = 3 then none else some 0

/-- Move ENC_AN to a slot: the SA left behind is superseded, the arming is cleared, SA_SWITCHED is posted with its cause. -/
def moveEncAn (sc : Nat) (c : Sc) (an cause : Nat) (s : State) : State :=
  let s := match c.slot c.encAn with
    | some old => modSa old (fun a => { a with superseded := true }) s
    | none => s
  let s := setSc sc { c with encAn := an, nextAn := an, armedPn := false, armedTime := false, rollFired := false } s
  let s := if cause = 2 then markDirty 2 sc s else logExc 2 (64 + c.port) (s.pair.outNo.get 0 (64 + c.port)) (sc + an * 2 ^ 17) s
  let first := match c.slot an with
    | some n => (match saOf s n with | some a => a.nextPn | none => 0)
    | none => 0
  raiseSc sc an 0x0407 0 (detailOf [(20, c.encAn % 4), (21, cause), (24, first)]) s

/-- Whether the encoding slot is invalid or its SA's NEXT_PN is above its THRESHOLD (R192). -/
def pastThreshold (s : State) (c : Sc) : Bool :=
  match c.slot c.encAn with
  | none => true
  | some n => match saOf s n with | some a => decide (a.low < a.nextPn) | none => true

/-- A switch to slot `an` is not made (R194): the arming is cleared, SA_ROLL_FAILED posted, and a target that fails its checks is
marked FAILED. -/
def rollFailed (sc : Nat) (c : Sc) (an why cause : Nat) (s : State) : State :=
  let s := setSc sc { c with armedPn := false, armedTime := false, rollFired := false } s
  let s := raiseSc sc an 0x040b 2 (detailOf [(20, (c.slot an).getD 0), (24, why), (25, cause)]) s
  match c.slot an with
  | none => s
  | some n =>
    match saOf s n with
    | none => s
    | some a =>
      let (l, slot, own) := saUsable s a
      if l = .ok then s else markFailed n l slot own s

/-- The Accord peer whose newly assigned identifier waits for the switch of its transmit SC (07 R233). -/
def sciWaits (s : State) (sc : Nat) : Option (Nat × Peer) :=
  s.accord.peers.cells.find? (fun c => c.2.txSc == some sc && c.2.newSci)

/-- A transmit SC as its next switch writes it: with the SCI that waits for it. -/
def withNewSci (s : State) (sc : Nat) (c : Sc) : Sc :=
  match sciWaits s sc with
  | some (_, p) => { c with sci := sciOf (portMac s p.port) p.peerPi }
  | none => c

/-- The SCI that waited has been written. -/
def sciWritten (sc : Nat) (s : State) : State :=
  match sciWaits s sc with
  | some (pi, p) => markDirty 2 sc { s with accord := { s.accord with peers := s.accord.peers.set pi { p with newSci := false } } }
  | none => s

/-- The switch at a frame head of a transmit SC (R192, R194): cause 0 threshold, 1 scheduled time. A standby takes switches from the
log (12 R375). -/
def headSwitch (sc : Nat) (s : State) : State :=
  match scOf s sc with
  | none => s
  | some c =>
    let byPn := c.armedPn && pastThreshold s c
    if pairFollows s || !(byPn || (c.armedTime && c.rollFired)) then s
    else
      let cause := if byPn then 0 else 1
      match switchRefused s c c.nextAn with
      | none => count (0x1000 + 0x80 * (c.port / 8) + 8 * 9) (moveEncAn sc (withNewSci s sc c) c.nextAn cause (sciWritten sc s))
      | some why => rollFailed sc c c.nextAn why cause s

/-- ROLL_FIRE: TO reaches the ROLL instant of an SC (06 R193): with ARMED_TIME the fire flag is latched, else SA_ROLL_SKIPPED. -/
def execRollFire (sc : Nat) (s : State) : Host.Outcome State Fault Refusal :=
  act (fun s =>
    match s.time.rolls.find sc with
    | none => s
    | some (sec, ns) =>
      if toTotal s < sec * 1000000000 + ns then s
      else
        let s := { s with time := { s.time with rolls := s.time.rolls.erase sc } }
        match scOf s sc with
        | none => s
        | some c =>
          if c.armedTime then setSc sc { c with rollFired := true } s
          else raiseSc sc c.nextAn 0x040c 1 (detailOf [(24, toTotal s % 2 ^ 64)]) s) s

/-! ## SC entry parity (05 R165) -/

/-- SC_PARITY_RESTORE: CPU_HK rewrites a parity-failed SC entry from its copy in the statistics region; with no copy the entry
stays failed (R165). -/
def execScParityRestore (sc : Nat) (s : State) : Host.Outcome State Fault Refusal :=
  act (fun s =>
    match scOf s sc with
    | none => s
    | some c =>
      if hkUp s && c.parityFailed then
        if statsStore s then raiseSc sc (c.encAn % 4) 0x0405 2 (detailOf [(20, 0)]) (setSc sc { c with parityFailed := false } s)
        else raiseSc sc (c.encAn % 4) 0x0405 2 (detailOf [(20, 1)]) s
      else s) s

/-! ## Commands that name an SC (05 R176) -/


/-- NO_PERMISSION, 02h, for a VF whose SC is another function's or does not exist (R176). -/
def scObjectCheck (c : Cmd) (s : State) : Option Nat :=
  if c.fn = 0 then none
  else match scOf s c.sc with
    | none => some 2
    | some e => if e.tenant = c.fn then none else some 2

/-- An SC that does not exist. -/
def scMissing (c : Cmd) (s : State) : Bool := (scOf s c.sc).isNone

/-- A condition on the named SC, false where there is none. -/
def scIs (c : Cmd) (s : State) (p : Sc → Bool) : Bool := match scOf s c.sc with | some e => p e | none => false

/-- SC_CREATE (R177). -/
def specScCreate : OpSpec where
  opcode := 0x0401
  cls := .a
  privilege := .t
  fields := fun _ => [fld 8 8, ⟨16, 0, 8⟩, ⟨17, 0, 3⟩, ⟨18, 0, 6⟩, fld 20 4, fld 24 2]
  own := fun c _ =>
    let rx := c.flag 16 0
    let suite := c.get ⟨16, 1, 2⟩
    [(c.get ⟨16, 3, 2⟩ == 3, 16), (c.get ⟨17, 0, 2⟩ == 3, 17), (rx && c.get ⟨16, 5, 3⟩ != 0, 16),
     (!rx && (c.flag 17 2 || c.u32 20 != 0 || c.u16 24 != 0), 16),
     (c.flag 16 5 && (c.flag 16 6 || c.flag 16 7), 16),
     (xpn suite && 2 ^ 30 < c.u32 20, 16), (600 < c.u16 24, 24)]
  badState := fun c s =>
    !portExists s (64 + c.get ⟨18, 0, 6⟩) || (c.get ⟨17, 0, 2⟩ != 0 && !regBit s 0x1800 0)
  noResource := fun c s => scFull s c.fn 1 || (s.channels.scs.firstFree 0 scCapacity).isNone
  effect := fun c s =>
    let rx := c.flag 16 0
    let n := (s.channels.scs.firstFree 0 scCapacity).getD 0
    let e : Sc :=
      { sci := c.u64 8, receive := rx, suite := c.get ⟨16, 1, 2⟩, co := c.get ⟨16, 3, 2⟩, replayProtect := c.flag 17 2
        accord := false, includeSci := c.flag 16 5, es := c.flag 16 6, scb := c.flag 16 7, tagsInClear := c.get ⟨17, 0, 2⟩
        tenant := c.fn, port := c.get ⟨18, 0, 6⟩, replayWindow := c.u32 20
        overlap := if rx then (if c.u16 24 = 0 then 20 else c.u16 24) else 0 }
    (markDirty 2 n (setSc n e s), ok (resultOf [(8, n)]))

/-- SC_CREATE. -/
def execScCreate (c : Cmd) (s : State) : Host.Outcome State Fault Refusal := hostOp specScCreate c s

/-- The SAs in an SC's slots. -/
def Sc.sas (c : Sc) : List Nat := ([0, 1, 2, 3].map c.slot).filterMap id

/-- Delete an SC (R178): its SAs leave their slots and drain, the entry and any ROLL instant (14_time R444) go. -/
def deleteSc (n : Nat) (s : State) : State :=
  match scOf s n with
  | none => s
  | some c =>
    let s := c.sas.foldl (fun s a => vacate a s) s
    let s := markDirty 2 n { s with channels := { s.channels with scs := s.channels.scs.erase n } }
    { s with time := { s.time with rolls := s.time.rolls.erase n } }

/-- Whether an SA is in a state that SC_DELETE needs FORCE for: RX_ACTIVE, RX_RETIRING or TX_ENCODING. -/
def scInUse (s : State) (c : Sc) : Bool :=
  [0, 1, 2, 3].any (fun i =>
    match c.slot i with
    | none => false
    | some n => match saOf s n with
      | none => false
      | some a => [1, 2, 4].contains (saState a (!c.receive && c.encAn == i)))

/-- SC_DELETE (R178). It completes after the drain of R171. -/
def specScDelete : OpSpec where
  opcode := 0x0402
  cls := .a
  privilege := .t
  fields := fun _ => [⟨8, 0, 17⟩, ⟨12, 0, 1⟩]
  object := scObjectCheck
  missing := scMissing
  badState := fun c s => scIs c s (fun e => e.accord || (!c.flag 12 0 && scInUse s e))
  locks := fun c => [.sc c.sc]
  effect := fun c s =>
    let n := match scOf s c.sc with | some e => e.sas.length | none => 0
    (deleteSc c.sc s, if n = 0 then ok 0 else .wait .work)

/-- The drained SAs of a command that waits for them are recorded among its locks. -/
def lockDrained (c : Cmd) (sas : List Nat) (s : State) : State :=
  { s with running := s.running.map (fun r =>
      if r.cmd = c ∧ r.wait = .work then { r with locks := r.locks ++ sas.map Lock.sa } else r) }

/-- SC_DELETE. -/
def execScDelete (c : Cmd) (s : State) : Host.Outcome State Fault Refusal :=
  act (fun s =>
    if s.cmdReady then
      let sas := match scOf s c.sc with | some e => e.sas | none => []
      lockDrained c sas (runOp specScDelete c s)
    else s) s

/-! ## SA_INSTALL, SA_RETIRE, SA_STATUS -/

/-- The bytes of SA_INSTALL's key block that hold the key: 32 or 16 in the clear, 40 or 24 wrapped (R179). -/
def keyBytes (wrapped short : Bool) : Nat := if wrapped then (if short then 24 else 40) else (if short then 16 else 32)

/-- The key that SA_INSTALL's block gives: in the clear, or unwrapped under the parent; none where the parent fails its check or
the unwrap fails (INTEGRITY). -/
def installKey (c : Cmd) (short : Bool) (s : State) : Option Nat × State :=
  let wrapped := c.flag 12 2
  let bytes := c.payload.take (keyBytes wrapped short)
  if c.parentIsRoot then (some (leNat bytes), s)
  else if wrapped then
    match keyTransfer (c.u16 14) s with
    | (true, s) => (Config.unwrap (slotOf s (c.u16 14)).key bytes, s)
    | (false, s) => (none, s)
  else
    match slotCheck (c.u16 14) s with
    | (true, s) => (some (leNat bytes), s)
    | (false, s) => (none, s)

/-- Write an SA into a slot of its SC (R170, R187, R195): on a receive SC it becomes NEXT_AN; on a transmit SC it becomes the
encoding SA where the encoding slot is invalid or `activate` says so, and activation clears the arming. -/
def placeSa (n : Nat) (a : Sa) (activate : Bool) (s : State) : State :=
  let s := markDirty 3 n (markDirty 2 a.sc (setSa n a s))
  match scOf s a.sc with
  | none => s
  | some e =>
    let e' := e.setSlot a.an (some n)
    if e.receive then setSc a.sc { e' with nextAn := a.an } s
    else if activate then
      let s := match e.slot e.encAn with
        | some old => modSa old (fun x => { x with superseded := true }) s
        | none => s
      setSc a.sc { e' with encAn := a.an, armedPn := false, armedTime := false, rollFired := false } s
    else if (e.slot e.encAn).isNone then setSc a.sc { e' with encAn := a.an } s
    else setSc a.sc e' s

/-- SA_INSTALL (R179). -/
def specSaInstall : OpSpec where
  opcode := 0x0403
  cls := .a
  privilege := .t
  fields := fun _ => [⟨8, 0, 17⟩, ⟨12, 0, 4⟩, fld 14 2, fld 16 8, fld 24 8, fld 32 12, fld 44 4]
  pointer := fun _ => true
  payloadLength := fun _ => 48
  own := fun c _ =>
    [(c.u64 16 == 0, 16), (c.u64 24 != 0 && c.u64 24 ≤ c.u64 16, 16), (16383 < c.u16 14 && !c.parentIsRoot, 14),
     (!allZero (c.payload.drop (keyBytes (c.flag 12 2) false)), 56)]
  object := fun c s =>
    match scObjectCheck c s with
    | some d => some d
    | none => if c.fn ≠ 0 ∧ !c.parentIsRoot ∧ ((slotOf s (c.u16 14)).type = 0 ∨ (slotOf s (c.u16 14)).tenant ≠ c.fn) then some 2 else none
  missing := scMissing
  objectParam := fun c s =>
    match scOf s c.sc with
    | none => []
    | some e =>
      [(pnEnd e.suite < c.u64 16, 16), (pnEnd e.suite < c.u64 24, 24), (e.receive && c.u64 24 != 0, 24),
       (e.receive && c.flag 12 3, 12), (!xpn e.suite && bitsOf c.bits 256 96 != 0, 32), (!xpn e.suite && c.u32 44 != 0, 44),
       (suite128 e.suite && !allZero (c.payload.drop (keyBytes (c.flag 12 2) true)), 56)]
  badState := fun c s =>
    scIs c s (fun e => e.accord || (e.slot c.an).isSome) ||
      (!c.parentIsRoot && (slotOf s (c.u16 14)).type == 0 && !(slotOf s (c.u16 14)).corrupt) ||
      (c.flag 12 2 && (c.parentIsRoot || !bitOf (slotOf s (c.u16 14)).usage 1))
  locks := fun c => [.sc c.sc] ++ (if c.parentIsRoot then [.slot rootSlot] else [.slot (c.u16 14)])
  noResource := fun c s => saFull s (match scOf s c.sc with | some e => e.tenant | none => c.fn) 1 || (s.channels.sas.firstFree 0 saCapacity).isNone
  effect := fun c s =>
    match scOf s c.sc with
    | none => (s, failed stState (lifecycle s))
    | some e =>
      match installKey c (suite128 e.suite) s with
      | (none, s) => (s, failed stIntegrity 0)
      | (some key, s) =>
        let n := (s.channels.sas.firstFree 0 saCapacity).getD 0
        let a : Sa :=
          { key, nextPn := c.u64 16
            low := if e.receive then c.u64 16 else if c.u64 24 = 0 then defaultThreshold e.suite else c.u64 24
            salt := bitsOf c.bits 256 96, ssci := c.u32 44, receive := e.receive, key128 := suite128 e.suite, accord := false
            parentSlot := if c.parentIsRoot then 0 else c.u16 14, parentIsRoot := c.parentIsRoot
            parentGen := issuedGen s c.parentIsRoot (c.u16 14), an := c.an, sc := c.sc }
        (placeSa n a (c.flag 12 3) s, ok (resultOf [(8, n)]))

/-- SA_INSTALL. -/
def execSaInstall (c : Cmd) (s : State) : Host.Outcome State Fault Refusal := hostOp specSaInstall c s

/-- SA_RETIRE (R180). Without AFTER_OVERLAP it completes after the drain of R171. -/
def specSaRetire : OpSpec where
  opcode := 0x0404
  cls := .a
  privilege := .t
  fields := fun _ => [⟨8, 0, 17⟩, ⟨12, 0, 4⟩]
  object := scObjectCheck
  missing := scMissing
  objectParam := fun c s => [(scIs c s (fun e => !e.receive && c.flag 12 2), 12)]
  badState := fun c s =>
    scIs c s (fun e =>
      e.accord ||
        (match e.slot c.an with
         | none => true
         | some n =>
           (!e.receive && e.encAn == c.an && !c.flag 12 3) ||
             (c.flag 12 2 && (match saOf s n with | some a => a.retiring | none => false))))
  locks := fun c => [.sc c.sc]
  effect := fun c s =>
    match scOf s c.sc with
    | none => (s, failed stState (lifecycle s))
    | some e =>
      match e.slot c.an with
      | none => (s, failed stState (lifecycle s))
      | some n => if c.flag 12 2 then (startRetiring n s, ok 0) else (vacate n s, .wait .work)

/-- SA_RETIRE. -/
def execSaRetire (c : Cmd) (s : State) : Host.Outcome State Fault Refusal :=
  act (fun s =>
    if s.cmdReady then
      let sas := match scOf s c.sc with | some e => (e.slot c.an).toList | none => []
      lockDrained c sas (runOp specSaRetire c s)
    else s) s

/-- The 64-byte block of SA_STATUS (R181). -/
def saBlock (s : State) (n : Nat) : Bytes :=
  match saOf s n with
  | none => List.replicate 64 0
  | some a =>
    let left := match a.deadline with | some d => max 1 (d - msNow s) | none => 0
    let t := saCounts s n
    leBytes 8 a.nextPn ++ leBytes 8 a.low ++ leBytes 4 a.ssci ++
      leBytes 2 (if a.parentIsRoot then rootSlot else a.parentSlot) ++ leBytes 2 0 ++ leBytes 4 a.parentGen ++ leBytes 4 left ++
      leBytes 8 t.c0 ++ leBytes 8 t.c1 ++ leBytes 8 t.c2 ++ leBytes 8 t.c3

/-- SA_STATUS (R181). -/
def specSaStatus : OpSpec where
  opcode := 0x0405
  cls := .a
  privilege := .t
  underLock := true
  fields := fun _ => [⟨8, 0, 17⟩, ⟨12, 0, 2⟩]
  pointer := fun _ => true
  object := scObjectCheck
  missing := scMissing
  locks := fun c => [.sc c.sc]
  effect := fun c s =>
    match scOf s c.sc with
    | none => (s, failed stState (lifecycle s))
    | some e =>
      let enc := !e.receive && e.encAn == c.an
      let data (n : Nat) : Bytes := if c.dataPtr = 0 then [] else saBlock s n
      match e.slot c.an with
      | none => (s, .done { status := stOk, result := resultOf [(8, b2n enc * 16), (9, if e.receive then 0 else e.encAn % 4)],
                            data := if c.dataPtr = 0 then [] else List.replicate 64 0 })
      | some n =>
        match saOf s n with
        | none => (s, ok 0)
        | some a =>
          let armed := (e.armedPn || e.armedTime) && e.nextAn == c.an
          (s, .done { status := stOk, data := data n
                      result := resultOf [(8, saState a enc + b2n enc * 16 + b2n a.statsIncomplete * 32 + b2n armed * 64),
                                          (9, if e.receive then 0 else e.encAn % 4), (12, n)] })

/-- SA_STATUS. -/
def execSaStatus (c : Cmd) (s : State) : Host.Outcome State Fault Refusal := hostOp specSaStatus c s

/-! ## SA_ROLL (06 R196, R197) -/

/-- Whether slot `an` of an SC is TX_STANDBY. -/
def isStandby (s : State) (e : Sc) (an : Nat) : Bool :=
  match e.slot an with
  | none => false
  | some n => match saOf s n with
    | none => false
    | some a => saState a (e.encAn == an) == 3

/-- SA_ROLL. -/
def specSaRoll : OpSpec where
  opcode := 0x0406
  cls := .a
  privilege := .t
  fields := fun _ => [⟨8, 0, 17⟩, ⟨12, 0, 5⟩, fld 16 8]
  own := fun c _ => [(5 ≤ c.rollMode, 12), (c.rollMode == 0 && c.an != 0, 12)]
  object := scObjectCheck
  missing := scMissing
  objectParam := fun c s => [(scIs c s (fun e => decide (pnEnd e.suite < c.u64 16)), 16)]
  badState := fun c s =>
    scIs c s (fun e =>
      e.accord || e.receive || (c.rollMode != 0 && !isStandby s e c.an) || (c.u64 16 != 0 && (e.slot e.encAn).isNone))
  locks := fun c => [.sc c.sc]
  effect := fun c s =>
    match scOf s c.sc with
    | none => (s, failed stState (lifecycle s))
    | some e =>
      let mode := c.rollMode
      if mode = 1 && (switchRefused s e c.an).isSome then (s, failed stIntegrity 0)
      else
        let s := match (if c.u64 16 = 0 then none else e.slot e.encAn) with
          | some n => modSa n (fun a => { a with low := c.u64 16 }) s
          | none => s
        let s :=
          if mode = 1 then moveEncAn c.sc e c.an 2 s
          else if mode = 0 then setSc c.sc { e with armedPn := false, armedTime := false, rollFired := false } s
          else setSc c.sc { e with nextAn := c.an, armedPn := mode != 3, armedTime := mode != 2, rollFired := false } s
        let e' := (scOf s c.sc).getD e
        let s := markDirty 2 c.sc s
        (s, ok (resultOf [(8, e'.encAn % 4 + b2n e'.armedPn * 4 + b2n e'.armedTime * 8)]))

/-- SA_ROLL. -/
def execSaRoll (c : Cmd) (s : State) : Host.Outcome State Fault Refusal := hostOp specSaRoll c s

/-! ## SC_TENANT_ASSIGN (05 R182) -/

/-- SC_TENANT_ASSIGN. -/
def specScTenantAssign : OpSpec where
  opcode := 0x0407
  cls := .a
  privilege := .p
  fields := fun _ => [⟨8, 0, 17⟩, ⟨12, 0, 5⟩]
  missing := scMissing
  badState := fun c s =>
    let f := c.get ⟨12, 0, 5⟩
    scIs c s (·.accord) || (f != 0 && !(fnOf s f).tenant.enable)
  locks := fun c => [.sc c.sc]
  noResource := fun c s =>
    let f := c.get ⟨12, 0, 5⟩
    scIs c s (fun e => e.tenant != f && (scFull s f 1 || saFull s f e.sas.length))
  effect := fun c s =>
    match scOf s c.sc with
    | none => (s, failed stState (lifecycle s))
    | some e =>
      let f := c.get ⟨12, 0, 5⟩
      let s := markDirty 2 c.sc (setSc c.sc { e with tenant := f } s)
      let ev := mkEvent s 0x0408 0 f (scObject c.sc (e.encAn % 4)) (detailOf [(20, e.tenant), (21, f)])
      let s := if e.tenant = 0 ∨ e.tenant = f then s else postTo e.tenant ev s
      (postHeld f c.sc ev s, ok 0)

/-- SC_TENANT_ASSIGN. -/
def execScTenantAssign (c : Cmd) (s : State) : Host.Outcome State Fault Refusal := hostOp specScTenantAssign c s

end Sys2Proof.Machine
end

