-- ==== Sys2Proof/Machine/AccordBase.lean ====
section
/-!
DEFINITION. Accord's building blocks (07_accord): communities, peers, messages and their keys, the exchange's openings and ends,
teardown, and what CPU_ACC does when a key, a threshold or the entropy unit asks for it.
-/
namespace Sys2Proof.Machine

open Sys2Proof

/-! ## Access -/

/-- ACC_RATE's numbers for the second in progress and the one before. -/
def rateNow (s : State) : Accord :=
  let now := s.tick / 625000000
  let a := s.accord
  if a.rateSecond = now then a
  else if a.rateSecond + 1 = now then
    { a with rateSecond := now, doneLast := a.doneNow, failedLast := a.failedNow, doneNow := 0, failedNow := 0 }
  else { a with rateSecond := now, doneLast := 0, failedLast := 0, doneNow := 0, failedNow := 0 }

/-- The counters of R242; agreements (9) and failures (10) also make ACC_RATE. -/
def accCount (i : Nat) (s : State) : State :=
  let a := rateNow s
  let s := count (0x2100 + 8 * i) s
  if i = 9 then { s with accord := { a with doneNow := a.doneNow + 1 } }
  else if i = 10 then { s with accord := { a with failedNow := a.failedNow + 1 } }
  else s

/-- A community. -/
def commOf (s : State) (i : Nat) : Option Community := s.accord.communities.find i

/-- Write a community. -/
def setComm (i : Nat) (c : Community) (s : State) : State :=
  { s with accord := { s.accord with communities := s.accord.communities.set i c } }

/-- A peer. -/
def peerOf (s : State) (i : Nat) : Option Peer := s.accord.peers.find i

/-- Write a peer. -/
def setPeer (i : Nat) (p : Peer) (s : State) : State :=
  markDirty 5 i { s with accord := { s.accord with peers := s.accord.peers.set i p } }

/-- Change a peer. -/
def modPeer (i : Nat) (f : Peer → Peer) (s : State) : State :=
  markDirty 5 i { s with accord := { s.accord with peers := s.accord.peers.modify i f } }

/-- The community whose COMMUNITY_ID is given, enabled on a line port (R215). -/
def commById (s : State) (id port : Nat) : Option Nat :=
  (s.accord.communities.keysIf (fun _ c => c.id == id && !c.tearing && bitOf c.portMask port)).head?

/-- The peer of a community on a port with a source MAC. -/
def peerAt (s : State) (ci port mac : Nat) : Option Nat :=
  (s.accord.peers.keysIf (fun _ p => p.community == ci && p.port == port && p.mac == mac)).head?

/-- Whether this device's engine runs the protocol (R212, R238): ENABLE, and in a pair only the active device. -/
def engineRuns (s : State) : Bool :=
  s.accord.enable && s.accord.epoch.isSome && accordLeads s

/-- Whether CPU_ACC serves, and decides: at the standby of a pair it follows. -/
def accUp (s : State) : Bool := s.watchdog.acc.up && accordLeads s

/-- Whether a community's key slot is usable (R205, R237): CONNECTIVITY with AGREE, its check and chain good. -/
def keySlotUsable (s : State) (n : Nat) : Bool :=
  (slotOf s n).type == 1 && bitOf (slotOf s n).usage 0 && slotUsable s n == .ok

/-- Exchanges in progress (R235). -/
def inProgress (s : State) : Nat :=
  s.accord.peers.countIf (fun _ p => match p.exchange with | some x => x.stage != .done | none => false)

/-! ## Periods (R243) -/

/-- A peer's change joins the period of its event, port and function. -/
def notePeer (code cause pi : Nat) (s : State) : State :=
  match peerOf s pi with
  | none => s
  | some p =>
    let owner := match commOf s p.community with | some c => c.owner | none => 0
    let is (q : PeerPeriod) : Bool := q.code == code && q.port == p.port && q.owner == owner
    let ps := s.accord.periods
    let ps := if ps.any is then ps.map (fun q => if is q ∧ !q.peers.contains pi then { q with peers := q.peers ++ [pi] } else q)
      else ps ++ [{ code, port := p.port, owner, cause, peers := [pi] }]
    { s with accord := { s.accord with periods := ps } }

/-! ## Keys (R216 to R219) -/

/-- HMAC-SHA-384 under the k_auth of a connectivity key and COMMUNITY_ID (R216, R219). -/
def authMac (cak id : Nat) (input : Bytes) : Bytes := beBytes 48 (Config.mac 1 cak (beBytes 4 id ++ input))

/-- The X25519 public key of a private key, and the shared secret. -/
def x25519Public (priv : Nat) : Bytes := beBytes 32 (Config.mac 2 priv [])
def x25519Shared (priv : Nat) (pub : Bytes) : Nat := Config.mac 3 priv pub % 2 ^ 256

/-- ML-KEM-1024: the encapsulation key of a key pair; the ciphertext and secret of an encapsulation; decapsulation. -/
def kemPublic (priv : Nat) : Bytes := beBytes 1568 (Config.mac 4 priv [])
def kemCipher (rand : Nat) (ek : Bytes) : Bytes := beBytes 1568 (Config.mac 5 rand ek)
def kemSecret (rand : Nat) (ek : Bytes) : Nat := Config.mac 6 rand ek
def kemOpen (priv : Nat) (ct : Bytes) : Nat := Config.mac 7 priv ct

/-- PRK of R217. -/
def exchangePrk (nonceI nonceR : Bytes) (ssX ssK : Nat) : Nat :=
  Config.mac 8 0 (nonceI ++ nonceR ++ beBytes 32 ssX ++ beBytes 32 ssK)

/-- The outputs of R217: label 0 SAK IR, 1 SAK RI, 2 SALT IR, 3 SALT RI. -/
def exchangeOut (prk label : Nat) (th : Bytes) (id : Nat) : Nat := Config.mac (16 + label) prk (th ++ beBytes 4 id)

/-- KEY_CONFIRM under K_CONF (R214): letter "R", "I" or "F". -/
def keyConfirm (prk : Nat) (letter : Nat) (th : Bytes) (id : Nat) : Bytes :=
  beBytes 48 (Config.mac 20 prk (BitVec.ofNat 8 letter :: (th ++ beBytes 4 id)))

/-- The transcript of R217: the OFFER, and the ACCEPT up to its KEY_CONFIRM. -/
def transcript (offer accept : Bytes) : Bytes := offer ++ accept.take (16 + 1652)

/-! ## Messages out (R208 to R210) -/

/-- The header and body of a message (R209), FRAG and FRAG_INDEX 0. -/
def messageText (type id exchange seq : Nat) (body : Bytes) : Bytes :=
  beBytes 1 (0x10 + type) ++ beBytes 1 0 ++ beBytes 2 (body.length + 48) ++ beBytes 4 id ++ beBytes 4 exchange ++
    beBytes 4 seq ++ body

/-- A frame of an Accord payload, padded to the minimum length. A CLAIM (TYPE 6) comes from the device's own MAC (12 R385). -/
def accordFrame (s : State) (port dst : Nat) (payload : Bytes) : Bytes :=
  let src := if byteAt payload 0 = 0x16 then ownMac s port else portMac s port
  let f := beBytes 6 dst ++ beBytes 6 src ++ beBytes 2 s.accord.etherType ++ payload
  f ++ List.replicate (60 - f.length) 0

/-- Send one Accord frame on a line port; nothing is sent while ENABLE is 0 (R212). -/
def sendAccordFrame (port dst : Nat) (payload : Bytes) (s : State) : State :=
  if s.accord.enable then
    match sendGenerated (64 + port) (accordFrame s port dst payload) s with
    | (true, s) => accCount 0 s
    | (false, s) => s
  else s

/-- Send a message's bytes, in two fragments where they exceed the MTU (R210). -/
def sendText (port dst : Nat) (whole : Bytes) (s : State) : State :=
  if whole.length ≤ s.accord.mtu then sendAccordFrame port dst whole s
  else
    let hdr (i : Nat) : Bytes := whole.take 1 ++ beBytes 1 (0x80 + 0x40 * i) ++ slice whole 2 14
    let rest := whole.drop 16
    let n := s.accord.mtu - 16
    sendAccordFrame port dst (hdr 1 ++ rest.drop n) (sendAccordFrame port dst (hdr 0 ++ rest.take n) s)

/-- The next SEQ of a community on a port (R209), which is counted. -/
def nextSeq (ci port : Nat) (s : State) : Nat × State :=
  match commOf s ci with
  | none => (1, s)
  | some c =>
    let n := (c.seqs.get 0 port + 1) % 2 ^ 32
    (n, setComm ci { c with seqs := c.seqs.set port n } s)

/-- Send a new message: its text, and its MAC over what precedes it in the exchange and itself (R219). Answers the bytes sent. -/
def sendMessage (ci port dst type exchange : Nat) (before body : Bytes) (s : State) : Bytes × State :=
  match commOf s ci with
  | none => ([], s)
  | some c =>
    let (n, s) := nextSeq ci port s
    let text := messageText type c.id exchange n body
    let whole := text ++ authMac (slotOf s c.keySlot).key c.id (before ++ text)
    (whole, sendText port dst whole s)

/-- The text of a message's bytes. -/
def textOf (whole : Bytes) : Bytes := whole.take (whole.length - 48)

/-- A HELLO (R214, R221). -/
def sendHello (ci port dst : Nat) (solicit : Bool) (s : State) : State :=
  let body := beBytes 8 (accordId s) ++ beBytes 4 (s.accord.epoch.getD 0) ++ beBytes 2 s.accord.helloMs ++
    beBytes 1 (b2n solicit + 2 * b2n (s.pair.mode != .off)) ++ beBytes 1 0
  (sendMessage ci port dst 1 0 [] body s).2

/-- A FAREWELL to a peer (R214). -/
def sendFarewell (pi reason : Nat) (s : State) : State :=
  match peerOf s pi with
  | none => s
  | some p =>
    (sendMessage p.community p.port p.mac 7 0 [] (beBytes 8 (accordId s) ++ beBytes 1 reason ++ beBytes 7 0) s).2

/-! ## Line direct entries and SCs (R225, R227) -/

/-- The index of a peer's line direct entry (R112). -/
def lineIndex (p : Peer) : Nat := p.port * 4096 + p.localPi

/-- The line direct entry that Accord writes for a peer (R227). -/
def accordEntry (c : Community) (p : Peer) (rxSc : Nat) : Nat :=
  LineEntry.word { sci := sciOf p.mac p.localPi, rxSc, meter := c.rxMeter, queue := c.rxQueue, valid := true, bypass := false,
                   accord := true, drop := false, buffered := c.rxBuffered, meterEn := c.rxMeterEn, port := 0 }

/-- Write, whole, a peer's line direct entry from the peer table (R206, R227, 04 R135). -/
def writeLineEntry (pi : Nat) (s : State) : State :=
  match peerOf s pi with
  | none => s
  | some p =>
    match commOf s p.community, p.rxSc with
    | some c, some rx => markDirty 1 (2 ^ 24 + lineIndex p) (putEntry 1 (lineIndex p) { data := accordEntry c p rx } s)
    | _, _ => s

/-- Clear a peer's line direct entry, if Accord wrote it. -/
def clearLineEntry (p : Peer) (s : State) : State :=
  if (lineEntry (selEntry s 1 (lineIndex p)).data).accord then clearEntry 1 (lineIndex p) s else s

/-- The SAs in an SC's slots. -/
def sasOf (s : State) (sc : Option Nat) : List Nat :=
  match sc with
  | none => []
  | some n => match scOf s n with
    | none => []
    | some c => ([0, 1, 2, 3].map c.slot).filterMap id

/-- Remove an SC that Accord created: its SAs leave their slots and drain (R171), the entry and any ROLL instant go. -/
def removeSc (sc : Option Nat) (s : State) : State :=
  match sc with
  | none => s
  | some n => deleteSc n s

/-- The identifier of a peer that has ended returns once its SAs have drained (R225). -/
def holdPi (p : Peer) (sas : List Nat) (s : State) : State :=
  if sas = [] then s
  else { s with accord := { s.accord with heldPis := s.accord.heldPis ++ [{ port := p.port, pi := p.localPi, sas }] } }

/-- A peer's entry becomes FREE. -/
def erasePeer (pi : Nat) (s : State) : State :=
  markDirty 5 pi { s with accord := { s.accord with peers := s.accord.peers.erase pi } }

/-- Teardown (R225): the line direct entry is cleared, the SCs deleted and their SAs retired at once; the entry goes, or stays
SUPPRESSED. An open exchange has ended without success (R242). -/
def teardown (pi : Nat) (suppress : Bool) (s : State) : State :=
  match peerOf s pi with
  | none => s
  | some p =>
    let sas := sasOf s p.rxSc ++ sasOf s p.txSc
    let s := removeSc p.txSc (removeSc p.rxSc (clearLineEntry p s))
    let s := holdPi p sas s
    let s := match p.exchange with | some x => if x.stage = .done then s else accCount 10 s | none => s
    if suppress then
      setPeer pi { p with state := .suppressed, rxSc := none, txSc := none, exchange := none, wish := none, backoff := none,
                          waiting := false, oldRx := [], newSci := false, leftover := none, rollAt := none } s
    else erasePeer pi s

/-- Retire one SA at once, if it is still there. -/
def retireSa (n : Option Nat) (s : State) : State :=
  match n with
  | none => s
  | some a => vacate a s

/-! ## Exchanges: ends (R226, R228) -/

/-- What an ended exchange leaves behind is removed (R226, R227): a responder in ACCEPTED retires both SAs, and both SCs and the
entry where it had created them; an initiator in CONFIRMED retires the transmit SA and keeps the rest. -/
def cleanExchange (pi : Nat) (p : Peer) (x : Exchange) (s : State) : State :=
  match x.stage with
  | .accepted =>
    if x.created then
      let sas := x.rxSa.toList ++ x.txSa.toList
      let s := holdPi p sas (removeSc p.txSc (removeSc p.rxSc (clearLineEntry p s)))
      modPeer pi (fun p => { p with rxSc := none, txSc := none }) s
    else retireSa x.txSa (retireSa x.rxSa s)
  | .confirmed => retireSa x.txSa s
  | _ => s

/-- ACC_AGREE_FAILED for a peer (R243). -/
def raiseAgreeFailed (pi reason : Nat) (s : State) : State :=
  match peerOf s pi with
  | none => s
  | some p =>
    let owner := match commOf s p.community with | some c => c.owner | none => 0
    raiseScoped owner p.port 0x0604 1 pi (detailOf [(20, reason)]) s

/-- An exchange ends without success (R228): counted, told, its leavings removed; an initiator backs off. -/
def endExchange (pi reason : Nat) (s : State) : State :=
  match peerOf s pi with
  | none => s
  | some p =>
    match p.exchange with
    | none => s
    | some x =>
      let s := cleanExchange pi p x s
      let s := modPeer pi (fun p => { p with
        exchange := none, lastFail := reason
        backoff := if x.initiator then some x.rekey else p.backoff
        timeouts := if reason = 8 then p.timeouts + 1 else p.timeouts }) s
      raiseAgreeFailed pi reason (accCount 10 s)

/-! ## Exchanges: openings (R226, R232, R235, R236) -/

/-- The AN that this end proposes for its new transmit SA: (ENC_AN + 1) mod 4 for a rekey (R232), else the next free slot, 0 on a
new SC (R227, R233). -/
def proposeAn (s : State) (p : Peer) (rekey : Bool) : Option Nat :=
  match p.txSc with
  | none => some 0
  | some n =>
    match scOf s n with
    | none => some 0
    | some c =>
      let start := if c.encAn = 4 then 0 else (c.encAn + 1) % 4
      if rekey then (if (c.slot start).isNone then some start else none)
      else ((List.range 4).map (fun i => (start + i) % 4)).find? (fun an => (c.slot an).isNone)

/-- Whether a MAC is the MAC part of a valid foreign-SCI entry on a line port (R223, R239). -/
def foreignMac (s : State) (port mac : Nat) : Bool :=
  s.selectors.foreign.cells.any (fun c =>
    let e := lineEntry c.2.data
    e.valid && e.port == port && bitsOf e.sci 0 48 == leNat (beBytes 6 mac))

/-- Whether CPU_ACC may open an exchange with a peer now: never with the MAC of a foreign-SCI entry (R239). -/
def mayOpen (s : State) (p : Peer) (rekey : Bool) : Bool :=
  accUp s && engineRuns s && !foreignMac s p.port p.mac && entServes s 5 && inProgress s < s.accord.maxExchanges &&
    (match p.exchange with | some x => x.stage == .done | none => true) &&
    (proposeAn s p rekey).isSome &&
    (match commOf s p.community with | some c => !c.tearing && !c.keyLost && keySlotUsable s c.keySlot | none => false)

/-- The first 16 bytes of an OFFER or ACCEPT body (R214). -/
def offerHead (s : State) (c : Community) (p : Peer) (an : Nat) (rekey : Bool) : Bytes :=
  beBytes 8 (accordId s) ++ beBytes 2 p.localPi ++ beBytes 1 (c.suite + 4 * c.co) ++ beBytes 1 (an + 4 * b2n rekey) ++
    beBytes 4 (s.accord.epoch.getD 0)

/-- Open an exchange as initiator (R226): the keys and nonce are drawn and OFFER sent. -/
def openExchange (pi : Nat) (rekey : Bool) (s : State) : State :=
  match peerOf s pi with
  | none => s
  | some p =>
    match commOf s p.community, proposeAn s p rekey with
    | some c, some an =>
      let s := entServe 5 160 s
      let (number, s) := drawFree 32 s
      let (nonce, s) := drawFree 256 s
      let (x25519, s) := drawFree 256 s
      let (kem, s) := drawFree 512 s
      let body := offerHead s c p an rekey ++ beBytes 32 nonce ++ x25519Public x25519 ++ kemPublic kem
      let (whole, s) := sendMessage p.community p.port p.mac 2 number [] body s
      let x : Exchange :=
        { number, initiator := true, stage := .offered, rekey, txAn := an, nonce, x25519, kem, offer := textOf whole, sent := whole
          keyGen := issuedGen s false c.keySlot }
      modPeer pi (fun p => { p with exchange := some x, wish := none, waiting := false, backoff := none }) s
    | _, _ => s

/-- Serve the openings that wait, in peer-index order (R235, R236). -/
def serveWishes (s : State) : State :=
  (s.accord.peers.keysIf (fun _ p => p.wish.isSome)).foldl (fun s pi =>
    match peerOf s pi with
    | none => s
    | some p =>
      match p.wish with
      | none => s
      | some rekey => if mayOpen s p rekey then openExchange pi rekey s else s) s

/-- CPU_ACC wishes to open an exchange with a peer. -/
def wishOpen (pi : Nat) (rekey : Bool) (s : State) : State :=
  serveWishes (modPeer pi (fun p => { p with wish := some rekey }) s)

/-- Whether a peer can be rekeyed: it holds keys. -/
def Peer.hasKeys (p : Peer) : Bool := p.state == .active || p.state == .lost

/-- Rekey every peer of a community (R206, R237). -/
def rekeyAll (ci : Nat) (s : State) : State :=
  serveWishes { s with accord := { s.accord with peers := s.accord.peers.mapSome (fun _ p =>
    some (if p.community = ci ∧ p.hasKeys then { p with wish := some true } else p)) } }

/-- Rekey every peer of a community with its switch at an instant (13 R414). -/
def rekeyAt (ci sec ns : Nat) (s : State) : State :=
  serveWishes { s with accord := { s.accord with peers := s.accord.peers.mapSome (fun _ p =>
    some (if p.community = ci ∧ p.hasKeys then { p with wish := some true, rollAt := some (sec, ns) } else p)) } }

/-- CPU_ACC retires the failed Accord SAs of SCs that are due (05 R164); in a pair the device that runs the protocol does. -/
def retireFailed (due : List Nat) (s : State) : State :=
  if accordLeads s then
    (s.channels.sas.keysIf (fun _ a => a.accord && a.failed && !a.draining && due.contains a.sc)).foldl (fun s n => vacate n s) s
  else s

/-- CPU_ACC takes the SCs whose SA has reached its threshold or failed (R232): failed SAs are retired, and a rekey is opened. -/
def serveRekeyDue (s : State) : State :=
  if accUp s && s.channels.rekeyDue != [] then
    let due := s.channels.rekeyDue
    let hit (p : Peer) : Bool :=
      p.hasKeys && (match p.txSc with | some n => due.contains n | none => false) ||
        p.hasKeys && (match p.rxSc with | some n => due.contains n | none => false)
    let s := retireFailed due { s with channels := { s.channels with rekeyDue := [] } }
    serveWishes { s with accord := { s.accord with peers := s.accord.peers.mapSome (fun _ p =>
      some (if hit p then { p with wish := some true } else p)) } }
  else s

/-- After a change of a slot: communities whose key slot has become unusable stop, and those whose slot is usable again resume and
rekey every peer (R237). -/
def reviewCommunities (s : State) : State :=
  s.accord.communities.keys.foldl (fun s ci =>
    match commOf s ci with
    | none => s
    | some c =>
      let good := keySlotUsable s c.keySlot
      if !good && !c.keyLost then
        raiseFor c.owner 0x0605 1 0 (detailOf [(20, 2), (21, ci)]) (setComm ci { c with keyLost := true } s)
      else if good && c.keyLost then rekeyAll ci (setComm ci { c with keyLost := false } s)
      else s) s

/-- Openings pause and resume with the entropy unit (R236); ACC_ENGINE_STATE tells it while the engine is enabled. -/
def reviewEntropy (s : State) : State :=
  let out := !(s.entropy.state == .ready)
  if out && !s.accord.paused then
    let s := { s with accord := { s.accord with paused := true } }
    if s.accord.enable then raise 0x0605 1 0 (detailOf [(20, 1)]) s else s
  else if !out && s.accord.paused then
    let s := { s with accord := { s.accord with paused := false } }
    serveWishes (if s.accord.enable then raise 0x0605 1 0 0 s else s)
  else s

/-! ## SAs and the switch (R227, R230) -/

/-- An SA of Accord (R203, R217): its key, salt and SSCI; PN 1. -/
def accordSa (c : Community) (rx : Bool) (key salt ssci gen an sc : Nat) : Sa where
  key := if suite128 c.suite then key % 2 ^ 128 else key % 2 ^ 256
  nextPn := 1
  low := if rx then 1 else defaultThreshold c.suite
  salt := if xpn c.suite then salt % 2 ^ 96 else 0
  ssci := if xpn c.suite then leNat (beBytes 4 ssci) else 0
  receive := rx
  key128 := suite128 c.suite
  accord := true
  parentSlot := c.keySlot
  parentIsRoot := false
  parentGen := gen
  an := an
  sc := sc

/-- A new SC of Accord (R227). -/
def accordSc (c : Community) (p : Peer) (rx : Bool) (sci : Nat) : Sc where
  sci := sci
  receive := rx
  suite := c.suite
  co := c.co
  replayProtect := rx
  accord := true
  encAn := if rx then 0 else 4
  includeSci := !rx
  es := false
  scb := false
  tagsInClear := 0
  tenant := c.owner
  port := p.port
  replayWindow := if rx then c.replayWindow else 0
  overlap := if rx then c.overlap else 0

/-- Whether the owner has room for a peer's new SAs, and its SCs where they are new (R203, 02 R74). -/
def roomFor (s : State) (c : Community) (p : Peer) : Bool :=
  let n := b2n p.rxSc.isNone + b2n p.txSc.isNone
  !scFull s c.owner n && !saFull s c.owner 2 && decide (s.channels.scs.cells.length + n ≤ scCapacity) &&
    decide (s.channels.sas.cells.length + 2 ≤ saCapacity)

/-- Create a peer's missing SCs (R227). -/
def createScs (pi : Nat) (s : State) : State :=
  match peerOf s pi with
  | none => s
  | some p =>
    match commOf s p.community with
    | none => s
    | some c =>
      let s := if p.rxSc.isSome then s else
        let n := (s.channels.scs.firstFree 0 scCapacity).getD 0
        modPeer pi (fun p => { p with rxSc := some n }) (markDirty 2 n <| setSc n (accordSc c p true (sciOf p.mac p.localPi)) s)
      if p.txSc.isSome then s else
        let n := (s.channels.scs.firstFree 0 scCapacity).getD 0
        modPeer pi (fun p => { p with txSc := some n }) (markDirty 2 n <| setSc n (accordSc c p false (sciOf (portMac s p.port) p.peerPi)) s)

/-- Write one SA into a slot of an SC: on receive it becomes NEXT_AN (06 R187), on transmit it stands by. -/
def writeAccordSa (a : Sa) (s : State) : Option Nat × State :=
  match s.channels.sas.firstFree 0 saCapacity with
  | none => (none, s)
  | some n =>
    let s := markDirty 3 n (markDirty 2 a.sc (setSa n a s))
    (some n, modSc a.sc (fun c => let c := c.setSlot a.an (some n); if a.receive then { c with nextAn := a.an } else c) s)

/-- Write an exchange's SAs (R226, R227): the SCs where they are new, the receive SA, then the line direct entry, then the transmit
SA in TX_STANDBY. `initiator` tells which keys are which. -/
def writeExchangeSas (pi : Nat) (x : Exchange) (th : Bytes) (s : State) : State :=
  match peerOf s pi with
  | none => s
  | some p0 =>
    match commOf s p0.community with
    | none => s
    | some c =>
      let created := p0.rxSc.isNone
      let s := createScs pi s
      match (peerOf s pi).bind (·.rxSc), (peerOf s pi).bind (·.txSc) with
      | some rx, some tx =>
        let out (ir : Bool) (l : Nat) : Nat := exchangeOut x.prk (l + b2n (!ir)) th c.id
        let irRx := !x.initiator
        let (rxSa, s) := writeAccordSa (accordSa c true (out irRx 0) (out irRx 2) (if irRx then 1 else 2) x.keyGen x.rxAn rx) s
        let s := writeLineEntry pi s
        let (txSa, s) := writeAccordSa (accordSa c false (out (!irRx) 0) (out (!irRx) 2) (if irRx then 2 else 1) x.keyGen x.txAn tx) s
        modPeer pi (fun p => { p with exchange := some { x with rxSa, txSa, created } }) s
      | _, _ => s

/-- The switch of a peer's transmit SC to its new SA (R230, R233), subject to R194: a refused target leaves the SC and posts
SA_ROLL_FAILED. The first switch of an SC posts no SA_SWITCHED. -/
def accordSwitch (pi an : Nat) (s : State) : State :=
  match peerOf s pi with
  | none => s
  | some p =>
    match p.txSc with
    | none => s
    | some n =>
      match scOf s n with
      | none => s
      | some c0 =>
        match switchRefused s c0 an with
        | some why => rollFailed n c0 an why 0 s
        | none =>
          let c := if p.newSci then { c0 with sci := sciOf (portMac s p.port) p.peerPi } else c0
          let s := modPeer pi (fun p => { p with newSci := false }) s
          if c.encAn = 4 then markDirty 2 n <| setSc n { c with encAn := an, nextAn := an } s
          else moveEncAn n c an 2 s

/-- An agreement completes at this end (R234): counted; the first one makes the peer ACTIVE and counts it in PORT_PEERS_UP; any
success resets the backoff. -/
def agreementDone (pi : Nat) (s : State) : State :=
  match peerOf s pi with
  | none => s
  | some p =>
    let s := accCount 9 s
    let s := setPeer pi { p with
      state := if p.state = .discovered then .active else p.state
      agreements := (p.agreements + 1) % 2 ^ 32, agreedMs := msNow s, backoff := none, timeouts := 0
      exchange := p.exchange.map (fun x => { x with stage := .done }) } s
    if p.state = .discovered then notePeer 0x0601 0 pi s else s

/-! ## Discovery records (R126, R223) -/

/-- A learning table offers a discovery record (R223): accepted while DISCOVERY is 1 and the queue of 256 has room; records of one
{port, MAC} are merged; one for a foreign-SCI MAC is discarded and counted. -/
def offerRecord (port mac : Nat) (s : State) : State :=
  if !s.accord.discovery || !engineRuns s then s
  else if foreignMac s port mac then accCount 15 s
  else if s.accord.records.contains (port, mac) then accCount 14 s
  else if 256 ≤ s.accord.records.length then s
  else accCount 14 { s with accord := { s.accord with records := s.accord.records ++ [(port, mac)] } }

end Sys2Proof.Machine
end

