-- ==== Sys2Proof/Machine/Accord.lean ====
section
/-!
DEFINITION. Accord's events and commands (07_accord): what arrives, each message type, the timers of peers and exchanges, and
ACC_COMMUNITY_SET, ACC_PEER_LIST, ACC_PEER_DROP and ACC_POLICY.
-/
namespace Sys2Proof.Machine

open Sys2Proof

/-! ## Arrival (R209 to R211, R215, R219, R220) -/

/-- The TOTAL_LENGTH of a type (R214): an ACCEPT's depends on its RESULT. -/
def totalLength (type result : Nat) : Nat :=
  match type with
  | 1 => 64
  | 2 => 1696
  | 3 => if result = 0 then 1748 else 68
  | 4 => 112
  | 5 => 80
  | 6 => 72
  | 7 => 64
  | _ => 0

/-- Fields of a message's text: TYPE, EXCHANGE, SEQ, and the body. -/
def textType (t : Bytes) : Nat := byteAt t 0 % 16
def textExchange (t : Bytes) : Nat := beAt t 8 4
def textSeq (t : Bytes) : Nat := beAt t 12 4
def textBody (t : Bytes) : Bytes := t.drop 16

/-- The EPOCH that a HELLO, OFFER or ACCEPT carries. -/
def textEpoch (t : Bytes) : Option Nat :=
  match textType t with
  | 1 => some (beAt t 24 4)
  | 2 => some (beAt t 28 4)
  | 3 => some (beAt t 28 4)
  | _ => none

/-- Whether a message is refused as malformed (R215): a TOTAL_LENGTH that its type does not have, a reserved type, or ASSIGNED_PI
with nonzero bits [15:12]. -/
def malformed (t : Bytes) : Bool :=
  let type := textType t
  type == 0 || 8 ≤ type || beAt t 2 2 != totalLength type (byteAt t 32) ||
    ((type == 2 || type == 3) && 4096 ≤ beAt t 24 2)

/-- Drop `n` frames in a counter of R242. -/
def accDrop (i n : Nat) (s : State) : State := countBy (0x2100 + 8 * i) n s

/-- A message fails its MAC or KEY_CONFIRM (R219): dropped, and ACC_AUTH_FAIL posted. -/
def authFail (ci port src n : Nat) (s : State) : State :=
  let owner := match commOf s ci with | some c => c.owner | none => 0
  raiseScoped owner port 0x0607 1 port (detailOf [(24, leNat (beBytes 6 src))]) (accDrop 2 n s)

/-- Whether R220 drops a message from a known peer: its EPOCH is the current one and its SEQ is not above the last, unless it
repeats the last message of an exchange byte for byte. -/
def replayed (s : State) (ci port src : Nat) (whole : Bytes) : Bool :=
  match peerAt s ci port src with
  | none => false
  | some pi =>
    match peerOf s pi with
    | none => false
    | some p =>
      let same := match textEpoch whole with | some e => e == p.epoch | none => true
      let repeats := match p.exchange with | some x => x.last == whole | none => false
      same && decide (textSeq whole ≤ p.seq) && !repeats

/-- A whole message, made of `n` frames, is checked and joins the engine's queue (R215, R219, R220, R237). The MAC of an ACCEPT with
RESULT 0 and of a CONFIRM covers the exchange and is checked with it. -/
def queueMessage (ci wire src n : Nat) (whole : Bytes) (s : State) : State :=
  let port := lookPort s wire
  let text := textOf whole
  let mac := whole.drop (whole.length - 48)
  let type := textType text
  let later := type == 4 || (type == 3 && byteAt text 32 == 0)
  match commOf s ci with
  | none => accDrop 4 n s
  | some c =>
    if malformed text then accDrop 3 n s
    else if c.keyLost || !keySlotUsable s c.keySlot then accDrop 2 n s
    else if !later && mac != authMac (slotOf s c.keySlot).key c.id text then authFail ci port src n s
    else if replayed s ci port src whole then accDrop 5 n s
    else
      let s := accDrop 1 n s
      { s with accord := { s.accord with messages := s.accord.messages ++ [{ port, wire, src, community := ci, text, mac, frames := n }] } }

/-- The key of a fragment's message (R211): {port, source MAC, COMMUNITY, EXCHANGE, SEQ}. -/
def sameMessage (f : Fragment) (port src : Nat) (hdr : Bytes) : Bool :=
  f.port == port && f.src == src && slice f.header 4 12 == slice hdr 4 12

/-- Release a held fragment. -/
def dropFragment (port src : Nat) (hdr : Bytes) (s : State) : State :=
  { s with accord := { s.accord with fragments := s.accord.fragments.filter (fun f => !sameMessage f port src hdr) } }

/-- A fragment arrives (R210, R211). -/
def takeFragment (ci wire src : Nat) (pay : Bytes) (s : State) : State :=
  let port := lookPort s wire
  let hdr := pay.take 16
  let total := beAt hdr 2 2
  let second := bitOf (byteAt hdr 1) 6
  match s.accord.fragments.find? (fun f => sameMessage f port src hdr), second with
  | none, false =>
    if total < pay.length - 16 then accDrop 3 1 s
    else if 256 ≤ s.accord.fragments.length then accDrop 7 1 s
    else
      let f : Fragment := { port, src, header := hdr, data := pay.drop 16 }
      { s with accord := { s.accord with fragments := s.accord.fragments ++ [f] } }
  | some _, false => accDrop 3 2 (dropFragment port src hdr s)
  | none, true => accDrop 7 1 s
  | some f, true =>
    let s := dropFragment port src hdr s
    let need := total - f.data.length
    if f.header.take 1 ++ slice f.header 2 14 = hdr.take 1 ++ slice hdr 2 14 ∧ need ≤ pay.length - 16 then
      queueMessage ci wire src 2 (hdr.take 1 ++ beBytes 1 0 ++ slice hdr 2 14 ++ f.data ++ slice pay 16 need) s
    else accDrop 3 2 s

/-- A frame of a line port enters the engine's queue (R209, R211, R215). -/
def takeFrame (wire : Nat) (frame : Bytes) (s : State) : State :=
  let port := lookPort s wire
  let src := beAt frame 6 6
  let pay := frame.drop 14
  let waiting := (s.accord.messages.filter (fun m => m.port == port)).length
  if 64 ≤ waiting || 1024 ≤ s.accord.messages.length then accDrop 6 1 s
  else if !s.accord.enable then accDrop 4 1 s
  else if pay.length < 16 || byteAt pay 0 / 16 != 1 then accDrop 3 1 s
  else
    match commById s (beAt pay 4 4) port with
    | none => accDrop 4 1 s
    | some ci =>
      if bitOf (byteAt pay 1) 7 then takeFragment ci wire src pay s
      else
        let total := beAt pay 2 2
        if total < 48 || pay.length < 16 + total then accDrop 3 1 s
        else queueMessage ci wire src 1 (pay.take 1 ++ beBytes 1 0 ++ slice pay 2 (14 + total)) s

/-- The first element of a list that satisfies a condition, and the list without it. -/
def takeFirst {α : Type} (p : α → Bool) : List α → Option (α × List α)
  | [] => none
  | x :: xs => if p x then some (x, xs) else (takeFirst p xs).map (fun r => (r.1, x :: r.2))

/-- ACC_FRAME_RX: the oldest Accord frame that a line port's pipe has received whole enters the engine's queue. -/
def execAccFrameRx (port : Nat) (s : State) : Host.Outcome State Fault Refusal :=
  act (fun s =>
    match takeFirst (fun a => a.1 == port) s.accord.arrived with
    | none => s
    | some (a, rest) => takeFrame port a.2 { s with accord := { s.accord with arrived := rest } }) s

/-- ACC_FRAG_TIMEOUT: the oldest held first fragment of a port has waited 10 ms (R211). -/
def execAccFragTimeout (port : Nat) (s : State) : Host.Outcome State Fault Refusal :=
  act (fun s =>
    match takeFirst (fun f => f.port == port) s.accord.fragments with
    | none => s
    | some (_, rest) => accDrop 7 1 { s with accord := { s.accord with fragments := rest } }) s

/-- The message of a port that is served next, if it is of a type, and the state without it. They are served in order; while CPU_ACC does
not serve, HELLOs and CLAIMs, which hardware takes (R238), pass the others. -/
def takeMessage (port type : Nat) (s : State) : Option (Message × State) :=
  match takeFirst (fun m => m.port == port && (accUp s || textType m.text == 1 || textType m.text == 6)) s.accord.messages with
  | none => none
  | some (m, rest) =>
    if textType m.text = type then some (m, { s with accord := { s.accord with messages := rest } }) else none

/-- A frame's message is dropped as stale (R222, R224, R229). -/
def staleMessage (m : Message) (s : State) : State := accDrop 8 m.frames s

/-- A message that carries the device's own DEVICE_ID (R222). -/
def loopbackSeen (m : Message) (s : State) : State :=
  let owner := match commOf s m.community with | some c => c.owner | none => 0
  raiseFor owner 0x0608 2 m.port 0 (staleMessage m s)

/-- Whether a message's community is still enabled on its port, and the engine (R207, R215). -/
def stillEnabled (s : State) (m : Message) : Bool :=
  s.accord.enable && (match commOf s m.community with | some c => !c.tearing && bitOf c.portMask m.port | none => false)

/-- Serve the next message of a port where it is of a type and `ready` holds: the standby of a pair consumes it (12 R372), it is dropped
where its community has gone (R215) or where it is this device's own (R222), and else `f` acts on it. Then openings that wait have
their turn (R235). -/
def serveMessage (port type : Nat) (ready : Bool) (f : Message → State → State) (s : State) : State :=
  match takeMessage port type s with
  | none => s
  | some (m, t) =>
    if !accordLeads s then t
    else if !ready then s
    else if !stillEnabled s m then accDrop 4 m.frames t
    else if beAt (textBody m.text) 0 8 = accordId s then loopbackSeen m t
    else serveWishes (f m t)

/-! ## Peers (R222, R224, R233) -/

/-- The lowest free identifier of a port's index space at or above SEL_LINE_SPLIT.CURRENT (R222). -/
def freePi (s : State) (port : Nat) : Option Nat :=
  let used (i : Nat) : Bool :=
    s.accord.peers.cells.any (fun c => c.2.port == port && c.2.localPi == i && c.2.state != .suppressed) ||
      s.accord.heldPis.any (fun h => h.port == port && h.pi == i)
  let lo := s.selectors.lineSplit
  ((List.range (4096 - lo)).map (· + lo)).find? (fun i => !used i)

/-- Create a peer entry in DISCOVERED (R222); none where the table or the identifiers are full, with ACC_TABLE_FULL. -/
def createPeer (m : Message) (deviceId epoch helloMs : Nat) (s : State) : Option Nat × State :=
  match s.accord.peers.firstFree 0 16384, freePi s m.port with
  | some pi, some localPi =>
    (some pi, setPeer pi { community := m.community, port := m.port, mac := m.src, state := .discovered, deviceId, epoch
                           seq := textSeq m.text, helloMs, localPi, seenMs := msNow s } s)
  | _, _ =>
    let owner := match commOf s m.community with | some c => c.owner | none => 0
    (none, raiseHeld owner 0x0606 1 0 0 s)

/-- A valid message with a new EPOCH (R233): counted and recorded; the SAs of the old epoch wait for HOLD; a LOST peer is ACTIVE. -/
def noteEpoch (pi epoch : Nat) (s : State) : State :=
  match peerOf s pi with
  | none => s
  | some p =>
    accCount 13 (setPeer pi { p with
      epoch, seq := 0, oldRx := sasOf s p.rxSc, newSci := p.txSc.isSome
      state := if p.state = .lost then .active else p.state } s)

/-- The last SEQ of a peer (R220). -/
def noteSeq (pi : Nat) (t : Bytes) (s : State) : State := modPeer pi (fun p => { p with seq := max p.seq (textSeq t) }) s

/-- Whether this device opens the exchange with a new or restarted peer (R224): the higher DEVICE_ID. -/
def opens (s : State) (p : Peer) : Bool := decide (p.deviceId < accordId s)

/-- A new peer's first step (R224): open as initiator, or wait 1 s for an OFFER. -/
def startPeer (pi : Nat) (s : State) : State :=
  match peerOf s pi with
  | none => s
  | some p => if opens s p then wishOpen pi false s else setPeer pi { p with waiting := true } s

/-- A HELLO from a known peer that is not SUPPRESSED (R224). -/
def helloFrom (pi : Nat) (p : Peer) (epoch helloMs : Nat) (m : Message) (s : State) : State :=
  if epoch = p.epoch then
    noteSeq pi m.text (setPeer pi { p with seenMs := msNow s, helloMs, state := if p.state = .lost then .active else p.state } s)
  else
    let s := endExchange pi 8 s
    let s := noteSeq pi m.text (noteEpoch pi epoch s)
    let s := modPeer pi (fun p => { p with seenMs := msNow s, helloMs, backoff := none }) s
    match peerOf s pi with
    | none => s
    | some p => if opens s p then wishOpen pi false s else s

/-- Answer a HELLO with SOLICIT (R214). -/
def answerSolicit (m : Message) (s : State) : State :=
  if bitOf (byteAt (textBody m.text) 14) 0 then sendHello m.community m.port m.src false s else s

/-- A HELLO (R214, R222, R224, R233): hardware verifies it and records when its peer was last seen; CPU_ACC makes new peers, and sees a
new EPOCH. One that is dropped gets no answer. -/
def helloServed (m : Message) (s : State) : State :=
  let b := textBody m.text
  let epoch := beAt b 8 4
  let ms := beAt b 12 2
  match peerAt s m.community m.port m.src with
  | some pi =>
    match peerOf s pi with
    | none => s
    | some p =>
      if p.state = .suppressed then staleMessage m s
      else answerSolicit m (if accUp s || epoch = p.epoch then helloFrom pi p epoch ms m s else s)
  | none =>
    if accUp s then
      match createPeer m (beAt b 0 8) epoch ms s with
      | (some pi, s) => answerSolicit m (startPeer pi s)
      | (none, s) => staleMessage m s
    else answerSolicit m s

/-- ACC_HELLO_RX. -/
def helloRx (port : Nat) (s : State) : State := serveMessage port 1 s.accord.epoch.isSome helloServed s

/-- ACC_HELLO_RX. -/
def execAccHelloRx (port : Nat) (s : State) : Host.Outcome State Fault Refusal := act (helloRx port) s

/-! ## OFFER (R226 to R229) -/

/-- Send a refusing ACCEPT (R214, R228) to the sender of an OFFER; POLICY_MISMATCH also posts ACC_AGREE_FAILED. -/
def refuseOffer (m : Message) (result : Nat) (s : State) : State :=
  match commOf s m.community with
  | none => s
  | some c =>
    let pi := (peerAt s m.community m.port m.src).getD 0
    let own := match peerAt s m.community m.port m.src with | some i => (match peerOf s i with | some p => p.localPi | none => 0) | none => 0
    let body := beBytes 8 (accordId s) ++ beBytes 2 own ++ beBytes 1 (c.suite + 4 * c.co) ++ beBytes 1 0 ++
      beBytes 4 (s.accord.epoch.getD 0) ++ beBytes 1 result ++ beBytes 3 0
    let s := (sendMessage m.community m.port m.src 3 (textExchange m.text) [] body s).2
    let s := accCount 11 s
    if result = 4 then raiseAgreeFailed pi 4 s else s

/-- Why an OFFER that could be answered is refused (R228), none where it is accepted. -/
def offerRefusal (s : State) (c : Community) (p : Peer) (m : Message) : Option Nat :=
  let b := textBody m.text
  let suiteCo := byteAt b 10
  let txAn := byteAt b 11 % 4
  let busy := match p.rxSc with
    | none => false
    | some n => match scOf s n with | some e => (e.slot txAn).isSome | none => false
  if !Config.ekValid (slice b 80 1568) then some 6
  else if suiteCo % 4 ≠ c.suite ∨ suiteCo / 4 % 4 ≠ c.co then some 4
  else if s.accord.maxExchanges ≤ inProgress s then some 1
  else if !roomFor s c p then some 2
  else if busy || (match p.exchange with | some x => x.stage != .done | none => false) ||
      (proposeAn s p (bitOf (byteAt b 11) 2 && p.hasKeys)).isNone then some 3
  else none

/-- The identifier that a peer has assigned; the transmit SC's SCI takes a new one at the next switch (R227, R233). -/
def Peer.withPi (p : Peer) (pi : Nat) : Peer :=
  { p with peerPi := pi, newSci := p.newSci || (p.txSc.isSome && p.peerPi != pi) }

/-- Answer an OFFER as responder (R226, R227): the values are drawn, the SAs written, ACCEPT sent. -/
def acceptOffer (pi : Nat) (m : Message) (s : State) : State :=
  match peerOf s pi with
  | none => s
  | some p0 =>
    match commOf s p0.community with
    | none => s
    | some c =>
      let b := textBody m.text
      let rekey := bitOf (byteAt b 11) 2 && p0.hasKeys
      let an := (proposeAn s p0 rekey).getD 0
      let p := { p0.withPi (beAt b 8 2) with waiting := false, wish := none, backoff := none }
      let s := setPeer pi p (entServe 3 96 s)
      let (nonce, s) := drawFree 256 s
      let (x25519, s) := drawFree 256 s
      let (kem, s) := drawFree 256 s
      let ek := slice b 80 1568
      let ssX := x25519Shared x25519 (slice b 48 32)
      if ssX = 0 then raiseAgreeFailed pi 9 (accCount 10 (accDrop 3 m.frames (modPeer pi (fun p => { p with lastFail := 9, exchange := none }) s)))
      else
        let prk := exchangePrk (slice b 16 32) (beBytes 32 nonce) ssX (kemSecret kem ek)
        let head := offerHead s c p an rekey ++ beBytes 4 0 ++ beBytes 32 nonce ++ x25519Public x25519 ++ kemCipher kem ek
        let (n, s) := nextSeq p.community p.port s
        let hdr := messageText 3 c.id (textExchange m.text) n []
        let hdr := hdr.take 2 ++ beBytes 2 1748 ++ hdr.drop 4
        let th := m.text ++ hdr ++ head
        let text := hdr ++ head ++ keyConfirm prk 0x52 th c.id
        let whole := text ++ authMac (slotOf s c.keySlot).key c.id (m.text ++ text)
        let x : Exchange :=
          { number := textExchange m.text, initiator := false, stage := .accepted, rekey := p0.state != .discovered
            rxAn := byteAt b 11 % 4, txAn := an, keyGen := issuedGen s false c.keySlot, nonce, x25519, kem
            offer := m.text, accept := text, prk, sent := whole, last := m.text ++ m.mac }
        let s := writeExchangeSas pi x th s
        sendText p.port p.mac whole s

/-- An OFFER whose sender's peer is known and not suppressed (R226, R228, R229, R233, R236). -/
def offerFrom (pi : Nat) (m : Message) (s : State) : State :=
  match peerOf s pi with
  | none => s
  | some p =>
    match commOf s p.community with
    | none => s
    | some c =>
      let open? : Option Exchange := match p.exchange with | some x => if x.stage = .done then none else some x | none => none
      let glare := match open? with | some x => x.initiator && x.stage == .offered | none => false
      let again := match open? with | some x => x.last == m.text ++ m.mac && !x.waits | none => false
      if again then
        match open? with
        | some x => sendText p.port p.mac x.sent s
        | none => s
      else if glare && opens s p then staleMessage m s
      else
        let p := if glare then { p with exchange := none } else p
        let s := if glare then accCount 10 (setPeer pi p s) else s
        match offerRefusal s c p m with
        | some r => refuseOffer m r (if r = 6 then accDrop 3 m.frames s else s)
        | none =>
          if entServes s 3 then acceptOffer pi m s
          else
            let x : Exchange := { number := textExchange m.text, initiator := false, stage := .done, rekey := false, waits := true
                                  offer := m.text, last := m.text ++ m.mac }
            modPeer pi (fun p => { p with exchange := some x }) s

/-- An OFFER (R222, R224, R228, R233): a peer that sent one is no longer waited for. -/
def offerServed (m : Message) (s : State) : State :=
  let b := textBody m.text
  let epoch := beAt b 12 4
  match peerAt s m.community m.port m.src with
  | some pi =>
    match peerOf s pi with
    | none => s
    | some p =>
      if p.state = .suppressed then refuseOffer m 7 (staleMessage m s)
      else
        let s := if epoch = p.epoch then s else noteEpoch pi epoch (endExchange pi 8 s)
        offerFrom pi m (modPeer pi (fun p => { p with waiting := false }) (noteSeq pi m.text s))
  | none =>
    match createPeer m (beAt b 0 8) epoch 250 s with
    | (some pi, s) => offerFrom pi m s
    | (none, s) => refuseOffer m 2 (staleMessage m s)

/-- ACC_OFFER_RX. -/
def offerRx (port : Nat) (s : State) : State := serveMessage port 2 (accUp s && engineRuns s) offerServed s

/-- ACC_OFFER_RX. -/
def execAccOfferRx (port : Nat) (s : State) : Host.Outcome State Fault Refusal := act (offerRx port) s

/-- RESPONDER_ENTROPY_TIMEOUT: a responder's values could not be drawn within 10 ms (R236). -/
def responderTimeout (peer : Nat) (s : State) : State :=
  match peerOf s peer with
  | none => s
  | some p =>
    match p.exchange with
    | none => s
    | some x =>
      if x.waits then
        let s := setPeer peer { p with exchange := none } s
        refuseOffer { wire := p.port, port := p.port, src := p.mac, community := p.community, text := x.offer, mac := [] } 5 s
      else s

/-- RESPONDER_ENTROPY_TIMEOUT. -/
def execResponderEntropyTimeout (peer : Nat) (s : State) : Host.Outcome State Fault Refusal := act (responderTimeout peer) s

/-- A responder that waited for the entropy unit is served (R236): the OFFER is answered. -/
def serveResponder (peer : Nat) (s : State) : State :=
  match peerOf s peer with
  | none => s
  | some p =>
    match p.exchange with
    | none => s
    | some x =>
      if x.waits then
        let m : Message := { wire := p.port, port := p.port, src := p.mac, community := p.community, text := x.offer, mac := x.last.drop x.offer.length }
        offerFrom peer m (setPeer peer { p with exchange := none } s)
      else s

/-! ## ACCEPT (R226) -/

/-- A verified ACCEPT with RESULT 0 (R226, R227, R251): the keys are derived, the SAs written, CONFIRM sent. A receive slot that an earlier
exchange with a peer without keys has left taken is retired first. -/
def acceptVerified (pi : Nat) (p : Peer) (c : Community) (x : Exchange) (prk : Nat) (m : Message) (s : State) : State :=
  let b := textBody m.text
  let rxAn := byteAt b 11 % 4
  let taken := (p.rxSc.bind (scOf s)).bind (·.slot rxAn)
  if x.keyGen ≠ issuedGen s false c.keySlot then endExchange pi 9 s
  else if !roomFor s c p then endExchange pi 2 s
  else if taken.isSome && p.hasKeys then endExchange pi 3 s
  else
    let th := transcript x.offer m.text
    let s := setPeer pi (p.withPi (beAt b 8 2)) (retireSa taken s)
    let s := writeExchangeSas pi { x with prk, rxAn, stage := .confirmed, accept := m.text, last := m.text ++ m.mac, resends := 0 } th s
    let body := beBytes 8 (accordId s) ++ beBytes 8 0 ++ keyConfirm prk 0x49 th c.id
    let (whole, s) := sendMessage p.community p.port p.mac 4 x.number (x.offer ++ m.text) body s
    modPeer pi (fun p => { p with exchange := p.exchange.map (fun x => { x with sent := whole, confirm := textOf whole }) }) s

/-- An ACCEPT (R219, R226, R229, R233). -/
def acceptServed (m : Message) (s : State) : State :=
  let b := textBody m.text
  match (peerAt s m.community m.port m.src) with
  | none => staleMessage m s
  | some pi =>
    match peerOf s pi, commOf s m.community with
    | some p, some c =>
      match p.exchange with
      | none => staleMessage m s
      | some x =>
        if p.state = .suppressed ∨ !x.initiator ∨ x.stage ≠ .offered ∨ x.number ≠ textExchange m.text then staleMessage m s
        else if byteAt b 16 ≠ 0 then endExchange pi (byteAt b 16) (noteSeq pi m.text s)
        else if m.mac ≠ authMac (slotOf s c.keySlot).key c.id (x.offer ++ m.text) then authFail m.community m.port m.src m.frames s
        else
          let s := if beAt b 12 4 = p.epoch then s else noteEpoch pi (beAt b 12 4) s
          let s := noteSeq pi m.text s
          let ssX := x25519Shared x.x25519 (slice b 52 32)
          let prk := exchangePrk (slice (textBody x.offer) 16 32) (slice b 20 32) ssX (kemOpen x.kem (slice b 84 1568))
          if ssX = 0 then endExchange pi 9 (accDrop 3 m.frames s)
          else if slice b 1652 48 ≠ keyConfirm prk 0x52 (transcript x.offer m.text) c.id then
            endExchange pi 9 (authFail m.community m.port m.src m.frames s)
          else acceptVerified pi ((peerOf s pi).getD p) c x prk m s
    | _, _ => s

/-- ACC_ACCEPT_RX. -/
def acceptRx (port : Nat) (s : State) : State := serveMessage port 3 (accUp s && engineRuns s) acceptServed s

/-- ACC_ACCEPT_RX. -/
def execAccAcceptRx (port : Nat) (s : State) : Host.Outcome State Fault Refusal := act (acceptRx port) s

/-! ## CONFIRM and the switch (R226, R230) -/

/-- A ROLL message (R214). -/
def rollBody (s : State) (an : Nat) (ack : Bool) (sec ns : Nat) : Bytes :=
  beBytes 8 (accordId s) ++ beBytes 1 (an + 4 * b2n ack) ++ beBytes 7 0 ++ beBytes 6 sec ++ beBytes 4 ns ++ beBytes 6 0

/-- Arm a peer's transmit SC as SA_ROLL mode AT_EITHER would and schedule a ROLL at an instant (R230, R231). -/
def armRoll (pi an sec ns : Nat) (s : State) : State :=
  match (peerOf s pi).bind (·.txSc) with
  | none => s
  | some n =>
    let s := markDirty 2 n <| modSc n (fun c => { c with nextAn := an, armedPn := true, armedTime := true, rollFired := false }) s
    { s with time := { s.time with rolls := s.time.rolls.set n (sec, ns) } }

/-- Whether a rekey of a peer switches by ROLL (R230): as ROLL_MODE says, or under a schedule of the domain whose instant lies
ahead (13 R414). -/
def Peer.waitsRoll (p : Peer) (s : State) (c : Community) : Bool :=
  match p.rollAt with
  | some (sec, ns) => decide (toTotal s < sec * 1000000000 + ns)
  | none => c.atTime

/-- The initiator's switch (R230): at once, or by ROLL at TO now + ROLL_LEAD or at the instant that the domain scheduled. -/
def initiatorSwitch (pi : Nat) (x : Exchange) (s : State) : State :=
  match peerOf s pi with
  | none => s
  | some p =>
    match commOf s p.community with
    | none => s
    | some c =>
      let t := match p.rollAt with
        | some (sec, ns) => sec * 1000000000 + ns
        | none => toTotal s + c.rollLead * 1000000
      let s := modPeer pi (fun p => { p with rollAt := none }) s
      if p.waitsRoll s c then
        let sec := t / 1000000000
        let ns := t % 1000000000
        let (whole, s) := sendMessage p.community p.port p.mac 5 x.number [] (rollBody s x.txAn false sec ns) s
        modPeer pi (fun p => { p with exchange := p.exchange.map (fun x =>
          { x with rollSec := sec, rollNs := ns, rollWait := true, sent := whole, resends := 0 }) }) s
      else accordSwitch pi x.txAn s

/-- A valid CONFIRM with FINAL 0 at the responder (R226): the final CONFIRM is sent and the switch taken. -/
def confirmAtResponder (pi : Nat) (p : Peer) (c : Community) (x : Exchange) (m : Message) (s : State) : State :=
  let th := transcript x.offer x.accept
  let body := beBytes 8 (accordId s) ++ beBytes 1 1 ++ beBytes 7 0 ++ keyConfirm x.prk 0x46 th c.id
  let (whole, s) := sendMessage p.community p.port p.mac 4 x.number (x.offer ++ x.accept) body s
  let wait := p.waitsRoll s c
  let s := modPeer pi (fun p => { p with
    exchange := some { x with sent := whole, last := m.text ++ m.mac, rollWait := wait }, rollAt := none }) s
  let s := if wait then s else accordSwitch pi x.txAn s
  agreementDone pi s

/-- A CONFIRM (R219, R226, R229). -/
def confirmServed (m : Message) (s : State) : State :=
  let b := textBody m.text
  let final := bitOf (byteAt b 8) 0
  match (peerAt s m.community m.port m.src) with
  | none => staleMessage m s
  | some pi =>
    match peerOf s pi, commOf s m.community with
    | some p, some c =>
      match p.exchange with
      | none => staleMessage m s
      | some x =>
        let th := transcript x.offer x.accept
        if p.state = .suppressed ∨ x.number ≠ textExchange m.text then staleMessage m s
        else if !final && !x.initiator && x.stage == .done && x.last == m.text ++ m.mac then
          if msNow s ≤ p.agreedMs + 2000 then sendText p.port p.mac x.sent s else staleMessage m s
        else if (x.initiator && final && x.stage == .confirmed) || (!x.initiator && !final && x.stage == .accepted) then
          if m.mac ≠ authMac (slotOf s c.keySlot).key c.id (x.offer ++ x.accept ++ m.text) then
            authFail m.community m.port m.src m.frames s
          else if slice b 16 48 ≠ keyConfirm x.prk (if final then 0x46 else 0x49) th c.id then
            endExchange pi 9 (authFail m.community m.port m.src m.frames s)
          else
            let s := noteSeq pi m.text s
            if final then
              agreementDone pi (initiatorSwitch pi x (modPeer pi (fun p => { p with exchange := some { x with last := m.text ++ m.mac } }) s))
            else confirmAtResponder pi p c x m s
        else staleMessage m s
    | _, _ => s

/-- ACC_CONFIRM_RX. -/
def confirmRx (port : Nat) (s : State) : State := serveMessage port 4 (accUp s && engineRuns s) confirmServed s

/-- ACC_CONFIRM_RX. -/
def execAccConfirmRx (port : Nat) (s : State) : Host.Outcome State Fault Refusal := act (confirmRx port) s

/-- A ROLL (R220, R230): a responder arms and answers, and answers a repeat alike; an initiator that receives the acknowledgement arms. -/
def rollServed (m : Message) (s : State) : State :=
  let b := textBody m.text
  let ack := bitOf (byteAt b 8) 2
  match (peerAt s m.community m.port m.src) with
  | none => staleMessage m s
  | some pi =>
    match peerOf s pi with
    | none => s
    | some p =>
      match p.exchange with
      | none => staleMessage m s
      | some x =>
        if p.state = .suppressed ∨ x.number ≠ textExchange m.text ∨ x.stage ≠ .done ∨ x.initiator ≠ ack then staleMessage m s
        else if x.last = m.text ++ m.mac then (if ack then s else sendText p.port p.mac x.sent s)
        else
          let s := modPeer pi (fun p => { p with exchange := some { x with rollWait := false, last := m.text ++ m.mac } })
            (noteSeq pi m.text s)
          let sec := if ack then x.rollSec else beAt b 16 6
          let ns := if ack then x.rollNs else beAt b 22 4
          let s := if x.rollWait then armRoll pi x.txAn sec ns s else s
          if ack then s
          else
            let (whole, s) := sendMessage p.community p.port p.mac 5 x.number [] (rollBody s x.txAn true sec ns) s
            modPeer pi (fun p => { p with exchange := p.exchange.map (fun x => { x with sent := whole }) }) s

/-- ACC_ROLL_RX. -/
def rollRx (port : Nat) (s : State) : State := serveMessage port 5 (accUp s && engineRuns s) rollServed s

/-- ACC_ROLL_RX. -/
def execAccRollRx (port : Nat) (s : State) : Host.Outcome State Fault Refusal := act (rollRx port) s

/-- A peer ends with PORT_PEERS_DOWN of a cause (R224). -/
def peerDown (pi cause : Nat) (suppress : Bool) (s : State) : State := teardown pi suppress (notePeer 0x0603 cause pi s)

/-- A FAREWELL (R224). -/
def farewellServed (m : Message) (s : State) : State :=
  match peerAt s m.community m.port m.src with
  | none => staleMessage m s
  | some pi =>
    match peerOf s pi with
    | none => s
    | some p => if p.hasKeys then peerDown pi 1 false s else staleMessage m s

/-- ACC_FAREWELL_RX. -/
def farewellRx (port : Nat) (s : State) : State := serveMessage port 7 (accUp s && engineRuns s) farewellServed s

/-- ACC_FAREWELL_RX. -/
def execAccFarewellRx (port : Nat) (s : State) : Host.Outcome State Fault Refusal := act (farewellRx port) s

/-! ## Timers of discovery and peers -/

/-- HELLO_INTERVAL (R221): a HELLO to GROUP_MAC for each enabled community on each line port that may transmit. -/
def helloInterval (s : State) : State :=
  if engineRuns s then
    s.accord.communities.keys.foldl (fun s ci =>
      match commOf s ci with
      | none => s
      | some c =>
        if c.tearing || c.keyLost || !keySlotUsable s c.keySlot then s
        else (List.range 64).foldl (fun s port =>
          if bitOf c.portMask port && mayTransmit s (64 + port) then sendHello ci port s.accord.groupMac false s else s) s)
      (reviewCommunities s)
  else s

/-- HELLO_INTERVAL. -/
def execHelloInterval (s : State) : Host.Outcome State Fault Refusal := act helloInterval s

/-- DISCOVERY_RECORD (R223): the oldest record is used: for each community enabled on the port a HELLO with SOLICIT, at most once
per HELLO_MS for each {port, SOURCE_MAC}; a record of an ACTIVE peer is discarded. -/
def discoveryRecord (s : State) : State :=
  match s.accord.records with
  | [] => s
  | (port, mac) :: rest =>
    let s := { s with accord := { s.accord with records := rest } }
    let fresh := s.accord.solicited.filter (fun r => decide (msNow s < r.2.2 + s.accord.helloMs))
    let s := { s with accord := { s.accord with solicited := fresh } }
    if fresh.any (fun r => r.1 == port && r.2.1 == mac) || !engineRuns s then s
    else
      let s := { s with accord := { s.accord with solicited := fresh ++ [(port, mac, msNow s)] } }
      s.accord.communities.keys.foldl (fun s ci =>
        match commOf s ci with
        | none => s
        | some c =>
          let active := match (peerAt s ci port mac).bind (peerOf s) with | some p => p.state == .active | none => false
          if bitOf c.portMask port && !c.tearing && !c.keyLost && !active && mayTransmit s (64 + port) then
            sendHello ci port mac true s
          else s) s

/-- DISCOVERY_RECORD. -/
def execDiscoveryRecord (s : State) : Host.Outcome State Fault Refusal := act discoveryRecord s

/-- PEER_MISS_CHECK (R224): every 10 ms CPU_ACC compares last-seen times with T_miss. -/
def missCheck (s : State) : State :=
  if accUp s && engineRuns s then
    serveWishes <| s.accord.peers.keys.foldl (fun s pi =>
      match peerOf s pi with
      | none => s
      | some p =>
        if msNow s < p.seenMs + 3 * p.helloMs then s
        else
          match p.state with
          | .discovered => teardown pi false s
          | .active => accCount 12 (notePeer 0x0602 0 pi (setPeer pi { p with state := .lost } s))
          | _ => s) s
  else s

/-- PEER_MISS_CHECK. -/
def execPeerMissCheck (s : State) : Host.Outcome State Fault Refusal := act missCheck s

/-- PEER_HOLD_EXPIRY (R224): a LOST peer's HOLD expires. -/
def execPeerHoldExpiry (peer : Nat) (s : State) : Host.Outcome State Fault Refusal :=
  act (fun s =>
    match peerOf s peer with
    | none => s
    | some p => if p.state = .lost && accUp s then serveWishes (peerDown peer 0 false s) else s) s

/-- PEER_SUPPRESS_END (R224). -/
def execPeerSuppressEnd (peer : Nat) (s : State) : Host.Outcome State Fault Refusal :=
  act (fun s =>
    match peerOf s peer with
    | none => s
    | some p => if p.state = .suppressed && accUp s then erasePeer peer s else s) s

/-- DISCOVERED_WAIT_EXPIRY (R224): 1 s in DISCOVERED without an OFFER. -/
def execDiscoveredWaitExpiry (peer : Nat) (s : State) : Host.Outcome State Fault Refusal :=
  act (fun s =>
    match peerOf s peer with
    | none => s
    | some p =>
      if p.state = .discovered && p.waiting && accUp s then wishOpen peer false (setPeer peer { p with waiting := false } s) else s) s

/-- REAPPEARANCE_HOLD_EXPIRY (R233): the receive SAs of the old epoch that are still in place are retired. -/
def execReappearanceHoldExpiry (peer : Nat) (s : State) : Host.Outcome State Fault Refusal :=
  act (fun s =>
    match peerOf s peer with
    | none => s
    | some p =>
      if accUp s then
        p.oldRx.foldl (fun s n =>
          match saOf s n with
          | some a => if a.receive && some a.sc == p.rxSc && !a.draining then vacate n s else s
          | none => s) (setPeer peer { p with oldRx := [] } s)
      else s) s

/-! ## Timers of exchanges (R226, R228, R230, R232) -/

/-- A resend of the last message of an exchange in a stage, up to three times (R226). -/
def resend (pi : Nat) (stage : Stage) (s : State) : State :=
  match peerOf s pi with
  | none => s
  | some p =>
    match p.exchange with
    | none => s
    | some x =>
      if x.stage = stage && x.initiator && decide (x.resends < 3) && accUp s then
        sendText p.port p.mac x.sent (setPeer pi { p with exchange := some { x with resends := x.resends + 1 } } s)
      else s

/-- Whether a peer's exchange stands in a stage, in a role. -/
def inStage (s : State) (pi : Nat) (stage : Stage) (initiator : Bool) : Bool :=
  match (peerOf s pi).bind (·.exchange) with
  | some x => x.stage == stage && x.initiator == initiator
  | none => false

/-- OFFER_RETRANSMIT. -/
def execOfferRetransmit (peer : Nat) (s : State) : Host.Outcome State Fault Refusal := act (resend peer .offered) s
/-- CONFIRM_RETRANSMIT. -/
def execConfirmRetransmit (peer : Nat) (s : State) : Host.Outcome State Fault Refusal := act (resend peer .confirmed) s

/-- OFFER_GIVE_UP (R226): reason 8. -/
def execOfferGiveUp (peer : Nat) (s : State) : Host.Outcome State Fault Refusal :=
  act (fun s => if inStage s peer .offered true && accUp s then serveWishes (endExchange peer 8 s) else s) s

/-- CONFIRM_GIVE_UP (R226): reason 8; the transmit SA is retired and the receive SA kept. -/
def execConfirmGiveUp (peer : Nat) (s : State) : Host.Outcome State Fault Refusal :=
  act (fun s => if inStage s peer .confirmed true && accUp s then serveWishes (endExchange peer 8 s) else s) s

/-- ACCEPT_TIMEOUT (R226): reason 8; the SAs of the exchange are retired at once. -/
def execAcceptTimeout (peer : Nat) (s : State) : Host.Outcome State Fault Refusal :=
  act (fun s => if inStage s peer .accepted false && accUp s then serveWishes (endExchange peer 8 s) else s) s

/-- EXCHANGE_BACKOFF_EXPIRY (R228). -/
def execExchangeBackoffExpiry (peer : Nat) (s : State) : Host.Outcome State Fault Refusal :=
  act (fun s =>
    match peerOf s peer with
    | none => s
    | some p =>
      match p.backoff with
      | none => s
      | some rekey =>
        if accUp s && p.state != .suppressed then wishOpen peer rekey (setPeer peer { p with backoff := none } s) else s) s

/-- REKEY_INTERVAL_EXPIRY (R232). -/
def execRekeyIntervalExpiry (peer : Nat) (s : State) : Host.Outcome State Fault Refusal :=
  act (fun s =>
    match peerOf s peer with
    | none => s
    | some p =>
      match commOf s p.community with
      | none => s
      | some c => if p.hasKeys && c.rekey != 0 && accUp s then wishOpen peer true s else s) s

/-- ROLL_RESEND (R230): no acknowledgement within 50 ms: ROLL again, up to three times, and after the third the initiator arms. -/
def rollResend (pi : Nat) (s : State) : State :=
  match peerOf s pi with
  | none => s
  | some p =>
    match p.exchange with
    | none => s
    | some x =>
      if !(x.initiator && x.rollWait && accUp s) then s
      else if x.resends < 3 then
        let s := setPeer pi { p with exchange := some { x with resends := x.resends + 1, rollWait := x.resends + 1 < 3 } } s
        let s := sendText p.port p.mac x.sent s
        if x.resends + 1 = 3 then armRoll pi x.txAn x.rollSec x.rollNs s else s
      else s

/-- ROLL_RESEND. -/
def execRollResend (peer : Nat) (s : State) : Host.Outcome State Fault Refusal := act (rollResend peer) s

/-- ROLL_WAIT_EXPIRY (R230): a responder with no ROLL 1 s after its final CONFIRM switches at once. -/
def execRollWaitExpiry (peer : Nat) (s : State) : Host.Outcome State Fault Refusal :=
  act (fun s =>
    match peerOf s peer with
    | none => s
    | some p =>
      match p.exchange with
      | none => s
      | some x =>
        if !x.initiator && x.rollWait && accUp s then
          accordSwitch peer x.txAn (setPeer peer { p with exchange := some { x with rollWait := false } } s)
        else s) s

/-- SUPERSEDED_RETIRE (R232): CPU_ACC retires a superseded Accord transmit SA. -/
def execSupersededRetire (sa : Nat) (s : State) : Host.Outcome State Fault Refusal :=
  act (fun s =>
    match saOf s sa with
    | none => s
    | some a => if a.accord && a.superseded && !a.draining && accUp s then serveWishes (vacate sa s) else s) s

/-- What an exchange that was cut short has left (R238, 06 R199): with a frame verified under its receive SA the peer has the new keys, and
the transmit SC that still stands by is switched; without one both SAs are retired. -/
def settleLeftover (pi : Nat) (x : Exchange) (s : State) : State :=
  if x.verified then
    let stands : Bool := match ((peerOf s pi).bind (·.txSc)).bind (scOf s) with
      | some c => x.txSa.isSome && c.slot x.txAn == x.txSa && (switchRefused s c x.txAn).isNone
      | none => false
    if stands then accordSwitch pi x.txAn s else s
  else retireSa x.txSa (retireSa x.rxSa s)

/-- ENDED_EXCHANGE_RETIRE (R238): 2 s after CPU_ACC resumed. -/
def execEndedExchangeRetire (peer : Nat) (s : State) : Host.Outcome State Fault Refusal :=
  act (fun s =>
    match peerOf s peer with
    | none => s
    | some p =>
      match p.leftover with
      | none => s
      | some x => if accUp s then serveWishes (settleLeftover peer x (setPeer peer { p with leftover := none } s)) else s) s

/-- COMMUNITY_TEARDOWN (R207): every peer of a deleted community receives FAREWELL and is torn down; the index is free. -/
def communityTeardown (ci : Nat) (s : State) : State :=
  match commOf s ci with
  | none => s
  | some c =>
    if c.tearing then
      let s := (s.accord.peers.keysIf (fun _ p => p.community == ci)).foldl (fun s pi =>
        match peerOf s pi with
        | none => s
        | some p => if p.state = .suppressed then teardown pi false s else peerDown pi 3 false (sendFarewell pi 3 s)) s
      serveWishes { s with accord := { s.accord with communities := s.accord.communities.erase ci } }
    else s

/-- COMMUNITY_TEARDOWN. -/
def execCommunityTeardown (community : Nat) (s : State) : Host.Outcome State Fault Refusal := act (communityTeardown community) s

/-- SA_DRAIN_COMPLETE (05 R171, R175): the entry is freed once its last frame has passed, and with it an identifier that waited for
it (R225). -/
def execSaDrainComplete (sa : Nat) (s : State) : Host.Outcome State Fault Refusal :=
  act (fun s =>
    let s := freeSa sa s
    if s.channels.sas.has sa then s
    else
      let hs := s.accord.heldPis.map (fun h => { h with sas := h.sas.filter (· != sa) })
      { s with accord := { s.accord with heldPis := hs.filter (fun h => h.sas != []) } }) s

/-- LINE_ENTRY_REWRITE (04 R135): CPU_ACC rewrites a parity-failed line direct entry of Accord from its peer table. -/
def execLineEntryRewrite (peer : Nat) (s : State) : Host.Outcome State Fault Refusal :=
  act (fun s =>
    match peerOf s peer with
    | none => s
    | some p => if (selEntry s 1 (lineIndex p)).parityFailed && s.watchdog.acc.up then writeLineEntry peer s else s) s

/-! ## ACC_COMMUNITY_SET (R204 to R207) -/

/-- ACC_COMMUNITY_SET's INDEX and DELETE. -/
def commIndex (c : Cmd) : Nat := c.get ⟨8, 0, 6⟩
def commDelete (c : Cmd) : Bool := c.flag 8 6

/-- The community that a command's fields give, for an owner. -/
def commOfCmd (c : Cmd) (owner : Nat) : Community where
  id := c.u32 12
  suite := c.get ⟨9, 0, 2⟩
  co := c.get ⟨9, 2, 2⟩
  atTime := c.flag 9 4
  keySlot := c.u16 10
  portMask := c.u64 16
  replayWindow := c.u32 24
  overlap := if c.u16 28 = 0 then 20 else c.u16 28
  hold := if c.u16 30 = 0 then 20 else c.u16 30
  rekey := c.u32 32
  rxQueue := c.get ⟨36, 0, 17⟩
  rxBuffered := c.get ⟨36, 17, 1⟩ == 1
  rxMeterEn := c.get ⟨36, 18, 1⟩ == 1
  rxMeter := c.get ⟨40, 0, 18⟩
  rollLead := if c.u16 44 = 0 then 100 else c.u16 44
  owner := owner

/-- The effect of a change on the peers (R206). -/
def communityChanged (ci : Nat) (old new : Community) (s : State) : State :=
  let peers := s.accord.peers.keysIf (fun _ p => p.community == ci)
  let s := peers.foldl (fun s pi =>
    match peerOf s pi with
    | none => s
    | some p =>
      if bitOf new.portMask p.port then s
      else if p.state = .suppressed then teardown pi false s
      else peerDown pi 3 false (sendFarewell pi 3 s)) s
  let s := peers.foldl (fun s pi =>
    match peerOf s pi with
    | none => s
    | some p =>
      let s := match p.rxSc with
        | some n => markDirty 2 n <| modSc n (fun e => { e with replayWindow := new.replayWindow, overlap := new.overlap }) s
        | none => s
      writeLineEntry pi s) s
  if new.keySlot = old.keySlot then serveWishes s else rekeyAll ci s

/-- ACC_COMMUNITY_SET. -/
def specAccCommunitySet : OpSpec where
  opcode := 0x0601
  cls := .a
  privilege := .t
  fields := fun c =>
    if commDelete c then [⟨8, 0, 7⟩]
    else [⟨8, 0, 7⟩, ⟨9, 0, 6⟩, fld 10 2, fld 12 4, fld 16 8, fld 24 4, fld 28 2, fld 30 2, fld 32 4, ⟨36, 0, 19⟩, ⟨40, 0, 18⟩, fld 44 2]
  own := fun c _ =>
    if commDelete c then []
    else
      let n := commOfCmd c 0
      [(c.get ⟨9, 2, 2⟩ == 3, 9), (2 ≤ c.get ⟨9, 4, 2⟩, 9), (16383 < n.keySlot, 10), (n.id == 0, 12),
       (xpn n.suite && 2 ^ 30 < n.replayWindow, 24), (600 < c.u16 28, 28), (600 < c.u16 30, 30),
       (!n.rxBuffered && n.rxQueue != 0, 36), (!n.rxMeterEn && n.rxMeter != 0, 40),
       (bitOf n.rxMeter 17 && bitsOf n.rxMeter 12 5 != 0, 40),
       (c.u16 44 != 0 && (c.u16 44 < 10 || 1000 < c.u16 44), 44)]
  object := fun c s =>
    let foreign := match commOf s (commIndex c) with | some e => e.owner != c.fn | none => commDelete c && c.fn != 0
    let key := slotOf s (c.u16 10)
    let keyBad := !commDelete c && ((key.type != 0 && key.tenant != c.fn) || (key.type == 0 && c.fn != 0))
    if foreign || keyBad then some 2 else none
  missing := fun c s => commDelete c && (commOf s (commIndex c)).isNone
  badState := fun c s =>
    let tearing := match commOf s (commIndex c) with | some e => e.tearing | none => false
    let key := slotOf s (c.u16 10)
    let alters := match commOf s (commIndex c) with
      | some e => (e.suite != c.get ⟨9, 0, 2⟩ || e.co != c.get ⟨9, 2, 2⟩) && s.accord.peers.cells.any (fun p => p.2.community == commIndex c)
      | none => false
    tearing || (!commDelete c && (key.type != 1 || !bitOf key.usage 0 || alters))
  locks := fun c => [.community (commIndex c)]
  conflict := fun c s =>
    if commDelete c then none
    else (s.accord.communities.cells.find? (fun e => e.1 != commIndex c && e.2.id == c.u32 12)).map (fun e => e.2.owner)
  effect := fun c s =>
    let ci := commIndex c
    match commOf s ci with
    | some old =>
      if commDelete c then (setComm ci { old with tearing := true } s, ok 0)
      else
        let new := { commOfCmd c old.owner with seqs := old.seqs, keyLost := old.keyLost }
        (reviewCommunities (communityChanged ci old new (setComm ci new s)), ok 0)
    | none => (reviewCommunities (setComm ci (commOfCmd c c.fn) s), ok 0)

/-- ACC_COMMUNITY_SET. -/
def execAccCommunitySet (c : Cmd) (s : State) : Host.Outcome State Fault Refusal := hostOp specAccCommunitySet c s

/-! ## ACC_PEER_LIST and ACC_PEER_DROP (R240, R241) -/

/-- The state code of R224. -/
def PeerState.code : PeerState → Nat
  | .discovered => 1
  | .active => 2
  | .lost => 3
  | .suppressed => 4

/-- A peer record (R240). -/
def peerRecord (s : State) (pi : Nat) (p : Peer) : Bytes :=
  let opened := match p.exchange with | some x => x.stage != .done || x.waits | none => false
  let id := match commOf s p.community with | some c => c.id | none => 0
  let agreed := if p.agreements = 0 then 0 else min (2 ^ 32 - 1) ((msNow s - p.agreedMs) / 1000)
  leBytes 2 pi ++ leBytes 1 (p.state.code + 8 * b2n opened) ++ leBytes 1 p.port ++ leBytes 4 id ++ beBytes 6 p.mac ++
    leBytes 2 p.localPi ++ leBytes 8 p.deviceId ++ leBytes 2 p.peerPi ++ leBytes 2 0 ++ leBytes 4 (p.txSc.getD 0) ++
    leBytes 4 (p.rxSc.getD 0) ++ leBytes 4 p.epoch ++ leBytes 4 p.agreements ++
    leBytes 4 (min (2 ^ 32 - 1) (msNow s - p.seenMs)) ++ leBytes 4 agreed ++ leBytes 1 p.lastFail ++ leBytes 11 0

/-- The function that owns a peer. -/
def peerOwner (s : State) (p : Peer) : Nat := match commOf s p.community with | some c => c.owner | none => 0

/-- A bitmap page's 2,048 bytes (R243): bit i of byte j stands for peer index 8j + i. -/
def pageBytes (peers : List Nat) : Bytes :=
  (List.range 2048).map (fun j =>
    BitVec.ofNat 8 ((List.range 8).foldl (fun n i => n + b2n (peers.contains (8 * j + i)) * 2 ^ i) 0))

/-- ACC_PEER_LIST. -/
def specAccPeerList : OpSpec where
  opcode := 0x0602
  cls := .b
  privilege := .t
  fields := fun c => [⟨8, 0, 1⟩, ⟨9, 0, 7⟩, ⟨10, 0, 7⟩, ⟨11, 0, 4⟩, fld 12 4] ++ (if c.flag 8 0 then [] else [fld 16 4])
  pointer := fun _ => true
  own := fun c _ => [(!c.flag 8 0 && (c.u32 16 == 0 || 16384 < c.u32 16), 16)]
  object := fun c s =>
    let page := s.accord.pages.get {} (c.get ⟨11, 0, 4⟩)
    if c.flag 8 0 && c.fn != 0 && page.owner != c.fn && page.gen % 2 ^ 32 == c.u32 12 then some 2 else none
  badState := fun c s => c.flag 8 0 && (s.accord.pages.get {} (c.get ⟨11, 0, 4⟩)).gen % 2 ^ 32 != c.u32 12
  effect := fun c s =>
    if c.flag 8 0 then
      (s, .done { status := stOk, result := resultOf [(8, 2048)], data := pageBytes (s.accord.pages.get {} (c.get ⟨11, 0, 4⟩)).peers })
    else
      let want (pi : Nat) (p : Peer) : Bool :=
        decide (c.u32 12 ≤ pi) && (!c.flag 9 6 || p.community == c.get ⟨9, 0, 6⟩) && (!c.flag 10 6 || p.port == c.get ⟨10, 0, 6⟩) &&
          (c.fn == 0 || peerOwner s p == c.fn)
      let all := s.accord.peers.keysIf want
      let now := all.take (c.u32 16)
      let next := match all.drop (c.u32 16) with | [] => 16384 | n :: _ => n
      let data := (now.map (fun pi => match peerOf s pi with | some p => peerRecord s pi p | none => [])).flatten
      (s, .done { status := stOk, result := resultOf [(8, now.length), (12, next)], data })

/-- ACC_PEER_LIST. -/
def execAccPeerList (c : Cmd) (s : State) : Host.Outcome State Fault Refusal := hostOp specAccPeerList c s

/-- ACC_PEER_DROP. -/
def specAccPeerDrop : OpSpec where
  opcode := 0x0603
  cls := .a
  privilege := .t
  fields := fun _ => [⟨8, 0, 14⟩, ⟨10, 0, 2⟩, fld 12 2]
  object := fun c s =>
    if c.fn = 0 then none
    else match peerOf s (c.get ⟨8, 0, 14⟩) with
      | some p => if peerOwner s p = c.fn then none else some 2
      | none => some 2
  missing := fun c s => (peerOf s (c.get ⟨8, 0, 14⟩)).isNone
  locks := fun c => [.peer (c.get ⟨8, 0, 14⟩)]
  effect := fun c s =>
    let pi := c.get ⟨8, 0, 14⟩
    let s := if c.flag 10 0 then sendFarewell pi 2 s else s
    (serveWishes (peerDown pi 2 (c.flag 10 1) s), ok 0)

/-- ACC_PEER_DROP. -/
def execAccPeerDrop (c : Cmd) (s : State) : Host.Outcome State Fault Refusal := hostOp specAccPeerDrop c s

/-! ## ACC_POLICY (R212, R213) -/

/-- The EtherTypes that ACC_POLICY refuses. -/
def etherRefused (e : Nat) : Bool :=
  e < 0x600 || [0x0800, 0x0806, 0x86dd, 0x8100, 0x88a8, 0x8808, 0x888e, 0x88e5, 0x88f7].contains e

/-- Six bytes of the packet in wire order. -/
def macAt (c : Cmd) (byte : Nat) : Nat := beNat (leBytes 6 (bitsOf c.bits (8 * byte) 48))

/-- The parameters as the 48-byte block of ACC_POLICY. -/
def policyBlock (s : State) : Bytes :=
  leBytes 2 s.accord.etherType ++ leBytes 2 s.accord.helloMs ++ beBytes 6 s.accord.groupMac ++ beBytes 6 (portMac s 0) ++
    leBytes 2 s.accord.mtu ++ leBytes 1 (b2n s.accord.enable + 2 * b2n s.accord.discovery) ++ leBytes 1 0 ++
    leBytes 2 s.accord.suppressS ++ leBytes 2 s.accord.maxExchanges ++ leBytes 24 0

/-- ACC_POLICY. -/
def specAccPolicy : OpSpec where
  opcode := 0x0604
  cls := .a
  privilege := .p
  fields := fun _ => [fld 8 2, fld 10 2, fld 12 6, fld 18 6, fld 24 2, ⟨26, 0, 2⟩, fld 28 2, fld 30 2]
  pointer := fun _ => true
  own := fun c _ =>
    [(etherRefused (c.u16 8), 8), (c.u16 10 != 0 && (c.u16 10 < 50 || 10000 < c.u16 10), 10), (!bitOf (macAt c 12) 40, 12),
     (bitOf (macAt c 18) 40 || macAt c 18 % 64 != 0, 18), (c.u16 24 != 0 && (c.u16 24 < 1280 || 9216 < c.u16 24), 24),
     (3600 < c.u16 28, 28), (1024 < c.u16 30, 30)]
  badState := fun c s => macAt c 18 != portMac s 0 && !s.accord.peers.cells.isEmpty
  effect := fun c s =>
    let data := if c.dataPtr = 0 then [] else policyBlock s
    let s := { s with accord := { s.accord with
      etherType := c.u16 8
      helloMs := if c.u16 10 = 0 then 250 else c.u16 10
      groupMac := macAt c 12
      baseMac := some (macAt c 18)
      mtu := if c.u16 24 = 0 then 1500 else c.u16 24
      enable := c.flag 26 0
      discovery := c.flag 26 1
      suppressS := if c.u16 28 = 0 then 60 else c.u16 28
      maxExchanges := if c.u16 30 = 0 then 1024 else c.u16 30 } }
    let s := modPair (fun p => { p with sharedMac := p.sharedMac.map (fun _ => macAt c 18) }) s
    (serveWishes (markDirty 7 0 s), .done { status := stOk, data })

/-- ACC_POLICY. -/
def execAccPolicy (c : Cmd) (s : State) : Host.Outcome State Fault Refusal := hostOp specAccPolicy c s

end Sys2Proof.Machine
end

