-- ==== Sys2Proof/Machine/Keys.lean ====
section
/-!
DEFINITION. The Attar key store's commands and background work (08_attar_key_store): writing, destroying and reporting keys, the
Flacon image, scrubbing and repair.
-/
namespace Sys2Proof.Machine

open Sys2Proof

/-- The counters of R274. -/
def attCount (i : Nat) (s : State) : State := count (0x3100 + 8 * i) s

/-! ## The Flacon image (R266, R267) -/

/-- A copy: A, or B. -/
def flaconCopy (s : State) (b : Bool) : FlaconCopy := if b then s.attar.copyB else s.attar.copyA

/-- Write a copy. -/
def setCopy (b : Bool) (c : FlaconCopy) (s : State) : State :=
  { s with attar := if b then { s.attar with copyB := c } else { s.attar with copyA := c } }

/-- The active copy. -/
def activeCopy (s : State) : Option FlaconCopy := s.attar.active.map (flaconCopy s)

/-- Whether a copy authenticates under the keeper key in force. -/
def copyValid (s : State) (c : FlaconCopy) : Bool := c.status == 1 && s.attar.keeper == some c.keeperKey

/-- A copy's code (R271): 0 erased, 1 valid and active, 2 valid below the floor, 3 invalid, 4 read error. -/
def copyCode (s : State) (b : Bool) : Nat :=
  let c := flaconCopy s b
  if c.status = 0 then 0
  else if c.status = 4 then 4
  else if copyValid s c then (if c.generation < s.attar.floor then 2 else 1)
  else 3

/-- Whether the active copy holds a slot with its GEN (R254, R273). -/
def committed (s : State) (n : Nat) : Bool :=
  match activeCopy s with
  | none => false
  | some c =>
    match c.records.find n with
    | none => false
    | some r => r.gen == (slotOf s n).gen

/-- ATT_FLACON_STATUS.DIRTY: a PERSIST slot differs from the active copy. -/
def flaconDirty (s : State) : Bool :=
  s.attar.slots.cells.any (fun k =>
    k.2.persist && (match activeCopy s with | none => true | some c => c.records.find k.1 != some { k.2 with corrupt := false, latent := false }))

/-- FLACON_FAULT. -/
def flaconFault (cause : Nat) (s : State) : State := raiseHeld 0 0x0504 2 0 (detailOf [(20, cause)]) s

/-! ## Destroying keys (R260 to R263) -/

/-- A tombstone for a destroyed committed slot (R263): with all 16 in use the floor rises above the active generation. -/
def recordTombstone (n gen : Nat) (s : State) : State :=
  if s.attar.tombstones.has n || decide (s.attar.tombstones.cells.length < 16) then
    { s with attar := { s.attar with tombstones := s.attar.tombstones.set n gen } }
  else
    let g := match activeCopy s with | some c => c.generation | none => 0
    flaconFault 4 { s with attar := { s.attar with floor := max s.attar.floor (g + 1) } }

/-- KEY_INVALIDATED (R275): causes 0 command, 1 tamper abort, 2 ERASE_SESSION. -/
def raiseInvalidated (owner object gen cause : Nat) (s : State) : State :=
  raiseHeld owner 0x0502 0 object (detailOf [(20, cause), (24, gen)]) s

/-- Invalidate a slot (R261, R263). -/
def invalidateSlot (n cause : Nat) (s : State) : State :=
  let v := slotOf s n
  let was := committed s n
  let s := setSlot n (emptied v) s
  let s := attCount 3 s
  let s := if was then recordTombstone n (emptied v).gen s else s
  reviewCommunities (raiseInvalidated v.tenant n (emptied v).gen cause s)

/-- Draw the session root's key, when the unit delivers (R262; 15 R459). -/
def drawSessionRoot (s : State) : State :=
  if entServes s 1 then
    let (k, s) := drawFree 256 (entServe 1 32 s)
    { s with attar := { s.attar with sessionRoot := k, sessionReady := true } }
  else { s with attar := { s.attar with sessionReady := false } }

/-- Invalidate the session root below its limit (R262): Accord then rekeys every peer. -/
def invalidateRoot (cause : Nat) (s : State) : State :=
  let s := markDirty 7 0 { s with attar := { s.attar with rootGen := s.attar.rootGen + 1 } }
  let s := raiseInvalidated 0 0xffff s.attar.rootGen cause (attCount 3 (drawSessionRoot s))
  s.accord.communities.keys.foldl (fun s ci => rekeyAll ci s) s

/-! ## KEY_WRITE (R257, R258) -/

/-- KEY_WRITE's fields. -/
def kwSlot (c : Cmd) : Nat := c.u16 8
def kwType (c : Cmd) : Nat := c.get ⟨10, 0, 4⟩
def kwUsage (c : Cmd) : Nat := c.get ⟨11, 0, 4⟩
def kwWrapped (c : Cmd) : Bool := c.flag 12 0
def kwReplace (c : Cmd) : Bool := c.flag 12 2
def kwTenant (c : Cmd) : Nat := c.get ⟨13, 0, 5⟩
def kwParent (c : Cmd) : Nat := c.u16 14

/-- The usage bits a type permits (R247). -/
def usageMask (type : Nat) : Nat :=
  match type with
  | 1 => 1
  | 2 => 6
  | 3 => 2
  | 4 => 8
  | _ => 0

/-- Whether a type permits a slot as parent (R247). -/
def slotParent (type : Nat) : Bool := type == 1 || type == 3

/-- Whether a slot is occupied, a slot in INTEGRITY included (R258). -/
def occupied (s : State) (n : Nat) : Bool := (slotOf s n).type != 0 || (slotOf s n).corrupt

/-- The key that the block gives: in the clear, or unwrapped under the parent (R255, R258), whose own check and chain are verified in both
forms; none for INTEGRITY. -/
def blockKey (c : Cmd) (s : State) : Option Nat × State :=
  let p := kwParent c
  if p = storageSlot then (some (leNat (c.payload.take 32)), s)
  else
    match (if kwWrapped c then keyTransfer p s else slotCheck p s) with
    | (true, s) =>
      if chainOk s p ≠ .ok then (none, s)
      else if kwWrapped c then (Config.unwrap (slotOf s p).key (c.payload.take 40), s)
      else (some (leNat (c.payload.take 32)), s)
    | (false, s) => (none, s)

/-- KEY_WRITE. -/
def specKeyWrite : OpSpec where
  opcode := 0x0501
  cls := .a
  privilege := .t
  fields := fun _ => [fld 8 2, ⟨10, 0, 4⟩, ⟨11, 0, 4⟩, ⟨12, 0, 3⟩, ⟨13, 0, 5⟩, fld 14 2, fld 16 8]
  pointer := fun _ => true
  payloadLength := fun _ => 48
  pfForm := fun c => kwType c == 4
  vfRefused := fun c s => if (fnOf s c.fn).tenant.keyOwner then none else some 3
  own := fun c _ =>
    let t := kwType c
    let p := kwParent c
    [(16383 < kwSlot c, 8), (t == 0 || 5 ≤ t, 10), (kwUsage c &&& usageMask t != kwUsage c, 10),
     (16383 < p && p != storageSlot, 14), (p ≤ 16383 && !slotParent t, 10),
     (!allZero (c.payload.drop (if kwWrapped c then 40 else 32)), 56)]
  object := fun c s =>
    let t := kwTenant c
    let p := kwParent c
    if (occupied s (kwSlot c) && (slotOf s (kwSlot c)).tenant != t) || (p != storageSlot && (slotOf s p).tenant != t) ||
        (c.fn != 0 && t != c.fn) || (c.fn == 0 && t != 0 && (fnOf s t).tenant.keyOwner) then some 2 else none
  badState := fun c s =>
    let p := kwParent c
    let occ := occupied s (kwSlot c)
    (occ && !kwReplace c) || (p != storageSlot && (slotOf s p).type != 2) ||
      (kwWrapped c && (p == storageSlot || !bitOf (slotOf s p).usage 2)) ||
      (occ && kwReplace c && genLimit ≤ (slotOf s (kwSlot c)).gen)
  locks := fun c => [.slot (kwSlot c)] ++ (if kwParent c = storageSlot then [] else [.slot (kwParent c)])
  noResource := fun c s => (slotOf s (kwSlot c)).type == 0 && keyFull s (kwTenant c) 1
  effect := fun c s =>
    let n := kwSlot c
    match blockKey c s with
    | (none, s) => (s, failed stIntegrity 0)
    | (some key, s) =>
      let s := if occupied s n then invalidateSlot n 0 s else s
      let p := kwParent c
      let v : Slot :=
        { key := key % 2 ^ 256, type := kwType c, persist := c.flag 12 1, usage := kwUsage c, tenant := kwTenant c, parent := p
          parentGen := if p = storageSlot then 0 else (slotOf s p).gen, gen := (slotOf s n).gen, label := c.u64 16 }
      let s := attCount 4 (setSlot n v s)
      (reviewCommunities s, ok (resultOf [(8, v.gen)]))

/-- KEY_WRITE. -/
def execKeyWrite (c : Cmd) (s : State) : Host.Outcome State Fault Refusal := hostOp specKeyWrite c s

/-! ## KEY_INVALIDATE -/

/-- Whether the command names the session root. -/
def namesRoot (c : Cmd) : Bool := c.u16 8 == 0xffff

/-- KEY_INVALIDATE (R260 to R263). -/
def specKeyInvalidate : OpSpec where
  opcode := 0x0502
  cls := .a
  privilege := .t
  fields := fun _ => [fld 8 2]
  pfForm := fun c => namesRoot c
  own := fun c _ => [(16383 < c.u16 8 && !namesRoot c, 8)]
  object := fun c s => if c.fn != 0 && ((slotOf s (c.u16 8)).type == 0 || (slotOf s (c.u16 8)).tenant != c.fn) then some 2 else none
  missing := fun c s => !namesRoot c && !occupied s (c.u16 8)
  badState := fun c s => if namesRoot c then genLimit ≤ s.attar.rootGen else genLimit ≤ (slotOf s (c.u16 8)).gen
  locks := fun c => [.slot (c.u16 8)]
  effect := fun c s =>
    if namesRoot c then
      let s := invalidateRoot 0 s
      (s, ok (resultOf [(8, s.attar.rootGen)]))
    else
      let s := invalidateSlot (c.u16 8) 0 s
      (s, ok (resultOf [(8, (slotOf s (c.u16 8)).gen)]))

/-- KEY_INVALIDATE. -/
def execKeyInvalidate (c : Cmd) (s : State) : Host.Outcome State Fault Refusal := hostOp specKeyInvalidate c s

/-! ## KEY_STATUS (R273, R633) -/

/-- RESULT of KEY_STATUS for a slot. -/
def keyResult (s : State) (n : Nat) : Nat :=
  let v := slotOf s n
  resultOf [(8, slotState s n + 4 * b2n v.persist + 8 * b2n (committed s n) + 16 * v.type),
            (9, v.usage + 16 * b2n (slotState s n == 2 && !v.corrupt)), (10, v.tenant), (12, v.gen)]

/-- The 32-byte block of KEY_STATUS for a slot. -/
def keyBlock (s : State) (n : Nat) : Bytes :=
  let v := slotOf s n
  leBytes 2 v.parent ++ leBytes 2 0 ++ leBytes 4 v.parentGen ++ leBytes 4 (issuedGen s false n) ++ leBytes 4 0 ++
    leBytes 8 v.label ++ leBytes 8 0

/-- STATE and GEN of a pseudo-slot (R633). -/
def pseudoState (s : State) (n : Nat) : Bool × Nat :=
  if n = storageSlot then (s.attar.storageKey.isSome, 0)
  else if n = domainSlot then (s.attar.domainKey.isSome, s.attar.domainGen)
  else (s.attar.sessionReady, s.attar.rootGen)

/-- KEY_STATUS. -/
def specKeyStatus : OpSpec where
  opcode := 0x0503
  cls := .a
  privilege := .t
  underLock := true
  fields := fun _ => [fld 8 2]
  pointer := fun _ => true
  own := fun c _ => [(16383 < c.u16 8 && c.u16 8 != storageSlot && c.u16 8 != domainSlot && !namesRoot c, 8)]
  object := fun c s =>
    if c.fn != 0 && !namesRoot c && (16383 < c.u16 8 || (slotOf s (c.u16 8)).type == 0 || (slotOf s (c.u16 8)).tenant != c.fn) then some 2
    else none
  locks := fun c => [.slot (c.u16 8)]
  effect := fun c s =>
    let n := c.u16 8
    let want := c.dataPtr != 0
    if n ≤ 16383 then (s, .done { status := stOk, result := keyResult s n, data := if want then keyBlock s n else [] })
    else
      let (valid, gen) := pseudoState s n
      (s, .done { status := stOk, result := resultOf [(8, b2n valid), (12, gen)],
                  data := if want then leBytes 8 0 ++ leBytes 4 gen ++ leBytes 20 0 else [] })

/-- KEY_STATUS. -/
def execKeyStatus (c : Cmd) (s : State) : Host.Outcome State Fault Refusal := hostOp specKeyStatus c s

/-! ## Commits (R268 to R270, R272) -/

/-- The copy a commit programs: the one that is not active. -/
def targetCopy (s : State) : Bool := match s.attar.active with | some b => !b | none => false

/-- Transfer every PERSIST slot to the Flacon sealer (R255): whether every one passes, and the records. -/
def sealSlots (s : State) : Bool × State :=
  (s.attar.slots.keysIf (fun _ v => v.persist)).foldl
    (fun (r : Bool × State) n =>
      match keyTransfer n r.2 with
      | (good, s) => (r.1 && good && slotUsable s n == .ok, s)) (true, s)

/-- The snapshot of every PERSIST slot. -/
def persistRecords (s : State) : Table Slot :=
  s.attar.slots.mapSome (fun _ v => if v.persist then some { v with corrupt := false, latent := false } else none)

/-- The GENERATION of the next commit: one above the active copy's (R268), and not below the floor (R263); without an active copy one above
the floor. -/
def nextGeneration (s : State) : Nat :=
  match activeCopy s with
  | some c => max (c.generation + 1) s.attar.floor
  | none => s.attar.floor + 1

/-- Program and read back a new generation (R268 steps 2 to 6): a failing attempt is retried once; two failures leave the previous
generation in force. `cause`: 0 FLACON_COMMIT, 1 DEV_CONFIG_SAVE. -/
def writeGeneration (records : Table Slot) (config : Bytes) (cause : Nat) (s : State) : State × Result :=
  match s.attar.keeper, s.attar.storageKey with
  | some keeper, some storage =>
    let s := if 1 ≤ s.attar.flashFailures then attCount 6 s else s
    let b := targetCopy s
    if 2 ≤ s.attar.flashFailures then (flaconFault 3 (setCopy b { flaconCopy s b with status := 3 } s), failed stFault 0)
    else
      let g := nextGeneration s
      let old := s.attar.active
      let s := setCopy b { status := 1, generation := g, records, config, storageKey := storage, keeperKey := keeper } s
      let kept (k : Nat × Nat) : Bool := match records.find k.1 with | some r => decide (r.gen < k.2) | none => false
      let s := { s with attar := { s.attar with
        active := some b, floor := g, erasing := old, tombstones := ⟨s.attar.tombstones.cells.filter kept⟩ } }
      (raiseHeld 0 0x0503 0 0 (detailOf [(20, cause), (24, g)]) (attCount 5 s), ok (resultOf [(8, g)]))
  | _, _ => (s, failed stState (lifecycle s))

/-- A new storage key where none is held (R265): false where the unit cannot serve. -/
def needStorage (s : State) : Bool × State :=
  if s.attar.storageKey.isSome then (true, s)
  else if entServes s 1 then
    let (k, s) := drawFree 256 (entServe 1 32 s)
    (true, { s with attar := { s.attar with storageKey := some k } })
  else (false, s)

/-- FLACON_COMMIT. -/
def specFlaconCommit : OpSpec where
  opcode := 0x0504
  cls := .c
  privilege := .p
  fields := fun _ => []
  badState := fun _ s => s.attar.keeper.isNone
  notReady := fun _ s => s.attar.erasing == some (targetCopy s)
  locks := fun _ => [.flash]
  effect := fun _ s =>
    match needStorage s with
    | (false, s) => (s, failed stEntropyFail 0)
    | (true, s) =>
      match sealSlots s with
      | (false, s) => (s, failed stIntegrity 0)
      | (true, s) => writeGeneration (persistRecords s) (match activeCopy s with | some c => c.config | none => []) 0 s

/-- FLACON_COMMIT. -/
def execFlaconCommit (c : Cmd) (s : State) : Host.Outcome State Fault Refusal := hostOp specFlaconCommit c s

/-! ## Repair and scrub (R253, R254, R271) -/

/-- Restore a slot in INTEGRITY from the active copy, if it is COMMITTED (R254). -/
def repairSlot (n : Nat) (s : State) : Bool × State :=
  match activeCopy s with
  | none => (false, s)
  | some c =>
    match c.records.find n with
    | none => (false, s)
    | some r =>
      if (slotOf s n).corrupt && r.gen == (slotOf s n).gen then
        let s := attCount 2 (setSlot n { r with corrupt := false, latent := false } s)
        (true, reviewCommunities (raiseHeld r.tenant 0x0501 2 n (detailOf [(21, 1)]) s))
      else (false, s)

/-- Repair every slot in INTEGRITY: how many were restored. -/
def repairAll (s : State) : Nat × State :=
  (s.attar.slots.keysIf (fun _ v => v.corrupt)).foldl
    (fun (r : Nat × State) n =>
      match repairSlot n r.2 with
      | (true, s) => (r.1 + 1, s)
      | (false, s) => (r.1, s)) (0, s)

/-- FLACON_LOAD (R271). -/
def specFlaconLoad : OpSpec where
  opcode := 0x0505
  cls := .c
  privilege := .p
  fields := fun _ => [⟨8, 0, 2⟩]
  own := fun c _ => [(2 ≤ c.get ⟨8, 0, 2⟩, 8)]
  badState := fun c s => c.get ⟨8, 0, 2⟩ == 1 && s.attar.active.isNone
  locks := fun _ => [.flash]
  effect := fun c s =>
    let (n, s) := if c.get ⟨8, 0, 2⟩ = 1 then repairAll s else (0, s)
    let g := match activeCopy s with | some c => c.generation | none => 0
    (s, ok (resultOf [(8, g), (12, copyCode s false + 16 * copyCode s true), (13, min 255 n)]))

/-- FLACON_LOAD. -/
def execFlaconLoad (c : Cmd) (s : State) : Host.Outcome State Fault Refusal := hostOp specFlaconLoad c s

/-- ATT_SCRUB_PERIOD (R253): every slot's CHECK is verified; `upsets` are the slots whose stored bits the scrub finds changed. -/
def execAttScrubPeriod (upsets : List Nat) (s : State) : Host.Outcome State Fault Refusal :=
  act (fun s =>
    if hkUp s then
      let found := (upsets.filter (fun n => decide (n < 16384))) ++ s.attar.slots.keysIf (fun _ v => v.latent)
      reviewCommunities (found.foldl (fun s n => slotFails n 1 s) s)
    else s) s

/-- ATT_AUTO_REPAIR (R254): with AUTO_REPAIR set, CPU_HK repairs a slot in INTEGRITY. -/
def execAttAutoRepair (slot : Nat) (s : State) : Host.Outcome State Fault Refusal :=
  act (fun s => if hkUp s && regBit s 0x3014 16 then (repairSlot slot s).2 else s) s

/-- FLACON_ERASE_DONE (R267): the background erase of the older copy finishes. -/
def execFlaconEraseDone (s : State) : Host.Outcome State Fault Refusal :=
  act (fun s =>
    match s.attar.erasing with
    | none => s
    | some b =>
      let s := setCopy b {} s
      { s with attar := { s.attar with erasing := none } }) s

/-! ## DEV_CONFIG_SAVE (R272) -/

/-- The opcodes a configuration script may hold. -/
def scriptOpcode (op : Nat) : Bool :=
  [0x0103, 0x0105, 0x0201, 0x0202, 0x0203, 0x0204, 0x0301, 0x0302, 0x0303, 0x0401, 0x0601, 0x0602, 0x0603, 0x0604, 0x0701, 0x0702,
   0x0710, 0x0711, 0x0712, 0x0801, 0x0802, 0x0803, 0x0901, 0x0902, 0x0903, 0x0904, 0x0a01, 0x0a02, 0x0a03, 0x0b01, 0x0b02, 0x0b03,
   0x0b04, 0x0d01, 0x0d06, 0x0f01, 0x0f02, 0x0f03, 0x1001, 0x1003].contains op

/-- An entry's bytes: the command, then its payload padded to a multiple of 8. -/
def entryLength (e : Bytes) : Nat := 64 + (leAt e 56 4 + 7) / 8 * 8

/-- The offset of the first offending entry of a script (R272), none where every entry is well formed. -/
def scriptFault (bs : Bytes) : (entries at_ : Nat) → Option Nat
  | 0, off => if bs.length = off then none else some off
  | n + 1, off =>
    let e := bs.drop off
    if e.length < 64 || e.length < entryLength e || leAt e 60 4 != 0 || !scriptOpcode (leAt e 0 2) ||
        !allZero (slice e (64 + leAt e 56 4) (entryLength e - 64 - leAt e 56 4)) then some off
    else scriptFault bs n (off + entryLength e)

/-- The offset at which a whole script offends: its header, or an entry. -/
def scriptBad (bs : Bytes) : Option Nat := if allZero (slice bs 6 10) then scriptFault bs (min (leAt bs 0 4) 262144) 16 else some 0

/-- DEV_CONFIG_SAVE's CLEAR. -/
def saveClear (c : Cmd) : Bool := c.flag 12 0

/-- DEV_CONFIG_SAVE. -/
def specDevConfigSave : OpSpec where
  opcode := 0x0104
  cls := .c
  privilege := .p
  fields := fun _ => [fld 8 4, ⟨12, 0, 1⟩]
  pointer := fun c => !saveClear c
  payloadLength := fun c => if saveClear c then 0 else c.u32 8
  own := fun c _ =>
    let len := c.u32 8
    if saveClear c then [(len != 0, 8)]
    else [(len % 8 != 0 || len < 16 || 262144 < len, 8), ((scriptBad c.payload).isSome, 56)]
  badState := fun _ s => s.attar.keeper.isNone
  notReady := fun _ s => s.attar.erasing == some (targetCopy s)
  locks := fun _ => [.flash]
  failResult := fun c _ status detail =>
    if status = stBadParam ∧ detail = 56 ∧ !saveClear c then resultOf [(8, (scriptBad c.payload).getD 0)] else 0
  effect := fun c s =>
    match needStorage s with
    | (false, s) => (s, failed stEntropyFail 0)
    | (true, s) =>
      writeGeneration (match activeCopy s with | some a => a.records | none => .empty) (if saveClear c then [] else c.payload) 1 s

/-- DEV_CONFIG_SAVE. -/
def execDevConfigSave (c : Cmd) (s : State) : Host.Outcome State Fault Refusal := hostOp specDevConfigSave c s

/-! ## The image at start (R263, R265, R267) -/

/-- A record as it is loaded: not restored where its slot's tombstone has a higher GEN (R263). -/
def loadedRecord (s : State) (n : Nat) (r : Slot) : Slot :=
  match s.attar.tombstones.find n with
  | some g => if r.gen < g then { gen := g } else r
  | none => r

/-- The copy that qualifies at start (R267): valid, not below the floor, the higher GENERATION. -/
def startCopy (s : State) : Option Bool :=
  let good (b : Bool) : Bool := copyValid s (flaconCopy s b) && decide (s.attar.floor ≤ (flaconCopy s b).generation)
  if good true && (!good false || decide ((flaconCopy s false).generation < (flaconCopy s true).generation)) then some true
  else if good false then some false
  else none

/-- Load the image at start: slots, storage key and floor; the other copy is erased in the background. With no qualifying copy all
slots are EMPTY and FLACON_FAULT tells why: 5 in the lifecycle states that draw no keeper key (R265; notes/assumptions/20). -/
def flaconStart (s : State) : State :=
  match startCopy s with
  | some b =>
    let c := flaconCopy s b
    { s with attar := { s.attar with
      slots := c.records.mapSome (fun n r => some (loadedRecord s n r)), storageKey := some c.storageKey, active := some b
      floor := c.generation, erasing := if (flaconCopy s (!b)).status = 0 then none else some (!b) } }
  | none =>
    let below := copyValid s s.attar.copyA || copyValid s s.attar.copyB
    let s := { s with attar := { s.attar with slots := .empty, storageKey := none, active := none, erasing := none } }
    let draws : Bool := lifecycle s == 2 || lifecycle s == 3
    flaconFault (if s.attar.keeper.isNone && !draws then 5 else if below then 2 else 1) s

end Sys2Proof.Machine
end

