-- ==== Sys2Proof/Machine/SchedBase.lean ====
section
/-!
DEFINITION. Leaves, service nodes, port nodes and meters (11_scheduling_and_policing): shapers and the wheels, deficit round
robin, selection, meter verdicts and charges.
-/
namespace Sys2Proof.Machine

open Sys2Proof

/-! ## Access -/

def leafOf (s : State) (n : Nat) : Option Leaf := s.sched.leaves.find n
def setLeaf (n : Nat) (l : Leaf) (s : State) : State := { s with sched := { s.sched with leaves := s.sched.leaves.set n l } }
def modLeaf (n : Nat) (f : Leaf → Leaf) (s : State) : State :=
  { s with sched := { s.sched with leaves := s.sched.leaves.modify n f } }
def serviceOf (s : State) (n : Nat) : Option Service := s.sched.services.find n
def setService (n : Nat) (v : Service) (s : State) : State :=
  { s with sched := { s.sched with services := s.sched.services.set n v } }
def modService (n : Nat) (f : Service → Service) (s : State) : State :=
  { s with sched := { s.sched with services := s.sched.services.modify n f } }
def portNodeOf (s : State) (q : Nat) : PortNode := s.sched.portNodes.get {} q
def setPortNode (q : Nat) (v : PortNode) (s : State) : State :=
  { s with sched := { s.sched with portNodes := s.sched.portNodes.put {} q v } }
def meterOf (s : State) (m : Nat) : Option Meter := s.sched.meters.find m
def setMeter (m : Nat) (v : Meter) (s : State) : State := { s with sched := { s.sched with meters := s.sched.meters.set m v } }

/-- A frame. -/
def frameOf (s : State) (f : Nat) : Option Frame := s.fabric.frames.find f
/-- Change a frame. -/
def modFrame (f : Nat) (g : Frame → Frame) (s : State) : State :=
  { s with fabric := { s.fabric with frames := s.fabric.frames.modify f g } }

/-- The port node of a leaf: 128, the host position, for a HOST leaf (R348). -/
def nodeOfLeaf (s : State) (n : Nat) : Option Nat :=
  match leafOf s n with
  | none => none
  | some l =>
    match l.state with
    | .host => some 128
    | .attached v => (serviceOf s v).map (·.parent)

/-- Whether PORT_MAP holds a port node's port in buffered mode (R337, 03 R100). -/
def nodeEnabled (s : State) (q : Nat) : Bool := match portOf s q with | some p => p.path == .buffered | none => false

/-- The counters of a port node or the host position (R365). -/
def schCount (q i : Nat) (s : State) : State := count (0x8400 + 0x40 * q + 8 * i) s

/-- The scheduler instance of a port node (R338): 0 to 7 LE, 8 to 15 CE; 16 the host port. -/
def instanceOf (q : Nat) : Nat := if q = 128 then 16 else if 64 ≤ q then (q - 64) / 8 else 8 + q / 8

/-- The enabled ring that a leaf is bound to (09 R294). -/
def ringCtrl (n : Nat) : Nat := 0x4108 + 0x20 * n
def ringEnabled (s : State) (n : Nat) : Bool := regBit s (ringCtrl n) 0
def ringOf (s : State) (leaf : Nat) : Option Nat :=
  [0, 1, 2, 3].find? (fun n => ringEnabled s n && regField s (ringCtrl n) 12 17 == leaf)

/-! ## Lengths (R340, R347) -/

/-- A frame's length from DA to FCS as it will leave (R340): SecTAG and ICV added for an encrypted frame, taken off for a decrypted
one. A copy has its source's data. -/
def rawLength (s : State) (f : Frame) : Nat :=
  match f.source with
  | some g => (match frameOf s g with | some h => h.raw.length | none => 0)
  | none => f.raw.length

/-- SecTAG and ICV bytes that a transmit SC adds. -/
def tagBytes (s : State) (sc : Nat) : Nat := match scOf s sc with | some c => if c.includeSci then 32 else 24 | none => 24

/-- The length charged before OVERHEAD. -/
def frameLength (s : State) (f : Frame) : Nat :=
  let n := rawLength s f + 4
  if f.bypass || f.opened then n
  else if f.ingress < 64 then (if 64 ≤ f.egress && f.output < 8 || f.mcast then n + tagBytes s f.txSc else n)
  else n - f.tagLen - 16

/-- Bytes that a frame's data takes while it is stored. -/
def storedLength (s : State) (f : Frame) : Nat := rawLength s f + 4

/-- Bytes of the stored frames of a list. -/
def bytesOf (s : State) (fs : List Nat) : Nat :=
  fs.foldl (fun n f => match frameOf s f with | some v => if v.stored then n + storedLength s v else n | none => n) 0

/-- The channels of the reservoir. -/
def channels (s : State) : List Channel := [s.reservoir.ch0, s.reservoir.ch1, s.reservoir.ch2, s.reservoir.ch3]

/-- The pages of a leaf. -/
def pagesOf (s : State) (leaf : Nat) : List Page := ((channels s).map (fun c => c.pages.filter (fun p => p.queue == leaf))).flatten

/-- The frames with bytes in a page. -/
def Page.fids (p : Page) : List Nat := p.parts.map (·.1)

/-- The frames of a leaf, each once: on die, in the staging tail, in pages. -/
def leafFrames (s : State) (n : Nat) (l : Leaf) : List Nat :=
  (l.onDie ++ l.staging ++ ((pagesOf s n).map (·.fids)).flatten).eraseDups

/-- A leaf's depth in bytes (R347): on die, in STAGING cells or in reservoir pages. -/
def depthOf (s : State) (n : Nat) : Nat :=
  match leafOf s n with
  | none => 0
  | some l => bytesOf s (leafFrames s n l)

/-- Frames admitted to a leaf that a merge holds back from it (12 R387). -/
def mergedInto (s : State) (n : Nat) : List Nat :=
  s.fabric.frames.keysIf (fun _ f => f.mergeWait != 0 && !f.express && !f.mcast && !f.dropped && f.queue == n)

/-- Whether a leaf holds frames, from their admission on (R361). -/
def leafHolds (s : State) (n : Nat) : Bool :=
  match leafOf s n with
  | none => false
  | some l => l.onDie != [] || l.staging != [] || !(pagesOf s n).isEmpty || mergedInto s n != []

/-! ## Shapers and wheels (R343 to R346) -/

/-- Credit units in a byte. -/
def creditUnit : Nat := 4096

/-- Ceiling division. -/
def ceilDiv (a b : Nat) : Nat := (a + b - 1) / b

/-- A shaper's credit at `now`: it grows at RATE, 1,000 bytes/s a unit, up to BURST. -/
def Shaper.accrued (h : Shaper) (now : Nat) : Int :=
  if h.rate = 0 then h.credit
  else min (h.burst * creditUnit : Int) (h.credit + h.rate * (now - h.tLast) * creditUnit / 1000000)

/-- The nanoseconds until a debt is repaid. -/
def repayNs (rate : Nat) (credit : Int) : Nat := if rate = 0 then 0 else ceilDiv ((-credit).toNat * 1000000) (rate * creditUnit)

/-- Subtract a charged length from a shaper (R344 charge). -/
def Shaper.charge (h : Shaper) (length now : Nat) : Shaper :=
  if h.rate = 0 then h
  else
    let c := h.accrued now - (length * creditUnit : Nat)
    { h with credit := c, tLast := now, eligible := 0 ≤ c, eligibleAt := if c < 0 then now + repayNs h.rate c else h.eligibleAt }

/-- A new RATE and BURST; any debt is kept (R346). -/
def Shaper.set (h : Shaper) (rate burst now : Nat) : Shaper :=
  let c := h.accrued now
  if rate = 0 then { rate, burst, credit := 0, tLast := now, eligible := true, eligibleAt := h.eligibleAt }
  else
    let c := min c (burst * creditUnit : Int)
    { rate, burst, credit := c, tLast := now, eligible := h.eligible && 0 ≤ c
      eligibleAt := if c < 0 then now + repayNs rate c else h.eligibleAt }

/-- A new shaper: its credit is BURST (R343). -/
def newShaper (rate burst now : Nat) : Shaper := { rate, burst, credit := burst * creditUnit, tLast := now }

/-- The wheels of an instance. -/
def wheelsOf (s : State) (i : Nat) : Wheels := s.sched.wheels.get {} i
def setWheels (i : Nat) (w : Wheels) (s : State) : State := { s with sched := { s.sched with wheels := s.sched.wheels.put {} i w } }

/-- Append a node to a slot. -/
def slotAdd (t : Table (List Nat)) (k node : Nat) : Table (List Nat) := t.put [] k (t.get [] k ++ [node])

/-- File an ineligible node by its eligible time (R344 insert). -/
def Wheels.file (w : Wheels) (node eligibleAt now : Nat) : Wheels :=
  let d := eligibleAt - now
  if d < 65536 then { w with fine := slotAdd w.fine (ceilDiv eligibleAt 64 % 1024) node }
  else if d < 4194304 then { w with coarse := slotAdd w.coarse (eligibleAt / 65536 % 64) node }
  else { w with coarse := slotAdd w.coarse ((now / 65536 + 63) % 64) node }

/-- Take a node off the wheels. -/
def Wheels.drop (w : Wheels) (node : Nat) : Wheels :=
  let clean (t : Table (List Nat)) : Table (List Nat) :=
    t.mapSome (fun _ l => let r := l.filter (· != node); if r = [] then none else some r)
  { fine := clean w.fine, coarse := clean w.coarse, carried := w.carried.filter (· != node) }

/-- Node numbers on the wheels. -/
def leafNode (n : Nat) : Nat := 2 * n
def serviceNode (n : Nat) : Nat := 2 * n + 1

/-- A node's shaper. -/
def shaperOf (s : State) (node : Nat) : Option Shaper :=
  if node % 2 = 0 then (leafOf s (node / 2)).map (·.shaper) else (serviceOf s (node / 2)).map (·.shaper)

/-- Write a node's shaper. -/
def setShaper (node : Nat) (h : Shaper) (s : State) : State :=
  if node % 2 = 0 then modLeaf (node / 2) (fun l => { l with shaper := h }) s
  else modService (node / 2) (fun v => { v with shaper := h }) s

/-- The port node that a node hangs under. -/
def nodeParent (s : State) (node : Nat) : Option Nat :=
  if node % 2 = 0 then nodeOfLeaf s (node / 2) else (serviceOf s (node / 2)).map (·.parent)

/-- File a node by its shaper: one in debt by its eligible time, one that is eligible nowhere; one whose debt is repaid and whose slot has
not come stays where it is filed (R344, R346). -/
def refile (node : Nat) (s : State) : State :=
  match nodeParent s node, shaperOf s node with
  | some q, some h =>
    let i := instanceOf q
    let w := (wheelsOf s i).drop node
    if !h.eligible && 0 ≤ h.credit then s else setWheels i (if h.eligible then w else w.file node h.eligibleAt (nsNow s)) s
  | _, _ => s

/-- Charge a released frame to a node's shaper; a node that becomes ineligible is filed. -/
def chargeNode (node length : Nat) (s : State) : State :=
  match shaperOf s node with
  | none => s
  | some h => refile node (setShaper node (h.charge length (nsNow s)) s)

/-- Make a node eligible. -/
def makeEligible (node : Nat) (s : State) : State :=
  match shaperOf s node with
  | none => s
  | some h => setShaper node { h with eligible := true } s

/-- FINE_SLOT (R344, R345): up to 200 nodes of the slot whose eligible time has come are made eligible; the rest are carried into the
next slot and counted. -/
def fineSlot (i slot : Nat) (s : State) : State :=
  let w := wheelsOf s i
  let all := w.carried ++ w.fine.get [] slot
  let due (node : Nat) : Bool := match shaperOf s node with | some h => decide (h.eligibleAt ≤ nsNow s) | none => true
  let now := (all.filter due).take 200
  let late := (all.filter due).drop 200
  let kept := (w.fine.get [] slot).filter (fun n => !due n)
  let s := setWheels i { w with fine := w.fine.put [] slot kept, carried := late ++ w.carried.filter (fun n => !due n) } s
  let s := now.foldl (fun s n => makeEligible n s) s
  late.foldl (fun s n => match nodeParent s n with | some q => schCount q 5 s | none => s) s

/-- FINE_SLOT. -/
def execFineSlot (inst slot : Nat) (s : State) : Host.Outcome State Fault Refusal := act (fineSlot inst (slot % 1024)) s

/-- COARSE_BOUNDARY (R344): the nodes of a coarse slot go to the fine wheel, or are parked again. -/
def coarseBoundary (i slot : Nat) (s : State) : State :=
  let w := wheelsOf s i
  let nodes := w.coarse.get [] slot
  let w := { w with coarse := w.coarse.erase slot }
  setWheels i (nodes.foldl (fun w n => match shaperOf s n with | some h => w.file n h.eligibleAt (nsNow s) | none => w) w) s

/-- COARSE_BOUNDARY. -/
def execCoarseBoundary (inst slot : Nat) (s : State) : Host.Outcome State Fault Refusal := act (coarseBoundary inst (slot % 64)) s

/-! ## Selection (R341, R342) -/

/-- Whether a leaf is ready: not held, its first frame on die, its shaper eligible. -/
def leafReady (s : State) (n : Nat) : Bool :=
  match leafOf s n with
  | none => false
  | some l =>
    !l.held && l.shaper.eligible &&
      (match l.onDie with
       | [] => false
       | f :: _ => match frameOf s f with | some v => v.stored | none => false)

/-- The ready leaves of a service node. -/
def readyLeaves (s : State) (v : Nat) : List Nat := s.sched.leaves.keysIf (fun n l => l.state == .attached v && leafReady s n)

/-- The lowest of a list, with a bound. -/
def minOf (top : Nat) (xs : List Nat) : Nat := xs.foldl min top

/-- PRIO of a leaf. -/
def prioOf (s : State) (n : Nat) : Nat := match leafOf s n with | some l => l.prio | none => 8

/-- The propagated priority of a service node: 8 while it is not ready. -/
def propagated (s : State) (v : Nat) : Nat :=
  match serviceOf s v with
  | none => 8
  | some e => if e.held || !e.shaper.eligible then 8 else minOf 8 ((readyLeaves s v).map (prioOf s))

/-- The key of a parent's order at a level. -/
def orderKey (kind parent level : Nat) : Nat := (kind * 16384 + parent) * 8 + level

/-- One quantum of a weight. -/
def quantum (weight : Nat) : Int := weight * 1024

/-- Deficit and weight of a child: kind 0 a service node, 1 a leaf. -/
def deficitOf (s : State) (kind n : Nat) : Int × Nat :=
  if kind = 0 then (match serviceOf s n with | some v => (v.deficit, v.weight) | none => (0, 1))
  else match leafOf s n with | some l => (l.deficit, l.weight) | none => (0, 1)

/-- Write a child's deficit. -/
def setDeficit (kind n : Nat) (d : Int) (s : State) : State :=
  if kind = 0 then modService n (fun v => { v with deficit := d }) s else modLeaf n (fun l => { l with deficit := d }) s

/-- The child to serve among the ready ones at a level: the first in the order whose deficit is above 0; one whose deficit is not
moves to the back and gains a quantum. The fuel covers the longest debt. -/
def drrPick (kind : Nat) : Nat → List Nat → List Nat → State → Option Nat × List Nat × State
  | 0, order, _, s => (none, order, s)
  | fuel + 1, order, ready, s =>
    match order.find? (fun n => ready.contains n) with
    | none => (none, order, s)
    | some n =>
      let (d, w) := deficitOf s kind n
      if 0 < d then (some n, order, s)
      else drrPick kind fuel (order.filter (· != n) ++ [n]) ready (setDeficit kind n (min (quantum w) (d + quantum w)) s)

/-- Choose among the ready children of a parent at a level. -/
def drrChoose (kind parent level : Nat) (ready : List Nat) (s : State) : Option Nat × State :=
  let key := orderKey kind parent level
  let known := s.sched.orders.get [] key
  let order := known ++ ready.filter (fun n => !known.contains n)
  let (pick, order, s) := drrPick kind (32 * (ready.length + 1)) order ready s
  (pick, { s with sched := { s.sched with orders := s.sched.orders.put [] key order } })

/-- Subtract a charged length from a child's deficit; at 0 or below it moves to the back of its level and gains a quantum. -/
def drrCharge (kind parent level n length : Nat) (s : State) : State :=
  let (d, w) := deficitOf s kind n
  let d := d - length
  if 0 < d then setDeficit kind n d s
  else
    let key := orderKey kind parent level
    let order := (s.sched.orders.get [] key).filter (· != n) ++ [n]
    setDeficit kind n (d + quantum w) { s with sched := { s.sched with orders := s.sched.orders.put [] key order } }

/-- The service node and leaf that a port node serves next (R341). -/
def choose (q : Nat) (s : State) : Option (Nat × Nat × Nat) × State :=
  let services := s.sched.services.keysIf (fun n v => v.parent == q && decide (propagated s n < 8))
  let level := minOf 8 (services.map (propagated s))
  match drrChoose 0 q level (services.filter (fun n => propagated s n == level)) s with
  | (none, s) => (none, s)
  | (some v, s) =>
    match drrChoose 1 v level ((readyLeaves s v).filter (fun n => prioOf s n == level)) s with
    | (none, s) => (none, s)
    | (some n, s) => (some (v, n, level), s)

/-! ## Meters (R352 to R357) -/

/-- Bucket units in a byte. -/
def tokenUnit : Int := 1000000

/-- The buckets at `now` (R352). -/
def Meter.fill (m : Meter) (now : Nat) : Meter :=
  let dt := now - m.tLast
  let c := m.bucketC + (m.cir * dt : Nat)
  let capC := (m.cbs : Int) * tokenUnit
  let capE := (m.ebs : Int) * tokenUnit
  let e :=
    if m.mode = 0 then m.bucketE + max 0 (c - capC)
    else m.bucketE + (m.eir * dt : Nat)
  { m with bucketC := min capC c, bucketE := min capE e, tLast := now }

/-- A colour-aware meter's pre-colour (R354), given the outermost tag's PCP and DEI, none for an untagged frame. -/
def Meter.preColour (m : Meter) (tag : Option (Nat × Bool)) : Nat :=
  if !m.colourAware then 0
  else
    match tag with
    | none => m.untagged
    | some (pcp, dei) =>
      let c := bitsOf m.pcpMap (2 * pcp) 2
      if m.deiYellow && dei then max 1 c else c

/-- The verdict at the head (R352): 0 green, 1 yellow, 2 red, of filled buckets. -/
def Meter.verdict (m : Meter) (pre : Nat) : Nat :=
  let c : Bool := 0 < m.bucketC
  let e : Bool := 0 < m.bucketE
  if pre = 0 && c && (m.mode != 1 || e) then 0
  else if pre ≤ 1 && e then 1
  else 2

/-- The charge at the tail (R352, R353). -/
def Meter.charge (m : Meter) (colour length : Nat) : Meter :=
  let l := (length : Int) * tokenUnit
  match colour with
  | 0 => { m with bucketC := m.bucketC - l, bucketE := if m.mode = 1 then m.bucketE - l else m.bucketE }
  | 1 => { m with bucketE := m.bucketE - l }
  | _ => m

/-- The counters of R365 of an ingress pipe. -/
def mtrCount (pipe i : Nat) (s : State) : State := count (0xb100 + 0x20 * pipe + 8 * i) s

/-- A metered frame's verdict at its head (R352 to R355): the colour and the meter that a tail charges. -/
def meterHead (pipe m : Nat) (tag : Option (Nat × Bool)) (s : State) : Nat × Option Nat × State :=
  match meterOf s m with
  | none => (0, none, mtrCount pipe 3 s)
  | some v =>
    if v.held then (0, none, mtrCount pipe 3 s)
    else
      let v := v.fill (nsNow s)
      let c := v.verdict (v.preColour tag)
      (c, some m, mtrCount pipe c (setMeter m v s))

/-- A tail's charge (R353, R357): to the buckets as they are now. -/
def meterTail (m : Option Nat) (colour length : Nat) (s : State) : State :=
  match m with
  | none => s
  | some n =>
    match meterOf s n with
    | none => s
    | some v => setMeter n ((v.fill (nsNow s)).charge colour length) s

/-! ## Parity (R366 to R368) -/

/-- The OBJECT of a scheduler object: kinds 0 leaf, 1 service, 2 port node; a meter's is its number. -/
def schObject (kind n : Nat) : Nat := n + kind * 131072

/-- Whether an object of a kind is held: 3 is a meter. -/
def schHeld (s : State) (kind n : Nat) : Bool :=
  match kind with
  | 0 => (match leafOf s n with | some l => l.held | none => false)
  | 1 => (match serviceOf s n with | some v => v.held | none => false)
  | 2 => (portNodeOf s n).held
  | _ => (match meterOf s n with | some m => m.held | none => false)

/-- Whether an object of a kind exists. -/
def schExists (s : State) (kind n : Nat) : Bool :=
  match kind with
  | 0 => (leafOf s n).isSome
  | 1 => (serviceOf s n).isSome
  | 2 => n < 128
  | _ => (meterOf s n).isSome

/-- SCH_PARITY_ERROR or MTR_PARITY_ERROR. -/
def raiseSched (kind n how : Nat) (s : State) : State :=
  if kind = 3 then raiseHeld 0 0x0802 2 n (detailOf [(20, how)]) s else raiseHeld 0 0x0801 2 (schObject kind n) (detailOf [(20, how)]) s

/-- An object's state is found to fail parity (R368): held, and told. -/
def schUpset (kind n : Nat) (s : State) : State :=
  if !schExists s kind n || schHeld s kind n then s
  else
    let s := match kind with
      | 0 => modLeaf n (fun l => { l with held := true }) s
      | 1 => modService n (fun v => { v with held := true }) s
      | 2 => setPortNode n { portNodeOf s n with held := true } s
      | _ => (match meterOf s n with | some m => setMeter n { m with held := true } s | none => s)
    raiseSched kind n 0 s

/-- A shaper as restored: credit 0. -/
def Shaper.restored (h : Shaper) (now : Nat) : Shaper := { h with credit := 0, tLast := now, eligible := true }

/-- SCH_PARITY_RESTORE (R368): CPU_HK restores a held object from its copy: credit and deficits 0, meter buckets full. Without a copy
it stays held. `kind`: 0 leaf, 1 service node, 2 port node, 3 meter. -/
def parityRestore (kind n : Nat) (copy : Bool) (s : State) : State :=
  if !(hkUp s && schHeld s kind n) then s
  else if !copy then raiseSched kind n 1 s
  else
    let now := nsNow s
    let s := match kind with
      | 0 => refile (leafNode n) (modLeaf n (fun l => { l with held := false, deficit := 0, shaper := l.shaper.restored now }) s)
      | 1 => refile (serviceNode n) (modService n (fun v => { v with held := false, deficit := 0, shaper := v.shaper.restored now }) s)
      | 2 => setPortNode n { portNodeOf s n with held := false } s
      | _ => (match meterOf s n with
        | some m => setMeter n { m with held := false, bucketC := m.cbs * tokenUnit, bucketE := m.ebs * tokenUnit, tLast := now } s
        | none => s)
    raiseHeld 0 0x0804 0 (if kind = 3 then n else schObject kind n) 0 s

/-- SCH_PARITY_RESTORE. -/
def execSchParityRestore (kind index : Nat) (copy : Bool) (s : State) : Host.Outcome State Fault Refusal :=
  act (parityRestore kind index copy) s

end Sys2Proof.Machine
end

