-- ==== Sys2Proof/Machine/SchedCommands.lean ====
section
/-!
DEFINITION. SCH_NODE_SET, SCH_QUEUE_SET and MTR_SET (11_scheduling_and_policing R358 to R363).
-/
namespace Sys2Proof.Machine

open Sys2Proof

/-! ## Fields and values the three share -/

/-- OP: 0 SET, 1 QUERY, 2 DELETE. -/
def setOp (c : Cmd) : Nat := c.get ⟨8, 0, 2⟩

def rateTop : Nat := 50000000
def burstLow : Nat := 64
def burstTop : Nat := 16777216

/-- Whether a RATE and BURST are refused (R343, R359): BURST is 0 with RATE 0. A condition of both offends at RATE (R632). -/
def shaperErrors (rate burst : Nat) : List (Bool × Nat) :=
  [(rateTop < rate || (rate == 0 && burst != 0) || (rate != 0 && (burst < burstLow || burstTop < burst)), 20)]

/-- A value of two's complement held within 64 bits, or 32. -/
def signed64 (i : Int) : Nat := toSigned 64 (satSigned 64 i)
def signed32 (i : Int) : Nat := toSigned 32 (satSigned 32 i)

/-- A shaper's credit in whole bytes now. -/
def creditBytes (s : State) (h : Shaper) : Int := h.accrued (nsNow s) / (creditUnit : Int)

/-- A shaper's eligible time in TO nanoseconds (R363); of a shaper that is eligible the spec states none: a free value. -/
def eligibleTime (h : Shaper) (s : State) : Nat × State :=
  if h.eligible then drawFree 64 s else (toSigned 64 ((toTotal s : Int) + h.eligibleAt - nsNow s), s)

/-- A block, where DATA_PTR gives an address for it. -/
def blockFor (c : Cmd) (data : Bytes) : Bytes := if c.dataPtr = 0 then [] else data

/-- A child leaves its parent's orders at every level. -/
def forget (kind parent n : Nat) (s : State) : State :=
  (List.range 8).foldl (fun s level =>
    let key := orderKey kind parent level
    { s with sched := { s.sched with orders := s.sched.orders.put [] key ((s.sched.orders.get [] key).filter (· != n)) } }) s

/-- Take a node off its wheels. -/
def offWheels (node : Nat) (s : State) : State :=
  match nodeParent s node with
  | some q => setWheels (instanceOf q) ((wheelsOf s (instanceOf q)).drop node) s
  | none => s

/-- Tell that a held object has been restored, by software's rewrite (R366, R368). -/
def tellRestored (was : Bool) (object : Nat) (s : State) : State := if was then raiseHeld 0 0x0804 0 object 0 s else s

/-! ## SCH_NODE_SET (R358, R359) -/

def nodeIsPort (c : Cmd) : Bool := c.flag 8 2
def nodeNumber (c : Cmd) : Nat := c.get ⟨12, 0, 13⟩

/-- Leaves attached to a service node. -/
def leavesOf (s : State) (v : Nat) : List Nat := s.sched.leaves.keysIf (fun _ l => l.state == .attached v)

/-- Service nodes of a port node. -/
def servicesOf (s : State) (q : Nat) : List Nat := s.sched.services.keysIf (fun _ v => v.parent == q)

/-- Write a service node by SET (R342, R343, R346): a new or moved node starts with full credit and one quantum. -/
def writeService (n parent weight rate burst : Nat) (s : State) : State :=
  let now := nsNow s
  match serviceOf s n with
  | none => setService n { parent, weight, shaper := newShaper rate burst now, deficit := quantum weight } s
  | some v =>
    if v.parent ≠ parent then
      let s := forget 0 v.parent n (offWheels (serviceNode n) s)
      tellRestored v.held (schObject 1 n)
        (setService n { parent, weight, shaper := newShaper rate burst now, deficit := quantum weight } s)
    else
      let h := if v.held then (v.shaper.restored now).set rate burst now else v.shaper.set rate burst now
      let d := if v.held then 0 else min v.deficit (quantum weight)
      tellRestored v.held (schObject 1 n)
        (refile (serviceNode n) (setService n { parent, weight, shaper := h, deficit := d } s))

/-- Remove a service node. -/
def deleteService (n : Nat) (s : State) : State :=
  match serviceOf s n with
  | none => s
  | some v =>
    let s := forget 0 v.parent n (offWheels (serviceNode n) s)
    { s with sched := { s.sched with services := s.sched.services.erase n } }

/-- The answer of a node QUERY (R363). What a port node does not have is a free value. -/
def nodeQuery (c : Cmd) (s : State) : State × Result :=
  let n := nodeNumber c
  if nodeIsPort c then
    let held := (portNodeOf s n).held
    let state := if held then 2 else b2n (nodeEnabled s n)
    let ready := (servicesOf s n).countP (fun v => decide (propagated s v < 8))
    let (e, s) := drawFree 1 s
    let (x, s) := drawFree 160 s
    (s, .done { status := stOk, result := resultOf [(8, state), (9, e), (12, ready)],
                data := blockFor c (leBytes 20 x ++ leBytes 4 (servicesOf s n).length ++ leBytes 40 0) })
  else
    match serviceOf s n with
    | none => (s, failed stState (lifecycle s))
    | some v =>
      let ready := (readyLeaves s n).length
      let (t, s) := eligibleTime v.shaper s
      (s, .done { status := stOk, result := resultOf [(8, if v.held then 2 else 1), (9, b2n v.shaper.eligible), (12, ready)],
                  data := blockFor c (leBytes 8 (signed64 (creditBytes s v.shaper)) ++ leBytes 8 t ++
                    leBytes 4 (signed32 v.deficit) ++ leBytes 4 (leavesOf s n).length ++ leBytes 40 0) })

/-- SCH_NODE_SET (R358, R359). -/
def specSchNodeSet : OpSpec where
  opcode := 0x0801
  cls := .a
  privilege := .p
  fields := fun c =>
    if setOp c = 0 then
      [⟨8, 0, 3⟩, ⟨12, 0, 13⟩, ⟨14, 0, 7⟩, fld 15 1, ⟨16, 0, 6⟩, ⟨20, 0, 26⟩, ⟨24, 0, 25⟩]
    else [⟨8, 0, 3⟩, ⟨12, 0, 13⟩]
  pointer := fun c => setOp c == 1
  own := fun c _ =>
    [(setOp c == 3, 8), (nodeIsPort c && 127 < nodeNumber c, 12), (setOp c == 2 && nodeIsPort c, 8)] ++
      (if setOp c = 0 then
        (if nodeIsPort c then
          [(c.get ⟨14, 0, 7⟩ != 0 || c.u8 15 != 0 || c.get ⟨20, 0, 26⟩ != 0 || c.get ⟨24, 0, 25⟩ != 0, 8)]
        else
          [(c.u8 15 == 0, 15), (c.get ⟨16, 0, 6⟩ != 0, 8)] ++ shaperErrors (c.get ⟨20, 0, 26⟩) (c.get ⟨24, 0, 25⟩))
      else [])
  badState := fun c s =>
    let n := nodeNumber c
    if nodeIsPort c then false
    else if setOp c = 0 then
      !nodeEnabled s (c.get ⟨14, 0, 7⟩) ||
        (match serviceOf s n with
         | none => false
         | some v => v.parent != c.get ⟨14, 0, 7⟩ && (leavesOf s n).any (leafHolds s))
    else
      (serviceOf s n).isNone || (setOp c == 2 && leavesOf s n != [])
  locks := fun c =>
    if nodeIsPort c then [.node (8192 + nodeNumber c)]
    else if setOp c = 0 then [.node (nodeNumber c), .node (8192 + c.get ⟨14, 0, 7⟩)] else [.node (nodeNumber c)]
  effect := fun c s =>
    let n := nodeNumber c
    match setOp c with
    | 0 =>
      if nodeIsPort c then
        (tellRestored (portNodeOf s n).held (schObject 2 n) (setPortNode n { overhead := c.get ⟨16, 0, 6⟩ } s), ok 0)
      else (writeService n (c.get ⟨14, 0, 7⟩) (c.u8 15) (c.get ⟨20, 0, 26⟩) (c.get ⟨24, 0, 25⟩) s, ok 0)
    | 1 => nodeQuery c s
    | _ => (deleteService n s, ok 0)

/-- SCH_NODE_SET. -/
def execSchNodeSet (c : Cmd) (s : State) : Host.Outcome State Fault Refusal := hostOp specSchNodeSet c s

/-! ## SCH_QUEUE_SET (R360, R361) -/

def queueNumber (c : Cmd) : Nat := c.get ⟨12, 0, 17⟩
def queueService (c : Cmd) : Nat := c.get ⟨16, 0, 13⟩
def queueHost (c : Cmd) : Bool := c.flag 18 5
def queueSpillable (c : Cmd) : Bool := c.flag 18 3
def queueLimit (c : Cmd) : Nat := c.get ⟨28, 0, 24⟩
def queueYellow (c : Cmd) : Nat := c.get ⟨32, 0, 24⟩
def queueSpillAt (c : Cmd) : Nat := c.get ⟨36, 0, 18⟩

/-- The state that a SET gives its leaf. -/
def queueState (c : Cmd) : LeafState := if queueHost c then .host else .attached (queueService c)

/-- The staging tail, not yet written, joins the on-die part (R349). -/
def joinTail (l : Leaf) : Leaf := { l with onDie := l.onDie ++ l.staging, staging := [], stagedOut := 0, spilling := false }

/-- A leaf as a SET writes it: what a new or moved leaf starts with is credit equal to BURST and one quantum. -/
def leafOfCmd (c : Cmd) (s : State) : Leaf :=
  let now := nsNow s
  let rate := c.get ⟨20, 0, 26⟩
  let burst := c.get ⟨24, 0, 25⟩
  let yellow := if queueYellow c = 0 then queueLimit c else queueYellow c
  { state := queueState c, prio := c.get ⟨18, 0, 3⟩, weight := c.u8 19, spillable := queueSpillable c, disable := c.flag 18 4,
    limit := queueLimit c, yellowLimit := yellow, spillAt := queueSpillAt c,
    shaper := newShaper rate burst now, deficit := quantum (c.u8 19) }

/-- The service node a leaf is attached to. -/
def Leaf.service (l : Leaf) : Option Nat :=
  match l.state with
  | .attached v => some v
  | .host => none

/-- A leaf leaves its parent: its wheels and its parent's orders. -/
def detachLeaf (n : Nat) (l : Leaf) (s : State) : State :=
  let s := offWheels (leafNode n) s
  match l.service with
  | some v => forget 1 v n s
  | none => s

/-- Write a leaf by SET. -/
def writeLeaf (c : Cmd) (s : State) : State :=
  let n := queueNumber c
  let fresh := leafOfCmd c s
  match leafOf s n with
  | none => setLeaf n fresh s
  | some l =>
    if l.state ≠ fresh.state then tellRestored l.held n (setLeaf n fresh (detachLeaf n l s))
    else
      let now := nsNow s
      let h := (if l.held then l.shaper.restored now else l.shaper).set fresh.shaper.rate fresh.shaper.burst now
      let d := if l.held then 0 else min l.deficit (quantum fresh.weight)
      let l' := { fresh with shaper := h, deficit := d, spilling := l.spilling, onDie := l.onDie, staging := l.staging,
                             stagedOut := l.stagedOut, pageSeq := l.pageSeq }
      let l' := if fresh.spillable then l' else joinTail l'
      tellRestored l.held n (refile (leafNode n) (setLeaf n l' s))

/-- Pages of a leaf that are held, and in flight: on their way to a channel or back (R349, R363). -/
def pagesHeld (s : State) (n : Nat) : Nat := (pagesOf s n).countP (fun p => !p.writing && !p.reading)
def pagesFlying (s : State) (n : Nat) : Nat := (pagesOf s n).countP (fun p => p.writing || p.reading)

/-- Frames a leaf holds. -/
def framesHeld (s : State) (n : Nat) : Nat :=
  match leafOf s n with
  | none => 0
  | some l => ((leafFrames s n l).filter (fun f => (frameOf s f).isSome)).length

/-- The answer of a queue QUERY (R363). -/
def queueQuery (c : Cmd) (s : State) : State × Result :=
  let n := queueNumber c
  match leafOf s n with
  | none => (s, failed stState (lifecycle s))
  | some l =>
    let (t, s) := eligibleTime l.shaper s
    (s, .done { status := stOk,
                result := resultOf [(8, (if l.held then 2 else 1) + 4 * b2n l.spilling), (9, b2n l.shaper.eligible),
                  (12, ceilDiv (depthOf s n) 256)],
                data := blockFor c (leBytes 8 (signed64 (creditBytes s l.shaper)) ++ leBytes 8 t ++
                  leBytes 4 (bytesOf s l.onDie) ++ leBytes 4 (pagesHeld s n) ++ leBytes 4 (pagesFlying s n) ++
                  leBytes 4 (framesHeld s n) ++ leBytes 32 0) })

/-- SCH_QUEUE_SET (R360, R361). -/
def specSchQueueSet : OpSpec where
  opcode := 0x0802
  cls := .a
  privilege := .p
  fields := fun c =>
    if setOp c = 0 then
      [⟨8, 0, 2⟩, ⟨12, 0, 17⟩, ⟨16, 0, 13⟩, ⟨18, 0, 6⟩, fld 19 1, ⟨20, 0, 26⟩, ⟨24, 0, 25⟩, ⟨28, 0, 24⟩, ⟨32, 0, 24⟩, ⟨36, 0, 18⟩]
    else [⟨8, 0, 2⟩, ⟨12, 0, 17⟩]
  pointer := fun c => setOp c == 1
  own := fun c _ =>
    [(setOp c == 3, 8)] ++
      (if setOp c = 0 then
        let top := if queueSpillable c then 16777215 else 131072
        [(queueHost c && queueService c != 0, 16), (queueHost c && queueSpillable c, 18), (c.u8 19 == 0, 19),
         (queueLimit c == 0 || top < queueLimit c, 28), (queueLimit c < queueYellow c, 28),
         (queueSpillable c && (queueSpillAt c < 16 || 131072 < queueSpillAt c), 36),
         (!queueSpillable c && queueSpillAt c != 0, 18)] ++
          shaperErrors (c.get ⟨20, 0, 26⟩) (c.get ⟨24, 0, 25⟩)
      else [])
  badState := fun c s =>
    let n := queueNumber c
    match setOp c with
    | 0 =>
      (!queueHost c && (serviceOf s (queueService c)).isNone) ||
        (!queueHost c && (ringOf s n).isSome) ||
        (match leafOf s n with
         | none => false
         | some l =>
           (l.state != queueState c && leafHolds s n) || (l.spillable && !queueSpillable c && !(pagesOf s n).isEmpty))
    | 1 => (leafOf s n).isNone
    | _ => (leafOf s n).isNone || leafHolds s n || (ringOf s n).isSome
  locks := fun c =>
    if setOp c = 0 && !queueHost c then [.queue (queueNumber c), .node (queueService c)] else [.queue (queueNumber c)]
  effect := fun c s =>
    let n := queueNumber c
    match setOp c with
    | 0 => (writeLeaf c s, ok 0)
    | 1 => queueQuery c s
    | _ =>
      match leafOf s n with
      | none => (s, ok 0)
      | some l =>
        let s := detachLeaf n l s
        ({ s with sched := { s.sched with leaves := s.sched.leaves.erase n } }, ok 0)

/-- SCH_QUEUE_SET. -/
def execSchQueueSet (c : Cmd) (s : State) : Host.Outcome State Fault Refusal := hostOp specSchQueueSet c s

/-! ## MTR_SET (R357, R362) -/

def meterBank (c : Cmd) : Bool := c.flag 8 2
def meterMode (c : Cmd) : Nat := c.get ⟨8, 3, 2⟩
/-- The meter's number: privileged meters follow the ordinary ones. -/
def meterNumber (c : Cmd) : Nat := c.get ⟨12, 0, 17⟩ + 131072 * b2n (meterBank c)

/-- Whether a two-bit colour code of PCP_MAP is 3. -/
def mapHas3 (m : Nat) : Bool := (List.range 8).any (fun p => bitsOf m (2 * p) 2 == 3)

/-- A meter as a SET writes it (R357). The level that a meter not configured before keeps is not stated: a free value. -/
def meterOfCmd (c : Cmd) (s : State) : Meter × State :=
  let cbs := c.get ⟨20, 0, 25⟩
  let ebs := c.get ⟨28, 0, 25⟩
  let m : Meter :=
    { mode := meterMode c, keepTokens := c.flag 8 5, colourAware := c.flag 8 6, cir := c.get ⟨16, 0, 26⟩, cbs,
      eir := c.get ⟨24, 0, 26⟩, ebs, pcpMap := c.u16 32, deiYellow := c.flag 34 0, untagged := c.get ⟨34, 1, 2⟩,
      bucketC := cbs * tokenUnit, bucketE := ebs * tokenUnit, tLast := nsNow s }
  if !c.flag 8 5 then (m, s)
  else
    match meterOf s (meterNumber c) with
    | none =>
      let (x, s) := drawFree 24 s
      let (y, s) := drawFree 24 s
      ({ m with bucketC := min (m.cbs : Int) x * tokenUnit, bucketE := min (m.ebs : Int) y * tokenUnit }, s)
    | some o =>
      if o.held then (m, s)
      else
        let o := o.fill (nsNow s)
        ({ m with bucketC := min o.bucketC m.bucketC, bucketE := min o.bucketE m.bucketE }, s)

/-- The parameter bytes 8 to 39 of the SET that a meter stores (R363). -/
def meterBytes (m : Meter) (number : Nat) : Bytes :=
  leBytes 4 (4 * (number / 131072) + 8 * m.mode + 32 * b2n m.keepTokens + 64 * b2n m.colourAware) ++
    leBytes 4 (number % 131072) ++ leBytes 4 m.cir ++ leBytes 4 m.cbs ++ leBytes 4 m.eir ++ leBytes 4 m.ebs ++
    leBytes 2 m.pcpMap ++ leBytes 1 (b2n m.deiYellow + 2 * m.untagged) ++ leBytes 5 0

/-- A bucket in whole bytes. -/
def bucketBytes (b : Int) : Nat := signed32 (b / tokenUnit)

/-- The answer of a meter QUERY (R363). Of a meter not configured the buckets and parameters are free values. -/
def meterQuery (c : Cmd) (s : State) : State × Result :=
  let n := meterNumber c
  match meterOf s n with
  | none =>
    let (x, s) := drawFree 320 s
    (s, .done { status := stOk, result := resultOf [(12, x / 2 ^ 256 % 2 ^ 32)], data := blockFor c (leBytes 40 x ++ leBytes 24 0) })
  | some m =>
    let f := m.fill (nsNow s)
    (s, .done { status := stOk, result := resultOf [(8, if m.held then 2 else 1), (12, bucketBytes f.bucketC)],
                data := blockFor c (meterBytes m n ++ leBytes 4 (bucketBytes f.bucketC) ++
                  leBytes 4 (bucketBytes f.bucketE) ++ leBytes 24 0) })

/-- MTR_SET (R357, R362). -/
def specMtrSet : OpSpec where
  opcode := 0x0803
  cls := .a
  privilege := .p
  fields := fun c =>
    if setOp c = 0 then
      [⟨8, 0, 7⟩, ⟨12, 0, 17⟩, ⟨16, 0, 26⟩, ⟨20, 0, 25⟩, ⟨24, 0, 26⟩, ⟨28, 0, 25⟩, fld 32 2, ⟨34, 0, 3⟩]
    else [⟨8, 0, 3⟩, ⟨12, 0, 17⟩]
  pointer := fun c => setOp c == 1
  own := fun c _ =>
    [(setOp c == 3, 8), (meterBank c && 4095 < c.get ⟨12, 0, 17⟩, 12)] ++
      (if setOp c = 0 then
        let cir := c.get ⟨16, 0, 26⟩
        let cbs := c.get ⟨20, 0, 25⟩
        let eir := c.get ⟨24, 0, 26⟩
        let ebs := c.get ⟨28, 0, 25⟩
        [(meterMode c == 3, 8), (rateTop < cir, 16), (cbs < burstLow || burstTop < cbs, 20), (rateTop < eir, 24),
         (ebs < burstLow || burstTop < ebs, 28), (meterMode c == 0 && eir != 0, 8), (meterMode c == 1 && eir < cir, 16),
         (mapHas3 (c.u16 32), 32), (c.get ⟨34, 1, 2⟩ == 3, 34),
         (!meterBank c && (c.flag 8 6 || c.u16 32 != 0 || c.get ⟨34, 0, 3⟩ != 0), 8)]
      else [])
  locks := fun c => [.meter (meterNumber c)]
  effect := fun c s =>
    let n := meterNumber c
    match setOp c with
    | 0 =>
      let was := match meterOf s n with | some m => m.held | none => false
      let (m, s) := meterOfCmd c s
      (tellRestored was n (setMeter n m s), ok 0)
    | 1 => meterQuery c s
    | _ => ({ s with sched := { s.sched with meters := s.sched.meters.erase n } }, ok 0)

/-- MTR_SET. -/
def execMtrSet (c : Cmd) (s : State) : Host.Outcome State Fault Refusal := hostOp specMtrSet c s

end Sys2Proof.Machine
end

