-- ==== Sys2Proof/Machine/ReservoirBase.lean ====
section
/-!
DEFINITION. The reservoir as the queues see it (10_reservoir R309, R312, R332, R333; 11_scheduling_and_policing R349, R350): channels,
free spill frames, whether spill is available, and page requests.
-/
namespace Sys2Proof.Machine

open Sys2Proof

/-- A channel. -/
def chOf (s : State) (n : Nat) : Channel :=
  match n with
  | 0 => s.reservoir.ch0
  | 1 => s.reservoir.ch1
  | 2 => s.reservoir.ch2
  | _ => s.reservoir.ch3

/-- Write a channel. -/
def setCh (n : Nat) (c : Channel) (s : State) : State :=
  match n with
  | 0 => { s with reservoir := { s.reservoir with ch0 := c } }
  | 1 => { s with reservoir := { s.reservoir with ch1 := c } }
  | 2 => { s with reservoir := { s.reservoir with ch2 := c } }
  | _ => { s with reservoir := { s.reservoir with ch3 := c } }

/-- Change a channel. -/
def modCh (n : Nat) (f : Channel → Channel) (s : State) : State := setCh n (f (chOf s n)) s

/-- The reservoir's counters (R335). -/
def rsvCountBy (i n : Nat) (s : State) : State := countBy (0x7100 + 8 * i) n s
def rsvCount (i : Nat) (s : State) : State := rsvCountBy i 1 s

/-- Frames of 4 KiB in a channel (R309). -/
def chFrames (c : Channel) : Nat := 4194304 * 2 ^ c.capacity

/-- Spill frames of a channel (R309): those below the metadata, less the statistics region where it holds it. -/
def spillTotal (c : Channel) (stats : Bool) : Nat :=
  let f := chFrames c
  f - f / 64 - f / 4096 - f / 262144 - (if stats then 16384 else 0)

/-- Whether a channel holds the statistics region. -/
def holdsStats (s : State) (n : Nat) : Bool := s.reservoir.statsChannel == some n

/-- The first spill frame of a channel, and the one after the last (R309, R310). -/
def spillLow (stats : Bool) : Nat := if stats then 16384 else 0
def spillHigh (c : Channel) : Nat := spillTotal c false

/-- Spill frames of the span of a counter block: level 0 a leaf, 1, 2, 3 root. -/
def spanOf (c : Channel) (stats : Bool) (level idx : Nat) : Nat :=
  min (spillHigh c) ((idx + 1) * 64 ^ level) - max (spillLow stats) (idx * 64 ^ level)

/-- The key of a counter block: level 0 leaves, 1, 2, 3 root. -/
def counterKey (level idx : Nat) : Nat := level * 2 ^ 25 + idx

/-- A counter block. -/
def blockOf (c : Channel) (level idx : Nat) : CounterBlock :=
  c.blocks.get { major := if level = 0 ∧ idx < 16384 then c.statsMajor else 0 } (counterKey level idx)

/-- Whether a frame is quarantined: a block on its path is (R326). -/
def frameQuarantined (c : Channel) (frame : Nat) : Bool :=
  [0, 1, 2, 3].any (fun level => (blockOf c level (frame / 64 ^ level)).quarantine.isSome)

/-- Quarantined spill frames of a channel. -/
def quarantinedFrames (c : Channel) (stats : Bool) : Nat :=
  c.blocks.cells.foldl (fun n b =>
    if b.2.quarantine.isSome then n + spanOf c stats (b.1 / 2 ^ 25) (b.1 % 2 ^ 25) else n) 0

/-- Free spill frames (R333): neither held nor quarantined. -/
def chFree (s : State) (n : Nat) : Nat :=
  let c := chOf s n
  if c.state = .online ∨ c.state = .retraining then
    spillTotal c (holdsStats s n) - c.pages.length - quarantinedFrames c (holdsStats s n)
  else 0

/-- RSV_STATUS.ONLINE: a channel is ONLINE and the key is drawn, and the condition of R324 has not been reached. -/
def rsvOnline (s : State) : Bool :=
  !s.reservoir.fatal && s.reservoir.keyReady && (channels s).any (fun c => c.state == .online || c.state == .retraining)

/-- RSV_STATUS.SPILLING. -/
def rsvSpilling (s : State) : Bool := s.reservoir.spillEnable && rsvOnline s

/-- Whether a channel may take a page (R323, R326, R329, R332): it has a spill frame that is free, or quarantined and made usable when
the pointer reaches it. -/
def mayTake (s : State) (n : Nat) : Bool :=
  (chOf s n).state == .online && !(chOf s n).resting && !bitOf s.reservoir.drainMask n &&
    decide ((chOf s n).pages.length < spillTotal (chOf s n) (holdsStats s n))

/-- Whether spill is available (R349). -/
def spillAvailable (s : State) : Bool :=
  rsvSpilling s && [0, 1, 2, 3].any (fun n =>
    (chOf s n).state == .online && !bitOf s.reservoir.drainMask n && decide (0 < chFree s n))

/-- Why spill is not available (R366, byte 24). -/
def spillRefusal (s : State) : Nat := if !rsvOnline s then 0 else if !s.reservoir.spillEnable then 1 else 2

/-- Cells a class holds, from its words (09 R276: four 64-byte words a cell). -/
def cellsFor (words : Nat) : Nat := (words + 3) / 4

/-- Words held in a class. -/
def classWords (s : State) (c : Nat) : Nat :=
  match c with
  | 0 => s.fabric.words0
  | 1 => s.fabric.words1
  | 2 => s.fabric.words2
  | 3 => s.fabric.words3
  | _ => s.fabric.words4

/-- Write the words held in a class. -/
def setClassWords (c n : Nat) (s : State) : State :=
  match c with
  | 0 => { s with fabric := { s.fabric with words0 := n } }
  | 1 => { s with fabric := { s.fabric with words1 := n } }
  | 2 => { s with fabric := { s.fabric with words2 := n } }
  | 3 => { s with fabric := { s.fabric with words3 := n } }
  | _ => { s with fabric := { s.fabric with words4 := n } }

/-- The quota of a class (09 R283). -/
def classQuota (s : State) (c : Nat) : Nat :=
  match c with
  | 0 => s.fabric.quota0
  | 1 => s.fabric.quota1
  | 2 => s.fabric.quota2
  | 3 => s.fabric.quota3
  | _ => s.fabric.quota4

/-- Whether a class's cells in use have reached its quota. -/
def classFull (s : State) (c : Nat) : Bool := classQuota s c ≤ cellsFor (classWords s c)

/-- Bytes a record takes in pages (R311): header, frame, padding to 16 bytes. -/
def recordBytes (length : Nat) : Nat := 16 + ceilDiv length 16 * 16

/-- Bytes a page keeps for records after its header. -/
def pageRoom : Nat := 4080

/-- Words of STAGING that a page of 4,096 bytes takes. -/
def pageWords : Nat := 64

/-- The oldest page of a leaf: its channel and the page. -/
def oldestPage (s : State) (leaf : Nat) : Option (Nat × Page) :=
  let all := ([0, 1, 2, 3].map (fun n => ((chOf s n).pages.filter (fun p => p.queue == leaf && !p.reading)).map (fun p => (n, p)))).flatten
  all.foldl (fun best p =>
    match best with
    | none => some p
    | some b => if p.2.pageSeq < b.2.pageSeq then some p else best) none

/-- Pages requested from the channels, of one leaf or of all (09 R284: at most 64 in flight). -/
def readsOf (s : State) (leaf : Nat) : Nat := (pagesOf s leaf).countP (fun p => p.reading)
def readsInFlight (s : State) : Nat := ((channels s).map (fun c => c.pages.countP (fun p => p.reading))).foldl (· + ·) 0

/-- Request a spilling leaf's oldest page where the conditions of R350 hold: at most `fuel` of them. -/
def requestPages (leaf : Nat) : Nat → State → State
  | 0, s => s
  | fuel + 1, s =>
    match leafOf s leaf with
    | none => s
    | some l =>
      if l.spilling && 2 * bytesOf s l.onDie < 256 * l.spillAt && readsOf s leaf < 4 && readsInFlight s < 64 && !classFull s 3 then
        match oldestPage s leaf with
        | none => s
        | some (n, p) =>
          if p.writing || (chOf s n).state != .online then s
          else
            let mark (q : Page) : Page := if q.queue = leaf ∧ q.pageSeq = p.pageSeq then { q with reading := true } else q
            requestPages leaf fuel (modCh n (fun c => { c with pages := c.pages.map mark }) s)
      else s

/-- A leaf in SPILLING with no page left returns to ON_DIE: its unwritten staging tail joins the on-die part (R349). -/
def settleLeaf (leaf : Nat) (s : State) : State :=
  match leafOf s leaf with
  | none => s
  | some l => if l.spilling && (pagesOf s leaf).isEmpty then setLeaf leaf (joinTail l) s else s

end Sys2Proof.Machine
end

