-- ==== Sys2Proof/Machine/FabricBase.lean ====
section
/-!
DEFINITION. Frames in the device: buffer cells by class, streams, discarding, multicast groups, and the two admissions of a frame head
(09_fabric_and_buffers R277, R283 to R285, R290; 11_scheduling_and_policing R347 to R349).
-/
namespace Sys2Proof.Machine

open Sys2Proof

/-! ## Counters (R303) -/

def fabDevCount (i n : Nat) (s : State) : State := countBy (0x4200 + 8 * i) n s
def fabInCount (pipe i : Nat) (s : State) : State := count (0x4800 + 0x40 * pipe + 8 * i) s
def fabOutCount (output i : Nat) (s : State) : State := count (0x4c00 + 0x40 * output + 8 * i) s
def fabOutCountBy (output i n : Nat) (s : State) : State := countBy (0x4c00 + 0x40 * output + 8 * i) n s
def fabPortCount (q i : Nat) (s : State) : State := count (0x5400 + 0x20 * q + 8 * i) s

/-- The counters of a selector pipe (04 R142), and of a cipher pipe (05 R184): LE0 to LE7, then LI0 to LI7. -/
def selCount (pipe i : Nat) (s : State) : State := count (0x200 + 0x80 * pipe + 8 * i) s
def selCountBy (pipe i n : Nat) (s : State) : State := countBy (0x200 + 0x80 * pipe + 8 * i) n s
def scCount (pipe i : Nat) (s : State) : State := count (0x1000 + 0x80 * pipe + 8 * i) s

/-- SCH_NO_QUEUE_DROP of an ingress pipe (11 R365). -/
def noQueueDrop (pipe : Nat) (s : State) : State := count (0x8200 + 8 * pipe) s

/-- TMP_SQUELCH_DROP (16_tamper R472, R491). -/
def squelchDrop (s : State) : State := count 0x10080 s

/-! ## Cells -/

/-- The egress pipe of a port as a fabric output (R276): LE0 to LE7, CE0 to CE7. -/
def outputOf (port : Nat) : Nat := if 64 ≤ port then (port - 64) / 8 else 8 + port / 8

/-- Give a frame `n` more words of buffer cells in its class. -/
def holdWords (fid n : Nat) (s : State) : State :=
  match frameOf s fid with
  | none => s
  | some f => setClassWords f.cls (classWords s f.cls + n) (modFrame fid (fun f => { f with wordsHeld := f.wordsHeld + n }) s)

/-- A frame's cells return to the free list (R285). -/
def freeWords (fid : Nat) (s : State) : State :=
  match frameOf s fid with
  | none => s
  | some f => setClassWords f.cls (classWords s f.cls - f.wordsHeld) (modFrame fid (fun f => { f with wordsHeld := 0 }) s)

/-- Whether a frame is still being received. -/
def receiving (s : State) (fid : Nat) : Bool :=
  match frameOf s fid with
  | none => false
  | some f => s.fabric.rx.find f.ingress == some fid

/-- Take a frame out of the leaf it was admitted to and out of its egress port. -/
def unlinkFrame (fid : Nat) (s : State) : State :=
  match frameOf s fid with
  | none => s
  | some f =>
    let keep (l : List Nat) : List Nat := l.filter (· != fid)
    let s := if f.express || f.bypass && !f.mcast && f.ptp || f.mcast && f.source.isNone then s
      else modLeaf f.queue (fun l => { l with onDie := keep l.onDie, staging := keep l.staging,
                                               stagedOut := if l.staging.head? = some fid then 0 else l.stagedOut }) s
    let e := egressOf s f.egress
    setEgress f.egress { e with express := keep e.express, released := keep e.released } s

/-- Remove a frame's record and free its cells; one still being received keeps its record, as dropped, for its verdict. -/
def removeFrame (fid : Nat) (s : State) : State :=
  let s := freeWords fid s
  if receiving s fid then modFrame fid (fun f => { f with dropped := true, mergeWait := 0 }) s
  else { s with fabric := { s.fabric with frames := s.fabric.frames.erase fid } }

/-- A copy gives back its reference: the stored frame goes with its last copy (R285, R291). -/
def releaseRef (g : Nat) (s : State) : State :=
  match frameOf s g with
  | none => s
  | some f =>
    if f.refs ≤ 1 then removeFrame g s else modFrame g (fun f => { f with refs := f.refs - 1 }) s

/-- Discard a frame, wherever it is (R285). Counting it is its caller's. -/
def discard (fid : Nat) (s : State) : State :=
  match frameOf s fid with
  | none => s
  | some f =>
    let s := removeFrame fid (unlinkFrame fid s)
    match f.source with
    | some g => releaseRef g s
    | none => s

/-! ## Streams (R277) -/

def streamKey (input output : Nat) : Nat := input * 18 + output
def streamOf (s : State) (k : Nat) : Stream := s.fabric.streams.get {} k
def setStream (k : Nat) (v : Stream) (s : State) : State :=
  { s with fabric := { s.fabric with streams := s.fabric.streams.put {} k v } }

/-- A frame enters its stream: it takes the pair's next frame number. -/
def openStream (fid : Nat) (s : State) : State :=
  match frameOf s fid with
  | none => s
  | some f =>
    let k := streamKey (ingressPipe f.ingress) f.output
    let v := streamOf s k
    setStream k { v with nextNumber := v.nextNumber + 1 } (modFrame fid (fun f => { f with number := v.nextNumber }) s)

/-- Words of a frame become whole at its ingress pipe and join its stream: up to `total` of them in all. -/
def feedStream (fid total : Nat) (last : Bool) (s : State) : State :=
  match frameOf s fid with
  | none => s
  | some f =>
    if f.dropped then s
    else
      let n := total - f.wordsSent
      if n = 0 && !last then s
      else
        let k := streamKey (ingressPipe f.ingress) f.output
        let v := streamOf s k
        let part : Part := { fid, words := n, number := f.number, first := f.wordsSent == 0, last }
        setStream k { v with waiting := v.waiting ++ [part] } (modFrame fid (fun f => { f with wordsSent := total }) s)

/-! ## Multicast groups and members (R290, R300) -/

def groupOf (s : State) (n : Nat) : McEntry := s.fabric.groups.get {} n
def setGroup (n : Nat) (e : McEntry) (s : State) : State :=
  { s with fabric := { s.fabric with groups := s.fabric.groups.put {} n e } }
def memberOf (s : State) (n : Nat) : McEntry := s.fabric.members.get {} n
def setMember (n : Nat) (e : McEntry) (s : State) : State :=
  { s with fabric := { s.fabric with members := s.fabric.members.put {} n e } }

/-- The fields of a group entry. -/
def groupFirst (d : Nat) : Nat := bitsOf d 0 16
def groupCount (d : Nat) : Nat := bitsOf d 16 7
def groupValid (d : Nat) : Bool := bitOf d 23

/-- The members of a group. -/
def groupMembers (d : Nat) : List Nat := (List.range (groupCount d)).map (groupFirst d + ·)

/-- Whether a group entry can carry a frame (R284 check 1). -/
def groupUsable (s : State) (n : Nat) : Bool :=
  n < 8192 && !(groupOf s n).parityFailed && groupValid (groupOf s n).data && groupCount (groupOf s n).data != 0

/-- FAB_MC_PARITY (R301, R304). `table`: false group, true member; `what`: 1 found, 0 restored, 2 copy unavailable. -/
def raiseMcParity (table : Bool) (index what how : Nat) (s : State) : State :=
  raiseHeld 0 0x070c 2 (index + 65536 * b2n table) (detailOf [(20, what), (21, how)]) s

/-- An entry is found to fail parity (R301). -/
def failMc (table : Bool) (index how : Nat) (s : State) : State :=
  if table then
    if (memberOf s index).parityFailed then s
    else raiseMcParity true index 1 how (setMember index { memberOf s index with parityFailed := true } s)
  else
    if (groupOf s index).parityFailed then s
    else raiseMcParity false index 1 how (setGroup index { groupOf s index with parityFailed := true } s)

/-! ## Soft errors -/

/-- A soft error that a head brings to light. -/
def applyUpset (u : Upset) (s : State) : State :=
  match u with
  | .selector t i => failParity t 0 i 0 s
  | .filter f l => failFilter f l s
  | .sc n => modSc n (fun c => { c with parityFailed := true }) s
  | .sa n => modSa n (fun a => { a with corrupt := true }) s
  | .slot n => { s with attar := { s.attar with slots := s.attar.slots.modify n (fun v => { v with latent := true }) } }
  | .leaf n => schUpset 0 n s
  | .service n => schUpset 1 n s
  | .portNode n => schUpset 2 n s
  | .meter n => schUpset 3 n s
  | .group n => failMc false n 0 s
  | .member n => failMc true n 0 s
  | .dram n e => modCh n (fun c => { c with latent := c.latent ++ [e] }) s

/-- The soft errors of a head. -/
def applyUpsets (us : List Upset) (s : State) : State := us.foldl (fun s u => applyUpset u s) s

/-! ## Queue admission (11 R348, R349) -/

/-- Whether a leaf would take a frame of an ingress side (R337, R348 check 1). -/
def leafQualifies (s : State) (leaf ingress : Nat) : Bool :=
  match leafOf s leaf with
  | none => false
  | some l =>
    match l.state with
    | .host => (ringOf s leaf).isSome
    | .attached v =>
      match serviceOf s v with
      | none => false
      | some e => nodeEnabled s e.parent && (e.parent / 64 != ingress / 64)

/-- A leaf's on-die depth (R349): while spill is not available the frames behind its pages are part of it. -/
def onDieBytes (s : State) (l : Leaf) : Nat :=
  bytesOf s l.onDie + (if l.spilling && !spillAvailable s then bytesOf s l.staging else 0)

/-- Whether the leaf sends the next head to its staging tail (R349). -/
def leafSpills (s : State) (leaf : Nat) : Bool :=
  match leafOf s leaf with
  | none => false
  | some l => l.spillable && spillAvailable s && (l.spilling || decide (256 * l.spillAt ≤ onDieBytes s l))

/-- Whether the leaf must spill and cannot (R348 check 5). -/
def spillRefused (s : State) (leaf : Nat) : Bool :=
  match leafOf s leaf with
  | none => false
  | some l => l.spillable && decide (256 * l.spillAt ≤ onDieBytes s l) && !spillAvailable s

/-- The class of a buffered frame (09 R283, 11 R348). -/
def bufferedClass (s : State) (leaf : Nat) : Nat :=
  match leafOf s leaf with
  | some l => if l.state = .host then 4 else if leafSpills s leaf then 3 else 1
  | none => 1

/-- The first of the queue checks that fails, for a frame of a colour (R348); none for an admitted one. `copy`: a multicast copy, which
checks 1 to 4 and the copy row of R349 judge. -/
def queueCheck (s : State) (leaf ingress colour : Nat) (copy : Bool) : Option Nat :=
  if !leafQualifies s leaf ingress then some 1
  else
    match leafOf s leaf with
    | none => some 1
    | some l =>
      let d := depthOf s leaf
      if l.disable || l.held then some 2
      else if 256 * l.limit ≤ d then some 3
      else if colour = 1 && 256 * l.yellowLimit ≤ d then some 4
      else if copy then (if l.spilling then some 5 else none)
      else if spillRefused s leaf then some 5
      else none

/-- Count a queue drop (R348, R365). -/
def queueDrop (leaf pipe check : Nat) (s : State) : State :=
  if check = 1 then noQueueDrop pipe s
  else
    let q := (nodeOfLeaf s leaf).getD 128
    let s := schCount q 1 s
    if check = 5 then raiseHeld 0 0x0803 1 q (detailOf [(20, leaf), (24, spillRefusal s)]) s else s

/-- Admit a frame to its leaf (R349, R361): on die, or to the staging tail. Behind pages that are still held a frame keeps its order
(09 R286). -/
def joinLeaf (fid leaf : Nat) (s : State) : State :=
  let q := (nodeOfLeaf s leaf).getD 128
  let s := schCount q 0 s
  match leafOf s leaf with
  | none => s
  | some l =>
    if leafSpills s leaf then
      schCount q 2 (modFrame fid (fun f => { f with spilled := true })
        (setLeaf leaf { l with staging := l.staging ++ [fid], spilling := true } s))
    else if l.spilling then setLeaf leaf { l with staging := l.staging ++ [fid] } s
    else setLeaf leaf { l with onDie := l.onDie ++ [fid] } s

/-- A frame of a leaf is stored whole: outside lockstep it takes its place behind the frames stored before it (09 R286; 12 R374). -/
def storeInLeaf (fid leaf : Nat) (s : State) : State :=
  let s := modFrame fid (fun f => { f with stored := true }) s
  if pairLocked s then s
  else
    let done (n : Nat) : Bool := n != fid && (match frameOf s n with | some f => f.stored | none => true)
    let order (l : List Nat) : List Nat :=
      if l.contains fid then l.filter done ++ [fid] ++ l.filter (fun n => n != fid && !done n) else l
    modLeaf leaf (fun l => { l with onDie := order l.onDie, staging := order l.staging }) s

/-! ## Express frames at their egress (R288) -/

/-- The head of an express frame is assembled at its egress: it joins the express queue; with the queue empty and the port free it goes
cut-through. -/
def expressAssembled (fid : Nat) (s : State) : State :=
  match frameOf s fid with
  | none => s
  | some f =>
    let e := egressOf s f.egress
    if !f.express || f.dropped || f.headLeft || f.wordsIn == 0 || f.mergeWait != 0 || (f.storeWhole && !f.stored) || e.express.contains fid
    then s
    else
      let cut : Bool := e.express == [] && e.tx.isNone && e.generated == []
      let s := setEgress f.egress { e with express := e.express ++ [fid] } s
      if cut then fabPortCount f.egress 1 s else s

/-! ## Fabric admission (R284) -/

/-- Cells of a port's express queue. -/
def expressCells (s : State) (port : Nat) : Nat :=
  cellsFor (((egressOf s port).express.map (fun n => match frameOf s n with | some f => f.wordsHeld | none => 0)).foldl (· + ·) 0)

/-- Fabric and queue admission of a frame whose path, class and destination are set: dropped in its counter, or admitted and its stream
opened. A frame that a merge holds back joins its queue later (12 R387). Answers whether it was admitted. -/
def admitFrame (fid : Nat) (s : State) : Bool × State :=
  match frameOf s fid with
  | none => (false, s)
  | some f =>
    let pipe := ingressPipe f.ingress
    if f.mcast && !groupUsable s f.queue then (false, discard fid (fabInCount pipe 2 s))
    else if classFull s f.cls then (false, discard fid (fabInCount pipe 1 s))
    else if f.express && decide (s.fabric.expressLimit ≤ expressCells s f.egress) then
      (false, discard fid (fabPortCount f.egress 0 s))
    else if f.express || f.mcast then (true, openStream fid s)
    else
      match queueCheck s f.queue f.ingress f.colour false with
      | some k => (false, discard fid (queueDrop f.queue pipe k s))
      | none => (true, openStream fid (if f.mergeWait = 0 then joinLeaf fid f.queue s else s))

/-- Admit a frame on the partner's word (12 R375). -/
def admitFollowed (fid : Nat) (s : State) : State :=
  match frameOf s fid with
  | none => s
  | some f =>
    if f.express || f.mcast || f.mergeWait != 0 then openStream fid s
    else openStream fid (joinLeaf fid f.queue s)

end Sys2Proof.Machine
end

