-- ==== Sys2Proof/Machine/Parse.lean ====
section
/-!
DEFINITION. What the parsers read in a frame: tags, EtherTypes, IP and PTP headers, the SecTAG (01_architecture, journey of a frame;
04_selectors R108, R118; 05_secure_channels R150 to R154; 14_time R438, R440). A frame is its bytes from the destination address to
before the FCS.
-/
namespace Sys2Proof.Machine

open Sys2Proof

/-! ## Tags -/

/-- Whether an EtherType is one of the tag TPIDs (R108). -/
def isTag (t : Nat) : Bool := t == 0x8100 || t == 0x88a8

/-- Leading tags, at most `fuel` of them, from an offset on. -/
def tagsAt (raw : Bytes) : Nat → Nat → Nat
  | 0, _ => 0
  | fuel + 1, off => if isTag (beAt raw off 2) && decide (off + 4 ≤ raw.length) then 1 + tagsAt raw fuel (off + 4) else 0

/-- All the leading tags of a frame. -/
def tagCount (raw : Bytes) : Nat := tagsAt raw (raw.length / 4) 12

/-- The offset of the EtherType after the tags. -/
def etherAt (raw : Bytes) : Nat := 12 + 4 * tagCount raw

/-- A tag stack or header that the frame's bytes do not hold whole (01 R22 step 2). -/
def parseFails (raw : Bytes) : Bool :=
  raw.length < etherAt raw + 2 || (isTag (beAt raw (etherAt raw) 2) && decide (raw.length < etherAt raw + 4))

/-- The outermost tag's PCP and DEI, none for an untagged frame (11 R354). -/
def outerTag (raw : Bytes) : Option (Nat × Bool) :=
  if isTag (beAt raw 12 2) then some (beAt raw 14 2 / 8192, bitOf (beAt raw 14 2) 12) else none

/-- The VID of the client index (R108). -/
def frameVid (raw : Bytes) : Nat := if isTag (beAt raw 12 2) then beAt raw 14 2 % 4096 else 0

/-- Whether a frame is MAC control (03 R81). -/
def isMacControl (raw : Bytes) : Bool := beAt raw 12 2 == 0x8808

/-- Destination and source MAC as big-endian numbers. -/
def frameSrc (raw : Bytes) : Nat := beAt raw 6 6

/-! ## IP headers (R118) -/

/-- Whether the EtherType calls for an IPv4 or an IPv6 lookup in a selector mode: the family. -/
def lookupFamily (mode : Nat) (raw : Bytes) : Option Nat :=
  let t := beAt raw (etherAt raw) 2
  if t = 0x0800 ∧ mode % 2 = 1 then some 0
  else if t = 0x86dd ∧ 2 ≤ mode then some 1
  else none

/-- An IP header that is truncated, or whose version disagrees with its EtherType. -/
def ipFails (fam : Nat) (raw : Bytes) : Bool :=
  let h := etherAt raw + 2
  if fam = 0 then raw.length < h + 20 || byteAt raw h / 16 != 4 else raw.length < h + 40 || byteAt raw h / 16 != 6

/-- The destination address. -/
def ipDest (fam : Nat) (raw : Bytes) : Nat :=
  let h := etherAt raw + 2
  if fam = 0 then beAt raw (h + 16) 4 else beAt raw (h + 24) 16

/-! ## PTP (14 R438) -/

/-- A PTP message in a frame: the offset of its header, the offset of its UDP checksum (none off UDP), whether a zero checksum is left
alone (IPv4), whether it is an event message. -/
structure PtpMessage where
  header : Nat
  checksum : Option Nat
  ipv4 : Bool
  event : Bool
  deriving DecidableEq, Repr

/-- A UDP datagram in a frame: the offset of its header, and whether the carrier is IPv4. -/
def udpAt (raw : Bytes) (off : Nat) : Option (Nat × Bool) :=
  let t := beAt raw off 2
  let h := off + 2
  if t = 0x0800 ∧ byteAt raw h / 16 = 4 ∧ byteAt raw (h + 9) = 17 ∧ beAt raw (h + 6) 2 % 8192 = 0 then
    some (h + 4 * (byteAt raw h % 16), true)
  else if t = 0x86dd ∧ byteAt raw h / 16 = 6 ∧ byteAt raw (h + 6) = 17 then some (h + 40, false)
  else none

/-- The PTP message of a frame, event or general (R438); `udp` is TIM_PTP_CTRL.UDP. -/
def ptpOf (udp : Bool) (raw : Bytes) : Option PtpMessage :=
  let off := 12 + 4 * tagsAt raw 2 12
  if beAt raw off 2 = 0x88f7 then
    let ty := byteAt raw (off + 2) % 16
    if ty ≤ 3 then some { header := off + 2, checksum := none, ipv4 := false, event := true }
    else if 8 ≤ ty ∧ ty ≤ 13 then some { header := off + 2, checksum := none, ipv4 := false, event := false }
    else none
  else
    match udpAt raw off with
    | none => none
    | some (u, v4) =>
      let port := beAt raw (u + 2) 2
      let ty := byteAt raw (u + 8) % 16
      if port = 319 ∧ ty ≤ 3 ∧ udp then some { header := u + 8, checksum := some (u + 6), ipv4 := v4, event := true }
      else if port = 320 ∧ 8 ≤ ty ∧ ty ≤ 13 then some { header := u + 8, checksum := some (u + 6), ipv4 := v4, event := false }
      else none

/-- Replace bytes from an offset on. -/
def patch (raw : Bytes) (off : Nat) (new : Bytes) : Bytes := raw.take off ++ new ++ raw.drop (off + new.length)

/-- The 16-bit words of a run of bytes. -/
def words16 : Bytes → List Nat
  | a :: b :: rest => (256 * a.toNat + b.toNat) :: words16 rest
  | _ => []

/-- One's complement sum of 16-bit words. -/
def onesSum (ws : List Nat) : Nat := ws.foldl (fun a w => (a + w) % 65536 + (a + w) / 65536) 0

/-- The incremental checksum update of RFC 1624 (R440): HC' = not (not HC + not m + m'), over the words that change. -/
def rfc1624 (hc : Nat) (old new : Bytes) : Nat :=
  65535 - onesSum ((65535 - hc) :: ((words16 old).map (65535 - ·) ++ words16 new))

/-- An event message with its residence time added to correctionField, in units of 2^-16 ns, and its checksum updated (R440). -/
def correctPtp (m : PtpMessage) (residence : Nat) (raw : Bytes) : Bytes :=
  let at_ := m.header + 8
  let old := slice raw at_ 8
  let new := beBytes 8 ((beNat old + residence) % 2 ^ 64)
  let out := patch raw at_ new
  match m.checksum with
  | none => out
  | some c =>
    let hc := beAt raw c 2
    if hc = 0 ∧ m.ipv4 then out else patch out c (beBytes 2 (rfc1624 hc old new))

/-! ## The SecTAG (R150 to R156) -/

/-- A SecTAG as the parser finds it. `off` is its offset, `len` its length (8 or 16), `data` the secure data length so far. -/
structure SecTag where
  off : Nat
  len : Nat
  an : Nat
  pn : Nat
  /-- The SCI's eight wire bytes, byte 0 lowest: explicit, or derived. -/
  sci : Nat
  explicit : Bool
  clear : Nat
  deriving DecidableEq, Repr

/-- Where a SecTAG would stand: after no tag, or after one or two left in clear (R153). -/
def secTagAt (raw : Bytes) : Option Nat :=
  (List.range (tagsAt raw 2 12 + 1)).find? (fun k => beAt raw (12 + 4 * k) 2 == 0x88e5)

/-- The checks of R151 that the parser makes. `whole`: the bytes are the whole frame. -/
def secTagBad (raw : Bytes) (whole : Bool) (off : Nat) : Bool :=
  let tci := byteAt raw (off + 2)
  let sl := byteAt raw (off + 3) % 64
  let len := if bitOf tci 5 then 16 else 8
  let data := raw.length - off - len - 16
  bitOf tci 7 || (bitOf tci 5 && (bitOf tci 6 || bitOf tci 4)) || !(bitOf tci 3 && bitOf tci 2) ||
    raw.length < off + len + 16 ||
    (if whole then (if sl = 0 then data < 48 else data != sl) else sl != 0)

/-- The fields of a SecTAG that has passed the parser (R150, R156). -/
def readSecTag (raw : Bytes) (k : Nat) : SecTag :=
  let off := 12 + 4 * k
  let tci := byteAt raw (off + 2)
  let e := bitOf tci 5
  { off, len := if e then 16 else 8, an := tci % 4, pn := beAt raw (off + 4) 4,
    sci := if e then leAt raw (off + 8) 8 else leNat (slice raw 6 6 ++ [0, 1]), explicit := e, clear := k }

/-- The SecTAG that a transmit SC inserts (R150). -/
def makeSecTag (c : Sc) (an pn dataLen : Nat) : Bytes :=
  let tci := 64 * b2n c.es + 32 * b2n c.includeSci + 16 * b2n c.scb + 12 + an
  beBytes 2 0x88e5 ++ beBytes 1 tci ++ beBytes 1 (if dataLen < 48 then dataLen else 0) ++ beBytes 4 (pn % 2 ^ 32) ++
    (if c.includeSci then leBytes 8 c.sci else [])

/-- The confidentiality offset of a CO code (R146). -/
def coBytes (co : Nat) : Nat := match co with | 0 => 0 | 1 => 30 | _ => 50

/-- The IV (R154): SCI and PN, or SSCI and PN XOR SALT. The SCI is the SC entry's. -/
def cipherIv (c : Sc) (a : Sa) (pn : Nat) : Nat :=
  if xpn c.suite then
    (beNat (leBytes 12 a.salt)) ^^^ (beNat (leBytes 4 a.ssci) * 2 ^ 64 + pn)
  else beNat (leBytes 8 c.sci) * 2 ^ 32 + pn

/-- Tags that a transmit SC leaves in clear (R153). -/
def clearTags (c : Sc) (raw : Bytes) : Nat := min c.tagsInClear (tagCount raw)

/-- A frame encrypted (R150 to R154): addresses and clear tags, SecTAG, the data in clear, ciphertext and ICV. -/
def sealFrame (key iv co : Nat) (tag : Bytes) (clear : Nat) (raw : Bytes) : Bytes :=
  let addr := raw.take 12
  let tags := slice raw 12 (4 * clear)
  let data := raw.drop (12 + 4 * clear)
  let open_ := data.take co
  addr ++ tags ++ tag ++ open_ ++ Config.gcmSeal key iv (addr ++ tag ++ open_) (data.drop co)

/-- The parts of a protected frame: authenticated data, ciphertext, ICV. -/
def cipherParts (off len co : Nat) (raw : Bytes) : Bytes × Bytes × Bytes :=
  let body := raw.take (raw.length - 16)
  let data := body.drop (off + len)
  (raw.take 12 ++ slice raw off len ++ data.take co, data.drop co, raw.drop (raw.length - 16))

/-- A protected frame decrypted. -/
def openFrame (key iv off len co : Nat) (raw : Bytes) : Bytes :=
  let (aad, cipher, _) := cipherParts off len co raw
  let data := (raw.take (raw.length - 16)).drop (off + len)
  raw.take off ++ data.take co ++ Config.gcmOpen key iv aad cipher

/-- Whether the ICV of a frame verifies. -/
def icvGood (key iv off len co : Nat) (raw : Bytes) : Bool :=
  let (aad, cipher, icv) := cipherParts off len co raw
  Config.gcmTag key iv aad cipher == icv

/-- The full PN of an XPN frame (R161). -/
def xpnRecover (a : Sa) (low : Nat) : Nat :=
  let hi := a.low / 2 ^ 32
  (if low < a.low % 2 ^ 32 then hi + 1 else hi) * 2 ^ 32 + low

end Sys2Proof.Machine
end

