-- ==== Sys2Proof/Machine/Heads.lean ====
section
/-!
DEFINITION. What the two kinds of frame head share (01_architecture R17, R22, R23; 11_scheduling_and_policing R352 to R355;
12_redundant_pair R373 to R375): the record of a frame, its end at a head stage, its meter and its admission.
-/
namespace Sys2Proof.Machine

open Sys2Proof

/-- Whether a port is receiving a frame. -/
def busyRx (s : State) (port : Nat) : Bool :=
  s.fabric.rx.has port || s.pair.held.any (fun h => h.port == port && h.tail.isNone)

/-- Whether frames come in on a port: its link is up and it is not in FAR loopback (20 R584). -/
def mayReceive (s : State) (port : Nat) : Bool :=
  match portOf s port with
  | none => false
  | some v => v.linkUp && v.loopback != 3

/-- The record of a frame whose head has come; the port receives it from now on. -/
def newFrame (port : Nat) (raw : Bytes) (s : State) : Nat × State :=
  let (n, s) := takeInNo port s
  let fid := s.fabric.nextFrame
  let f : Frame := { ingress := port, raw, time := stamp s, inNo := n }
  (fid, { s with fabric := { s.fabric with
    frames := s.fabric.frames.set fid f, nextFrame := fid + 1, rx := s.fabric.rx.set port fid } })

/-- Mark a frame as dropped at its head; it keeps its record for its tail (05 R635). -/
def markDropped (fid : Nat) (s : State) : State := modFrame fid (fun f => { f with dropped := true }) s

/-- Log the verdict of a frame's head (12 R373). -/
def logFrame (fid verdict : Nat) (s : State) : State :=
  match frameOf s fid with
  | none => s
  | some f => logHead f.ingress verdict f.raw s

/-- The standby cannot follow the log (12 R373). -/
def cannotFollow (cause : Nat) (s : State) : State := modPair (fun p => { p with unfollowed := some cause }) s

/-- A head ends at a stage before its meter: its counter is its caller's. The log names it 3; a head that the log admitted cannot end
here (12 R373, R375). -/
def endHead (fid : Nat) (follow : Option Nat) (s : State) : State :=
  let s := markDropped fid s
  match follow with
  | none => logFrame fid 3 s
  | some v => if v ≤ 1 then cannotFollow 1 s else s

/-- Give a frame the buffered path of a leaf (R101, 11 R337, R348). -/
def toLeaf (leaf : Nat) (s : State) (f : Frame) : Frame :=
  let q := (nodeOfLeaf s leaf).getD 0
  { f with express := false, queue := leaf, cls := bufferedClass s leaf, output := if q = 128 then 17 else outputOf q,
           egress := if q = 128 then 0 else q }

/-- Give a frame the express path to a port (R101). -/
def toPartner (port : Nat) (f : Frame) : Frame := { f with express := true, cls := 0, output := outputOf port, egress := port }

/-- Give a frame the multicast path (09 R290). -/
def toGroup (g : Nat) (f : Frame) : Frame := { f with mcast := true, queue := g, cls := 2, output := 16 }

/-- Whether the leaf of a frame is a HOST leaf. -/
def hostBound (s : State) (fid : Nat) : Bool := match frameOf s fid with | some f => f.output == 17 | none => false

/-- The meter, then admission, of a frame whose path is set (R23, 11 R355). -/
def meterAndAdmit (fid pipe : Nat) (meter : Option Nat) (tag : Option (Nat × Bool)) (s : State) : State :=
  let (c, m, s) := match meter with
    | none => (0, none, s)
    | some n => meterHead pipe n tag s
  let s := modFrame fid (fun f => { f with colour := c, meter := m }) s
  if c = 2 then logFrame fid 2 (markDropped fid s)
  else
    match admitFrame fid s with
    | (true, s) => logFrame fid c s
    | (false, s) => logFrame fid 3 s

/-- The same at the standby, which takes the partner's verdict (12 R372, R375). -/
def followVerdict (fid pipe v : Nat) (meter : Option Nat) (s : State) : State :=
  if v = 2 then markDropped fid (mtrCount pipe 2 s)
  else if v = 3 || hostBound s fid then markDropped fid (pairCount 4 s)
  else
    let live (n : Nat) : Bool := match meterOf s n with | some m => !m.held | none => false
    let s := match meter with
      | none => s
      | some n => if live n then mtrCount pipe v s else mtrCount pipe 3 s
    let s := modFrame fid (fun f => { f with colour := v, meter := meter.filter live }) s
    admitFollowed fid s

/-- The end of a head whose path is set. -/
def finishHead (fid pipe : Nat) (follow meter : Option Nat) (tag : Option (Nat × Bool)) (s : State) : State :=
  match follow with
  | none => meterAndAdmit fid pipe meter tag s
  | some v => followVerdict fid pipe v meter s

/-- The frame that a looped port receives next (20 R584): its first bytes and whether they are all of it. -/
def loopedHead (v : Port) : Option (Bytes × Bool) :=
  match v.looped with
  | [] => none
  | (data, _) :: _ => some (data.take 128, decide (data.length ≤ 128))

/-- A frame head on a port: of the loop where the port loops, else of the wire; held back where the pair holds heads. -/
def takeHead (decide_ : HeldHead → State → State) (port : Nat) (head : Bytes) (whole : Bool) (upsets : List Upset) (backlog : Nat)
    (s : State) : State :=
  if !mayReceive s port || busyRx s port then s
  else
    let go (head : Bytes) (whole : Bool) (s : State) : State :=
      let h : HeldHead := { port, head, whole, upsets, backlog }
      if pairHolds s then modPair (fun p => { p with held := p.held ++ [h] }) s else decide_ h s
    match portOf s port with
    | none => s
    | some v =>
      if v.nearLoop then
        match loopedHead v with
        | none => s
        | some (b, w) => go b w s
      else if whole || decide (128 ≤ head.length) then go head whole s
      else s

/-- The longest frame of a port, less its FCS: 10,240 bytes on the client side, 10,272 on the line side (00_scope R1). -/
def maxRaw (port : Nat) : Nat := if port < 64 then 10236 else 10268

/-- A frame's bytes at its tail: cut at the maximum size of its side (01 R22). -/
def wholeRaw (port : Nat) (raw rest : Bytes) : Bytes := (raw ++ rest).take (maxRaw port)

/-- The counters of a received frame at its tail (03 R104; 20 R574). -/
def countReceived (port : Nat) (raw rest : Bytes) (fcs : Bool) (s : State) : State :=
  let long := decide (maxRaw port < raw.length + rest.length)
  let n := (wholeRaw port raw rest).length + 4
  let s := pcsPass false port n s
  let s := if long then portCount port 4 s else s
  if fcs && !long then portCountBy port 1 n (portCount port 0 s) else portCount port 2 s

/-- Whether a frame's FCS counts as good: it is, and the frame is not over the maximum size. -/
def goodFcs (port : Nat) (raw rest : Bytes) (fcs : Bool) : Bool := fcs && decide (raw.length + rest.length ≤ maxRaw port)

/-- The port has received the end of a frame. -/
def endRx (port : Nat) (s : State) : State := { s with fabric := { s.fabric with rx := s.fabric.rx.erase port } }

/-- Remove the record of a frame that its head or an earlier stage dropped. -/
def forgetFrame (fid : Nat) (s : State) : State := { s with fabric := { s.fabric with frames := s.fabric.frames.erase fid } }

/-- 64-byte words of a frame with its FCS (09 R277). -/
def frameWords (raw : Bytes) : Nat := (raw.length + 4 + 63) / 64

/-- Whether the ring of a HOST leaf keeps failed frames (09 R296). -/
def keepsFailed (s : State) (leaf : Nat) : Bool :=
  match ringOf s leaf with
  | some n => regBit s (ringCtrl n) 1
  | none => false

/-- A frame tail on a port: the rest of the looped frame where the port loops; a tail of a head that is held back waits with it; at the
standby it waits for the log (12 R377). `tail` settles one. -/
def takeTail (tail : Nat → Bytes → Bool → State → State) (port : Nat) (rest : Bytes) (fcs : Bool) (s : State) : State :=
  let (rest, fcs, s) := match portOf s port with
    | none => (rest, fcs, s)
    | some v =>
      if v.nearLoop then
        match v.looped with
        | [] => (rest, fcs, s)
        | (data, bad) :: more => if busyRx s port then (data.drop 128, !bad, setPort port { v with looped := more } s) else (rest, fcs, s)
      else (rest, fcs, s)
  match s.fabric.rx.find port with
  | some fid =>
    if pairFollows s then
      modPair (fun p => { p with tails := p.tails ++ [{ fid, slot := p.slot, rest, fcs }] }) (endRx port s)
    else tail fid rest fcs s
  | none =>
    let set (h : HeldHead) : HeldHead := if h.port = port ∧ h.tail = none then { h with tail := some (rest, fcs) } else h
    if busyRx s port then modPair (fun p => { p with held := p.held.map set }) s else s

end Sys2Proof.Machine
end

