-- ==== Sys2Proof/Machine/ClientRx.lean ====
section
/-!
DEFINITION. Frames received on client ports (01_architecture R22; 04_selectors R108 to R123, R134, R136; 14_time R439): the selector's
decision, and the tail.
-/
namespace Sys2Proof.Machine

open Sys2Proof

/-! ## The client selector -/

/-- What the selector comes to: an entry of the client direct table, or a drop with its counter (R142). -/
inductive Chosen
  | entry (idx : Nat)
  | drop (counter : Nat)
  deriving DecidableEq, Repr

/-- The client default of a port (R134, R136): for a frame that hit an invalid entry (counter 2) or a parity-failed one (counter 3). -/
def clientDefault (port why : Nat) (s : State) : Chosen × State :=
  if !regBit s 0x2c 0 then (.drop why, s)
  else
    let i := port * 4096 + regField s 0x2c 16 12
    let e := selEntry s 0 i
    if e.parityFailed then (.drop 3, s)
    else if entryValid 0 e.data then (.entry i, selCount (pipeOf port) 7 s)
    else (.drop why, if why = 2 then selCount (pipeOf port) 7 s else s)

/-- The client entry at an index, or the default (R119, R134, R136). -/
def clientAt (port idx : Nat) (s : State) : Chosen × State :=
  let e := selEntry s 0 idx
  if e.parityFailed then clientDefault port 3 s
  else if entryValid 0 e.data then (.entry idx, s)
  else clientDefault port 2 s

/-- The entry of an LPM pool with a key, in the parity-failed state or not. -/
def lpmFind (s : State) (fam space len addr : Nat) : Option SelEntry :=
  let key := maskTo fam len addr
  ((s.selectors.table (3 + fam)).cells.find? (fun c =>
    let e := lpmEntry fam c.2.data
    e.valid && e.space == space && e.length == len && e.prefixBits == key)).map (·.2)

/-- Whether the bitmap marks a length of a space, or its word has failed (R121, R137). -/
def lengthPresent (s : State) (fam space len : Nat) : Bool :=
  (lengthOf s fam len).parityFailed ||
    (s.selectors.table (3 + fam)).cells.any (fun c =>
      let e := lpmEntry fam c.2.data
      e.valid && e.space == space && e.length == len)

/-- Whether a length survives its filter (R121, R123, R137). -/
def lengthSurvives (s : State) (fam space addr len : Nat) : Bool :=
  (lengthOf s fam len).parityFailed || (lpmFind s fam space len addr).isSome ||
    Config.bloomFalsePositive fam len space (maskTo fam len addr) (lengthOf s fam len).build

/-- The surviving lengths of a lookup, longest first. -/
def survivors (s : State) (fam space addr : Nat) : List Nat :=
  ((List.range (famBits fam + 1)).reverse).filter (fun l => lengthPresent s fam space l && lengthSurvives s fam space addr l)

/-- Probe lengths in order (R121): the entry hit, or none, and the number of probes made. -/
def probeAll (s : State) (fam space addr : Nat) : List Nat → Nat → Option SelEntry × Nat
  | [], n => (none, n)
  | l :: rest, n =>
    match lpmFind s fam space l addr with
    | some e => (some e, n + 1)
    | none => probeAll s fam space addr rest (n + 1)

/-- The layer-3 lookup (R119, R121, R122). -/
def lpmLookup (port fam addr : Nat) (s : State) : Chosen × State :=
  let space := (s.selectors.modes.get {} port).space
  let (hit, probes) := probeAll s fam space addr (survivors s fam space addr) 0
  let s := selCountBy (pipeOf port) 8 (probes - 6) s
  match hit with
  | none => (.drop 4, s)
  | some e =>
    if e.parityFailed then clientDefault port 3 s
    else clientAt port (lpmEntry fam e.data).policy s

/-- The client selector's entry for a frame (R108, R118). -/
def selectClient (port : Nat) (raw : Bytes) (s : State) : Chosen × State :=
  match lookupFamily (s.selectors.modes.get {} port).mode raw with
  | none => clientAt port (port * 4096 + frameVid raw) s
  | some fam => if ipFails fam raw then (.drop 0, s) else lpmLookup port fam (ipDest fam raw) s

/-- The path of a frame that a client entry decides (R101, R109): none for an express result on an untied port. -/
def clientPath (port : Nat) (e : ClientEntry) (s : State) (f : Frame) : Option Frame :=
  let f := { f with bypass := e.action == 1, txSc := e.txSc }
  if e.buffered then some (if e.mcast then toGroup e.queue f else toLeaf e.queue s f)
  else
    match portOf s port with
    | none => none
    | some v => if v.path = .express then some (toPartner v.partner f) else none

/-! ## CLIENT_FRAME_HEAD -/

/-- A frame handled as bypass by PTP (14 R439), on a tied port. -/
def ptpBypass (port : Nat) (raw : Bytes) (s : State) : Option Nat :=
  match portOf s port with
  | none => none
  | some v => if v.path = .express ∧ regBit s 0xe010 0 ∧ (ptpOf (regBit s 0xe010 1) raw).isSome then some v.partner else none

/-- The decision on a client frame's head. -/
def clientDecide (h : HeldHead) (follow : Option Nat) (s : State) : State :=
  let pipe := pipeOf h.port
  let raw := h.head
  let (fid, s) := newFrame h.port raw s
  let s := applyUpsets h.upsets s
  if h.whole && raw.length < 60 then endHead fid follow (portCount h.port 3 s)
  else if isMacControl raw then endHead fid follow (portCount h.port 5 s)
  else if parseFails raw then endHead fid follow (selCount pipe 0 s)
  else
    let s := match ptpBypass h.port raw s with
      | some q =>
        finishHead fid pipe follow none none (modFrame fid (fun f => toPartner q { f with bypass := true, ptp := true }) s)
      | none =>
        if 32 ≤ h.backlog then endHead fid follow (selCount pipe 6 s)
        else
          match selectClient h.port raw s with
          | (.drop k, s) => endHead fid follow (selCount pipe k s)
          | (.entry i, s) =>
            let e := clientEntry (selEntry s 0 i).data
            if e.action = 2 then endHead fid follow (selCount pipe 1 s)
            else
              match frameOf s fid with
              | none => s
              | some f =>
                match clientPath h.port e s { f with selector := i } with
                | none => endHead fid follow (selCount pipe 5 s)
                | some f =>
                  finishHead fid pipe follow (if e.meterEn then some e.meter else none) (outerTag raw) (modFrame fid (fun _ => f) s)
    feedStream fid (raw.length / 64) false s

/-! ## CLIENT_FRAME_TAIL (R169, 11 R353) -/

/-- The tail of a client frame: the meter's charge, the FCS verdict, the last words into the stream. A bad frame on the express path is
stomped, a buffered one dropped at its output (R169, R285). -/
def clientTail (fid : Nat) (rest : Bytes) (fcs : Bool) (s : State) : State :=
  match frameOf s fid with
  | none => s
  | some f =>
    let raw := wholeRaw f.ingress f.raw rest
    let ok := goodFcs f.ingress f.raw rest fcs
    let s := endRx f.ingress (countReceived f.ingress f.raw rest fcs s)
    let s := if f.colour < 2 then meterTail f.meter f.colour (raw.length + 4) s else s
    if f.dropped then forgetFrame fid s
    else
      let s := if ok then s else logTail f f.express 0 s
      let s := modFrame fid (fun f => { f with
        raw, tailSeen := true, fault := if ok then .none else .fcs, stomp := f.stomp || (f.express && !ok) }) s
      feedStream fid (frameWords raw) true s

/-- A client head as the wire or the loop brings it. -/
def clientHead (h : HeldHead) (s : State) : State := clientDecide h none s

/-- CLIENT_FRAME_HEAD. `head`: the frame's first bytes, 128 of them or the whole frame; `backlog`: heads in the selector FIFO. -/
def execClientFrameHead (port : Nat) (head : Bytes) (whole : Bool) (backlog : Nat) (upsets : List Upset) (s : State) :
    Host.Outcome State Fault Refusal :=
  act (fun s => if port < 64 then takeHead clientHead port head whole upsets backlog s else s) s

/-- CLIENT_FRAME_TAIL. `rest`: the bytes after the head; `fcs`: the FCS is good and FEC corrected every codeword. -/
def execClientFrameTail (port : Nat) (rest : Bytes) (fcs : Bool) (s : State) : Host.Outcome State Fault Refusal :=
  act (fun s => if port < 64 then takeTail clientTail port rest fcs s else s) s

end Sys2Proof.Machine
end

