-- ==== Sys2Proof/Machine/LineRx.lean ====
section
/-!
DEFINITION. Frames received on line ports (05_secure_channels R151, R155, R156, R160, R161, R163, R166 to R168, R634, R635;
04_selectors R111 to R116, R125, R126; 12_redundant_pair R387): the parser and SC lookup, learning, the SA checks, the verdict at the
tail.
-/
namespace Sys2Proof.Machine

open Sys2Proof

/-! ## Lookup (R26, R155, R156) -/

/-- What the line lookup finds. -/
inductive LineHit
  | entry (idx : Nat) (e : LineEntry)
  | parity
  | miss
  deriving DecidableEq, Repr

/-- The foreign-SCI entry of a line port and SCI (R115). -/
def findForeign (s : State) (line sci : Nat) : Option (Nat × SelEntry) :=
  s.selectors.foreign.cells.find? (fun c =>
    let e := lineEntry c.2.data
    e.valid && e.port == line && e.sci == sci)

/-- The direct entry that satisfies R26. -/
def findDirect (s : State) (line sci : Nat) : LineHit :=
  let k := sciPortId sci
  if 4096 ≤ k then .miss
  else
    let e := selEntry s 1 (line * 4096 + k)
    let d := lineEntry e.data
    if e.parityFailed then .parity
    else if d.valid && !d.bypass && d.sci == sci then .entry (line * 4096 + k) d
    else .miss

/-- The receive SC lookup of R155: foreign first, then direct where the SCI is explicit. -/
def findRxSc (s : State) (line : Nat) (t : SecTag) : LineHit :=
  match findForeign s line t.sci with
  | some (i, e) => if e.parityFailed then .parity else .entry i (lineEntry e.data)
  | none => if t.explicit then findDirect s line t.sci else .miss

/-- Whether a SecTAG after `k` tags is one for the frame's SC (R153): a receiver that does not expect it there sees an untagged
frame. -/
def tagExpected (s : State) (line : Nat) (t : SecTag) : Bool :=
  t.clear == 0 ||
    (match findRxSc s line t with
     | .entry _ e => (match scOf s e.rxSc with | some c => c.receive && decide (t.clear ≤ c.tagsInClear) | none => false)
     | _ => false)

/-- The SecTAG of a frame, where the receiver finds one. -/
def frameTag (s : State) (line : Nat) (raw : Bytes) : Option SecTag :=
  ((secTagAt raw).map (readSecTag raw)).filter (tagExpected s line)

/-! ## Learning (R124 to R126) -/

/-- The way that a new SCI takes in its bucket: the lowest free one, else the lowest of the greatest age. -/
def learnWay (s : State) (pipe bucket : Nat) : Nat × Bool :=
  let at_ (w : Nat) : Option Learned := s.selectors.learned.find (4096 * pipe + (4 * bucket + w))
  match [0, 1, 2, 3].find? (fun w => (at_ w).isNone) with
  | some w => (w, false)
  | none =>
    let age (w : Nat) : Nat := match at_ w with | some e => e.age | none => 0
    ([1, 2, 3].foldl (fun b w => if age b < age w then w else b) 0, true)

/-- Whether the engine accepts a discovery record (R126, 07 R223). -/
def recordAccepted (s : State) (port mac : Nat) : Bool :=
  engineRuns s && s.accord.discovery &&
    (foreignMac s port mac || s.accord.records.contains (port, mac) || decide (s.accord.records.length < 256))

/-- A frame with a SecTAG is learned (R125), and an unknown peer offered for discovery (R126). -/
def learnFrame (line look : Nat) (t : SecTag) (raw : Bytes) (known : Bool) (s : State) : State :=
  if !regBit s 0x34 0 then s
  else
    let pipe := line / 8
    let mac := leAt raw 6 6
    let (ix, e, s) : Nat × Learned × State :=
      match learnedAt s pipe t.sci with
      | some i =>
        let old := s.selectors.learned.get { sci := t.sci, mac, port := line, known, age := 0, notified := false } (4096 * pipe + i)
        let moved : Bool := old.mac != mac || old.port != line
        let e := { old with mac, port := line, known, age := 0, notified := old.notified && !(old.known && !known) }
        (i, e, if moved then selCount (8 + pipe) 11 s else s)
      | none =>
        let b := crc32c (leBytes 8 t.sci) % 1024
        let (w, evict) := learnWay s pipe b
        let s := selCount (8 + pipe) 9 s
        (4 * b + w, { sci := t.sci, mac, port := line, known, age := 0, notified := false },
         if evict then selCount (8 + pipe) 10 s else s)
    let offer : Bool := !e.known && !e.notified
    let wire := frameSrc raw
    let e := { e with notified := e.notified || (offer && recordAccepted s look wire) }
    let s := { s with selectors := { s.selectors with learned := s.selectors.learned.set (4096 * pipe + ix) e } }
    if offer then offerRecord look wire s else s

/-! ## Replay and merge (R160, R161, 12 R387) -/

/-- An SA's numbers after a frame verifies (R160 rx_update). On a merged SC the window is 0. -/
def rxUpdate (c : Sc) (merged : Bool) (pn : Nat) (a : Sa) : Sa :=
  let next := max a.nextPn (pn + 1)
  let window := if merged then 0 else c.replayWindow
  { a with nextPn := next, low := if c.replayProtect then max (max a.low (next - window)) 1 else a.low }

/-- The PNs of frames of an SA that are still being received; frames that a merge holds are left out. -/
def pnsInFlight (s : State) (n : Nat) : List Nat :=
  (s.fabric.frames.cells.filter (fun c => c.2.rxSa == some n && !c.2.tailSeen && c.2.mergeWait == 0)).map (·.2.rxPn)

/-- The SA as it will stand once every earlier frame in the pipe has verified (R160). -/
def provisional (s : State) (c : Sc) (merged : Bool) (n : Nat) (a : Sa) : Sa :=
  (pnsInFlight s n).foldl (fun a pn => rxUpdate c merged pn a) a

/-- The PNs of frames of an SA that a merge holds. -/
def pnsHeld (s : State) (n : Nat) : List Nat :=
  (s.fabric.frames.cells.filter (fun c => c.2.rxSa == some n && c.2.mergeWait != 0)).map (·.2.rxPn)

/-- What a merge does with a head (12 R387 merge_head): none for a duplicate, else 0 go, 1 hold, 2 queue. -/
def mergeHead (s : State) (m : Merge) (c : Sc) (n : Nat) (a : Sa) (line pn : Nat) : Option Nat :=
  if pn < (provisional s c true n a).nextPn then none
  else if (line == m.portB) != m.claimedB then some 1
  else if (pnsHeld s n).any (· < pn) then some 2
  else some 0

/-! ## The SA checks (R634) -/

/-- What the receive checks come to: the SC, its SA and the PN, or a drop. -/
inductive RxCheck
  | go (c : Sc) (n : Nat) (a : Sa) (pn wait : Nat) (whole : Bool)
  | drop

/-- The receive checks of R634 from step 2 on, for the SC that the lookup gave. -/
def rxChecks (line sc : Nat) (t : SecTag) (s : State) : RxCheck × State :=
  let pipe := 8 + line / 8
  let drop (i : Nat) (s : State) : RxCheck × State := (.drop, scCount pipe i s)
  match scOf s sc with
  | none => drop 2 s
  | some c =>
    if c.parityFailed then drop 7 s
    else if !c.receive then drop 2 s
    else if c.port ≠ lookPort s line then drop 6 s
    else if !xpn c.suite && t.pn == 0 then drop 13 s
    else
      match c.slot t.an with
      | none => drop 2 s
      | some n =>
        match saOf s n with
        | none => drop 2 s
        | some a =>
          let (l, slot, own) := saUsable s a
          match l with
          | .integrity => drop 3 (markFailed n l slot own s)
          | .orphan => drop 4 (markFailed n l slot own s)
          | .ok =>
            let pn := if xpn c.suite then xpnRecover a t.pn else t.pn
            match mergeOf s line with
            | some (_, m) =>
              match mergeHead s m c n a line pn with
              | none => (.drop, pairCount 7 s)
              | some w => (.go c n a pn w (w != 0 || !m.cutThrough), s)
            | none =>
              if c.replayProtect && decide (pn < (provisional s c false n a).low) then drop 5 (countDelta n 3 1 s)
              else (.go c n a pn 0 false, s)

/-- The path of a frame that a line entry decides: none for an express result on an untied port (R101). -/
def linePath (look : Nat) (e : LineEntry) (s : State) (f : Frame) : Option Frame :=
  if e.buffered then some (toLeaf e.queue s f)
  else
    match portOf s (64 + look) with
    | none => none
    | some v => if v.path = .express then some (toPartner v.partner f) else none

/-- The plaintext that a head gives: the whole frame's, or of the bytes that have come (11 R354). -/
def headPlain (f : Frame) (whole : Bool) (raw : Bytes) : Bytes :=
  openFrame f.rxKey f.rxIv f.tagAt f.tagLen f.rxCo (if whole then raw else raw ++ List.replicate 16 0)

/-! ## LINE_FRAME_HEAD -/

/-- A frame without a SecTAG (R112). -/
def untaggedHead (fid line : Nat) (raw : Bytes) (follow : Option Nat) (s : State) : State :=
  let pipe := 8 + line / 8
  let look := lookPort s line
  let x := selEntry s 1 (look * 4096)
  let e := lineEntry x.data
  if x.parityFailed then endHead fid follow (selCount pipe 3 s)
  else if !(e.valid && e.bypass) then endHead fid follow (scCount pipe 12 s)
  else if e.drop then endHead fid follow (selCount pipe 1 s)
  else
    match frameOf s fid with
    | none => s
    | some f =>
      let s := scCount pipe 1 s
      match linePath look e s { f with selector := look * 4096, bypass := true } with
      | none => endHead fid follow (selCount pipe 5 s)
      | some f => finishHead fid pipe follow (if e.meterEn then some e.meter else none) (outerTag raw) (modFrame fid (fun _ => f) s)

/-- A frame with a SecTAG (R155, R634). -/
def taggedHead (fid line : Nat) (t : SecTag) (whole : Bool) (raw : Bytes) (follow : Option Nat) (s : State) : State :=
  let pipe := 8 + line / 8
  let look := lookPort s line
  if secTagBad raw whole t.off then endHead fid follow (scCount pipe 13 s)
  else
    let hit := findRxSc s look t
    let s := learnFrame line look t raw (match hit with | .entry _ _ => true | _ => false) s
    match hit with
    | .miss => endHead fid follow (scCount pipe 14 s)
    | .parity => endHead fid follow (selCount pipe 3 s)
    | .entry i e =>
      if e.drop then endHead fid follow (selCount pipe 1 s)
      else
        match rxChecks line e.rxSc t s with
        | (.drop, s) => endHead fid follow s
        | (.go c n a pn wait storeWhole, s) =>
          let s := modFrame fid (fun f => { f with
            selector := i, rxSc := e.rxSc, rxSa := some n, rxPn := pn, rxKey := a.key, rxIv := cipherIv c a pn, rxCo := coBytes c.co
            tagAt := t.off, tagLen := t.len, mergeWait := wait, storeWhole }) s
          match frameOf s fid with
          | none => s
          | some f =>
            match linePath look e s f with
            | none => endHead fid follow (selCount pipe 5 s)
            | some f =>
              finishHead fid pipe follow (if e.meterEn then some e.meter else none) (outerTag (headPlain f whole raw))
                (modFrame fid (fun _ => f) s)

/-- The decision on a line frame's head. Words of a frame of at most 256 bytes wait for its verdict (R166). -/
def lineDecide (h : HeldHead) (follow : Option Nat) (s : State) : State :=
  let line := h.port - 64
  let raw := h.head
  let (fid, s) := newFrame h.port raw s
  let s := applyUpsets h.upsets s
  if h.whole && raw.length < 60 then endHead fid follow (portCount h.port 3 s)
  else if isMacControl raw then endHead fid follow (portCount h.port 5 s)
  else if beAt raw 12 2 = s.accord.etherType then endHead fid follow (modFrame fid (fun f => { f with engine := true }) s)
  else if parseFails raw then endHead fid follow (selCount (8 + line / 8) 0 s)
  else
    let s := match frameTag s (lookPort s line) raw with
      | some t => taggedHead fid line t h.whole raw follow s
      | none =>
        match ptpBypass (64 + lookPort s line) raw s with
        | some q =>
          finishHead fid (8 + line / 8) follow none none
            (modFrame fid (fun f => toPartner q { f with bypass := true, ptp := true }) (scCount (8 + line / 8) 1 s))
        | none => untaggedHead fid line raw follow s
    if 256 < raw.length + 4 then
      match frameOf s fid with
      | some f => if f.storeWhole then s else feedStream fid ((raw.length - f.tagLen - 16) / 64) false s
      | none => s
    else s

/-- A line head as the wire or the loop brings it; CPU_ACC takes the SCs to rekey (07 R232). -/
def lineHead (h : HeldHead) (s : State) : State := serveRekeyDue (lineDecide h none s)

/-- LINE_FRAME_HEAD. `head`: the frame's first bytes, 128 of them or the whole frame. -/
def execLineFrameHead (port : Nat) (head : Bytes) (whole : Bool) (upsets : List Upset) (s : State) :
    Host.Outcome State Fault Refusal :=
  act (fun s => if port < 64 then takeHead lineHead (64 + port) head whole upsets 0 s else s) s

/-! ## LINE_FRAME_TAIL (R160, R166, R168, R635) -/

/-- An exchange that a restart of CPU_ACC ended has a frame under its receive SA (07 R238). -/
def noteLeftover (n : Nat) (s : State) : State :=
  { s with accord := { s.accord with peers := s.accord.peers.mapSome (fun _ p =>
    some { p with leftover := p.leftover.map (fun x => if x.rxSa = some n then { x with verified := true } else x) }) } }

/-- The numbers of an SA move on (R160). -/
def acceptPn (n sc : Nat) (merged : Bool) (pn : Nat) (s : State) : State :=
  match scOf s sc with
  | none => modSa n (fun a => { a with nextPn := max a.nextPn (pn + 1) }) s
  | some c => modSa n (rxUpdate c merged pn) s

/-- A frame has verified (R172, R188, R635): the SA's numbers, deltas 0 and 1, SC_RX_OK, retirement. A frame that a merge holds moves
the numbers when it is accepted. -/
def frameVerified (f : Frame) (n octets : Nat) (s : State) : State :=
  let line := f.ingress - 64
  let an := match saOf s n with | some a => a.an | none => 0
  let s := if f.mergeWait = 0 then acceptPn n f.rxSc (mergeOf s line).isSome f.rxPn s else s
  let s := countDelta n 1 octets (countDelta n 0 1 s)
  noteLeftover n (verifiedIn f.rxSc an (scCount (8 + line / 8) 0 s))

/-- A frame's ICV has failed (R168, R172, R185). -/
def tagFailed (f : Frame) (n : Nat) (cut : Bool) (s : State) : State :=
  let an := match saOf s n with | some a => a.an | none => 0
  raiseSc f.rxSc an 0x040a 1 (detailOf [(20, 1), (24, b2n cut)]) (countDelta n 2 1 s)

/-- The counter of R168 for a frame that failed. -/
def failCounter (fault : TailFault) (cut : Bool) : Nat :=
  match fault, cut with
  | .icv, true => 8
  | .icv, false => 9
  | _, true => 10
  | _, false => 11

/-! ## Held and queued frames of a merge (12 R387) -/

/-- A frame that a merge has accepted takes its path: stored whole it joins its leaf or its express queue. -/
def joinMerged (fid : Nat) (s : State) : State :=
  let s := modFrame fid (fun f => { f with mergeWait := 0 }) s
  match frameOf s fid with
  | none => s
  | some f => if !f.stored then s else if f.express then expressAssembled fid s else storeInLeaf fid f.queue s

/-- A frame is a duplicate: PAIR_MERGE_DUP_DROP. -/
def mergeDup (fid : Nat) (f : Frame) (s : State) : State := discard fid (pairCount 7 (logTail f false 3 s))

/-- Frame numbers with their PNs, in PN order. -/
def byPn (x : Nat × Nat) : List (Nat × Nat) → List (Nat × Nat)
  | [] => [x]
  | y :: rest => if x.2 ≤ y.2 then x :: y :: rest else y :: byPn x rest

/-- A queued frame is checked again as at its head. -/
def recheckQueued (n fid : Nat) (s : State) : State :=
  match frameOf s fid, saOf s n with
  | some f, some a =>
    let line := f.ingress - 64
    let go (s : State) : State := joinMerged fid (if f.tailSeen then acceptPn n f.rxSc true f.rxPn s else s)
    match mergeOf s line, scOf s f.rxSc with
    | some (_, m), some c =>
      match mergeHead s m c n a line f.rxPn with
      | none => mergeDup fid f s
      | some 0 => go s
      | some w => modFrame fid (fun f => { f with mergeWait := w }) s
    | _, _ => go s
  | _, _ => s

/-- The queued frames of an SA, in PN order. -/
def releaseQueued (n : Nat) (s : State) : State :=
  let queued := s.fabric.frames.cells.filter (fun c => c.2.rxSa == some n && c.2.mergeWait == 2 && !c.2.dropped)
  ((queued.map (fun c => (c.1, c.2.rxPn))).foldr byPn []).foldl (fun s x => recheckQueued n x.1 s) s

/-- The hold of a frame ends, once it is stored whole and verified. -/
def mergeHoldEnd (fid : Nat) (s : State) : State :=
  match frameOf s fid with
  | none => s
  | some f =>
    match f.rxSa with
    | none => s
    | some n =>
      if f.mergeWait = 1 ∧ f.stored ∧ !f.dropped then
        let next := match saOf s n with | some a => a.nextPn | none => 0
        let s :=
          if next ≤ f.rxPn then
            let s := pairCount 8 (acceptPn n f.rxSc true f.rxPn s)
            let s := match mergeOf s (f.ingress - 64) with
              | some (i, _) =>
                raiseHeld 0 0x0906 1 i (detailOf [(24, 1)])
                  (modPair (fun p => { p with merges := p.merges.modify i (fun m => { m with filled := m.filled + 1 }) }) s)
              | none => s
            joinMerged fid s
          else mergeDup fid f s
        releaseQueued n s
      else s

/-- A frame's data reach the fabric whole, or the frame is dropped at its tail (R166, R285, R296). -/
def settleLine (fid : Nat) (f : Frame) (raw : Bytes) (fault : TailFault) (cut : Bool) (s : State) : State :=
  if f.dropped then forgetFrame fid s
  else
    let s := modFrame fid (fun f => { f with raw, opened := true, tailSeen := true, fault, stomp := f.stomp || (cut && fault != .none) }) s
    if fault = .none then feedStream fid (frameWords raw) true s
    else
      let s := scCount (8 + (f.ingress - 64) / 8) (failCounter fault cut) (logTail f cut (if fault = .icv then 1 else 0) s)
      if cut || (f.output == 17 && keepsFailed s f.queue) then feedStream fid (frameWords raw) true s
      else
        let s := discard fid s
        match f.rxSa with
        | some n => if f.mergeWait = 1 then releaseQueued n s else s
        | none => s

/-- The tail of a line frame. In a pair only the active device processes Accord frames (12 R372, 07 R238). `icv`: the partner's log has not found its ICV bad (12 R377). -/
def lineTailAs (fid : Nat) (rest : Bytes) (fcs icv : Bool) (s : State) : State :=
  match frameOf s fid with
  | none => s
  | some f =>
    let raw := wholeRaw f.ingress f.raw rest
    let ok := goodFcs f.ingress f.raw rest fcs
    let s := endRx f.ingress (countReceived f.ingress f.raw rest fcs s)
    let cut : Bool := f.express && !f.storeWhole && decide (256 < raw.length + 4)
    let charge (n : Nat) (s : State) : State := if f.colour < 2 then meterTail f.meter f.colour (n + 4) s else s
    if f.engine then
      let s := forgetFrame fid s
      if ok && !accordLeads s then s
      else if ok then { s with accord := { s.accord with arrived := s.accord.arrived ++ [(f.ingress - 64, raw)] } }
      else scCount (8 + (f.ingress - 64) / 8) 11 s
    else
      match f.rxSa with
      | none => settleLine fid f raw (if ok then .none else .fcs) cut (charge raw.length s)
      | some n =>
        let good := icv && icvGood f.rxKey f.rxIv f.tagAt f.tagLen f.rxCo raw
        let fault : TailFault := if !ok then .fcs else if !good then .icv else .none
        let plain := openFrame f.rxKey f.rxIv f.tagAt f.tagLen f.rxCo raw
        let s := charge plain.length s
        let s := match fault with
          | .none => frameVerified f n (raw.length - f.tagAt - f.tagLen - 16) s
          | .icv => tagFailed f n (cut && !f.dropped) s
          | .fcs => s
        settleLine fid f plain fault cut s

/-- The tail of a line frame. -/
def lineTail (fid : Nat) (rest : Bytes) (fcs : Bool) (s : State) : State := lineTailAs fid rest fcs true s

/-- LINE_FRAME_TAIL. `rest`: the bytes after the head; `fcs`: the FCS is good and FEC corrected every codeword. -/
def execLineFrameTail (port : Nat) (rest : Bytes) (fcs : Bool) (s : State) : Host.Outcome State Fault Refusal :=
  act (fun s => if port < 64 then takeTail lineTail (64 + port) rest fcs s else s) s

end Sys2Proof.Machine
end

