-- ==== Sys2Proof/Machine/Transmit.lean ====
section
/-!
DEFINITION. The egress pipes (05_secure_channels R145, R150 to R159, R163, R169, R172, R634; 09_fabric_and_buffers R287 to R289;
03_lanes_and_ports R92; 14_time R440; 16_tamper R472): the head checks, PN assignment, and the end of a transmission. A frame whose tail
is in the buffer leaves within the step that starts it; a cut-through frame stays in transmission until its tail comes.
-/
namespace Sys2Proof.Machine

open Sys2Proof

/-! ## The data of a frame -/

/-- A frame's bytes: a copy has its source's. -/
def frameData (s : State) (f : Frame) : Bytes :=
  match f.source with
  | some g => (match frameOf s g with | some h => h.raw | none => [])
  | none => f.raw

/-- Whether the frame, or the frame a copy refers to, is stored whole. -/
def wholeAt (s : State) (f : Frame) : Bool :=
  match f.source with
  | some g => (match frameOf s g with | some h => h.stored | none => false)
  | none => f.stored

/-- The bytes that leave without encryption: an event message gets its residence time (R440), which the model leaves free. -/
def clearData (udp correct : Bool) (raw : Bytes) (s : State) : Bytes × State :=
  match (if correct then ptpOf udp raw else none) with
  | some m =>
    if m.event then
      let (r, s) := drawFree 64 s
      (correctPtp m r raw, s)
    else (raw, s)
  | none => (raw, s)

/-! ## The end of a transmission -/

/-- The counters of a frame that left (R169, R172, R184): of its SA, and of its pipe. -/
def countLeft (port : Nat) (t : Tx) (f : Frame) (octets : Nat) (s : State) : State :=
  let pipe := (port - 64) / 8
  match t.sa with
  | some n =>
    if f.stomp then
      let s := countDelta n 2 1 s
      if f.fault = .fcs ∧ f.ingress < 64 then scCount pipe 8 s else s
    else scCount pipe 0 (countDelta n 1 octets (countDelta n 0 1 s))
  | none => if f.stomp && f.fault == .fcs && decide (f.ingress < 64) then scCount pipe 8 s else s

/-- The frame in transmission on a port ends: its bytes leave, whole or stomped; its cells are free; frames of the device's own that
waited go (01 R24). -/
def finishTx (port : Nat) (s : State) : State :=
  match (egressOf s port).tx with
  | none => s
  | some t =>
    let s := setEgress port { egressOf s port with tx := none } s
    match frameOf s t.fid with
    | none => sendWaiting port s
    | some f =>
      let raw := frameData s f
      let (data, s) := match t.sa with
        | some _ => (sealFrame t.key t.iv t.co t.tag t.clear raw, s)
        | none => clearData (regBit s 0xe010 1) (regBit s 0xe010 2) raw s
      let s := if 64 ≤ port then countLeft port t f (raw.length - 12 - 4 * t.clear) s else s
      sendWaiting port (discard t.fid (transmitted port data f.stomp s))

/-- The frame in transmission on a port is cut off by link loss (R92; R172 delta 3). -/
def cutTx (port : Nat) (s : State) : State :=
  match (egressOf s port).tx with
  | none => s
  | some t =>
    let s := setEgress port { egressOf s port with tx := none } s
    match frameOf s t.fid with
    | none => s
    | some f =>
      let s := match t.sa with | some n => countDelta n 3 1 s | none => s
      discard t.fid (transmissionCut port (frameData s f) s)

/-- Stomp the frame in transmission on a port now (R167). -/
def stompTx (port : Nat) (s : State) : State :=
  match (egressOf s port).tx with
  | none => s
  | some t => finishTx port (modFrame t.fid (fun f => { f with stomp := true }) s)

/-- Start a transmission: the head leaves; a frame whose tail is in the buffer leaves whole. -/
def startTx (port : Nat) (t : Tx) (s : State) : State :=
  let s := setEgress port { egressOf s port with tx := some t } s
  match frameOf s t.fid with
  | none => s
  | some f =>
    let s := modFrame t.fid (fun f => { f with headLeft := true }) s
    if wholeAt s f then finishTx port s else s

/-! ## Descriptor parity (R287) -/

/-- Frames whose chain is broken: each is dropped and counted; the cells that the chain held are lost until the sweep that starts now, or the
one that runs, finds them. -/
def breakChain (output object : Nat) (fids : List Nat) (s : State) : State :=
  let held (s : State) (n : Nat) : Nat := match frameOf s n with | some f => f.wordsHeld | none => 0
  let was := s.fabric.sweep.isSome
  let lost := cellsFor ((fids.drop 1).foldl (fun n f => n + held s f) 0)
  let s := fids.foldl (fun s n => fabOutCount output 3 (discard n s)) s
  let s := { s with fabric := { s.fabric with leaked := s.fabric.leaked + lost, sweep := some (s.fabric.sweep.getD 1) } }
  let s := if was then s else fabDevCount 1 1 s
  raiseHeld 0 0x0703 2 output (detailOf [(20, object), (24, fids.length)]) s

/-- The express queue of a port fails its descriptor parity as it is read. -/
def breakExpress (port : Nat) (s : State) : State :=
  breakChain (outputOf port) (portObject port) (egressOf s port).express s

/-! ## The next frame of a port -/

/-- Whether an express frame may start (R289): 256 bytes of it, or all of it, are in. -/
def mayStart (f : Frame) : Bool := f.stored || decide (4 ≤ f.wordsIn)

/-- The frame that a free port takes next: of its express queue, else of the frames released to it. -/
def nextOut (s : State) (port : Nat) : Option (Nat × Bool) :=
  let e := egressOf s port
  if e.tx.isSome then none
  else
    match e.express, e.released with
    | n :: _, _ => (match frameOf s n with | some f => if mayStart f then some (n, true) else none | none => none)
    | [], n :: _ => some (n, false)
    | [], [] => none

/-- Take the next frame off its list. -/
def takeOut (port : Nat) (express : Bool) (s : State) : State :=
  let e := egressOf s port
  setEgress port (if express then { e with express := e.express.drop 1 } else { e with released := e.released.drop 1 }) s

/-! ## LE_FRAME_HEAD (R634) -/

/-- What the transmit checks come to. -/
inductive TxCheck
  | go (c : Sc) (n : Nat) (a : Sa)
  | drop

/-- Steps 2 to 7 of R634, and the PN end (R159). -/
def txChecks (line sc : Nat) (s : State) : TxCheck × State :=
  let pipe := line / 8
  let drop (i : Nat) (s : State) : TxCheck × State := (.drop, scCount pipe i s)
  match scOf s sc with
  | none => drop 2 s
  | some c =>
    if c.parityFailed then drop 7 s
    else if c.receive then drop 2 s
    else if c.port ≠ line then drop 6 s
    else
      let s := headSwitch sc s
      match scOf s sc with
      | none => drop 2 s
      | some c =>
        match c.slot c.encAn with
        | none => drop 2 s
        | some n =>
          match saOf s n with
          | none => drop 2 s
          | some a =>
            let (l, slot, own) := saUsable s a
            match l with
            | .integrity => drop 3 (markFailed n l slot own s)
            | .orphan => drop 4 (markFailed n l slot own s)
            | .ok =>
              if a.exhausted then drop 5 s
              else if pnEnd c.suite < a.nextPn then
                drop 5 (raiseSc sc a.an 0x0402 2 (detailOf [(20, n)]) (setSa n { a with exhausted := true } s))
              else (.go c n a, s)

/-- Assign a frame its PN (R157, R158). -/
def assignPn (sc n : Nat) (a : Sa) (s : State) : State :=
  let told := a.nextPn == a.low && !a.thresholdTold
  let s := setSa n { a with nextPn := a.nextPn + 1, thresholdTold := a.thresholdTold || told } s
  if told then
    let s := raiseSc sc a.an 0x0401 0 (detailOf [(20, n), (24, a.nextPn)]) s
    if a.accord then rekeyDue sc s else s
  else s

/-- An exception that the standby has been told of a port's egress frame (12 R379), taken from the list. -/
def toldEgress (kind port frame : Nat) (s : State) : Option Exc × State :=
  match takeFirst (fun e => e.kind == kind && e.port == port && e.frame == frame % 65536) s.pair.told with
  | none => (none, s)
  | some (e, rest) => (some e, modPair (fun p => { p with told := rest }) s)

/-- A switch that the log names before a frame (12 R375). -/
def toldSwitch (port frame : Nat) (s : State) : State :=
  match toldEgress 2 port frame s with
  | (none, s) => s
  | (some e, s) =>
    let sc := bitsOf e.data 0 17
    match scOf s sc with
    | some c => moveEncAn sc c (bitsOf e.data 17 2) 0 s
    | none => s

/-- The PRE_RELEASE entries that come next on a port at the standby (12 R391 step 5): each takes an egress number and its PN. -/
def usePreReleases (port : Nat) : Nat → State → State
  | 0, s => s
  | fuel + 1, s =>
    match toldEgress 5 port (s.pair.outNo.get 0 port) s with
    | (none, s) => s
    | (some e, s) =>
      let s := toldSwitch port (s.pair.outNo.get 0 port) (pairCount 9 s)
      let sc := bitsOf e.data 20 17
      let enc := (scOf s sc).bind (fun c => c.slot c.encAn)
      let s := match (if bitOf e.data 5 then enc else none) with
        | some n => modSa n (fun a => { a with nextPn := a.nextPn + 1 }) s
        | none => s
      usePreReleases port fuel (takeOutNo port s).2

/-- The active logs that a frame from before the cut-in slot leaves (12 R391 step 5). -/
def logEarly (port : Nat) (f : Frame) (sc : Option Nat) (s : State) : State :=
  if f.early then
    let n := frameLength s f + (portNodeOf s port).overhead
    pairCount 9 (logExc 5 port (s.pair.outNo.get 0 port) (sc.getD 0x1ffff * 2 ^ 20 + n % 16384 * 64 + 32 * b2n sc.isSome) s)
  else s

/-- A frame is dropped at its port's egress head (12 R379 EGRESS_DROP): it takes an egress number, but for one from before the cut-in
slot, which the log does not know. -/
def dropOut (port fid : Nat) (f : Frame) (linkDown : Bool) (s : State) : State :=
  if f.early then discard fid s
  else discard fid (takeOutNo port (logExc 4 port (s.pair.outNo.get 0 port) (2 * b2n linkDown) s)).2

/-- An encrypted frame whose checks have passed: it takes its PN and starts. A standby whose port does not transmit still consumes the PN
(12 R377). -/
def encryptOut (fid line outNo : Nat) (f : Frame) (c : Sc) (n : Nat) (a : Sa) (s : State) : State :=
  let s := assignPn f.txSc n a s
  if mayTransmit s (64 + line) then
    let raw := frameData s f
    let clear := clearTags c raw
    let size := if wholeAt s f then raw.length - 12 - 4 * clear else 64
    startTx (64 + line) { fid, sa := some n, key := a.key, iv := cipherIv c a a.nextPn, co := coBytes c.co,
                          tag := makeSecTag c a.an a.nextPn size, clear, outNo } s
  else discard fid (portCount (64 + line) 12 s)

/-- A line egress frame head (R634): the port's state, then for an encrypted frame the SC and SA checks. -/
def lineOut (line fid : Nat) (upsets : List Upset) (s : State) : State :=
  let port := 64 + line
  let s := if pairFollows s then usePreReleases port (s.pair.told.length + 1) s else s
  let no := s.pair.outNo.get 0 port
  let s := if pairFollows s then toldSwitch port no s else s
  let (told, s) := if pairFollows s then toldEgress 4 port no s else (none, s)
  let s := applyUpsets upsets s
  match frameOf s fid with
  | none => s
  | some f =>
    if told.isSome then
      let s := (takeOutNo port s).2
      let s := match txChecks line f.txSc s with
        | (.go _ n a, t) => if (match told with | some e => bitOf e.data 0 | none => false) then assignPn f.txSc n a t else t
        | (.drop, t) => t
      discard fid (portCount port 12 s)
    else if !mayTransmit s port && !pairFollows s then dropOut port fid f true (portCount port 12 s)
    else if f.bypass then
      let s := scCount (line / 8) 1 (takeOutNo port (logEarly port f none s)).2
      if mayTransmit s port then startTx port { fid, outNo := no } s else discard fid (portCount port 12 s)
    else
      match txChecks line f.txSc s with
      | (.drop, s) => dropOut port fid f false s
      | (.go c n a, s) => encryptOut fid line no f c n a (takeOutNo port (logEarly port f (some f.txSc) s)).2

/-- LE_FRAME_HEAD: the next frame of a free line port reaches the SA fetch. `descParity`: the express queue fails its descriptor
parity. -/
def execLeFrameHead (port : Nat) (upsets : List Upset) (descParity : Bool) (s : State) : Host.Outcome State Fault Refusal :=
  act (fun s =>
    if port < 64 then
      match nextOut s (64 + port) with
      | none => s
      | some (fid, express) =>
        if express && descParity then breakExpress (64 + port) s
        else serveRekeyDue (lineOut port fid upsets (takeOut (64 + port) express s))
    else s) s

/-! ## CE_FRAME_HEAD -/

/-- A client egress frame head (R92; 16 R472). -/
def clientOut (port fid : Nat) (s : State) : State :=
  let s := if pairFollows s then usePreReleases port (s.pair.told.length + 1) s else s
  let no := s.pair.outNo.get 0 port
  let (told, s) := if pairFollows s then toldEgress 4 port no s else (none, s)
  match frameOf s fid with
  | none => s
  | some f =>
    if tamperLock s then dropOut port fid f false (squelchDrop s)
    else if told.isSome || !mayTransmit s port then dropOut port fid f true (portCount port 12 s)
    else startTx port { fid, outNo := no } (takeOutNo port (logEarly port f none s)).2

/-- CE_FRAME_HEAD. -/
def execCeFrameHead (port : Nat) (descParity : Bool) (s : State) : Host.Outcome State Fault Refusal :=
  act (fun s =>
    if port < 64 then
      match nextOut s port with
      | none => s
      | some (fid, express) =>
        if express && descParity then breakExpress port s
        else clientOut port fid (takeOut port express s)
    else s) s

/-- EXPRESS_UNDERRUN (R289): a word of the frame in transmission on a port is missing when the port needs it. -/
def execExpressUnderrun (port : Nat) (s : State) : Host.Outcome State Fault Refusal :=
  act (fun s => if (egressOf s port).tx.isSome then stompTx port (fabOutCount (outputOf port) 4 s) else s) s

end Sys2Proof.Machine
end

