-- ==== Sys2Proof/Machine/Fabric.lean ====
section
/-!
DEFINITION. The crossbar, the resequencers and the output buffer (09_fabric_and_buffers R276 to R293): matching, cells, frames that
become whole at their output, multicast copies; and the release of buffered frames (11_scheduling_and_policing R338 to R350).
-/
namespace Sys2Proof.Machine

open Sys2Proof

/-! ## Planes and pointers (R276, R278, R279) -/

/-- A plane. -/
def planeOf (s : State) (p : Nat) : Plane := if p = 0 then s.fabric.plane0 else s.fabric.plane1
/-- Write a plane. -/
def setPlane (p : Nat) (v : Plane) (s : State) : State :=
  if p = 0 then { s with fabric := { s.fabric with plane0 := v } } else { s with fabric := { s.fabric with plane1 := v } }

/-- The plane that a pair's next cell goes on: alternately, or the one that is left. -/
def planeFor (s : State) (v : Stream) : Nat :=
  if (planeOf s v.nextPlane).up then v.nextPlane else 1 - v.nextPlane

/-- The cell of a pair that waits to be resent on a plane. -/
def resendOf (s : State) (i o p : Nat) : Option Cell :=
  s.fabric.cells.find? (fun c => c.input == i && c.output == o && c.plane == p && c.resend)

/-- Whether a part belongs to an express frame. -/
def partExpress (s : State) (p : Part) : Bool := match frameOf s p.fid with | some f => f.express | none => false

/-- The parts that the next cell of a stream carries: whole words, four of them at most (R277). -/
def cutCell : Nat → List Part → List Part × List Part
  | _, [] => ([], [])
  | room, p :: rest =>
    if p.words ≤ room then
      if p.words = room ∧ rest = [] then ([p], [])
      else
        let (a, b) := cutCell (room - p.words) rest
        if room - p.words = 0 then ([p], rest) else (p :: a, b)
    else if room = 0 then ([], p :: rest)
    else ([{ p with words := room, last := false }], { p with words := p.words - room, first := false } :: rest)

/-- Whether a pair has a cell, closed or open, for a plane (R279); whether that cell is an express one. -/
def requests (s : State) (p i o : Nat) : Bool :=
  (resendOf s i o p).isSome ||
    (let v := streamOf s (streamKey i o); v.waiting != [] && planeFor s v == p)
def expressCell (s : State) (p i o : Nat) : Bool :=
  match resendOf s i o p with
  | some c => c.parts.any (partExpress s)
  | none => (cutCell 4 (streamOf s (streamKey i o)).waiting).1.any (partExpress s)

/-- The first candidate at or after a pointer, in circular order. -/
def firstFrom (ptr m : Nat) : List Nat → Option Nat
  | [] => none
  | x :: rest =>
    match firstFrom ptr m rest with
    | none => some x
    | some y => if (x + m - ptr) % m ≤ (y + m - ptr) % m then some x else some y

/-- Express candidates where there are any. -/
def preferExpress (isExpress : Nat → Bool) (xs : List Nat) : List Nat :=
  let e := xs.filter isExpress
  if e = [] then xs else e

/-- A matching in progress: pointers, free inputs and outputs, pairs matched. -/
structure Match where
  plane : Plane
  inFree : List Nat
  outFree : List Nat
  pairs : List (Nat × Nat) := []

/-- One iteration of request, grant and accept (R279). -/
def matchRound (s : State) (p : Nat) (first : Bool) (m : Match) : Match :=
  let grants := m.outFree.filterMap (fun o =>
    let req := m.inFree.filter (fun i => requests s p i o)
    (firstFrom (m.plane.grant.get 0 o) 16 (preferExpress (fun i => expressCell s p i o) req)).map (fun i => (i, o)))
  let accepted := m.inFree.filterMap (fun i =>
    let outs := (grants.filter (fun g => g.1 == i)).map (·.2)
    (firstFrom (m.plane.accept.get 0 i) 18 (preferExpress (fun o => expressCell s p i o) outs)).map (fun o => (i, o)))
  let plane := if first then
      accepted.foldl (fun (v : Plane) g => { v with grant := v.grant.put 0 g.2 ((g.1 + 1) % 16), accept := v.accept.put 0 g.1 ((g.2 + 1) % 18) }) m.plane
    else m.plane
  { plane
    inFree := m.inFree.filter (fun i => !accepted.any (fun g => g.1 == i))
    outFree := m.outFree.filter (fun o => !accepted.any (fun g => g.2 == o))
    pairs := m.pairs ++ accepted }

/-- Transfer the next cell of a pair on a plane: one to be resent, or one that closes now (R277, R278). -/
def transfer (p i o : Nat) (s : State) : State :=
  match resendOf s i o p with
  | some c =>
    { s with fabric := { s.fabric with cells := s.fabric.cells.map (fun x => if x = c then { x with resend := false, flying := true } else x) } }
  | none =>
    let k := streamKey i o
    let v := streamOf s k
    let (parts, rest) := cutCell 4 v.waiting
    let c : Cell := { input := i, output := o, seq := v.nextSeq, plane := p, parts }
    let s := setStream k { v with nextSeq := (v.nextSeq + 1) % 65536, nextPlane := 1 - p, waiting := rest } s
    fabInCount i 0 { s with fabric := { s.fabric with cells := s.fabric.cells ++ [c] } }

/-- One matching of a plane, once per cell time. -/
def fabricMatch (p : Nat) (s : State) : State :=
  let v := planeOf s p
  if !v.up then s
  else
    let outs := if v.hpPhase = 0 then List.range 18 else List.range 17
    let m : Match := { plane := { v with hpPhase := (v.hpPhase + 1) % 8 }, inFree := List.range 16, outFree := outs }
    let m := matchRound s p false (matchRound s p false (matchRound s p true m))
    m.pairs.foldl (fun s g => transfer p g.1 g.2 s) (setPlane p m.plane s)

/-- FABRIC_MATCH. -/
def execFabricMatch (plane : Nat) (s : State) : Host.Outcome State Fault Refusal :=
  act (fun s => if plane < 2 then fabricMatch plane s else s) s

/-! ## Frames at their output -/

/-- Copies of a stored multicast frame. -/
def copiesOf (s : State) (g : Nat) : List Nat := s.fabric.frames.keysIf (fun _ f => f.source == some g)

/-- Every copy of a multicast frame is unlinked, and the frame goes (R291). -/
def dropMulticast (g : Nat) (s : State) : State :=
  discard g ((copiesOf s g).foldl (fun s n => discard n s) s)

/-- Drop a frame at its output, with its copies. -/
def dropWhole (fid : Nat) (s : State) : State :=
  match frameOf s fid with
  | some f => if f.mcast && f.source.isNone then dropMulticast fid s else discard fid s
  | none => s

/-- A multicast frame is stored whole: its copies become eligible; with no copy its cells are free (R291). -/
def storeMulticast (fid : Nat) (f : Frame) (s : State) : State :=
  let s := modFrame fid (fun f => { f with stored := true }) s
  if f.headLeft && f.refs == 0 then discard fid s
  else (copiesOf s fid).foldl (fun s n => match frameOf s n with | some c => storeInLeaf n c.queue s | none => s) s

/-- A frame's tail has reached its output (R285, R288, R291). -/
def tailAtOutput (fid : Nat) (s : State) : State :=
  match frameOf s fid with
  | none => s
  | some f =>
    if f.dropped then s
    else if f.express then
      let s := modFrame fid (fun f => { f with stored := true }) s
      if f.headLeft then finishTx f.egress s else s
    else if f.fault = .fcs ∧ f.ingress < 64 then
      let s := fabOutCount f.output 2 s
      if f.output == 17 && keepsFailed s f.queue then storeInLeaf fid f.queue s else dropWhole fid s
    else if f.mcast then storeMulticast fid f s
    else if f.mergeWait ≠ 0 then modFrame fid (fun f => { f with stored := true }) s
    else storeInLeaf fid f.queue s

/-- A part of a cell reaches the frame assembler of its output, in order. -/
def assemblePart (p : Part) (s : State) : State :=
  let s := modFrame p.fid (fun f => { f with wordsIn := f.wordsIn + p.words }) s
  if p.last then tailAtOutput p.fid s else s

/-! ## Resequencing (R281, R282) -/

/-- A pair's resequencing state. -/
def reseqOf (s : State) (k : Nat) : Reseq := s.fabric.reseq.get {} k
def setReseq (k : Nat) (v : Reseq) (s : State) : State := { s with fabric := { s.fabric with reseq := s.fabric.reseq.put {} k v } }

/-- Whether a sequence number lies before the expected one. -/
def olderSeq (q e : Nat) : Bool := let d := (e + 65536 - q) % 65536; 0 < d && d < 32768

/-- The number of the frame in progress after a cell's parts. -/
def afterParts (parts : List Part) (was : Nat) : Nat := parts.foldl (fun _ p => if p.last then p.number + 1 else p.number) was

/-- Assemble held cells in sequence order, at most `fuel` of them; a gap starts the deadline. -/
def advanceReseq (k : Nat) : Nat → State → State
  | 0, s => s
  | fuel + 1, s =>
    let v := reseqOf s k
    match v.held.find? (fun c => c.seq == v.expected) with
    | some c =>
      let v := { v with held := v.held.filter (fun x => x.seq != c.seq), expected := (v.expected + 1) % 65536, deadlineRuns := false
                        inProgress := afterParts c.parts v.inProgress }
      advanceReseq k fuel (c.parts.foldl (fun s p => assemblePart p s) (setReseq k v s))
    | none => setReseq k { v with deadlineRuns := v.held != [] } s

/-- A cell has arrived intact (R281): stored in its class's cells and held for its turn. -/
def cellIn (c : Cell) (s : State) : State :=
  let k := streamKey c.input c.output
  let s := fabOutCount c.output 0 { s with fabric := { s.fabric with cells := s.fabric.cells.filter (fun x => x != c) } }
  let v := reseqOf s k
  if olderSeq c.seq v.expected then s
  else
    let s := c.parts.foldl (fun s p => match frameOf s p.fid with | some f => if f.dropped then s else holdWords p.fid p.words s | none => s) s
    advanceReseq k (v.held.length + 2) (setReseq k { v with held := v.held ++ [c] } s)

/-- The cells to be resent on a plane that is retired go on the other one (R278). -/
def moveResends (p : Nat) (s : State) : State :=
  { s with fabric := { s.fabric with cells := s.fabric.cells.map (fun c => if c.plane = p ∧ c.resend then { c with plane := 1 - p } else c) } }

/-- A plane has failed 16 cells within a second (R278): it is retired, and its cells go on the other one. -/
def retirePlane (p : Nat) (s : State) : State :=
  let v := planeOf s p
  let s := moveResends p (setPlane p { v with up := false } s)
  raiseHeld 0 0x0702 3 p (detailOf [(20, v.crcFails.length)]) s

/-- A cell has failed its CRC at its output (R278): it is resent on the same plane. -/
def cellFailed (c : Cell) (s : State) : State :=
  let s := { s with fabric := { s.fabric with cells := s.fabric.cells.map (fun x => if x = c then { x with resend := true, flying := false } else x) } }
  let s := fabDevCount (2 + c.plane) 1 s
  let v := planeOf s c.plane
  let fails := v.crcFails.filter (fun t => decide (s.tick < t + 625000000)) ++ [s.tick]
  let s := setPlane c.plane { v with crcFails := fails } s
  if !v.up then moveResends c.plane s
  else if 16 ≤ fails.length then retirePlane c.plane s
  else s

/-- CELL_ARRIVAL: the oldest cell of a pair in flight on a plane reaches its output. `ok`: its CRC holds. -/
def execCellArrival (input output plane : Nat) (ok : Bool) (s : State) : Host.Outcome State Fault Refusal :=
  act (fun s =>
    match s.fabric.cells.find? (fun c => c.input == input && c.output == output && c.plane == plane && c.flying) with
    | none => s
    | some c => if ok then cellIn c s else cellFailed c s) s

/-- A frame whose bytes were in a missing cell (R282): dropped, or stomped where its head has left. -/
def failFrame (output fid : Nat) (s : State) : State :=
  let s := fabOutCount output 1 s
  match frameOf s fid with
  | none => s
  | some f =>
    let s := logTail f f.headLeft 4 s
    if f.express && f.headLeft then stompTx f.egress s else dropWhole fid s

/-- RESEQ_TIMEOUT (R281, R282): a gap of a pair has lasted 4 us: every frame with bytes in it fails, and the cells behind it go on. -/
def reseqTimeout (input output : Nat) (s : State) : State :=
  let k := streamKey input output
  let v := reseqOf s k
  if !v.deadlineRuns then s
  else
    let dist (c : Cell) : Nat := (c.seq + 65536 - v.expected) % 65536
    match v.held.foldl (fun best c => match best with | none => some c | some b => if dist c < dist b then some c else some b) none with
    | none => s
    | some c =>
      let upTo := match c.parts with | p :: _ => if p.first then p.number else p.number + 1 | [] => v.inProgress
      let mine (f : Frame) : Bool :=
        f.source.isNone && !f.dropped && f.wordsSent != 0 && ingressPipe f.ingress == input && f.output == output &&
          decide (v.inProgress ≤ f.number) && decide (f.number < upTo)
      let fids := s.fabric.frames.keysIf (fun _ f => mine f)
      let s := fids.foldl (fun s n => failFrame output n s) s
      let s := raiseHeld 0 0x0704 2 output (detailOf [(20, input), (24, fids.length)]) s
      advanceReseq k (v.held.length + 1) (setReseq k { reseqOf s k with expected := c.seq, deadlineRuns := false } s)

/-- RESEQ_TIMEOUT. -/
def execReseqTimeout (input output : Nat) (s : State) : Host.Outcome State Fault Refusal := act (reseqTimeout input output) s

/-! ## EXPRESS_FRAME_ASSEMBLED (R288) -/

/-- EXPRESS_FRAME_ASSEMBLED. -/
def execExpressFrameAssembled (frame : Nat) (s : State) : Host.Outcome State Fault Refusal := act (expressAssembled frame) s

/-! ## MP_FRAME_HEAD (R290, R291, R301) -/

/-- The fields of a member entry. -/
def memberQueue (d : Nat) : Nat := bitsOf d 0 17
def memberSc (d : Nat) : Nat := bitsOf d 32 17
def memberPort (d : Nat) : Nat := bitsOf d 49 6

/-- A copy joins its leaf on die: copies never spill (11 R351). -/
def joinCopy (fid leaf : Nat) (s : State) : State :=
  let s := schCount ((nodeOfLeaf s leaf).getD 128) 0 s
  modLeaf leaf (fun l => { l with onDie := l.onDie ++ [fid] }) s

/-- One copy of a multicast frame: admitted with a reference to the stored frame, or refused. -/
def makeCopy (fid member : Nat) (s : State) : State :=
  match frameOf s fid with
  | none => s
  | some f =>
    let e := memberOf s member
    if e.parityFailed then fabInCount (ingressPipe f.ingress) 3 s
    else
      let port := 64 + memberPort e.data
      let leaf := memberQueue e.data
      let told (s : State) : Bool × State :=
        if pairFollows s then
          match takeFirst (fun x => x.kind == 1 && x.port == f.ingress && x.frame == f.inNo % 65536 && bitsOf x.data 32 4 == 6 &&
              bitsOf x.data 0 16 == member) s.pair.told with
          | some (_, rest) => (true, modPair (fun p => { p with told := rest }) s)
          | none => (false, s)
        else (false, s)
      let (refused, s) := told s
      if refused || !nodeEnabled s port || (queueCheck s leaf f.ingress f.colour true).isSome then
        fabPortCount port 3 (logExc 1 f.ingress f.inNo (6 * 2 ^ 32 + member) s)
      else
        let q := (nodeOfLeaf s leaf).getD port
        let n := s.fabric.nextFrame
        let c : Frame := { f with
          source := some fid, txSc := memberSc e.data, queue := leaf, output := outputOf q, egress := q, refs := 0, wordsHeld := 0
          stored := false, headLeft := false }
        let s := { s with fabric := { s.fabric with frames := s.fabric.frames.set n c, nextFrame := n + 1 } }
        let s := modFrame fid (fun f => { f with refs := f.refs + 1 }) s
        let s := fabPortCount port 2 (joinCopy n leaf s)
        if f.stored then storeInLeaf n leaf s else s

/-- A multicast frame's head at MP: its group and members are read and a copy made for each, in member order. -/
def multicastHead (fid : Nat) (upsets : List Upset) (s : State) : State :=
  match frameOf s fid with
  | none => s
  | some f =>
    if !f.mcast || f.source.isSome || f.dropped || f.headLeft || f.wordsIn == 0 then s
    else
      let s := applyUpsets upsets s
      let s := modFrame fid (fun f => { f with headLeft := true }) s
      let s := (groupMembers (groupOf s f.queue).data).foldl (fun s m => makeCopy fid m s) s
      match frameOf s fid with
      | some f => if f.stored && f.refs == 0 then discard fid s else s
      | none => s

/-- MP_FRAME_HEAD. -/
def execMpFrameHead (frame : Nat) (upsets : List Upset) (s : State) : Host.Outcome State Fault Refusal :=
  act (multicastHead frame upsets) s

/-! ## SCHEDULER_RELEASE (11 R338 to R344, R350) -/

/-- A released frame is charged to its leaf, its service node and their deficits (11 R340, R342, R344). -/
def chargeRelease (q v leaf level length : Nat) (s : State) : State :=
  let n := length + (portNodeOf s q).overhead
  let s := chargeNode (serviceNode v) n (chargeNode (leafNode leaf) n s)
  drrCharge 1 v level leaf n (drrCharge 0 q level v n s)

/-- Pages are requested for every spilling leaf (11 R350). -/
def requestAll (s : State) : State :=
  (s.sched.leaves.keysIf (fun _ l => l.spilling)).foldl (fun s n => requestPages n 4 s) s

/-- Release a leaf's first frame to its port. -/
def releaseFrame (q leaf fid : Nat) (s : State) : State :=
  let s := modLeaf leaf (fun l => { l with onDie := l.onDie.filter (· != fid) }) s
  let e := egressOf s q
  requestAll (schCount q 4 (setEgress q { e with released := e.released ++ [fid] } s))

/-- A descriptor of a leaf fails its parity as it is read: its on-die chain goes (09 R287). -/
def breakLeaf (q leaf : Nat) (s : State) : State :=
  match leafOf s leaf with
  | none => s
  | some l =>
    let s := breakChain (outputOf q) leaf l.onDie s
    settleLeaf leaf (requestAll s)

/-- SCHEDULER_RELEASE (11 R338): a port's egress holds under 512 bytes. At the standby the log releases (12 R375). -/
def schedulerRelease (q : Nat) (upsets : List Upset) (descParity : Bool) (s : State) : State :=
  let s := requestAll (applyUpsets upsets s)
  if pairFollows s || !nodeEnabled s q || (portNodeOf s q).held then s
  else
    match choose q s with
    | (none, s) => s
    | (some (v, leaf, level), s) =>
      if descParity then breakLeaf q leaf s
      else
        match leafOf s leaf with
        | none => s
        | some l =>
          match l.onDie with
          | [] => s
          | fid :: _ =>
            match frameOf s fid with
            | none => s
            | some f =>
              let s := chargeRelease q v leaf level (frameLength s f) s
              settleLeaf leaf (releaseFrame q leaf fid (logRun q leaf s))

/-- The bytes of the frames released to a port and not yet transmitted. -/
def egressBytes (s : State) (q : Nat) : Nat :=
  (egressOf s q).released.foldl (fun n fid => match frameOf s fid with | some f => n + frameLength s f | none => n) 0

/-- SCHEDULER_RELEASE. `node`: the port node; `descParity`: the chosen leaf's chain fails its parity. -/
def execSchedulerRelease (node : Nat) (upsets : List Upset) (descParity : Bool) (s : State) : Host.Outcome State Fault Refusal :=
  act (fun s => if node < 128 && decide (egressBytes s node < 512) then schedulerRelease node upsets descParity s else s) s

end Sys2Proof.Machine
end

