-- ==== Sys2Proof/Machine/Reservoir.lean ====
section
/-!
DEFINITION. The reservoir (10_reservoir): spill pages, counters and the tree, errors and quarantine, retrain and loss of a channel,
the patrol, statistics sweeps and the commands.
-/
namespace Sys2Proof.Machine

open Sys2Proof

/-- 10 ms and one second in ticks. -/
def tenMs : Nat := 6250000
def oneSecond : Nat := 625000000

/-! ## Leaves after a change of what is held or of whether spill is available (11 R349) -/

/-- Every spilling leaf settles and requests its pages. -/
def reviewSpill (s : State) : State :=
  requestAll ((s.sched.leaves.keysIf (fun _ l => l.spilling)).foldl (fun s n => settleLeaf n s) s)

/-! ## Lost frames (R324, R326, R329) -/

/-- Frames of a channel's pages that satisfy a condition, each once. -/
def framesIn (s : State) (n : Nat) (p : Page → Bool) : List Nat :=
  ((((chOf s n).pages.filter p).map (·.fids)).flatten.eraseDups).filter (fun f => (frameOf s f).isSome)

/-- Frames are lost: each is counted in counter `i` of R335. -/
def loseFrames (i : Nat) (fids : List Nat) (s : State) : State := fids.foldl (fun s f => discard f (rsvCount i s)) s

/-- The pages of a channel that satisfy a condition leave, and their frames are lost (counter `i`). Answers how many frames. -/
def losePages (n i : Nat) (p : Page → Bool) (s : State) : Nat × State :=
  let fids := framesIn s n p
  let s := loseFrames i fids s
  (fids.length, modCh n (fun c => { c with pages := c.pages.filter (fun q => !p q) }) s)

/-- RSV_STATE (R336): 0 ONLINE, 1 DEGRADED, 2 OFFLINE, 3 FATAL. -/
def raiseRsvState (code lost : Nat) (s : State) : State := raiseHeld 0 0x0706 1 0 (detailOf [(20, code), (24, lost)]) s

/-- Every page of the reservoir is lost. Answers how many frames. -/
def loseAllPages (s : State) : Nat × State :=
  [0, 1, 2, 3].foldl (fun (a : Nat × State) n =>
    let (k, s) := losePages n 6 (fun _ => true) a.2
    (a.1 + k, s)) (0, s)

/-- The fatal condition (R324). -/
def rsvFatal (s : State) : State :=
  if s.reservoir.fatal then s
  else
    let (lost, s) := loseAllPages s
    reviewSpill (raiseRsvState 3 lost
      { s with reservoir := { s.reservoir with fatal := true, statsChannel := none, statsMoving := false } })

/-! ## Counters and the tree (R320, R321, R328) -/

/-- Write a counter block. -/
def setBlock (n level idx : Nat) (b : CounterBlock) (s : State) : State :=
  modCh n (fun c => { c with blocks := c.blocks.set (counterKey level idx) b, highMajor := max c.highMajor b.major }) s

/-- The fresh major of a quarantine event (R328): one for every block it re-initialises. -/
def freshMajor (n event : Nat) (s : State) : Nat × State :=
  let c := chOf s n
  match c.fresh.find event with
  | some m => (m, s)
  | none => (c.highMajor + 1, setCh n { c with highMajor := c.highMajor + 1, fresh := c.fresh.set event (c.highMajor + 1) } s)

/-- A quarantined block is re-initialised (R321, R326): a fresh major, counted, and its children's counters are unusable until they are
re-initialised in their turn. -/
def reinitBlock (n level idx : Nat) (s : State) : State :=
  match (blockOf (chOf s n) level idx).quarantine with
  | none => s
  | some event =>
    let (m, s) := freshMajor n event s
    let s := rsvCount 8 (setBlock n level idx { major := m } s)
    if 2 ^ 56 - 1 < m then rsvFatal s
    else if level = 0 then s
    else (List.range 64).foldl (fun s k => setBlock n (level - 1) (64 * idx + k) { quarantine := some event } s) s

/-- The blocks above a frame's leaf are re-initialised, the highest first (R326); the write of the frame re-initialises the leaf (R321). -/
def reinitPath (n frame : Nat) (s : State) : State :=
  [3, 2, 1].foldl (fun s level => reinitBlock n level (frame / 64 ^ level) s) s

/-- Write lines under a counter block (R321): all 64 children, or those given; a quarantined block starts anew with minors 0. Past
2^56 - 1 MAJOR is the fatal condition. -/
def writeLines (n level idx : Nat) (writes : List Nat) (s : State) : State :=
  let b := blockOf (chOf s n) level idx
  if b.quarantine.isSome then reinitBlock n level idx s
  else if writes.any (fun i => b.minors.get 0 i == 127) then
    let s := rsvCount 11 (setBlock n level idx { major := b.major + 1 } s)
    if 2 ^ 56 - 1 < b.major + 1 then rsvFatal s else s
  else
    let minors := writes.foldl (fun t i => t.put 0 i (t.get 0 i + 1)) b.minors
    setBlock n level idx { b with minors } s

/-- The pass leaves the span of blocks: each is written back once, a write of one line under its parent (R321, R323). `idxs`: the blocks
of a level that the pass wrote under. -/
def writeBack (n level : Nat) (idxs : List Nat) (s : State) : State :=
  idxs.foldl (fun s i => writeLines n (level + 1) (i / 64) [i % 64] s) s

/-! ## Errors (R318, R319, R322, R325) -/

/-- Whether the code corrects a line's bad symbols (R318): up to 4, or with a device marked failed those of that device alone. -/
def correctable (c : Channel) (e : DramError) : Bool :=
  match c.failedDev.find (2 * e.sub + e.rank) with
  | none => decide ((e.bad.map (·.2)).foldl (· + ·) 0 ≤ 4)
  | some d => e.bad.all (fun b => b.1 == d || b.2 == 0)

/-- RSV_DEVICE_FAILED (R319, R336). -/
def raiseDevice (n sub rank dev : Nat) (marked : Bool) (s : State) : State :=
  raiseHeld 0 0x0708 1 n (detailOf [(20, sub), (21, rank), (22, b2n !marked), (23, dev)]) s

/-- Corrected symbols of a device (R319): one that reaches the threshold within a second is marked, or told where another one is. -/
def noteSymbols (n sub rank dev k : Nat) (s : State) : State :=
  let c := chOf s n
  let key := (2 * sub + rank) * 10 + dev
  let recent := (c.corrected.get [] key).filter (fun t => decide (s.tick < t.1 + oneSecond))
  let sum (l : List (Nat × Nat)) : Nat := (l.map (·.2)).foldl (· + ·) 0
  let s := setCh n { c with corrected := c.corrected.put [] key (recent ++ [(s.tick, k)]) } s
  let top := s.reservoir.failThreshold
  if decide (sum recent < top) && decide (top ≤ sum recent + k) then
    match c.failedDev.find (2 * sub + rank) with
    | none => raiseDevice n sub rank dev true (modCh n (fun c => { c with failedDev := c.failedDev.set (2 * sub + rank) dev }) s)
    | some d => if d = dev then s else raiseDevice n sub rank dev false s
  else s

/-- Where the records of a page's frames lie: (frame, first byte, byte after the last), after the page header (R311). -/
def pageLayout (parts : List (Nat × Nat)) : List (Nat × Nat × Nat) :=
  (parts.foldl (fun (a : Nat × List (Nat × Nat × Nat)) p => (a.1 + p.2, a.2 ++ [(p.1, a.1, a.1 + p.2)])) (16, [])).2

/-- The frames with bytes in a line of a page. -/
def framesInLine (p : Page) (line : Nat) : List Nat :=
  ((pageLayout p.parts).filter (fun r => decide (r.2.1 < 64 * line + 64) && decide (64 * line < r.2.2))).map (·.1)

/-- Re-initialise the records of a statistics line (R310, R325): zero, with STATS_INCOMPLETE in each. SC copies are rebuilt from the SC
table. -/
def zeroRecords (frame line : Nat) (s : State) : State :=
  let at0 := (frame * 4096 + line * 64) / 32
  let gone : Counts := { incomplete := true }
  [at0, at0 + 1].foldl (fun s r =>
    if r < 262144 then
      { s with channels := { s.channels with
          saTotals := s.channels.saTotals.set r gone
          sas := s.channels.sas.modify r (fun a => { a with statsIncomplete := true }) } }
    else if r < 393216 then
      { s with channels := { s.channels with scTotals := s.channels.scTotals.set (r - 262144) gone } }
    else s) s

/-- Whether a frame belongs to the statistics region of a channel. -/
def inStats (s : State) (n frame : Nat) : Bool := holdsStats s n && decide (frame < 16384)

/-- Every record of the statistics region restarts from zero with STATS_INCOMPLETE set (R330). -/
def restartRecords (s : State) : State :=
  let gone : Counts := { incomplete := true }
  let c := s.channels
  { s with channels := { c with
      saTotals := c.sas.keys.foldl (fun t n => t.set n gone) (c.saTotals.mapSome (fun _ _ => some gone))
      scTotals := c.scs.keys.foldl (fun t n => t.set n gone) (c.scTotals.mapSome (fun _ _ => some gone))
      sas := c.sas.mapSome (fun _ a => some { a with statsIncomplete := true }) } }

/-- The channels that are ONLINE, lowest first. -/
def onlineChannels (s : State) : List Nat := [0, 1, 2, 3].filter (fun n => (chOf s n).state == .online)

/-- The statistics region moves to the lowest-numbered ONLINE channel (R330): the pages on its frames are dropped, its leaves
re-initialised under a fresh major. CPU_HK ends the move at its next sweep. -/
def moveStats (s : State) : State :=
  match onlineChannels s with
  | [] => { s with reservoir := { s.reservoir with statsChannel := none, statsMoving := false } }
  | m :: _ =>
    let (_, s) := losePages m 5 (fun p => decide (p.place < 16384)) s
    let leaves : List (Nat × CounterBlock) := (chOf s m).blocks.cells.filter (fun b => 16384 ≤ b.1)
    let s := modCh m (fun c => { c with
      highMajor := c.highMajor + 1, statsMajor := c.highMajor + 1, blocks := ⟨leaves⟩, pointer := max 16384 c.pointer }) s
    let s := rsvCountBy 8 16384 s
    restartRecords { s with reservoir := { s.reservoir with statsChannel := some m, statsMoving := true } }

/-- A channel is lost (R329): its frames are dropped, the event posted, the statistics region moved; the last channel takes the
reservoir OFFLINE. Causes: 0 retrain, 1 uncorrectable rate, 2 quarantine limit. -/
def loseChannel (n cause : Nat) (s : State) : State :=
  let (lost, s) := losePages n 6 (fun _ => true) s
  let s := modCh n (fun c => { c with state := .failed, latent := [], resting := false, retrain := 0 }) s
  let s := driveLed 3 true { s with reservoir := { s.reservoir with degraded := true } }
  let s := raiseHeld 0 0x0709 3 n (detailOf [(20, cause), (24, lost)]) s
  let s := if holdsStats s n then moveStats s else s
  reviewSpill (raiseRsvState (if rsvOnline s then 1 else 2) lost s)

/-- An uncorrectable line counts toward the loss of its channel: 64 within a second (R329). -/
def badLine (n : Nat) (s : State) : State :=
  let recent := ((chOf s n).badLines.filter (fun t => decide (s.tick < t + oneSecond))) ++ [s.tick]
  let s := modCh n (fun c => { c with badLines := recent, ue := c.ue + 1 }) s
  if 64 ≤ recent.length then loseChannel n 1 s else s

/-- A counter block's subtree is quarantined, the frames there dropped (R325, R326). -/
def quarantineSpan (n level idx : Nat) (s : State) : State :=
  let first := idx * 64 ^ level
  let frames := 64 ^ level
  let event := (chOf s n).quarantineEvents + 1
  let (_, s) := losePages n 5 (fun p => decide (first ≤ p.place) && decide (p.place < first + frames)) s
  let inside (b : Nat × CounterBlock) : Bool :=
    decide (b.1 / 2 ^ 25 ≤ level) && b.1 % 2 ^ 25 / 64 ^ (level - b.1 / 2 ^ 25) == idx
  let s := modCh n (fun c => { c with
    quarantineEvents := event, blocks := ⟨c.blocks.cells.filter (fun b => !inside b)⟩,
    latent := c.latent.filter (fun e => !(e.kind == level + 1 && e.index == idx)) }) s
  let s := setBlock n level idx { quarantine := some event } s
  let lines := (List.range (min frames (16384 - min 16384 first))).map (first + ·)
  let s := if holdsStats s n then
      (lines.filter (fun f => decide (f < 3072))).foldl (fun s f => (List.range 64).foldl (fun s l => zeroRecords f l s) s) s
    else s
  reviewSpill (raiseHeld 0 0x070a 2 n (detailOf [(20, level), (24, first), (28, frames)]) (rsvCountBy 7 frames s))

/-- A counter block is lost (R325 to R328): its subtree is quarantined; the event beyond the limit of R328 is the loss of the channel. A root
node is on the die, and no line of the channel. -/
def quarantineBlock (n level idx : Nat) (s : State) : State :=
  if 65536 ≤ (chOf s n).quarantineEvents then loseChannel n 2 (modCh n (fun c => { c with ue := c.ue + b2n (level < 3) }) s)
  else
    let s := quarantineSpan n level idx s
    if level < 3 then badLine n s else s

/-- An access meets a bad line (R325). -/
def meetError (n : Nat) (e : DramError) (s : State) : State :=
  let s := modCh n (fun c => { c with latent := c.latent.erase e }) s
  if correctable (chOf s n) e && !e.tag && e.kind != 4 then
    let s := modCh n (fun c => { c with ce := c.ce + 1 }) (rsvCount 2 s)
    e.bad.foldl (fun s b => if b.2 = 0 then s else noteSymbols n e.sub e.rank b.1 b.2 s) s
  else if e.kind = 0 then
    let stats := inStats s n e.index
    let tagged : Bool := e.tag && correctable (chOf s n) e
    let s := rsvCount (if tagged then 4 else 3) s
    let s := raiseHeld 0 0x0707 2 n (detailOf [(20, b2n stats), (21, b2n tagged), (24, e.index)]) s
    let s := if stats then zeroRecords e.index e.line s
      else
        let fids := (((chOf s n).pages.filter (fun p => p.place == e.index)).map (fun p => framesInLine p e.line)).flatten
        loseFrames 5 (fids.filter (fun f => (frameOf s f).isSome)) s
    badLine n s
  else if e.kind = 4 then quarantineBlock n 3 e.index s
  else quarantineBlock n (e.kind - 1) e.index (rsvCount (if e.tag && correctable (chOf s n) e then 4 else 3) s)

/-- The bad blocks on the path of a frame, the root first, and the bad data lines of the frame. -/
def pathErrors (c : Channel) (frame : Nat) : List DramError :=
  ([4, 3, 2, 1].map (fun k => c.latent.filter (fun e => e.kind == k && e.index == frame / 64 ^ (k - 1)))).flatten
def dataErrors (c : Channel) (frame : Nat) : List DramError := c.latent.filter (fun e => e.kind == 0 && e.index == frame)

/-- Meet errors one after another, those that still stand. -/
def meetAll (n : Nat) (es : List DramError) (s : State) : State :=
  es.foldl (fun s e => if (chOf s n).latent.contains e then meetError n e s else s) s

/-! ## Spill pages (R311, R312, R323) -/

/-- The record bytes of the stored frames at the front of a staging tail: (frame, bytes not yet in a page). -/
def gathered (s : State) (l : Leaf) : List (Nat × Nat) :=
  let ready := l.staging.takeWhile (fun f => match frameOf s f with | some v => v.stored | none => true)
  let all := ready.map (fun f => (f, match frameOf s f with | some v => recordBytes (storedLength s v) | none => 0))
  match all with
  | [] => []
  | (f, b) :: rest => (f, b - l.stagedOut) :: rest

/-- Cut the records that a page takes: what fits, and what the next page's first record already holds. -/
def cutPage (room : Nat) : List (Nat × Nat) → List (Nat × Nat)
  | [] => []
  | (f, b) :: rest => if room = 0 then [] else if b ≤ room then (f, b) :: cutPage (room - b) rest else [(f, room)]

/-- The next spill frame at or after `f` that holds no page. -/
def nextPlace (c : Channel) : Nat → Nat → Nat
  | 0, f => f
  | fuel + 1, f => if c.pages.any (fun p => p.place == f) then nextPlace c fuel (f + 1) else f

/-- The place that a channel's pointer gives a page (R323): none where it must wrap, and whether it may. -/
def takePlace (s : State) (n : Nat) : Option Nat :=
  let c := chOf s n
  let p := nextPlace c c.pages.length (max c.pointer (spillLow (holdsStats s n)))
  if p < spillHigh c then some p else none

/-- The pointer wraps and a lap begins. -/
def beginLap (n : Nat) (s : State) : State :=
  modCh n (fun c => { c with pointer := spillLow (holdsStats s n), laps := c.laps + 1, lapTick := s.tick, resting := false }) s

/-- Choose the channel and place of the next page, in turn; a channel whose pointer would wrap within 10 ms of its lap's beginning
rests (R323). -/
def choosePlace (s : State) : List Nat → Option (Nat × Nat) × State
  | [] => (none, s)
  | n :: rest =>
    if !mayTake s n then choosePlace s rest
    else
      match takePlace s n with
      | some p => (some (n, p), s)
      | none =>
        if s.tick < (chOf s n).lapTick + tenMs then
          choosePlace (rsvCount 12 (modCh n (fun c => { c with resting := true }) s)) rest
        else
          let s := beginLap n s
          match takePlace s n with
          | some p => (some (n, p), s)
          | none => choosePlace s rest

/-- The channels in turn. -/
def turnOrder (s : State) : List Nat := (List.range 4).map (fun k => (s.reservoir.nextChannel + k) % 4)

/-- Write a page at a place: the path verified and re-initialised where it was lost, the 64 lines under their leaf, and the blocks that
the pointer leaves (R321 to R323, R326). -/
def writePage (leaf n place : Nat) (parts : List (Nat × Nat)) (s : State) : State :=
  let s := meetAll n (pathErrors (chOf s n) place) s
  if (chOf s n).state ≠ .online ∨ s.reservoir.fatal then s
  else
    match leafOf s leaf with
    | none => s
    | some l =>
      let s := reinitPath n place s
      let taken (f : Nat) : Option (Nat × Nat) := parts.find? (fun p => p.1 == f)
      let avail := gathered s l
      let done (f : Nat) : Bool := (taken f).isSome && (taken f) == (avail.find? (fun p => p.1 == f))
      let left := l.staging.filter (fun f => !done f)
      let stagedOut := match left with
        | [] => 0
        | f :: _ => (match taken f with | some p => p.2 + (if l.staging.head? = some f then l.stagedOut else 0) | none => 0)
      let page : Page := { queue := leaf, pageSeq := l.pageSeq, parts, place }
      let s := setLeaf leaf { l with staging := left, stagedOut, pageSeq := (l.pageSeq + 1) % 2 ^ 32 } s
      let s := modCh n (fun c => { c with
        pages := c.pages ++ [page], pointer := place + 1, latent := c.latent.filter (fun e => !(e.kind == 0 && e.index == place)) }) s
      let s := { s with reservoir := { s.reservoir with nextChannel := (n + 1) % 4 } }
      let s := writeLines n 0 place (List.range 64) s
      let next := nextPlace (chOf s n) (chOf s n).pages.length (place + 1)
      let leaves (level : Nat) : Bool := next / 64 ^ level != place / 64 ^ level || decide (spillHigh (chOf s n) ≤ next)
      [0, 1, 2].foldl (fun s level => if leaves level then writeBack n level [place / 64 ^ level] s else s) s

/-- A page of a leaf is written (R312): at 4,080 bytes of records, or padded. -/
def spillPage (leaf : Nat) (partial_ : Bool) (misses : Nat) (upsets : List Upset) (s : State) : State :=
  match leafOf s leaf with
  | none => s
  | some l =>
    let avail := gathered s l
    let total := (avail.map (·.2)).foldl (· + ·) 0
    if !l.spilling || total = 0 || (!partial_ && decide (total < pageRoom)) || !rsvSpilling s then s
    else
      let s := rsvCountBy 10 misses (applyUpsets upsets s)
      match choosePlace s (turnOrder s) with
      | (none, s) => reviewSpill s
      | (some (n, place), s) => writePage leaf n place (cutPage pageRoom avail) s

/-- SPILL_PAGE_WRITE. `misses`: counter blocks fetched from the channel (R335). -/
def execSpillPageWrite (leaf misses : Nat) (upsets : List Upset) (s : State) : Host.Outcome State Fault Refusal :=
  act (spillPage leaf false misses upsets) s

/-- PAGE_FILL_TIMEOUT. -/
def execPageFillTimeout (leaf misses : Nat) (upsets : List Upset) (s : State) : Host.Outcome State Fault Refusal :=
  act (spillPage leaf true misses upsets) s

/-- PAGE_WRITE_COMPLETE (R314): the page is in its channel, and the STAGING cells of the frames that are now wholly in written pages
are free (09 R285). -/
def pageWritten (leaf pageSeq : Nat) (s : State) : State :=
  let is (p : Page) : Bool := p.queue == leaf && p.pageSeq == pageSeq && p.writing
  match [0, 1, 2, 3].find? (fun n => (chOf s n).state == .online && (chOf s n).pages.any is) with
  | none => s
  | some n =>
    let fids := framesIn s n is
    let s := rsvCount 0 (modCh n (fun c => { c with pages := c.pages.map (fun p => if is p then { p with writing := false } else p) }) s)
    let staging := match leafOf s leaf with | some l => l.staging | none => []
    let pending := ((pagesOf s leaf).filter (·.writing)).map (·.fids) |>.flatten
    let s := fids.foldl (fun s f => if staging.contains f || pending.contains f then s else freeWords f s) s
    requestPages leaf 4 s

/-- PAGE_WRITE_COMPLETE. -/
def execPageWriteComplete (leaf pageSeq : Nat) (s : State) : Host.Outcome State Fault Refusal := act (pageWritten leaf pageSeq) s

/-- The oldest page of a leaf that has been requested. -/
def requestedPage (s : State) (leaf : Nat) : Option (Nat × Page) :=
  let all := ([0, 1, 2, 3].map (fun n => ((chOf s n).pages.filter (fun p => p.queue == leaf && p.reading)).map (fun p => (n, p)))).flatten
  all.foldl (fun (best : Option (Nat × Page)) p =>
    match best with
    | none => some p
    | some b => if p.2.pageSeq < b.2.pageSeq then some p else best) none

/-- The frames of a page that has arrived join the on-die part in order (R350): those that end in it. -/
def joinPage (leaf : Nat) (p : Page) (s : State) : State :=
  let later := (pagesOf s leaf).map (·.fids) |>.flatten
  let staging := match leafOf s leaf with | some l => l.staging | none => []
  p.fids.foldl (fun s f =>
    match frameOf s f with
    | none => s
    | some v =>
      if later.contains f || staging.contains f then s
      else
        let s := holdWords f (ceilDiv (storedLength s v) 64) (modFrame f (fun v => { v with spilled := false }) s)
        modLeaf leaf (fun l => { l with onDie := l.onDie ++ [f] }) s) s

/-- A requested page arrives in STAGING (R314, R322, R325, 11 R350): verified, its good frames join the leaf, its place is free. -/
def pageRead (leaf misses : Nat) (upsets : List Upset) (s : State) : State :=
  match requestedPage s leaf with
  | none => s
  | some (n, p) =>
    if (chOf s n).state ≠ .online then s
    else
      let s := rsvCountBy 10 misses (applyUpsets upsets s)
      let s := meetAll n (pathErrors (chOf s n) p.place ++ dataErrors (chOf s n) p.place) s
      if !(chOf s n).pages.contains p then s
      else
        let s := rsvCount 1 (modCh n (fun c => { c with pages := c.pages.erase p }) s)
        settleLeaf leaf (requestPages leaf 4 (joinPage leaf p s))

/-- PAGE_READ_COMPLETE. -/
def execPageReadComplete (leaf misses : Nat) (upsets : List Upset) (s : State) : Host.Outcome State Fault Refusal :=
  act (pageRead leaf misses upsets) s

/-- RSV_LAP_REST_END (R323). -/
def execRsvLapRestEnd (channel : Nat) (s : State) : Host.Outcome State Fault Refusal :=
  act (fun s => if channel < 4 ∧ (chOf s channel).resting then beginLap channel s else s) s

/-! ## Bring-up, retrain and patrol (R308, R329, R331) -/

/-- The reservoir key is drawn when the entropy unit delivers, the metadata and statistics region are initialised, and the trained
channels are ONLINE (R308 steps 4 to 6, R310, R33). -/
def keyDrawn (s : State) : State :=
  if s.reservoir.keyReady || !entServes s 1 then s
  else
    let (k, s) := drawFree 256 (entServe 1 32 s)
    let s := { s with reservoir := { s.reservoir with keyReady := true, key := k } }
    let s := [0, 1, 2, 3].foldl (fun s n =>
      if (chOf s n).state = .trained then modCh n (fun c => { c with state := .online, lapTick := s.tick }) s else s) s
    let first := (onlineChannels s).head?
    let s := { s with reservoir := { s.reservoir with statsChannel := first } }
    let s := match first with | some n => modCh n (fun c => { c with pointer := 16384 }) s | none => s
    raiseRsvState (if rsvOnline s then 0 else 2) 0 s

/-- RSV_KEY_DRAWN. -/
def execRsvKeyDrawn (s : State) : Host.Outcome State Fault Refusal := act keyDrawn s

/-- RSV_RETRAIN (R336). -/
def raiseRetrain (n attempt : Nat) (ok : Bool) (s : State) : State := raiseHeld 0 0x070b 1 n (detailOf [(20, attempt), (21, b2n ok)]) s

/-- A retrain attempt begins (R329). -/
def beginRetrain (n attempt : Nat) (s : State) : State :=
  raiseRetrain n attempt false (rsvCount 9 (modCh n (fun c => { c with state := .retraining, retrain := attempt }) s))

/-- A retrain attempt ends (R329): the channel resumes, or after three failures is lost. -/
def retrainEnd (n : Nat) (ok : Bool) (s : State) : State :=
  let c := chOf s n
  if c.state ≠ .retraining then s
  else if ok then
    reviewSpill (raiseRetrain n c.retrain true (setCh n { c with state := .online, retrain := 0 } s))
  else if 3 ≤ c.retrain then loseChannel n 0 s
  else beginRetrain n (c.retrain + 1) s

/-- RSV_RETRAIN_ATTEMPT_END. -/
def execRsvRetrainAttemptEnd (channel : Nat) (ok : Bool) (s : State) : Host.Outcome State Fault Refusal :=
  act (fun s => if channel < 4 then retrainEnd channel ok s else s) s

/-- The frame that holds a line (R309): a data line's own, a block's in the metadata; a root node is on the die. -/
def errorFrame (c : Channel) (e : DramError) : Option Nat :=
  let f := chFrames c
  let low := spillHigh c
  match e.kind with
  | 0 => some e.index
  | 1 => some (low + e.index / 64)
  | 2 => some (low + f / 64 + e.index / 64)
  | 3 => some (low + f / 64 + f / 4096 + e.index / 64)
  | _ => none

/-- Whether the patrol reads a line (R331): metadata, statistics, and spill lines written since the start. -/
def patrolled (s : State) (n : Nat) (e : DramError) : Bool :=
  e.kind != 0 || inStats s n e.index || (chOf s n).blocks.has (counterKey 0 e.index)

/-- The patrol reads the frames of a channel that satisfy a condition (R331, R334). -/
def patrol (n : Nat) (inRange : Option Nat → Bool) (s : State) : State :=
  if (chOf s n).state = .online ∧ s.reservoir.fatal = false then
    meetAll n ((chOf s n).latent.filter (fun e => patrolled s n e && inRange (errorFrame (chOf s n) e))) s
  else s

/-- RSV_PATROL: CPU_HK patrols every ONLINE channel (R331); PERIOD 0 disables it. -/
def execRsvPatrol (upsets : List Upset) (s : State) : Host.Outcome State Fault Refusal :=
  act (fun s =>
    if hkUp s && regField s 0x7004 0 8 != 0 then
      [0, 1, 2, 3].foldl (fun s n => patrol n (fun _ => true) s) (applyUpsets upsets s)
    else s) s

/-! ## Statistics sweeps (R323, 05 R173) -/

/-- The SA records that wait in the merge buffer join the statistics region, in address order; the lines they change are written under
their leaves, and the blocks that the pass leaves under their parents. A sweep ends a move of the region (R330). -/
def statsSweep (s : State) : State :=
  match s.reservoir.statsChannel with
  | none => s
  | some n =>
    let pendingSas := s.channels.merge.keys
    let s := meetAll n ((chOf s n).latent.filter (fun e => e.kind == 0 && e.index < 16384 && pendingSas.any (fun a => a / 2 == e.index * 64 + e.line))) s
    let frames := (pendingSas.map (fun a => a / 128)).eraseDups
    let s := meetAll n ((frames.map (pathErrors (chOf s n))).flatten.eraseDups) s
    if (chOf s n).state ≠ .online then s
    else
      let c := s.channels
      let totals := c.merge.cells.foldl (fun t m => t.set m.1 ((t.get {} m.1).add m.2)) c.saTotals
      let s := { s with channels := { c with saTotals := totals, merge := .empty }, reservoir := { s.reservoir with statsMoving := false } }
      let s := frames.foldl (fun s f =>
        let lines := ((pendingSas.filter (fun a => a / 128 == f)).map (fun a => a / 2 % 64)).eraseDups
        writeLines n 0 f lines (reinitPath n f s)) s
      [0, 1, 2].foldl (fun s level => writeBack n level ((frames.map (fun f => f / 64 ^ level)).eraseDups) s) s

/-- STATS_SWEEP. -/
def execStatsSweep (upsets : List Upset) (s : State) : Host.Outcome State Fault Refusal :=
  act (fun s => if hkUp s then statsSweep (applyUpsets upsets s) else s) s

/-! ## Registers (R332 to R334) -/

/-- STATE as R333 gives it; a channel in training reads as retraining. -/
def chStateCode (c : Channel) : Nat :=
  match c.state with
  | .absent => 0
  | .failed => 1
  | .online => 2
  | .trained => 3
  | .retraining => 3

/-- A mask of the channels that satisfy a condition. -/
def chMask (s : State) (p : Channel → Bool) : Nat := ([0, 1, 2, 3].map (fun n => b2n (p (chOf s n)) * 2 ^ n)).foldl (· + ·) 0

/-- RSV_STATUS. -/
def rsvStatus (s : State) : Nat :=
  let r := s.reservoir
  b2n r.fatal * 2 ^ 31 + b2n (rsvOnline s) * 2 ^ 30 + b2n r.degraded * 2 ^ 29 + b2n r.keyReady * 2 ^ 28 + b2n (rsvSpilling s) * 2 ^ 27 +
    chMask s (fun c => c.state == .failed) * 2 ^ 20 + chMask s (fun c => c.state != .absent) * 2 ^ 16 + r.drainMask * 2 ^ 12 +
    (r.statsChannel.getD 0) * 2 ^ 10 + b2n r.statsChannel.isSome * 2 ^ 9

/-- FAILED_DEV_VALID. -/
def failedMask (c : Channel) : Nat := ([0, 1, 2, 3].map (fun k => b2n (c.failedDev.has k) * 2 ^ k)).foldl (· + ·) 0

/-- RSV_CHn_STATUS. -/
def chStatus (c : Channel) : Nat := chStateCode c * 2 ^ 30 + c.capacity * 2 ^ 28 + b2n c.ranks2 * 2 ^ 27 + failedMask c * 2 ^ 23

/-- The 64-byte record of a channel (R333). -/
def chRecord (s : State) (n : Nat) : Bytes :=
  let c := chOf s n
  leBytes 1 (chStateCode c + c.capacity * 4 + b2n c.ranks2 * 16 + b2n (holdsStats s n) * 32) ++ leBytes 1 (failedMask c) ++
    ([0, 1, 2, 3].map (fun k => leBytes 1 (c.failedDev.get 0 k))).flatten ++ leBytes 2 0 ++ leBytes 4 (chFree s n) ++
    leBytes 4 c.laps ++ leBytes 8 c.highMajor ++ leBytes 8 c.ce ++ leBytes 8 c.ue ++ leBytes 4 c.quarantineEvents ++ leBytes 20 0

/-- Whether the reservoir is OFFLINE (R307, R324, R329): no channel remains. -/
def rsvOffline (s : State) : Bool :=
  s.reservoir.fatal || (channels s).all (fun c => c.state == .absent || c.state == .failed)

/-! ## Commands -/

/-- RSV_CONFIG (R332). -/
def specRsvConfig : OpSpec where
  opcode := 0x0710
  cls := .c
  privilege := .p
  fields := fun _ => [⟨8, 0, 1⟩, ⟨9, 0, 4⟩, fld 10 2, ⟨12, 0, 7⟩]
  own := fun c _ => [(c.u16 10 != 0 && c.u16 10 < 16, 10), (100 < c.get ⟨12, 0, 7⟩, 12)]
  badState := fun c s => c.flag 8 0 && (rsvOffline s || s.fabric.quota3 < 512)
  effect := fun c s =>
    let s := { s with reservoir := { s.reservoir with
      spillEnable := c.flag 8 0, drainMask := c.get ⟨9, 0, 4⟩
      failThreshold := if c.u16 10 = 0 then 256 else c.u16 10
      pageFillUs := if c.get ⟨12, 0, 7⟩ = 0 then 2 else c.get ⟨12, 0, 7⟩ } }
    (reviewSpill s, ok 0)

/-- RSV_CONFIG. -/
def execRsvConfig (c : Cmd) (s : State) : Host.Outcome State Fault Refusal := hostOp specRsvConfig c s

/-- RSV_STATUS (R333). -/
def specRsvStatus : OpSpec where
  opcode := 0x0711
  cls := .a
  privilege := .p
  underLock := true
  fields := fun _ => []
  pointer := fun _ => true
  effect := fun c s =>
    let free := ([0, 1, 2, 3].map (chFree s)).foldl (· + ·) 0
    (s, .done { status := stOk, result := resultOf [(8, rsvStatus s), (12, free)],
                data := blockFor c (([0, 1, 2, 3].map (chRecord s)).flatten) })

/-- RSV_STATUS. -/
def execRsvStatus (c : Cmd) (s : State) : Host.Outcome State Fault Refusal := hostOp specRsvStatus c s

/-- RSV_SCRUB (R334). -/
def specRsvScrub : OpSpec where
  opcode := 0x0712
  cls := .d
  privilege := .p
  fields := fun _ => [⟨8, 0, 2⟩, ⟨12, 0, 25⟩, ⟨16, 0, 25⟩]
  objectParam := fun c s =>
    let ch := chOf s (c.get ⟨8, 0, 2⟩)
    [(ch.state == .online && chFrames ch < c.get ⟨12, 0, 25⟩ + c.get ⟨16, 0, 25⟩, 12)]
  badState := fun c s => s.reservoir.fatal || (chOf s (c.get ⟨8, 0, 2⟩)).state != .online
  effect := fun c s =>
    let n := c.get ⟨8, 0, 2⟩
    let start := c.get ⟨12, 0, 25⟩
    let frames := if c.get ⟨16, 0, 25⟩ = 0 then chFrames (chOf s n) - start else c.get ⟨16, 0, 25⟩
    let before := chOf s n
    let within (f : Option Nat) : Bool := match f with | some f => decide (start ≤ f) && decide (f < start + frames) | none => false
    let s := patrol n within s
    (s, ok (resultOf [(8, frames), (12, min 0xffff ((chOf s n).ce - before.ce)), (14, min 0xffff ((chOf s n).ue - before.ue))]))

/-- RSV_SCRUB. -/
def execRsvScrub (c : Cmd) (s : State) : Host.Outcome State Fault Refusal := hostOp specRsvScrub c s

end Sys2Proof.Machine
end

