-- ==== Sys2Proof/Machine/Ports.lean ====
section
/-!
DEFINITION. Ports and lanes (03_lanes_and_ports; 20_counters R583 to R586): link bring-up, faults and their propagation, PORT_CONFIG,
PORT_STATUS, LANE_TUNE, PORT_MAP and DIAG_LOOPBACK.
-/
namespace Sys2Proof.Machine

open Sys2Proof

/-! ## The link goes down (R89, R91, R92) -/

/-- The last TAIL exception of a frame names truncation as its reason (12 R379). -/
def markTruncated (port : Nat) (s : State) : State :=
  let fix (e : Exc) : Exc :=
    if e.kind = 1 ∧ e.port = port ∧ bitsOf e.data 32 4 = 0 ∧ (e.frame + 1) % 65536 = s.pair.inNo.get 0 port % 65536 then
      { e with data := e.data + 2 * 2 ^ 32 }
    else e
  modPair (fun p => { p with excs := p.excs.map fix }) s

/-- The frame being received on a port is truncated (R91): its tail comes at once, with a bad FCS. -/
def truncateRx (p : Nat) (s : State) : State :=
  let s := modPort p (fun v => { v with looped := [] }) s
  if busyRx s p then markTruncated p (takeTail (if p < 64 then clientTail else lineTail) p [] false s) else s

/-- The other port of a tie. -/
def tiePartner (s : State) (p : Nat) : Option Nat :=
  match portOf s p with
  | some v => if v.path = .express then some v.partner else none
  | none => none

/-- Where bring-up starts (R88 step 1); a loop skips AN and TRAIN (20 R584). -/
def firstStep (v : Port) : Bringup := if v.nearLoop && v.adminUp then .locking else startBringup v

/-- Bring-up starts again from step 1 (R88). -/
def restartLink (p : Nat) (s : State) : State := modPort p (fun v => { v with bringup := firstStep v, locked := false }) s

/-- A port that is up is declared down (R89 to R92): LINK_DOWN with a cause, and bring-up starts again. -/
def linkDown (p cause : Nat) (s : State) : State :=
  let s := cutTx p (truncateRx p s)
  let s := restartLink p (modPort p (fun v => { v with sinceTick := s.tick }) s)
  raiseHeld 0 0x0202 1 (portObject p) (detailOf [(20, cause)]) (portCount p 13 s)

/-- Change a configured port by an event on its lanes. -/
def onPort (p : Nat) (f : Port → State → State) (s : State) : State :=
  if p < 128 then match portOf s p with | some v => f v s | none => s else s

/-! ## Link bring-up and faults -/

/-- Whether bring-up is under way, from step 2 to the link's declaration. -/
def Port.rising (v : Port) : Bool :=
  match v.bringup with
  | .negotiating | .training | .locking | .settling => true
  | _ => false

/-- PORT_SIGNAL_LOSS: a lane loses its signal (cause 1), or the port a lock (cause 2). An up port goes down; one coming up starts again
(R88, R89). -/
def execPortSignalLoss (port : Nat) (lock : Bool) (s : State) : Host.Outcome State Fault Refusal :=
  act (onPort port (fun v s =>
    if v.nearLoop then s
    else
      let s := modPort port (fun v => { v with signal := v.signal && lock }) s
      if v.linkUp then linkDown port (if lock then 2 else 1) s
      else if v.rising then restartLink port s
      else s)) s

/-- PORT_LOCAL_FAULT_DETECT: a local fault has been received for 100 us (R89). -/
def execPortLocalFaultDetect (port : Nat) (s : State) : Host.Outcome State Fault Refusal :=
  act (onPort port (fun v s =>
    let s := if v.localFault then s else portCount port 14 (modPort port (fun v => { v with localFault := true }) s)
    match v.bringup with
    | .up => linkDown port 3 s
    | .settling => modPort port (fun v => { v with bringup := .locking }) s
    | _ => s)) s

/-- LOCAL_FAULT_CLEAR: the port stops transmitting remote fault ordered sets (R90); one that waits for this alone goes on from step 5
of R88. -/
def execLocalFaultClear (port : Nat) (s : State) : Host.Outcome State Fault Refusal :=
  act (onPort port (fun _ s => modPort port (fun v =>
    { v with localFault := false
             bringup := if v.bringup = .locking ∧ v.locked then .settling else v.bringup }) s)) s

/-- REMOTE_FAULT (R106): 1 onset, 0 cleared. -/
def raiseRemoteFault (port on : Nat) (s : State) : State := raiseHeld 0 0x0204 1 (portObject port) (detailOf [(20, on)]) s

/-- PORT_REMOTE_FAULT_DETECT: a remote fault has been received for 100 us: idle in place of frames (R89). -/
def execPortRemoteFaultDetect (port : Nat) (s : State) : Host.Outcome State Fault Refusal :=
  act (onPort port (fun v s =>
    if v.remoteFault then s
    else raiseRemoteFault port 1
      (portCount port 15 (modPort port (fun v => { v with remoteFault := true, idleForRemote := true }) s)))) s

/-- PORT_REMOTE_FAULT_CLEAR. -/
def execPortRemoteFaultClear (port : Nat) (s : State) : Host.Outcome State Fault Refusal :=
  act (onPort port (fun v s =>
    if v.remoteFault then
      raiseRemoteFault port 0 (modPort port (fun v => { v with remoteFault := false, idleForRemote := false }) s)
    else s)) s

/-- PORT_AN_COMPLETE (R88 step 2). -/
def execPortAnComplete (port : Nat) (s : State) : Host.Outcome State Fault Refusal :=
  act (onPort port (fun v s =>
    if v.bringup = .negotiating then
      modPort port (fun v => { v with signal := true, bringup := if v.train then .training else .locking }) s
    else s)) s

/-- PORT_TRAINING_COMPLETE (R88 step 3). -/
def execPortTrainingComplete (port : Nat) (s : State) : Host.Outcome State Fault Refusal :=
  act (onPort port (fun v s =>
    if v.bringup = .training then modPort port (fun v => { v with signal := true, bringup := .locking }) s else s)) s

/-- PORT_LOCK_ACHIEVED (R88 steps 4 and 5): every lock, and no local fault. -/
def execPortLockAchieved (port : Nat) (s : State) : Host.Outcome State Fault Refusal :=
  act (onPort port (fun v s =>
    if v.bringup = .locking then
      modPort port (fun v => { v with signal := true, locked := true, bringup := if v.localFault then .locking else .settling }) s
    else s)) s

/-- The link is declared up (R88 step 6); the other port of a tie stops sending local fault (R94). -/
def linkUpNow (port : Nat) (v : Port) (s : State) : State :=
  let s := modPort port (fun v => { v with bringup := .up, sinceTick := s.tick }) s
  let s := match tiePartner s port with
    | some q => modPort q (fun w => { w with propagating := false }) s
    | none => s
  raiseHeld 0 0x0201 0 (portObject port) (detailOf [(20, v.rate), (21, v.fec)]) s

/-- PORT_LINK_UP_TIMER. -/
def execPortLinkUpTimer (port : Nat) (s : State) : Host.Outcome State Fault Refusal :=
  act (onPort port (fun v s => if v.bringup = .settling then linkUpNow port v s else s)) s

/-- TRAINING_TIMEOUT: step 2 or 3 exceeds its limit (R88). `lane`: the first lane of the port that failed. -/
def execTrainingTimeout (port lane : Nat) (s : State) : Host.Outcome State Fault Refusal :=
  act (onPort port (fun v s =>
    let fail (cause : Nat) (s : State) : State :=
      raiseHeld 0 0x0203 2 (portObject port) (detailOf [(20, cause), (21, port % 8 + lane % rateLanes v.rate)])
        (portCount port 16 (modPort port (fun v => { v with bringup := .retryWait }) s))
    match v.bringup with
    | .negotiating => fail 1 s
    | .training => fail 2 s
    | _ => s)) s

/-- TRAINING_RETRY: 1 s after a failure bring-up restarts (R88). -/
def execTrainingRetry (port : Nat) (s : State) : Host.Outcome State Fault Refusal :=
  act (onPort port (fun v s => if v.bringup = .retryWait then restartLink port s else s)) s

/-- FAULT_PROPAGATE_HOLDOFF: a port of a tie has been down for PROPAGATE_HOLDOFF; the other one sends local fault (R94). -/
def execFaultPropagateHoldoff (port : Nat) (s : State) : Host.Outcome State Fault Refusal :=
  act (onPort port (fun v s =>
    if v.path = .express ∧ v.faultPropagate ∧ !v.linkUp then modPort v.partner (fun w => { w with propagating := true }) s
    else s)) s

/-- Lane `i` of a set: 0 client, 1 line, 2 auxiliary. -/
def laneOf (s : State) (set i : Nat) : Lane := s.ports.lanes.get {} (set * 64 + i)

/-- The lanes of a port under PRBS_RX or PRBS_TX. -/
def prbsLanes (s : State) (p : Nat) (v : Port) : List Nat :=
  (List.range (rateLanes v.rate)).filter (fun k => (laneOf s (p / 64) (p % 64 + k)).prbsTx || (laneOf s (p / 64) (p % 64 + k)).prbsRx)

/-- The end of a 1-second window (R104, R105): codewords, blocks and symbol errors by lane are counted, and FEC_DEGRADED follows the
window. `symbols`: symbols received in it. -/
def fecWindow (p corrected uncorrectable blocks symbols : Nat) (laneErrors : List Nat) (v : Port) (s : State) : State :=
  let s := portCountBy p 8 blocks (portCountBy p 7 uncorrectable (portCountBy p 6 corrected s))
  let lanes := laneErrors.take (rateLanes v.rate)
  let s := lanes.zipIdx.foldl (fun s e => portCountBy p (24 + e.2) e.1 s) s
  let sum := lanes.foldl (· + ·) 0
  let now : Bool := decide (0 < uncorrectable) || (decide (symbols < sum * 10000) && (prbsLanes s p v).isEmpty)
  if now = v.fecDegraded then s
  else raiseHeld 0 0x0205 1 (portObject p) (detailOf [(20, b2n now), (24, uncorrectable)])
    (modPort p (fun v => { v with fecDegraded := now }) s)

/-- FEC_WINDOW_END. -/
def execFecWindowEnd (port corrected uncorrectable blocks symbols : Nat) (laneErrors : List Nat) (s : State) :
    Host.Outcome State Fault Refusal :=
  act (onPort port (fecWindow port corrected uncorrectable blocks symbols laneErrors)) s

/-! ## PORT_CONFIG (R83 to R86) -/

def configSide (c : Cmd) : Nat := c.get ⟨8, 0, 1⟩
/-- The first port of the octet that a PORT_CONFIG names. -/
def configBase (c : Cmd) : Nat := 64 * configSide c + 8 * c.get ⟨8, 1, 3⟩
def configOctet (c : Cmd) : Octet :=
  { q0 := c.get ⟨10, 0, 4⟩, q1 := c.get ⟨10, 4, 4⟩, q2 := c.get ⟨11, 0, 4⟩, q3 := c.get ⟨11, 4, 4⟩ }
def configSlot (c : Cmd) (i : Nat) : Nat := c.u8 (12 + i)

/-- Whether a slot byte is refused for the rate of the port at its lane offset (R84). -/
def slotRefused (rate slot : Nat) : Bool :=
  if rate = 0 then slot != 0 else !fecAllowed rate (bitsOf slot 0 3) || (bitOf slot 4 && !bitOf slot 3)

/-- Conditions of R84 on the quarter modes. -/
def modeErrors (o : Octet) : List (Bool × Nat) :=
  let q := [o.q0, o.q1, o.q2, o.q3]
  [ (6 < o.q0 || 6 < o.q1, 10), (6 < o.q2 || 6 < o.q3, 11), (q.contains 6 && q != [6, 6, 6, 6], 10),
    ((o.q0 == 5) != (o.q1 == 5), 10), ((o.q2 == 5) != (o.q3 == 5), 11) ]

/-- A new port of a rate (R86). -/
def newPort (rate slot : Nat) (s : State) : Port :=
  let v : Port := { rate, slot, sinceTick := s.tick }
  { v with bringup := startBringup v }

/-- A port ceases to exist. -/
def removePort (p : Nat) (s : State) : State := dropPort p (cutTx p (truncateRx p s))

/-- A slot byte changes on a port of unchanged rate (R86). -/
def reslot (p slot : Nat) (v : Port) (s : State) : State :=
  let s := modPort p (fun v => { v with slot }) s
  if v.linkUp then linkDown p (if bitOf slot 5 then 6 else 4) s else restartLink p s

/-- What PORT_CONFIG does at one lane offset. -/
def configPort (p rate slot : Nat) (s : State) : State :=
  match portOf s p with
  | none => if rate = 0 then s else setPort p (newPort rate slot s) s
  | some v =>
    if rate = 0 then removePort p s
    else if v.rate ≠ rate then setPort p (newPort rate slot s) (removePort p s)
    else if v.slot = slot then s
    else reslot p slot v s

/-- PORT_CONFIG. -/
def specPortConfig : OpSpec where
  opcode := 0x0201
  cls := .b
  privilege := .p
  fields := fun _ => [⟨8, 0, 4⟩, fld 10 1, fld 11 1] ++ (List.range 8).map (fun i => ⟨12 + i, 0, 6⟩)
  own := fun c _ =>
    let o := configOctet c
    modeErrors o ++ (List.range 8).map (fun i => (slotRefused (slotRate o i) (configSlot c i), 12 + i))
  badState := fun c s =>
    (List.range 8).any (fun i =>
      match portOf s (configBase c + i) with
      | none => false
      | some v => v.rate != slotRate (configOctet c) i && v.path != .unassigned)
  locks := fun c => (List.range 8).map (fun i => .port (configBase c + i))
  effect := fun c s =>
    let o := configOctet c
    let s := (List.range 8).foldl (fun s i => configPort (configBase c + i) (slotRate o i) (configSlot c i) s) s
    ({ s with ports := { s.ports with octets := s.ports.octets.put {} (configBase c / 8) o } }, ok 0)

/-- PORT_CONFIG. -/
def execPortConfig (c : Cmd) (s : State) : Host.Outcome State Fault Refusal := hostOp specPortConfig c s

/-! ## PORT_STATUS (R103, R104) -/

/-- TRAIN_STATE. -/
def trainState (v : Port) : Nat :=
  match v.bringup with
  | .off => 0
  | .negotiating => 1
  | .training => 2
  | .retryWait => 4
  | _ => if v.train && !v.nearLoop then 3 else 0

/-- PATH. -/
def pathCode (v : Port) : Nat :=
  match v.path with
  | .unassigned => 0
  | .express => 1
  | .buffered => 2

/-- RESULT of PORT_STATUS. -/
def portStatus (s : State) (p : Nat) (v : Port) : Nat :=
  resultOf
    [ (8, b2n v.linkUp + 2 * b2n v.localFault + 4 * b2n v.remoteFault + 8 * b2n v.locked + 16 * b2n v.fecDegraded +
          32 * b2n v.adminUp + 64 * b2n v.signal + 128 * b2n (squelched s p && (!s.tamper.farewellRuns || lineGated s (p - 64)))),
      (9, v.rate + 16 * v.fec), (10, trainState v + 8 * pathCode v + 32 * v.loopback),
      (11, if v.path = .express then v.partner % 64 else 0), (12, min (2 ^ 32 - 1) ((s.tick - v.sinceTick) / oneSecond)) ]

/-- The counter block of a port (R104). -/
def portCounters (v : Port) : Bytes := ((List.range 32).map (fun i => leBytes 8 (v.counters.get 0 i).toNat)).flatten

/-- The port that a PORT_STATUS names. -/
def statusPort (c : Cmd) : Nat := 64 * c.get ⟨8, 0, 1⟩ + c.get ⟨9, 0, 6⟩

/-- PORT_STATUS. -/
def specPortStatus : OpSpec where
  opcode := 0x0202
  cls := .a
  privilege := .p
  underLock := true
  fields := fun _ => [⟨8, 0, 1⟩, ⟨9, 0, 6⟩]
  pointer := fun _ => true
  missing := fun c s => !portExists s (statusPort c)
  effect := fun c s =>
    match portOf s (statusPort c) with
    | none => (s, failed stState (lifecycle s))
    | some v => (s, .done { status := stOk, result := portStatus s (statusPort c) v, data := blockFor c (portCounters v) })

/-- PORT_STATUS. -/
def execPortStatus (c : Cmd) (s : State) : Host.Outcome State Fault Refusal := hostOp specPortStatus c s

/-! ## LANE_TUNE (R95 to R98) -/

def tuneSet (c : Cmd) : Nat := c.get ⟨8, 0, 2⟩
def tuneLane (c : Cmd) : Nat := c.get ⟨9, 0, 6⟩
def tuneWrite (c : Cmd) : Bool := c.flag 10 0
def tuneTaps (c : Cmd) : Bool := c.flag 10 3

/-- The port that a client or line lane belongs to. -/
def portOfLane (s : State) (set lane : Nat) : Option (Nat × Port) :=
  if 2 ≤ set then none
  else s.ports.ports.cells.find? (fun v =>
    v.1 / 64 == set && decide (v.1 % 64 ≤ lane) && decide (lane < v.1 % 64 + rateLanes v.2.rate))

/-- Whether the function that owns an auxiliary lane is enabled (R97): the pair for PX0 and PX1, the domain for DX0 to DX2. -/
def auxEnabled (s : State) (lane : Nat) : Bool := if lane ≤ 1 then s.pair.mode != .off else s.domain.role != 0

/-- The magnitude of a signed byte. -/
def magnitude (b : Nat) : Nat := (signedOf 8 b).natAbs

/-- Conditions on the taps (R95, R96). -/
def tapErrors (c : Cmd) : List (Bool × Nat) :=
  let pre2 := signedOf 8 (c.u8 12)
  let pre1 := signedOf 8 (c.u8 13)
  let post := signedOf 8 (c.u8 15)
  [ (pre2 < -6 || 6 < pre2, 12), (pre1 < -16 || 0 < pre1, 13), (c.u8 14 < 16 || 32 < c.u8 14, 14), (post < -16 || 0 < post, 15),
    (32 < magnitude (c.u8 12) + magnitude (c.u8 13) + c.u8 14 + magnitude (c.u8 15), 12) ]

/-- Whether a lane signals PAM4 (R76): by its port's rate, auxiliary lanes always; none for a lane of no port. -/
def lanePam4 (s : State) (set lane : Nat) : Option Bool :=
  if set = 2 then some true else (portOfLane s set lane).map (fun v => decide (3 ≤ v.2.rate))

/-- Whether the pattern does not suit the lane (R96). -/
def prbsMismatch (s : State) (set lane prbs : Nat) : Bool :=
  match lanePam4 s set lane with
  | none => false
  | some true => prbs == 1 || prbs == 3
  | some false => prbs == 2 || prbs == 4 || prbs == 5

/-- A lane with the settings that a write carries (R95, R98). -/
def tuneApply (c : Cmd) (l : Lane) : Lane :=
  let l := { l with txInvert := c.flag 10 1, rxInvert := c.flag 10 2, prbs := c.get ⟨19, 0, 3⟩, prbsTx := c.flag 19 3, prbsRx := c.flag 19 4 }
  let l := if tuneTaps c then { l with pre2 := c.u8 12, pre1 := c.u8 13, main := c.u8 14, post1 := c.u8 15 } else l
  if c.flag 10 4 then
    { l with rxAdapt := c.get ⟨11, 0, 2⟩, ctle := c.get ⟨16, 0, 4⟩, dfe := c.flag 17 0, vga := c.get ⟨18, 0, 5⟩ }
  else l

/-- RESULT of LANE_TUNE (R98): what the receiver has adapted, what training has set and what is measured are free values. -/
def tuneResult (set lane : Nat) (s : State) : Nat × State :=
  let l := laneOf s set lane
  let port := portOfLane s set lane
  let trained : Bool := match port with | some v => trainState v.2 == 3 | none => false
  let locked : Bool := match port with | some v => v.2.locked | none => false
  let (taps, s) := if trained then drawFree 32 s else (l.pre2 + 256 * l.pre1 + 65536 * l.main + 16777216 * l.post1, s)
  let (ctle, s) := if l.rxAdapt = 2 then (l.ctle, s) else drawFree 4 s
  let (vga, s) := if l.rxAdapt = 2 then (l.vga, s) else drawFree 5 s
  let (eye, s) := drawFree 8 s
  let (cdr, s) := if locked then (1, s) else drawFree 1 s
  let (prbs, s) := if l.prbsRx then drawFree 1 s else (0, s)
  (resultOf [(8, taps), (12, ctle), (13, vga), (14, eye), (15, cdr + 2 * prbs)], s)

/-- LANE_TUNE. -/
def specLaneTune : OpSpec where
  opcode := 0x0203
  cls := .b
  privilege := .p
  fields := fun c =>
    [⟨8, 0, 2⟩, ⟨9, 0, 6⟩, ⟨10, 0, 1⟩] ++
      (if tuneWrite c then
        [⟨10, 1, 4⟩, ⟨11, 0, 2⟩, fld 12 4, ⟨16, 0, 4⟩, ⟨17, 0, 1⟩, ⟨18, 0, 5⟩, ⟨19, 0, 5⟩]
      else [])
  own := fun c _ =>
    [(tuneSet c == 3, 8), (tuneSet c == 2 && 4 < tuneLane c, 9)] ++
      (if tuneWrite c then
        [(c.get ⟨11, 0, 2⟩ == 3, 11), (6 ≤ c.get ⟨19, 0, 3⟩, 19)] ++ (if tuneTaps c then tapErrors c else [])
      else [])
  objectParam := fun c s => [(tuneWrite c && prbsMismatch s (tuneSet c) (tuneLane c) (c.get ⟨19, 0, 3⟩), 19)]
  badState := fun c s =>
    let port := portOfLane s (tuneSet c) (tuneLane c)
    let train : Bool := match port with | some v => v.2.train | none => false
    let admin : Bool := match port with | some v => v.2.adminUp | none => false
    let pattern : Bool := c.flag 19 3 || c.flag 19 4
    tuneWrite c && ((tuneTaps c && train) || (pattern && admin) || (pattern && tuneSet c == 2 && auxEnabled s (tuneLane c)))
  locks := fun c => if tuneSet c = 2 then [.lane (tuneLane c)] else [.port (64 * tuneSet c + tuneLane c)]
  effect := fun c s =>
    let key := 64 * tuneSet c + tuneLane c
    let s := if tuneWrite c then
        { s with ports := { s.ports with lanes := s.ports.lanes.put {} key (tuneApply c (laneOf s (tuneSet c) (tuneLane c))) } }
      else s
    let (r, s) := tuneResult (tuneSet c) (tuneLane c) s
    (s, ok r)

/-- LANE_TUNE. -/
def execLaneTune (c : Cmd) (s : State) : Host.Outcome State Fault Refusal := hostOp specLaneTune c s

/-! ## PORT_MAP (R99 to R102, 01 R19) -/

def mapOp (c : Cmd) : Nat := c.get ⟨8, 0, 2⟩
def mapClient (c : Cmd) : Nat := c.get ⟨9, 0, 6⟩
def mapLine (c : Cmd) : Nat := c.get ⟨10, 0, 6⟩
/-- The port of a buffered operation. -/
def mapPort (c : Cmd) : Nat := if c.flag 8 2 then 64 + mapLine c else mapClient c
/-- The ports that an operation names. -/
def mapPorts (c : Cmd) : List Nat := if mapOp c ≤ 1 then [mapClient c, 64 + mapLine c] else [mapPort c]

/-- The path mode that an operation needs (R100). -/
def mapNeeds (op : Nat) : PathMode :=
  match op with
  | 1 => .express
  | 3 => .buffered
  | _ => .unassigned

/-- The rate of a port. -/
def rateAt (s : State) (p : Nat) : Nat := match portOf s p with | some v => v.rate | none => 0

/-- Put a port in a path mode. -/
def setPath (p : Nat) (m : PathMode) (partner : Nat) (propagate : Bool) (holdoff : Nat) (s : State) : State :=
  modPort p (fun v => { v with path := m, partner, faultPropagate := propagate, holdoff, propagating := false }) s

/-- PORT_MAP. -/
def specPortMap : OpSpec where
  opcode := 0x0204
  cls := .b
  privilege := .p
  fields := fun _ => [⟨8, 0, 4⟩, ⟨9, 0, 6⟩, ⟨10, 0, 6⟩, fld 12 2]
  own := fun c _ =>
    [ (mapOp c ≤ 1 && c.flag 8 2, 8), (mapOp c != 0 && (c.flag 8 3 || c.u16 12 != 0), 8), (mapOp c == 0 && 1000 < c.u16 12, 12),
      (2 ≤ mapOp c && (if c.flag 8 2 then mapClient c else mapLine c) != 0, 8) ]
  missing := fun c s => (mapPorts c).any (fun p => !portExists s p)
  objectParam := fun c s => [(mapOp c == 0 && rateAt s (mapClient c) != rateAt s (64 + mapLine c), 9)]
  badState := fun c s =>
    (mapPorts c).any (fun p => match portOf s p with | some v => v.path != mapNeeds (mapOp c) | none => true) ||
      (mapOp c == 1 && tiePartner s (mapClient c) != some (64 + mapLine c)) ||
      (mapOp c == 3 && servicesOf s (mapPort c) != [])
  locks := fun c => (mapPorts c).map .port
  effect := fun c s =>
    let s := match mapOp c with
      | 0 =>
        setPath (64 + mapLine c) .express (mapClient c) (c.flag 8 3) (c.u16 12)
          (setPath (mapClient c) .express (64 + mapLine c) (c.flag 8 3) (c.u16 12) s)
      | 2 => setPath (mapPort c) .buffered 0 false 0 s
      | _ => (mapPorts c).foldl (fun s p => setPath p .unassigned 0 false 0 s) s
    (s, ok 0)

/-- PORT_MAP. -/
def execPortMap (c : Cmd) (s : State) : Host.Outcome State Fault Refusal := hostOp specPortMap c s

/-! ## DIAG_LOOPBACK (20_counters R583 to R586) -/

def loopSet (c : Cmd) : Nat := c.get ⟨8, 0, 2⟩
def loopMode (c : Cmd) : Nat := c.get ⟨8, 2, 2⟩
def loopPort (c : Cmd) : Nat := 64 * loopSet c + c.get ⟨9, 0, 6⟩

/-- The mode and TX_ON in force. -/
def loopNow (c : Cmd) (s : State) : Nat × Bool :=
  if loopSet c = 2 then s.ports.auxLoops.get (0, false) (c.get ⟨9, 0, 6⟩)
  else match portOf s (loopPort c) with | some v => (v.loopback, v.loopTxOn) | none => (0, false)

/-- A port's loopback changes (R585). -/
def setLoop (p mode : Nat) (txOn : Bool) (s : State) : State :=
  let up : Bool := match portOf s p with | some v => v.linkUp | none => false
  let s := if up then truncateRx p (cutTx p s) else s
  let s := modPort p (fun v => { v with loopback := mode, loopTxOn := txOn, looped := [] }) s
  if up then linkDown p 5 s else restartLink p s

/-- DIAG_LOOPBACK. -/
def specDiagLoopback : OpSpec where
  opcode := 0x1004
  cls := .b
  privilege := .p
  fields := fun _ => [⟨8, 0, 5⟩, ⟨9, 0, 6⟩]
  own := fun c _ =>
    [ (loopSet c == 3, 8), (loopSet c == 2 && 4 < c.get ⟨9, 0, 6⟩, 9), (c.flag 8 4 && (loopMode c == 0 || loopMode c == 3), 8) ]
  badState := fun c s =>
    if loopSet c = 2 then
      let l := laneOf s 2 (c.get ⟨9, 0, 6⟩)
      l.prbsTx || l.prbsRx || auxEnabled s (c.get ⟨9, 0, 6⟩)
    else
      match portOf s (loopPort c) with
      | none => true
      | some v => prbsLanes s (loopPort c) v != [] || (loopSet c == 1 && (mergeOf s (c.get ⟨9, 0, 6⟩)).isSome)
  locks := fun c => if loopSet c = 2 then [.lane (c.get ⟨9, 0, 6⟩)] else [.port (loopPort c)]
  effect := fun c s =>
    let s := if (loopNow c s).1 = loopMode c then s
      else if loopSet c = 2 then
        { s with ports := { s.ports with auxLoops := s.ports.auxLoops.put (0, false) (c.get ⟨9, 0, 6⟩) (loopMode c, c.flag 8 4) } }
      else setLoop (loopPort c) (loopMode c) (c.flag 8 4) s
    (s, ok (resultOf [(8, (loopNow c s).1 + 4 * b2n (loopNow c s).2)]))

/-- DIAG_LOOPBACK. -/
def execDiagLoopback (c : Cmd) (s : State) : Host.Outcome State Fault Refusal := hostOp specDiagLoopback c s

end Sys2Proof.Machine
end

