-- ==== Sys2Proof/Machine/Time.lean ====
section
/-!
DEFINITION. Time (14_time): the clocks, tracked domains and output time, snapshots, the PPS pins, scheduled actions and TIM_STEP,
TIM_RATE, TIM_SELECT and TIM_SCHEDULE.
-/
namespace Sys2Proof.Machine

open Sys2Proof

/-! ## Clocks (R427) -/

def nsUnits : Nat := 2 ^ 32
def secondNs : Nat := 1000000000

/-- A clock's value in 2^-32 ns, and the clock of a value; seconds are 48 bits. -/
def Clock.units (c : Clock) : Nat := (c.sec * secondNs + c.ns) * nsUnits + c.frac
def clockOf (u : Nat) : Clock :=
  { sec := u / nsUnits / secondNs % 2 ^ 48, ns := u / nsUnits % secondNs, frac := u % nsUnits }

/-- A clock after one CK_TS cycle at a rate word. -/
def Clock.advance (c : Clock) (rate : Nat) : Clock := clockOf (c.units + nsUnits + rate)

/-- The total nanoseconds of an instant. -/
def instantNs (sec ns : Nat) : Nat := sec * secondNs + ns

/-- The 32-bit timestamp of a clock (R435). -/
def clockStamp (c : Clock) : Nat := instantNs c.sec c.ns % 2 ^ 32

/-- A tracked domain: TB for true. -/
def domainOf (s : State) (b : Bool) : TimeDomain := if b then s.time.tb else s.time.ta
def setDomain (b : Bool) (d : TimeDomain) (s : State) : State :=
  if b then { s with time := { s.time with tb := d } } else { s with time := { s.time with ta := d } }

/-- TO less the selected domain, or another, in 2^-32 ns. -/
def offsetUnits (s : State) (b : Bool) : Int := (s.time.clock.units : Int) - (domainOf s b).clock.units

/-- The same in nanoseconds, saturating at 32 bits. -/
def offsetNs (s : State) (b : Bool) : Nat := signed32 (offsetUnits s b / (nsUnits : Int))

/-- TO after one cycle while slewing (R434). -/
def slewAdvance (s : State) : Clock :=
  let d := domainOf s s.time.selected
  let inc := nsUnits + d.rate
  let ppm := if offsetUnits s s.time.selected < 0 then 1000000 + s.time.slewPpm else 1000000 - s.time.slewPpm
  clockOf (s.time.clock.units + inc * ppm / 1000000)

/-- One CK_TS cycle of TA, TB and TO (R427, R433, R434). -/
def tickClocks (s : State) : State :=
  let t := s.time
  let run (d : TimeDomain) : TimeDomain := if d.state = .unset then d else { d with clock := d.clock.advance d.rate }
  let clock := match t.state with
    | .unset => t.clock
    | .tracking => t.clock.advance (domainOf s t.selected).rate
    | .slewing => slewAdvance s
    | .holdover => t.clock.advance t.rate
  { s with time := { t with ta := run t.ta, tb := run t.tb, clock } }

/-! ## States of the domains and of TO (R429, R432, R433) -/

def toCode (t : ToState) : Nat :=
  match t with
  | .unset => 0
  | .tracking => 1
  | .slewing => 2
  | .holdover => 3

def domCode (d : DomState) : Nat :=
  match d with
  | .unset => 0
  | .locked => 1
  | .lost => 2

/-- TIM_TO_STATE (R450). -/
def raiseTo (s : State) : State :=
  raiseHeld 0 0x0b02 1 0
    (detailOf [(20, toCode s.time.state), (21, b2n s.time.selected), (24, offsetNs s s.time.selected)]) s

/-- TIM_DOMAIN_STATE (R450): causes 0 refresh timeout, 1 time-reset, 2 uplink lost, 3 step applied, 4 rate refreshed. -/
def raiseDomain (b : Bool) (cause : Nat) (s : State) : State :=
  raiseHeld 0 0x0b01 1 (b2n b) (detailOf [(20, domCode (domainOf s b).state), (21, cause)]) s

/-- TO enters a state and tells it. -/
def enterTo (t : ToState) (s : State) : State := raiseTo { s with time := { s.time with state := t } }

/-- The selected domain leaves LOCKED: failover, or holdover at its last rate (R433). -/
def toFollowsLoss (b : Bool) (s : State) : State :=
  if s.time.selected != b then s
  else
    match s.time.state with
    | .tracking | .slewing =>
      if s.time.failover && (domainOf s !b).state == .locked then
        enterTo .slewing { s with time := { s.time with selected := !b } }
      else enterTo .holdover { s with time := { s.time with rate := (domainOf s b).rate } }
    | _ => s

/-- A domain has become LOCKED: TO takes its first value, or leaves holdover (R432, R433). -/
def toFollowsLock (b : Bool) (s : State) : State :=
  match s.time.state with
  | .unset =>
    enterTo .tracking { s with time := { s.time with clock := (domainOf s b).clock, rate := (domainOf s b).rate, selected := b } }
  | .holdover => if s.time.selected = b then enterTo .slewing s else s
  | _ => s

/-- A domain enters a state, with its event and what TO does. -/
def enterDomain (b : Bool) (d : DomState) (cause : Nat) (s : State) : State :=
  let old := (domainOf s b).state
  if old = d then s
  else
    let s := raiseDomain b cause (setDomain b { domainOf s b with state := d } s)
    if d = .locked then toFollowsLock b s else if old = .locked then toFollowsLoss b s else s

/-- A step is applied (R429, R430). -/
def applyStep (b : Bool) (sec ns : Nat) (s : State) : State :=
  enterDomain b .locked 3 (setDomain b { domainOf s b with clock := { sec, ns }, step := none } s)

/-- A time-reset (R429). -/
def timeReset (b : Bool) (s : State) : State :=
  enterDomain b .unset 1 (setDomain b { domainOf s b with step := none } s)

/-- A rate word is written and the refresh timer restarted (R429). -/
def applyRate (b : Bool) (rate : Nat) (s : State) : State :=
  enterDomain b .locked 4 (setDomain b { domainOf s b with rate } s)

/-- TIME_DOMAIN_HOLD_EXPIRY: a LOCKED domain has had no TIM_RATE within HOLD (R429). -/
def execTimeDomainHoldExpiry (domain : Nat) (s : State) : Host.Outcome State Fault Refusal :=
  act (fun s => if domain < 2 && (domainOf s (domain == 1)).state == .locked then enterDomain (domain == 1) .lost 0 s else s) s

/-- TO_SLEW_CONVERGED: a slewing TO comes within 1.6 ns of its domain and takes its value (R433). -/
def execToSlewConverged (s : State) : Host.Outcome State Fault Refusal :=
  act (fun s =>
    if s.time.state = .slewing ∧ 5 * (offsetUnits s s.time.selected).natAbs < 8 * nsUnits then
      enterTo .tracking { s with time := { s.time with clock := (domainOf s s.time.selected).clock } }
    else s) s

/-! ## Snapshots (R436) -/

/-- TIM_SNAP_NS_READ: the nanoseconds are returned and TO's seconds latched for the function. -/
def execTimSnapNsRead (fn : Nat) (s : State) : Host.Outcome State Fault Refusal :=
  actRead fn (fun s =>
    let set : Bool := s.time.state != .unset
    let sec := if set then s.time.clock.sec else 0
    emit (.readData fn (BitVec.ofNat 32 (if set then s.time.clock.ns else 0)))
      { s with time := { s.time with snaps := s.time.snaps.put 0 fn sec } }) s

/-! ## PPS (R441, R442) -/

/-- The 32-bit timestamp of a domain, 0 while it is UNSET. -/
def domainStamp (s : State) (b : Bool) : Nat := if (domainOf s b).state = .unset then 0 else clockStamp (domainOf s b).clock

/-- A pending AT_PPS step applies at the edge. -/
def pendingStep (b : Bool) (s : State) : State :=
  match (domainOf s b).step with
  | some (sec, ns) => applyStep b sec ns s
  | none => s

/-- 900 ms in ticks. -/
def ppsGuard : Nat := 562500000

/-- PPS_IN_EDGE: pending steps apply, then TO, TA and TB are captured; an edge within 900 ms of the last accepted one is ignored. -/
def ppsEdge (gpio : Nat) (s : State) : State :=
  let early : Bool := match s.time.ppsTick with | some t => decide (s.tick < t + ppsGuard) | none => false
  if (pinOf s gpio).function ≠ 2 ∨ early then s
  else
    let s := pendingStep true (pendingStep false s)
    { s with time := { s.time with
      ppsSeq := (s.time.ppsSeq + 1) % 2 ^ 32, ppsTo := stamp s, ppsTa := domainStamp s false, ppsTb := domainStamp s true
      ppsGapRuns := true, ppsTick := some s.tick } }

/-- PPS_IN_EDGE. -/
def execPpsInEdge (gpio : Nat) (s : State) : Host.Outcome State Fault Refusal := act (ppsEdge gpio) s

/-- PPS_MISSING: 1.5 s after an accepted edge with no further one, once per gap. -/
def execPpsMissing (s : State) : Host.Outcome State Fault Refusal :=
  act (fun s =>
    match pinsOf s 2 with
    | [] => s
    | g :: _ =>
      if s.time.ppsGapRuns then raiseHeld 0 0x0b04 1 g 0 { s with time := { s.time with ppsGapRuns := false } } else s) s

/-- PPS_OUT_SECOND: TO passes a second boundary; PPS_OUT rises, unless TO is UNSET (R441). -/
def execPpsOutSecond (s : State) : Host.Outcome State Fault Refusal :=
  act (fun s =>
    if s.time.state ≠ .unset ∧ pinsOf s 1 ≠ [] then driveAll 1 true { s with time := { s.time with ppsOut := true } } else s) s

/-- PPS_OUT_WIDTH_END: WIDTH_US later it falls. -/
def execPpsOutWidthEnd (s : State) : Host.Outcome State Fault Refusal :=
  act (fun s => if s.time.ppsOut then driveAll 1 false { s with time := { s.time with ppsOut := false } } else s) s

/-! ## Timers (R443 to R446) -/

/-- TIMER_FIRE: TO has reached a timer's instant (R444). -/
def timerFire (n : Nat) (s : State) : State :=
  match s.time.timers.find n with
  | none => s
  | some t =>
    if toTotal s < instantNs t.sec t.ns then s
    else
      let s := { s with time := { s.time with timers := s.time.timers.erase n } }
      if t.action = 2 then raiseFor t.owner 0x0b03 0 n (detailOf [(24, instantNs t.sec t.ns % 2 ^ 64)]) s
      else drive t.pin (t.action == 3) (setPin t.pin { pinOf s t.pin with level := t.action == 3 } s)

/-- TIMER_FIRE. -/
def execTimerFire (timer : Nat) (s : State) : Host.Outcome State Fault Refusal := act (timerFire timer) s

def schedCancel (c : Cmd) : Bool := c.flag 8 0
def schedAction (c : Cmd) : Nat := c.get ⟨8, 1, 3⟩
def schedTarget (c : Cmd) : Nat := c.get ⟨12, 0, 17⟩
def schedSec (c : Cmd) : Nat := c.get ⟨16, 0, 48⟩
def schedNs (c : Cmd) : Nat := c.u32 22

/-- Whether an action drives a pin. -/
def pinAction (c : Cmd) : Bool := schedAction c == 3 || schedAction c == 4

/-- Why a pin cannot be used by a timer, as R60 names the holder (R445, R489). -/
def pinConflict (s : State) (g : Nat) : Option Nat :=
  let p := pinOf s g
  if p.function = 3 then none else if p.function = 0 then some 0xfd else if p.battery then some 0xfe else some 0

/-- TIM_SCHEDULE. -/
def specTimSchedule : OpSpec where
  opcode := 0x0b04
  cls := .a
  privilege := .t
  fields := fun c =>
    [⟨8, 0, 4⟩, ⟨12, 0, 17⟩] ++ (if pinAction c then [⟨9, 0, 4⟩] else []) ++ (if schedCancel c then [] else [⟨16, 0, 48⟩, fld 22 4])
  pfForm := fun c => schedAction c != 1
  own := fun c _ =>
    [ (schedAction c == 0 || 5 ≤ schedAction c, 8), (!schedCancel c && secondNs ≤ schedNs c, 22),
      (schedAction c != 1 && 64 ≤ schedTarget c, 12) ]
  object := fun c s =>
    if c.fn = 0 ∨ schedAction c ≠ 1 then none
    else match scOf s (schedTarget c) with
      | none => some 2
      | some e => if e.tenant = c.fn then none else some 2
  missing := fun c s => schedAction c == 1 && (scOf s (schedTarget c)).isNone
  badState := fun c s =>
    (schedAction c == 1 && (match scOf s (schedTarget c) with | some e => e.receive || e.accord | none => false)) ||
      (if schedCancel c then
        (if schedAction c = 1 then !s.time.rolls.has (schedTarget c)
         else match s.time.timers.find (schedTarget c) with | some t => t.action != schedAction c | none => true)
      else s.time.state != .unset && decide (instantNs (schedSec c) (schedNs c) < toTotal s + 10000))
  notReady := fun _ s => s.time.state == .unset
  locks := fun c => if schedAction c = 1 then [.sc (schedTarget c)] else [.timer (schedTarget c)]
  conflict := fun c s =>
    if schedAction c = 1 then none
    else
      match s.time.timers.find (schedTarget c) with
      | some t => if t.owner = c.fn then (if pinAction c && !schedCancel c then pinConflict s (c.get ⟨9, 0, 4⟩) else none) else some t.owner
      | none => if pinAction c then pinConflict s (c.get ⟨9, 0, 4⟩) else none
  effect := fun c s =>
    let n := schedTarget c
    let t := s.time
    let s := match schedAction c, schedCancel c with
      | 1, true => { s with time := { t with rolls := t.rolls.erase n } }
      | 1, false => { s with time := { t with rolls := t.rolls.set n (schedSec c, schedNs c) } }
      | _, true => { s with time := { t with timers := t.timers.erase n } }
      | a, false =>
        let e : TimerAction := { owner := c.fn, action := a, pin := c.get ⟨9, 0, 4⟩, sec := schedSec c, ns := schedNs c }
        { s with time := { t with timers := t.timers.set n e } }
    (s, ok 0)

/-- TIM_SCHEDULE. -/
def execTimSchedule (c : Cmd) (s : State) : Host.Outcome State Fault Refusal := hostOp specTimSchedule c s

/-! ## TIM_STEP, TIM_RATE, TIM_SELECT (R447 to R449) -/

def timDomain (c : Cmd) : Bool := c.flag 8 0

/-- CONFLICT with the domain agent (R431): its requester ID is 25h. -/
def agentConflict (c : Cmd) (s : State) : Option Nat := if (domainOf s (timDomain c)).agent then some 0x25 else none

/-- TIM_STEP. -/
def specTimStep : OpSpec where
  opcode := 0x0b01
  cls := .a
  privilege := .p
  fields := fun c => if c.flag 8 1 then [⟨8, 0, 2⟩] else [⟨8, 0, 3⟩, ⟨12, 0, 48⟩, fld 18 4]
  own := fun c _ => [(!c.flag 8 1 && secondNs ≤ c.u32 18, 18)]
  badState := fun c s =>
    !c.flag 8 1 && ((domainOf s (timDomain c)).state != .unset || (c.flag 8 2 && pinsOf s 2 == []))
  locks := fun c => [.clock (b2n (timDomain c))]
  conflict := agentConflict
  effect := fun c s =>
    let b := timDomain c
    let sec := c.get ⟨12, 0, 48⟩
    let s := if c.flag 8 1 then timeReset b s
      else if c.flag 8 2 then setDomain b { domainOf s b with step := some (sec, c.u32 18) } s
      else applyStep b sec (c.u32 18) s
    (s, ok 0)

/-- TIM_STEP. -/
def execTimStep (c : Cmd) (s : State) : Host.Outcome State Fault Refusal := hostOp specTimStep c s

/-- The bound of RATE_ADJ, and the nominal rate word (R428). -/
def rateBound : Int := 3435973
def nominalRate : Nat := 0x9999999a

/-- TIM_RATE. -/
def specTimRate : OpSpec where
  opcode := 0x0b02
  cls := .a
  privilege := .p
  fields := fun _ => [⟨8, 0, 1⟩, fld 10 2, fld 12 4]
  own := fun c _ =>
    [(600 < c.u16 10, 10), (signedOf 32 (c.u32 12) < -rateBound || rateBound < signedOf 32 (c.u32 12), 12)]
  badState := fun c s => (domainOf s (timDomain c)).state == .unset
  locks := fun c => [.clock (b2n (timDomain c))]
  conflict := agentConflict
  effect := fun c s =>
    let b := timDomain c
    let s := setDomain b { domainOf s b with hold := if c.u16 10 = 0 then 20 else c.u16 10 } s
    (applyRate b (toSigned 32 ((nominalRate : Int) + signedOf 32 (c.u32 12))) s, ok 0)

/-- TIM_RATE. -/
def execTimRate (c : Cmd) (s : State) : Host.Outcome State Fault Refusal := hostOp specTimRate c s

/-- TIM_SELECT. -/
def specTimSelect : OpSpec where
  opcode := 0x0b03
  cls := .a
  privilege := .p
  fields := fun _ => [⟨8, 0, 2⟩, fld 10 2]
  own := fun c _ => [(500 < c.u16 10, 10)]
  badState := fun c s => (domainOf s (timDomain c)).state != .locked
  effect := fun c s =>
    let b := timDomain c
    let same : Bool := s.time.selected == b
    let s := { s with time := { s.time with
      selected := b, failover := c.flag 8 1, slewPpm := if c.u16 10 = 0 then 100 else c.u16 10 } }
    let s := if same then s else match s.time.state with
      | .unset => s
      | .slewing => s
      | _ => enterTo .slewing s
    (s, ok (resultOf [(8, toCode s.time.state), (12, offsetNs s b)]))

/-- TIM_SELECT. -/
def execTimSelect (c : Cmd) (s : State) : Host.Outcome State Fault Refusal := hostOp specTimSelect c s

/-! ## Registers -/

/-- TIM_STATUS. -/
def timStatus (s : State) : Nat :=
  let t := s.time
  toCode t.state * 2 ^ 30 + b2n t.selected * 2 ^ 29 + b2n t.failover * 2 ^ 28 + domCode t.ta.state * 2 ^ 26 +
    domCode t.tb.state * 2 ^ 24 + b2n t.ta.agent * 2 ^ 23 + b2n t.tb.agent * 2 ^ 22 + b2n t.ta.step.isSome * 2 ^ 21 +
    b2n t.tb.step.isSome * 2 ^ 20 + t.slewPpm

end Sys2Proof.Machine
end

