-- ==== Sys2Proof/Machine/Entropy.lean ====
section
/-!
DEFINITION. The entropy unit (15_entropy): health tests, states, seeds, ENT_READ, ENT_STATUS and ENT_TEST_PATTERN.
-/
namespace Sys2Proof.Machine

open Sys2Proof

/-! ## Sources -/

def esOf (s : State) (n : Nat) : Source :=
  match n with
  | 0 => s.entropy.es0
  | 1 => s.entropy.es1
  | 2 => s.entropy.es2
  | _ => s.entropy.es3

def setEs (n : Nat) (e : Source) (s : State) : State :=
  match n with
  | 0 => { s with entropy := { s.entropy with es0 := e } }
  | 1 => { s with entropy := { s.entropy with es1 := e } }
  | 2 => { s with entropy := { s.entropy with es2 := e } }
  | _ => { s with entropy := { s.entropy with es3 := e } }

def modEs (n : Nat) (f : Source → Source) (s : State) : State := setEs n (f (esOf s n)) s

def allSources : List Nat := [0, 1, 2, 3]

/-- A mask of the sources that satisfy a condition. -/
def esMask (s : State) (p : Source → Bool) : Nat := (allSources.map (fun n => b2n (p (esOf s n)) * 2 ^ n)).foldl (· + ·) 0

/-! ## States (R456) -/

def entCode (t : EntState) : Nat :=
  match t with
  | .starting => 0
  | .ready => 1
  | .retest => 2
  | .failed => 3
  | .test => 4

/-- The unit enters a state; who waits for it sees it (07 R236). -/
def enterEnt (t : EntState) (s : State) : State :=
  reviewEntropy { s with entropy := { s.entropy with state := t, changedMs := msNow s } }

/-- ENT_STATE_CHANGE (R466): causes 0 start-up passed, 1 RCT failure, 2 APT failure, 3 retest passed, 4 test mode. -/
def changeEnt (t : EntState) (cause source : Nat) (s : State) : State :=
  let old := entCode s.entropy.state
  enterEnt t (raiseHeld 0 0x0c01 1 0 (detailOf [(20, entCode t), (21, old), (22, cause), (23, source)]) s)

/-- Conditioned seeds from the released bits (R454): at most four wait. -/
def makeSeeds (s : State) : State :=
  let e := s.entropy
  let k := min (4 - e.seeds) (e.bits / 2048)
  { s with entropy := { e with seeds := e.seeds + k, bits := min 2048 (e.bits - 2048 * k) } }

/-- The generator is instantiated from 4,096 released bits (R455, R456). -/
def instantiate (s : State) : State :=
  entCount 2 1 (makeSeeds { s with entropy := { s.entropy with bits := s.entropy.bits - 4096, requests := 0 } })

/-- The generator's state, its seeds and the bits not released are discarded. -/
def discardGenerator (s : State) : State := { s with entropy := { s.entropy with bits := 0, seeds := 0, requests := 0 } }

/-- Every source starts its windows afresh; each needs `n` passes. -/
def restartWindows (n : Nat) (s : State) : State := allSources.foldl (fun s k => modEs k (fun e => { e with passes := 0, needs := n }) s) s

/-- RETEST (R456): output stops, everything is discarded, new windows start on all sources. -/
def enterRetest (cause source : Nat) (s : State) : State :=
  changeEnt .retest cause source (entCount 5 1 (restartWindows 2 (discardGenerator s)))

/-- Sources that take part. -/
def taking (s : State) : List Nat := allSources.filter (fun n => !(esOf s n).excluded)

/-- ENT_SOURCE_EXCLUDED. -/
def raiseExcluded (n : Nat) (on : Bool) (s : State) : State := raiseHeld 0 0x0c02 1 n (detailOf [(20, b2n on)]) s

/-- A source is excluded. -/
def exclude (n : Nat) (s : State) : State :=
  if (esOf s n).excluded then s else raiseExcluded n true (modEs n (fun e => { e with excluded := true, healthy := false }) s)

/-- After windows have ended: start-up or a retest that has what it needs leads to READY (R456). -/
def reviewWindows (s : State) : State :=
  match s.entropy.state with
  | .starting =>
    if !s.entropy.katFailed && allSources.all (fun n => decide ((esOf s n).needs ≤ (esOf s n).passes)) then
      changeEnt .ready 0 0 (instantiate s)
    else s
  | .retest =>
    let good := allSources.filter (fun n => decide (2 ≤ (esOf s n).passes))
    if 2 ≤ good.length then
      let s := good.foldl (fun s n => if (esOf s n).excluded then raiseExcluded n false (modEs n (fun e => { e with excluded := false }) s) else s) s
      let s := (allSources.filter (fun n => !good.contains n)).foldl (fun s n => exclude n s) s
      changeEnt .ready 3 0 (instantiate s)
    else s
  | .ready => makeSeeds s
  | _ => s

/-- A health test fails on a source (R452, R453, R456). -/
def healthFail (n : Nat) (rct : Bool) (s : State) : State :=
  if s.entropy.state = .test ∧ s.entropy.mode = 1 then s
  else
    let s := entCount (if rct then 3 else 4) 1 s
    let s := modEs n (fun e => { e with
      healthy := false, passes := 0, needs := 2
      rctMax := if rct then max e.rctMax 41 else e.rctMax, aptMax := if rct then e.aptMax else max e.aptMax 792 }) s
    let s := { s with entropy := { s.entropy with bits := 0 } }
    if s.entropy.state = .ready ∧ !(esOf s n).excluded then enterRetest (if rct then 1 else 2) n s else s

/-- ENT_HEALTH_FAIL: the repetition-count test (`rct`) or the adaptive-proportion test. -/
def execEntHealthFail (source : Nat) (rct : Bool) (s : State) : Host.Outcome State Fault Refusal :=
  act (fun s => if source < 4 then healthFail source rct s else s) s

/-- A window of a source has ended: `apt` the count of its first bit, `run` its longest run (R452, R453). -/
def windowEnd (n apt run : Nat) (s : State) : State :=
  if 4 ≤ n ∨ (s.entropy.state = .test ∧ s.entropy.mode = 1) then s
  else if 792 ≤ apt then healthFail n false s
  else if 41 ≤ run then healthFail n true s
  else
    let s := modEs n (fun e => { e with
      healthy := !e.excluded, passes := e.passes + 1, aptMax := max e.aptMax apt, rctMax := max e.rctMax run }) s
    if (esOf s n).excluded && s.entropy.state != .retest then s
    else { s with entropy := { s.entropy with bits := s.entropy.bits + 1024 } }

/-- ENT_WINDOW_END: windows that end together, by source. -/
def execEntWindowEnd (windows : List (Nat × Nat × Nat)) (s : State) : Host.Outcome State Fault Refusal :=
  act (fun s => reviewWindows (windows.foldl (fun s w => windowEnd w.1 w.2.1 w.2.2 s) s)) s

/-- A consumer that waits when the unit enters FAILED completes at once (R459); the keys of LC_ADVANCE go on waiting. -/
def failWaiting (s : State) : State :=
  let waits (r : Running) : Bool := r.wait == .entropy && !r.isOp 0x0d04
  let reads := s.running.countP (fun r => waits r && r.isOp 0x0c01)
  let s := entCount 6 reads s
  let s := completeRunning waits (fun _ => { status := stEntropyFail }) s
  s.accord.peers.keys.foldl (fun s p => responderTimeout p s) s

/-- The unit fails (R456): 0 known-answer test, 1 retest timeout. -/
def failEnt (why : Nat) (s : State) : State :=
  let s := enterEnt .failed (discardGenerator s)
  let s := raiseHeld 0 0x0c03 3 0
    (detailOf [(20, why), (24, 16 * esMask s (·.healthy) + esMask s (·.excluded))]) s
  failWaiting s

/-- ENT_RETEST_TIMEOUT. -/
def execEntRetestTimeout (s : State) : Host.Outcome State Fault Refusal :=
  act (fun s => if s.entropy.state = .retest then failEnt 1 s else s) s

/-- A FAILED unit's retest, once a second (R456): the sources that passed two consecutive windows. -/
def failedRetest (passed : List Nat) (s : State) : State :=
  let good := (taking s).filter (passed.contains ·)
  if s.entropy.state = .failed ∧ !s.entropy.katFailed ∧ 2 ≤ good.length then
    let s := allSources.foldl (fun s n => modEs n (fun e => { e with healthy := good.contains n }) s) s
    changeEnt .ready 3 0 (instantiate { s with entropy := { s.entropy with bits := 2048 * good.length } })
  else s

/-- ENT_FAILED_RETEST. -/
def execEntFailedRetest (passed : List Nat) (s : State) : Host.Outcome State Fault Refusal := act (failedRetest passed) s

/-- ENT_SOURCE_RETEST: an excluded source is readmitted after two passes (R457). -/
def execEntSourceRetest (source : Nat) (passed : Bool) (s : State) : Host.Outcome State Fault Refusal :=
  act (fun s =>
    if source < 4 ∧ (esOf s source).excluded ∧ passed then
      raiseExcluded source false (modEs source (fun e => { e with excluded := false, healthy := true }) s)
    else s) s

/-! ## ENT_READ (R459 to R462) -/

def readLength (c : Cmd) : Nat := c.get ⟨8, 0, 13⟩
/-- Generate requests of an ENT_READ (R455). -/
def readRequests (c : Cmd) : Nat := (readLength c + 31) / 32
def readReseed (c : Cmd) : Bool := c.flag 10 0

/-- Whether the unit serves an ENT_READ now: in TEST always, else with a seed for every reseed. -/
def readServes (s : State) (c : Cmd) : Bool :=
  match s.entropy.state with
  | .test => true
  | .ready =>
    if readReseed c then decide (1 + (readRequests c - 1) / 65536 ≤ s.entropy.seeds) else entServes s (readRequests c)
  | _ => false

/-- A requested reseed: one seed, a fresh count of requests. -/
def reseedNow (s : State) : State :=
  entCount 2 1 { s with entropy := { s.entropy with seeds := s.entropy.seeds - 1, requests := 0 } }

/-- PATTERN's generator serves an ENT_READ (R455, R461): the reseeds before it and the requests since the last of them, in one number. -/
def patternServe (c : Cmd) (s : State) : Nat × State :=
  let i := s.entropy.requests
  let at_ := if readReseed c then (i / 2 ^ 17 + 1) * 2 ^ 17 else i
  let k := (at_ % 2 ^ 17 + readRequests c - 1) / 65536
  let next := at_ + readRequests c + k * (2 ^ 17 - 65536)
  (at_, entCount 2 (b2n (readReseed c) + k) (entCount 1 (readRequests c) { s with entropy := { s.entropy with requests := next } }))

/-- The bytes of an ENT_READ: of the generator or a source's raw bits they are free values; of the pattern they are a function of it
(R461). -/
def readBytes (c : Cmd) (s : State) : Bytes × State :=
  let n := readLength c
  if s.entropy.state = .test then
    if s.entropy.mode = 1 then
      let (i, s) := patternServe c s
      (leBytes n (Config.mac 40 i s.entropy.pattern), entCount 0 n s)
    else
      let (x, s) := drawFree (8 * n) s
      (leBytes n x, entCount 0 n s)
  else
    let s := if readReseed c then reseedNow s else s
    let (x, s) := drawFree (8 * n) (entServe (readRequests c) n s)
    (leBytes n x, s)

/-- What an ENT_READ that is served completes with. -/
def readReply (c : Cmd) (s : State) : Reply × State :=
  let test := s.entropy.state == .test
  let (data, s) := readBytes c s
  ({ status := stOk, result := resultOf [(8, readLength c), (10, b2n test)], data }, s)

/-- ENT_READ. -/
def specEntRead : OpSpec where
  opcode := 0x0c01
  cls := .b
  privilege := .f
  fields := fun _ => [⟨8, 0, 13⟩, ⟨10, 0, 1⟩]
  pointer := fun _ => true
  own := fun c _ => [(readLength c == 0 || 4096 < readLength c, 8), (c.dataPtr == 0, 56)]
  effect := fun c s =>
    if readServes s c then
      let (r, s) := readReply c s
      (s, .done r)
    else (s, .wait .entropy)

/-- ENT_READ. -/
def execEntRead (c : Cmd) (s : State) : Host.Outcome State Fault Refusal := hostOp specEntRead c s

/-- ENTROPY_WAIT_EXPIRY: a command has waited 10 ms for output (R459). `index`: its place among the running commands. -/
def entropyExpiry (index : Nat) (s : State) : State :=
  match s.running[index]? with
  | none => s
  | some r =>
    let read := r.isOp 0x0c01
    let served : Bool := s.entropy.state == .ready || (read && s.entropy.state == .test)
    if r.wait ≠ .entropy ∨ r.isOp 0x0d04 ∨ (served ∧ !r.isOp 0x0a02) then s
    else
      let status := if !r.isOp 0x0a02 && s.entropy.state == .starting then stNotReady else stEntropyFail
      let s := { s with running := s.running.eraseIdx index }
      finish r.cmd { status } (if read then entCount 6 1 s else s)

/-- ENTROPY_WAIT_EXPIRY. -/
def execEntropyWaitExpiry (index : Nat) (s : State) : Host.Outcome State Fault Refusal := act (entropyExpiry index) s

/-! ## ENT_STATUS and ENT_TEST_PATTERN (R461, R463, R464) -/

/-- ENT_STATE. -/
def entState (s : State) : Nat :=
  entCode s.entropy.state * 2 ^ 29 + s.entropy.mode * 2 ^ 24 + esMask s (·.healthy) * 2 ^ 20 + esMask s (·.excluded) * 2 ^ 16 +
    s.entropy.seeds

/-- ENT_SRCn_STATUS. -/
def esStatus (e : Source) : Nat := min 2047 e.aptMax * 2 ^ 16 + min 63 e.rctMax

/-- ENT_STATUS. -/
def specEntStatus : OpSpec where
  opcode := 0x0c02
  cls := .a
  privilege := .f
  underLock := true
  decommissioned := fun _ => true
  fields := fun _ => []
  effect := fun _ s =>
    (s, ok (resultOf [(8, entState s), (12, min (2 ^ 32 - 1) (msNow s - s.entropy.changedMs))]))

/-- ENT_STATUS. -/
def execEntStatus (c : Cmd) (s : State) : Host.Outcome State Fault Refusal := hostOp specEntStatus c s

/-- A test mode ends (R456, R464): the generator is discarded and the sources are retested. -/
def leaveTest (s : State) : State :=
  let s := { s with entropy := { s.entropy with mode := 0, testSource := 0, pattern := [] } }
  if s.entropy.state = .test then enterRetest 4 0 s else s

/-- A test mode is enabled (R461). -/
def enterTest (mode source : Nat) (pattern : Bytes) (s : State) : State :=
  let s := discardGenerator { s with entropy := { s.entropy with mode, testSource := source, pattern } }
  let s := if mode = 1 then entCount 2 1 s else s
  if s.entropy.state = .test then s else changeEnt .test 4 0 s

/-- ENT_TEST_PATTERN. -/
def specEntTestPattern : OpSpec where
  opcode := 0x0c03
  cls := .a
  privilege := .p
  lifecycles := fun _ => some [1]
  fields := fun c => if c.get ⟨8, 0, 2⟩ = 2 then [⟨8, 0, 4⟩] else [⟨8, 0, 2⟩]
  pointer := fun c => c.get ⟨8, 0, 2⟩ == 1
  payloadLength := fun c => if c.get ⟨8, 0, 2⟩ = 1 then 256 else 0
  own := fun c _ => [(c.get ⟨8, 0, 2⟩ == 3, 8)]
  badState := fun c s =>
    s.entropy.state == .failed || s.entropy.state == .starting ||
      (c.get ⟨8, 0, 2⟩ == 2 && (esOf s (c.get ⟨8, 2, 2⟩)).excluded)
  effect := fun c s =>
    match c.get ⟨8, 0, 2⟩ with
    | 0 => (leaveTest s, ok 0)
    | 1 => (enterTest 1 0 c.payload s, ok 0)
    | m => (enterTest m (c.get ⟨8, 2, 2⟩) [] s, ok 0)

/-- ENT_TEST_PATTERN. -/
def execEntTestPattern (c : Cmd) (s : State) : Host.Outcome State Fault Refusal := hostOp specEntTestPattern c s

end Sys2Proof.Machine
end

