-- ==== Sys2Proof/Machine/FabricCommands.lean ====
section
/-!
DEFINITION. The fabric's registers, rings, audits and commands (09_fabric_and_buffers R283, R293 to R302).
-/
namespace Sys2Proof.Machine

open Sys2Proof

/-! ## Multicast entries (R293, R300, R301) -/

/-- Whether a valid group's range covers a member. -/
def coveredBy (s : State) (m : Nat) : Bool :=
  s.fabric.groups.cells.any (fun c => groupValid c.2.data && decide (groupFirst c.2.data ≤ m) && decide (m < groupFirst c.2.data + groupCount c.2.data))

/-- IN_USE (R293). -/
def memberInUse (s : State) (m : Nat) : Bool := coveredBy s m || s.fabric.clearing.contains m

/-- The fields of a FAB_MC_CMD value. -/
def mcIndex (w : Word) : Nat := bitsOf w.toNat 16 16
def mcTable (w : Word) : Bool := bitOf w.toNat 2

/-- Store FAB_MC_CMD, and set FAB_MC_STATUS.RESULT. -/
def mcDone (w : Word) (result : Nat) (s : State) : State :=
  setReg 0x4050 (w &&& 0xffff0007) { s with fabric := { s.fabric with mcResult := result } }

/-- Set FAB_MC_DATA0 and FAB_MC_DATA1. -/
def setMcData (d : Nat) (s : State) : State :=
  setReg 0x4058 (BitVec.ofNat 32 (d / 2 ^ 32)) (setReg 0x4054 (BitVec.ofNat 32 d) s)

/-- FAB_MC_CMD READ. `upset`: the entry fails its parity as it is read. -/
def mcRead (w : Word) (upset : Bool) (s : State) : State :=
  let i := mcIndex w
  if mcTable w then
    let s := if upset then failMc true i 2 s else s
    if (memberOf s i).parityFailed then mcDone w 3 (setMcData 0 s)
    else mcDone w 0 (setMcData ((memberOf s i).data + b2n (memberInUse s i) * 2 ^ 55) s)
  else if 8192 ≤ i then mcDone w 1 s
  else
    let s := if upset then failMc false i 2 s else s
    if (groupOf s i).parityFailed then mcDone w 3 (setMcData 0 s)
    else mcDone w 0 (setReg 0x4054 (BitVec.ofNat 32 (groupOf s i).data) s)

/-- FAB_MC_READ. -/
def execFabMcRead (value : Word) (upset : Bool) (s : State) : Host.Outcome State Fault Refusal := act (gatedWrite 0x4050 (mcRead value upset)) s

/-- The bits of the entries that are not reserved, IN_USE apart. -/
def groupMask : Nat := 2 ^ 24 - 1
def memberMask : Nat := 2 ^ 17 - 1 + (2 ^ 23 - 1) * 2 ^ 32

/-- FAB_MC_CMD WRITE (R293, R300). -/
def mcWrite (w : Word) (s : State) : State :=
  let i := mcIndex w
  let d := (reg s 0x4054).toNat + 2 ^ 32 * (reg s 0x4058).toNat
  if mcTable w then
    if memberInUse s i then mcDone w 2 s
    else mcDone w 0 (markDirty 1 (7 * 2 ^ 24 + i) (setMember i { data := d &&& memberMask } s))
  else
    let d := d &&& groupMask
    if 8192 ≤ i || (groupValid d && (groupCount d == 0 || 64 < groupCount d || 65536 < groupFirst d + groupCount d)) then mcDone w 1 s
    else
      let old := (groupOf s i).data
      let was := if groupValid old then groupMembers old else []
      let s := setGroup i { data := d } s
      let freed := was.filter (fun m => !coveredBy s m && !s.fabric.clearing.contains m)
      let s := { s with fabric := { s.fabric with clearing := s.fabric.clearing ++ freed } }
      mcDone w 0 (markDirty 1 (6 * 2 ^ 24 + i) s)

/-- FAB_MC_WRITE. -/
def execFabMcWrite (value : Word) (s : State) : Host.Outcome State Fault Refusal := act (gatedWrite 0x4050 (mcWrite value)) s

/-- MEMBER_IN_USE_CLEAR: 1 us after the last group that covered a member was changed (R293). -/
def execMemberInUseClear (member : Nat) (s : State) : Host.Outcome State Fault Refusal :=
  act (fun s => { s with fabric := { s.fabric with clearing := s.fabric.clearing.filter (· != member) } }) s

/-- MC_SCRUB: CPU_HK's scrub finds entries that fail parity, each as {member table, index} (R301). -/
def execMcScrub (found : List (Bool × Nat)) (s : State) : Host.Outcome State Fault Refusal :=
  act (fun s =>
    if hkUp s then found.foldl (fun s f => if f.1 || decide (f.2 < 8192) then failMc f.1 f.2 1 s else s) s else s) s

/-- MC_PARITY_RESTORE: CPU_HK rewrites a failed entry from its copy; without one it stays failed (R301). -/
def mcRestore (table : Bool) (index : Nat) (copy : Bool) (s : State) : State :=
  let e := if table then memberOf s index else groupOf s index
  if !hkUp s || !e.parityFailed then s
  else if !copy then raiseMcParity table index 2 0 s
  else
    let s := if table then setMember index { e with parityFailed := false } s else setGroup index { e with parityFailed := false } s
    raiseMcParity table index 0 0 s

/-- MC_PARITY_RESTORE. -/
def execMcParityRestore (member : Bool) (index : Nat) (copy : Bool) (s : State) : Host.Outcome State Fault Refusal :=
  act (mcRestore member index copy) s

/-! ## Host rings (R294 to R296, R302) -/

/-- A host ring. -/
def hostRing (s : State) (n : Nat) : HostRing :=
  match n with
  | 0 => s.fabric.ring0
  | 1 => s.fabric.ring1
  | 2 => s.fabric.ring2
  | _ => s.fabric.ring3

/-- Write a host ring. -/
def setHostRing (n : Nat) (v : HostRing) (s : State) : State :=
  match n with
  | 0 => { s with fabric := { s.fabric with ring0 := v } }
  | 1 => { s with fabric := { s.fabric with ring1 := v } }
  | 2 => { s with fabric := { s.fabric with ring2 := v } }
  | _ => { s with fabric := { s.fabric with ring3 := v } }

/-- The value that FAB_HRn_CTRL takes: its RW fields as written, its W1C bits cleared where written 1. -/
def ringBits (s : State) (n : Nat) (w : Word) (enable : Bool) : Word :=
  (w &&& 0x1ffffff2) ||| (reg s (ringCtrl n) &&& ~~~w &&& 0xc) ||| (if enable then 1 else 0)

/-- Whether FAB_HRn_CTRL may be enabled with a value. -/
def ringValid (s : State) (n : Nat) (w : Word) : Bool :=
  let log2 := bitsOf w.toNat 4 4
  let buf := bitsOf w.toNat 8 4
  let queue := bitsOf w.toNat 12 17
  4 ≤ log2 && log2 ≤ 12 && 11 ≤ buf && buf ≤ 14 && s.fabric.quota4 != 0 &&
    !([0, 1, 2, 3].any (fun m => m != n && ringEnabled s m && regField s (ringCtrl m) 12 17 == queue))

/-- FAB_HRn_CTRL written with ENABLE = 1 (R302). -/
def ringEnable (n : Nat) (w : Word) (s : State) : State :=
  if ringEnabled s n then setReg (ringCtrl n) (ringBits s n w true) s
  else if ringValid s n w then
    setHostRing n { hostRing s n with tail := 0, limit := 0, phase := true, stopped := false }
      (setReg (ringCtrl n) (ringBits s n w true) s)
  else setReg (ringCtrl n) (ringBits s n w false ||| 8) s

/-- FAB_HR_ENABLE. -/
def execFabHrEnable (ring : Nat) (value : Word) (s : State) : Host.Outcome State Fault Refusal :=
  act (fun s => if ring < 4 then gatedWrite (ringCtrl ring) (ringEnable ring value) s else s) s

/-- FAB_HRn_CTRL written with ENABLE = 0: QUEUE is unbound, and frames admitted toward the ring are dropped (R302). -/
def ringDisable (n : Nat) (w : Word) (s : State) : State :=
  let was := ringEnabled s n
  let leaf := regField s (ringCtrl n) 12 17
  let s := setReg (ringCtrl n) (ringBits s n w false) s
  if was then
    match leafOf s leaf with
    | none => s
    | some l => if l.state = .host then l.onDie.foldl (fun s f => fabOutCount 17 5 (discard f s)) s else s
  else s

/-- FAB_HR_DISABLE. -/
def execFabHrDisable (ring : Nat) (value : Word) (s : State) : Host.Outcome State Fault Refusal :=
  act (fun s => if ring < 4 then gatedWrite (ringCtrl ring) (ringDisable ring value) s else s) s

/-- FAB_HRn_LIMIT written: the descriptors before LIMIT are ready (R295). -/
def ringLimit (n : Nat) (w : Word) (s : State) : State := setHostRing n { hostRing s n with limit := bitsOf w.toNat 0 12 } s

/-- FAB_HR_LIMIT_WRITE. -/
def execFabHrLimitWrite (ring : Nat) (value : Word) (s : State) : Host.Outcome State Fault Refusal :=
  act (fun s => if ring < 4 then gatedWrite (ringCtrl ring + 4) (ringLimit ring value) s else s) s

/-- One bit of the reflected CRC-32 of IEEE 802.3. -/
def fcsBit (c : Nat) : Nat := if c % 2 = 1 then (c / 2) ^^^ 0xedb88320 else c / 2

/-- The FCS of a frame, as its four wire bytes (PRESUMED, IEEE 802.3; notes/assumptions/4). -/
def fcsBytes (raw : Bytes) : Bytes :=
  leBytes 4 ((raw.foldl (fun c b => fcsBit (fcsBit (fcsBit (fcsBit (fcsBit (fcsBit (fcsBit (fcsBit (c ^^^ b.toNat))))))))) 0xffffffff) ^^^ 0xffffffff)

/-- Bytes 8 to 31 of a ring's descriptor (R295). -/
def descriptor (f : Frame) (phase : Bool) : Bytes :=
  let reason := match f.fault with | .none => 0 | .icv => 1 | .fcs => 2
  leBytes 2 (f.raw.length + 4) ++
    leBytes 1 (b2n phase + b2n (f.fault != .none) * 2 + reason * 4 + b2n (decide (64 ≤ f.ingress)) * 16) ++
    leBytes 1 (f.ingress % 64) ++ leBytes 4 f.time ++ leBytes 4 f.selector ++ leBytes 4 (if f.rxSa.isSome then f.rxSc else 0) ++
    leBytes 8 0

/-- FAB_HOST_FRAMES (R296): at once outside a window, else with the window's next event. -/
def tellHostFrames (n k : Nat) (s : State) : State :=
  let r := hostRing s n
  post 0 { mkEvent s 0x0705 0 0 n (detailOf [(20, r.tail)]) with count := min 0xffff k }
    (setHostRing n { r with windowCount := 0, windowRuns := true } s)

/-- A frame is written to its ring (R295, R296): the frame, then the descriptor. -/
def writeHostFrame (n buf : Nat) (fid : Nat) (f : Frame) (ok : Bool) (s : State) : State :=
  let r := hostRing s n
  let size := 2 ^ regField s (ringCtrl n) 4 4
  if !ok then
    fabOutCount 17 5 (discard fid (setHostRing n { r with stopped := true } (regOr (ringCtrl n) 4 s)))
  else
    let s := emit (.busWrite buf (f.raw ++ fcsBytes f.raw)) s
    let s := emit (.busWrite (busBase s (0x4100 + 0x20 * n) + 32 * r.tail + 8) (descriptor f r.phase)) s
    let tail := (r.tail + 1) % size
    let s := setHostRing n { r with tail, phase := if tail = 0 then !r.phase else r.phase, windowCount := r.windowCount + 1 } s
    let s := discard fid (fabOutCount 17 7 s)
    if (hostRing s n).windowRuns then s else tellHostFrames n 1 s

/-- The next frame of a ring's leaf leaves it: delivered, or dropped (R296; 16 R472). -/
def deliverHost (n buf : Nat) (ok : Bool) (s : State) : State :=
  let r := hostRing s n
  let leaf := regField s (ringCtrl n) 12 17
  if !ringEnabled s n || r.stopped || pairFollows s || !leafReady s leaf then s
  else
    match leafOf s leaf with
    | none => s
    | some l =>
      match l.onDie with
      | [] => s
      | fid :: _ =>
        match frameOf s fid with
        | none => s
        | some f =>
          let s := modLeaf leaf (fun l => { l with onDie := l.onDie.filter (· != fid) }) s
          let s := schCount 128 4 (chargeNode (leafNode leaf) (f.raw.length + 4) s)
          if tamperLock s then discard fid (squelchDrop s)
          else if r.tail = r.limit then discard fid (fabOutCount 17 5 s)
          else if 2 ^ regField s (ringCtrl n) 8 4 < f.raw.length + 4 then discard fid (fabOutCount 17 6 s)
          else writeHostFrame n buf fid f ok s

/-- HOST_FRAME_DELIVER. `buf`: BUF_ADDR of the descriptor at TAIL; `ok`: the writes succeed on PCIe. -/
def execHostFrameDeliver (ring buf : Nat) (ok : Bool) (s : State) : Host.Outcome State Fault Refusal :=
  act (fun s => if ring < 4 then deliverHost ring buf ok s else s) s

/-- FAB_HOST_FRAMES_WINDOW: a ring's 1 ms window ends (R296). -/
def execFabHostFramesWindow (ring : Nat) (s : State) : Host.Outcome State Fault Refusal :=
  act (fun s =>
    if ring < 4 && (hostRing s ring).windowRuns then
      let k := (hostRing s ring).windowCount
      if k = 0 then setHostRing ring { hostRing s ring with windowRuns := false } s else tellHostFrames ring k s
    else s) s

/-! ## Audits (R297, R299) -/

/-- Cells held in classes, and cells on the free list. -/
def heldCells (s : State) : Nat := ([0, 1, 2, 3, 4].map (fun c => cellsFor (classWords s c))).foldl (· + ·) 0
def freeCells (s : State) : Nat := 131072 - heldCells s - s.fabric.leaked

/-- FAB_AUDIT_PERIOD: CPU_HK compares its counts; a mismatch starts a sweep. -/
def execFabAuditPeriod (s : State) : Host.Outcome State Fault Refusal :=
  act (fun s =>
    if hkUp s && regBit s 0x4004 16 && s.fabric.sweep.isNone then
      let s := fabDevCount 1 1 s
      if s.fabric.leaked = 0 then s else { s with fabric := { s.fabric with sweep := some 0 } }
    else s) s

/-- A sweep ends: the cells that nothing holds return to the free list. -/
def sweepEnd (cause : Nat) (s : State) : State :=
  let n := s.fabric.leaked
  let s := { s with fabric := { s.fabric with sweep := none, leaked := 0, lastReturned := n } }
  let s := if n = 0 then s else
    raiseHeld 0 0x0701 1 0 (detailOf [(20, n), (24, cause)]) (regOr 0x4008 0x80000000 (fabDevCount 0 n s))
  completeRunning (fun r => r.isOp 0x0702)
    (fun r => { status := stOk, result := (match r.reply with | some p => p.result | none => 0) + resultOf [(12, n)] }) s

/-- FAB_SWEEP_END. -/
def execFabSweepEnd (s : State) : Host.Outcome State Fault Refusal :=
  act (fun s =>
    match s.fabric.sweep with
    | some cause => if hkUp s then sweepEnd cause s else s
    | none => s) s

/-- FAB_AUDIT (R299). -/
def specFabAudit : OpSpec where
  opcode := 0x0702
  cls := .b
  privilege := .p
  fields := fun _ => [⟨8, 0, 1⟩]
  effect := fun c s =>
    if s.fabric.sweep.isSome then (s, .wait .work)
    else
      let s := fabDevCount 1 1 s
      if c.flag 8 0 || s.fabric.leaked != 0 then ({ s with fabric := { s.fabric with sweep := some 2 } }, .wait .work)
      else (s, ok (resultOf [(8, heldCells s)]))

/-- A waiting FAB_AUDIT keeps the held cells of its latch. -/
def latchAudit (c : Cmd) (held : Nat) (s : State) : State :=
  { s with running := s.running.map (fun r =>
      if r.cmd = c ∧ r.isOp 0x0702 then { r with reply := some { status := stOk, result := resultOf [(8, held)] } } else r) }

/-- FAB_AUDIT. -/
def execFabAudit (c : Cmd) (s : State) : Host.Outcome State Fault Refusal :=
  act (fun s => if s.cmdReady then latchAudit c (heldCells s) (runOp specFabAudit c s) else s) s

/-! ## FAB_BUFFER_PARTITION (R298) -/

/-- FAB_BUFFER_PARTITION. -/
def specFabBufferPartition : OpSpec where
  opcode := 0x0701
  cls := .b
  privilege := .p
  fields := fun _ => [⟨8, 0, 17⟩, ⟨12, 0, 17⟩, ⟨16, 0, 17⟩, ⟨20, 0, 17⟩, ⟨24, 0, 17⟩, fld 28 2]
  own := fun c _ =>
    [(124928 < c.get ⟨8, 0, 17⟩ + c.get ⟨12, 0, 17⟩ + c.get ⟨16, 0, 17⟩ + c.get ⟨20, 0, 17⟩ + c.get ⟨24, 0, 17⟩, 8),
     (c.u16 28 != 0 && (c.u16 28 < 64 || 16384 < c.u16 28), 28)]
  badState := fun c s =>
    (c.u32 24 == 0 && [0, 1, 2, 3].any (ringEnabled s)) || (c.u32 20 < 512 && rsvSpilling s)
  effect := fun c s =>
    let s := { s with fabric := { s.fabric with
      quota0 := c.u32 8, quota1 := c.u32 12, quota2 := c.u32 16, quota3 := c.u32 20, quota4 := c.u32 24
      expressLimit := if c.u16 28 = 0 then 1024 else c.u16 28 } }
    (s, ok (resultOf [(8, freeCells s)]))

/-- FAB_BUFFER_PARTITION. -/
def execFabBufferPartition (c : Cmd) (s : State) : Host.Outcome State Fault Refusal := hostOp specFabBufferPartition c s

end Sys2Proof.Machine
end

