-- ==== Sys2Proof/Machine/PairLink.lean ====
section
/-!
DEFINITION. The pair link (12_redundant_pair R370 to R388): messages, the items of MIRROR, the states of a device, claims, held heads,
and the active device's log.
-/
namespace Sys2Proof.Machine

open Sys2Proof

/-! ## Numbers on the wire -/

/-- CRC-16 with polynomial 1021h and initial value FFFFh (R379 CHECKS). -/
def crc16Bit (c : Nat) : Nat := if bitOf c 15 then (2 * c % 65536) ^^^ 0x1021 else 2 * c
def crc16 (bs : Bytes) : Nat :=
  bs.foldl (fun c b => crc16Bit (crc16Bit (crc16Bit (crc16Bit (crc16Bit (crc16Bit (crc16Bit (crc16Bit (c ^^^ (b.toNat * 256)))))))))) 0xffff

/-- Fields of a width, the first in the highest bits. -/
def packFields (width : Nat) (vs : List Nat) : Nat := vs.foldl (fun n v => n * 2 ^ width + v % 2 ^ width) 0

/-- Zero padding to a multiple of 8 bytes. -/
def pad8 (bs : Bytes) : Bytes := bs ++ List.replicate ((8 - bs.length % 8) % 8) 0

/-- How far a slot or sequence number lies behind another, modulo 2^32. -/
def behind (a b : Nat) : Nat := (b + 2 ^ 32 - a % 2 ^ 32) % 2 ^ 32
/-- Whether a slot or sequence number is reached by another. -/
def reached (a b : Nat) : Bool := behind a b < 2 ^ 31

/-! ## Messages out (R379, R380, R384) -/

/-- A message with its header. -/
def pairMessage (type seq : Nat) (body : Bytes) : Bytes :=
  beBytes 1 type ++ beBytes 1 0 ++ beBytes 2 (8 + body.length) ++ beBytes 4 seq ++ body

/-- The newest messages that fit in a number of bytes, newest first. -/
def keepBytes : Nat → List (Nat × Bytes) → List (Nat × Bytes)
  | _, [] => []
  | room, m :: rest => if m.2.length ≤ room then m :: keepBytes (room - m.2.length) rest else []

/-- Send a message on the pair link; the last 64 KiB are kept. -/
def sendPair (type : Nat) (body : Bytes) (s : State) : State :=
  let m := pairMessage type s.pair.seqTx body
  let s := modPair (fun p => { p with
    seqTx := (p.seqTx + 1) % 2 ^ 32, sent := keepBytes 65536 ((p.seqTx, m) :: p.sent) }) s
  pairCount 0 (emit (.message 0 m) s)

/-- The code of a state (R371). -/
def PairMode.code : PairMode → Nat
  | .off => 0
  | .sync => 1
  | .standby => 2
  | .active => 3
  | .alone => 4
  | .isolated => 5

/-- CPU_CTL and CPU_ACC answer their watchdog (R380 FW_ALIVE). -/
def fwAlive (s : State) : Bool := s.watchdog.ctl.up && s.watchdog.acc.up

/-- Whether this device announces a handover (R393, R397). -/
def announces (s : State) : Bool := s.pair.handover.isSome && (s.pair.mode == .active || s.pair.handBack)

/-- The nonce that STATUS carries (R380). -/
def nonceField (s : State) : Bytes :=
  if (s.pair.mode == .sync || (s.pair.source && s.pair.stage != .none)) && s.pair.nonceOwn != [] then s.pair.nonceOwn
  else List.replicate 32 0

/-- Send STATUS (R380). -/
def sendStatus (s : State) : State :=
  if s.pair.mode = .off then s
  else
    let p := s.pair
    let flags := p.mode.code + 8 * b2n p.faultSent + 16 * b2n (fwAlive s) + 32 * b2n p.discarding + 64 * b2n (announces s)
    sendPair 3 (beBytes 8 s.boot.deviceId ++ beBytes 1 flags ++ beBytes 1 0 ++ beBytes 2 p.claim ++ beBytes 4 p.seqRx ++
      beBytes 4 (if announces s then p.handover.getD 0 else 0) ++ beBytes 4 0 ++ nonceField s) s

/-- Resend the messages from ACK_SEQ on (R384), none where it is no longer kept. -/
def resendPair (ack : Nat) (s : State) : Option State :=
  let due := (s.pair.sent.filter (fun m => reached ack m.1)).reverse
  if ack ≠ s.pair.seqTx ∧ !s.pair.sent.any (fun m => m.1 == ack) then none
  else some (due.foldl (fun s m => pairCount 3 (emit (.message 0 (m.2.take 1 ++ beBytes 1 1 ++ m.2.drop 2)) s)) s)

/-- Draw this device's nonce, where the entropy unit serves (R380). -/
def drawNonce (s : State) : State :=
  if entServes s 1 then
    let (n, s) := drawFree 256 (entServe 1 32 s)
    modPair (fun p => { p with nonceOwn := beBytes 32 n }) s
  else s

/-! ## MIRROR out (R381, R382) -/

/-- An SC entry in its layout (05 R146); zero for none. -/
def scBytes (s : State) (n : Nat) : Bytes :=
  match scOf s n with
  | none => List.replicate 32 0
  | some c =>
    let slot (x : Option Nat) : Bytes := leBytes 3 (match x with | some a => a + 2 ^ 18 | none => 0)
    leBytes 8 c.sci ++ slot c.slot0 ++ slot c.slot1 ++ slot c.slot2 ++ slot c.slot3 ++
      leBytes 1 (1 + 2 * b2n c.receive + 4 * c.suite + 16 * c.co + 64 * b2n c.replayProtect + 128 * b2n c.accord) ++
      leBytes 1 (c.encAn % 4 + 4 * b2n c.includeSci + 8 * b2n c.es + 16 * b2n c.scb + 32 * c.tagsInClear) ++
      leBytes 1 c.tenant ++ leBytes 1 c.port ++ leBytes 4 c.replayWindow ++ leBytes 2 c.overlap ++
      leBytes 1 (c.nextAn + 4 * b2n c.armedPn + 8 * b2n c.armedTime) ++ leBytes 1 0

/-- The SC that an entry's bytes describe, none where VALID is 0. A first Accord entry whose encoding slot is empty has none. -/
def scFromBytes (b : Bytes) : Option Sc :=
  let slot (off : Nat) : Option Nat := let v := leAt b off 3; if bitOf v 18 then some (v % 2 ^ 18) else none
  let w := leAt b 20 2
  if !bitOf w 0 then none
  else
    let c : Sc :=
      { sci := leAt b 0 8, slot0 := slot 8, slot1 := slot 11, slot2 := slot 14, slot3 := slot 17, receive := bitOf w 1
        suite := bitsOf w 2 2, co := bitsOf w 4 2, replayProtect := bitOf w 6, accord := bitOf w 7, encAn := bitsOf w 8 2
        includeSci := bitOf w 10, es := bitOf w 11, scb := bitOf w 12, tagsInClear := bitsOf w 13 2
        tenant := leAt b 22 1 % 32, port := leAt b 23 1 % 64, replayWindow := leAt b 24 4, overlap := leAt b 28 2
        nextAn := leAt b 30 1 % 4, armedPn := bitOf (leAt b 30 1) 2, armedTime := bitOf (leAt b 30 1) 3 }
    some (if c.accord && !c.receive && (c.slot c.encAn).isNone then { c with encAn := 4 } else c)

/-- An SA entry in its layout (05 R147) with HASH_KEY and CHECK left to the receiver; `pn` in place of NEXT_PN where given. -/
def saBytes (s : State) (n : Nat) (pn : Option Nat) : Bytes :=
  match saOf s n with
  | none => List.replicate 96 0
  | some a =>
    let flags := b2n (!a.draining) + 2 * b2n a.receive + 4 * b2n a.key128 + 8 * b2n a.accord + 16 * b2n a.exhausted +
      32 * b2n a.retiring + 64 * b2n a.statsIncomplete + 128 * b2n a.failed + 2 ^ 8 * (a.parentSlot % 2 ^ 14) +
      2 ^ 22 * b2n a.parentIsRoot + 2 ^ 23 * (a.parentGen % 2 ^ 32) + 2 ^ 55 * a.an + 2 ^ 57 * b2n a.failedOrphan
    leBytes 32 a.key ++ leBytes 16 0 ++ leBytes 8 (pn.getD a.nextPn) ++ leBytes 8 a.low ++ leBytes 12 a.salt ++ leBytes 4 a.ssci ++
      leBytes 8 flags ++ leBytes 8 0

/-- The SA that an entry's bytes describe, none where VALID is 0; `sc` is the SC whose slot names it. -/
def saFromBytes (b : Bytes) (sc : Nat) : Option Sa :=
  let w := leAt b 80 8
  if !bitOf w 0 then none
  else some
    { key := leAt b 0 32, nextPn := leAt b 48 8, low := leAt b 56 8, salt := leAt b 64 12, ssci := leAt b 76 4
      receive := bitOf w 1, key128 := bitOf w 2, accord := bitOf w 3, exhausted := bitOf w 4, retiring := bitOf w 5
      statsIncomplete := bitOf w 6, failed := bitOf w 7, parentSlot := bitsOf w 8 14, parentIsRoot := bitOf w 22
      parentGen := bitsOf w 23 32, an := bitsOf w 55 2, failedOrphan := bitOf w 57, sc }

/-- Bytes 0 to 55 of an Attar slot (08 R246), then 8 zero bytes. -/
def slotBytes (v : Slot) : Bytes :=
  leBytes 32 v.key ++ leBytes 1 (v.type + 16 * b2n v.persist) ++ leBytes 1 v.usage ++ leBytes 1 v.tenant ++ leBytes 1 0 ++
    leBytes 2 v.parent ++ leBytes 2 0 ++ leBytes 4 v.parentGen ++ leBytes 4 v.gen ++ leBytes 8 v.label ++ leBytes 8 0

/-- The slot that bytes 0 to 55 describe. -/
def slotFromBytes (b : Bytes) : Slot :=
  { key := leAt b 0 32, type := leAt b 32 1 % 16, persist := bitOf (leAt b 32 1) 4, usage := leAt b 33 1 % 16
    tenant := leAt b 34 1 % 32, parent := leAt b 36 2, parentGen := leAt b 40 4, gen := leAt b 44 4, label := leAt b 48 8 }

/-- The 128-byte peer record of KIND 5; what is left of a peer's timers is not part of the model's state and is free. -/
def peerItem (pi : Nat) (s : State) : Bytes × State :=
  match peerOf s pi with
  | none => (List.replicate 128 0, s)
  | some p =>
    let own := match commOf s p.community with | some c => c.seqs.get 0 p.port | none => 0
    let (hold, s) := drawFree 32 s
    let (suppress, s) := drawFree 32 s
    let (backoff, s) := drawFree 32 s
    (peerRecord s pi p ++ leBytes 4 p.seq ++ leBytes 4 own ++ leBytes 4 (if p.state = .lost then hold else 0) ++
      leBytes 4 (if p.state = .suppressed then suppress else 0) ++ leBytes 4 (if p.backoff.isSome then max 1 backoff else 0) ++
      leBytes 1 p.timeouts ++ leBytes 1 p.community ++ leBytes 2 p.helloMs ++ leBytes 40 0, s)

/-- The generations record of KIND 7. -/
def generationsItem (s : State) : Bytes :=
  leBytes 4 s.attar.rootGen ++ leBytes 4 s.attar.domainGen ++ leBytes 4 (s.accord.epoch.getD 0) ++ beBytes 6 (portMac s 0) ++ leBytes 6 0

/-- The bytes of a selector or multicast entry (R382 KIND 1). -/
def mirrorEntry (s : State) (table idx : Nat) : Bytes :=
  match table with
  | 4 => leBytes 32 (selEntry s 4 idx).data
  | 6 => leBytes 8 (groupOf s idx).data
  | 7 => leBytes 8 (memberOf s idx).data
  | t => leBytes 16 (selEntry s t idx).data

/-- The data of an item of KIND 1 to 5 or 7 as the object stands. -/
def itemData (kind index : Nat) (s : State) : Bytes × State :=
  match kind with
  | 1 => (mirrorEntry s (index / 2 ^ 24) (index % 2 ^ 24), s)
  | 2 => (scBytes s index, s)
  | 3 => (saBytes s index none, s)
  | 4 => (slotBytes (slotOf s index), s)
  | 5 => peerItem index s
  | _ => (generationsItem s, s)

/-- An item with its header. -/
def itemBytes (apply : Option Nat) (kind index : Nat) (data : Bytes) : Bytes :=
  let d := pad8 data
  beBytes 1 kind ++ beBytes 1 0 ++ beBytes 2 (16 + d.length) ++ beBytes 4 index ++ beBytes 4 (apply.getD 0xffffffff) ++ beBytes 4 0 ++ d

/-- Encrypt items and send them in one MIRROR message (R381). -/
def sendMirror (items : Bytes) (s : State) : State :=
  match s.pair.session with
  | none => s
  | some k =>
    let n := s.pair.mirrorTx + 1
    let aad := (pairMessage 2 s.pair.seqTx (beBytes 8 n ++ items ++ List.replicate 16 0)).take 16
    sendPair 2 (beBytes 8 n ++ Config.gcmSeal k n aad items) (modPair (fun p => { p with mirrorTx := n }) s)

/-- Send one item. -/
def sendItem (apply : Option Nat) (kind index : Nat) (data : Bytes) (s : State) : State :=
  sendMirror (itemBytes apply kind index data) s

/-- Send the items of a list of objects as they stand. -/
def sendObjects (apply : Option Nat) (objects : List (Nat × Nat)) (s : State) : State :=
  objects.foldl (fun s o =>
    let (d, s) := itemData o.1 o.2 s
    sendItem apply o.1 o.2 d s) s

/-- Send commands as KIND 6 items. -/
def sendCommands (apply : Option Nat) (cs : List Cmd) (s : State) : State :=
  cs.foldl (fun s c => sendItem apply 6 0 (leBytes 64 c.packet.toNat ++ c.payload) s) s

/-! ## Claims (R385) -/

/-- Send a CLAIM on a line port. -/
def sendClaim (port : Nat) (s : State) : State :=
  let p := s.pair
  let body := beBytes 8 s.boot.deviceId ++ beBytes 8 p.partnerId ++ beBytes 2 p.claim ++
    beBytes 1 (b2n (p.mode == .active || p.mode == .alone)) ++ beBytes 5 0
  (sendMessage p.community port s.accord.groupMac 6 0 [] body s).2

/-- A CLAIM on every line port that is up and not gated. -/
def sendClaims (s : State) : State :=
  if s.pair.mode = .off then s
  else (List.range 64).foldl (fun s p => if mayTransmit s (64 + p) then sendClaim p s else s) s

/-! ## Held heads and tails (R373, R374, R377) -/

/-- Heads in canonical order: by port, each port's in arrival order. -/
def canonical (hs : List HeldHead) : List HeldHead := ((List.range 128).map (fun p => hs.filter (fun h => h.port == p))).flatten

/-- A tail settles: a client or a line frame's. A frame that the port has begun to receive since stays. -/
def settleAs (fid : Nat) (rest : Bytes) (fcs icv : Bool) (s : State) : State :=
  match frameOf s fid with
  | none => s
  | some f =>
    let cur := s.fabric.rx.find f.ingress
    let s := if f.ingress < 64 then clientTail fid rest fcs s else lineTailAs fid rest fcs icv s
    match cur with
    | some g => if g = fid then s else { s with fabric := { s.fabric with rx := s.fabric.rx.set f.ingress g } }
    | none => s

/-- Decide a head, with the partner's verdict at the standby; a tail that has come follows it. -/
def decideHeld (follow : Option Nat) (h : HeldHead) (s : State) : State :=
  let s := if h.port < 64 then clientDecide h follow s else lineDecide h follow s
  match h.tail, s.fabric.rx.find h.port with
  | some (rest, fcs), some fid =>
    if follow.isSome then
      modPair (fun p => { p with tails := p.tails ++ [{ fid, slot := p.slot, rest, fcs }] }) (endRx h.port s)
    else settleAs fid rest fcs true s
  | _, _ => s

/-- The device decides every head it holds itself. -/
def decideAll (s : State) : State :=
  let hs := canonical s.pair.held
  serveRekeyDue (hs.foldl (fun s h => decideHeld none h s) (modPair (fun p => { p with held := [] }) s))

/-- A held tail settles with the exception that names its frame, if one has come (R377). Reasons 0 and 2 fail the FCS, 1 the ICV; the
frame of another one is dropped. -/
def settleTail (t : HeldTail) (s : State) : State :=
  match frameOf s t.fid with
  | none => s
  | some f =>
    let is (e : Exc) : Bool := e.kind == 1 && e.port == f.ingress && e.frame == f.inNo % 65536 && bitsOf e.data 32 4 != 6
    match takeFirst is s.pair.told with
    | none => settleAs t.fid t.rest t.fcs true s
    | some (e, rest) =>
      let s := modPair (fun p => { p with told := rest }) s
      let r := bitsOf e.data 32 4
      let s := settleAs t.fid t.rest (t.fcs && r != 0 && r != 2) (r != 1) s
      if 3 ≤ r then dropWhole t.fid s else s

/-- Lockstep ends: held tails settle as they are, and what the log told is forgotten. -/
def endFollowing (s : State) : State :=
  let ts := s.pair.tails
  let s := ts.foldl (fun s t => settleTail t s) (modPair (fun p => { p with tails := [] }) s)
  modPair (fun p => { p with told := [], waitRuns := [], unfollowed := none }) s

/-! ## States (R371, R386) -/

/-- Line transmitters that are squelched now cut off what they send (R386, 03 R93). -/
def cutSquelched (s : State) : State :=
  (List.range 64).foldl (fun s p =>
    let q := 64 + p
    let loops := match portOf s q with | some v => v.nearLoop | none => false
    if squelched s q && !loops && (egressOf s q).tx.isSome then cutTx q s else s) s

/-- Enter a state: PAIR_STATE, PAIR_ACTIVE (R370), gating, STATUS and CLAIM. -/
def enterPair (m : PairMode) (s : State) : State :=
  let old := s.pair.mode
  if old = m then s
  else
    let s := modPair (fun p => { p with mode := m }) s
    let s := raiseHeld 0 0x0901 0 0 (detailOf [(20, m.code), (21, old.code)]) s
    let s := driveLed 2 (m == .active || m == .alone) (driveAll 6 (m == .active || m == .alone) s)
    sendClaims (sendStatus (cutSquelched s))

/-- What a session leaves behind. -/
def clearSession (s : State) : State :=
  modPair (fun p => { p with
    stage := .none, source := false, session := none, nonceOwn := [], nonceTheirs := [], mirrorTx := 0, mirrorRx := 0, cutIn := none
    records := [], leads := [], cuts := [], items := [], orders := [], heads := [], runs := [], excs := [], dirty := [], commands := []
    prePending := false, retry := false }) s

/-- A PAIR_EXERCISE that waits completes. -/
def endExercise (status : Nat) (s : State) : State :=
  let us := match s.pair.handover with | some _ => (s.tick - s.pair.startedTick) * 8 / 5000 | none => 0
  completeRunning (fun r => r.isOp 0x0903 && r.wait == .work)
    (fun _ => { status, result := if status = stOk then resultOf [(8, us), (12, s.pair.mode.code)] else 0 }) s

/-- Enter SYNC (R371): lockstep ends, line transmitters are gated, the message counter starts at 0 and a nonce is drawn. -/
def enterSync (s : State) : State :=
  let s := clearSession (endFollowing (endExercise stFault s))
  let s := modPair (fun p => { p with
    seqTx := 0, sent := [], seqFresh := true, discarding := false, handover := none, handBack := false, roundTrip := false
    startedMs := msNow s }) s
  enterPair .sync (drawNonce s)

/-- The standby leaves lockstep with PAIR_SYNC_LOST (R373, R400). -/
def syncLost (cause : Nat) (s : State) : State :=
  enterSync (raiseHeld 0 0x0903 2 0 (detailOf [(20, cause)]) (pairCount 6 s))

/-- The active device loses its partner (R371): PAIR_PARTNER_LOST, and it carries on ALONE. A handover not reached fails. -/
def partnerLost (cause : Nat) (s : State) : State :=
  let s := raiseHeld 0 0x0904 1 0 (detailOf [(20, cause)]) (endExercise stFault s)
  let s := clearSession (modPair (fun p => { p with handover := none, handBack := false, partnerMode := none }) s)
  enterPair .alone (decideAll s)

/-- This device declares a fault (R388): in ACTIVE it tells its partner and gates its line transmitters in SYNC (R371). -/
def declareFault (s : State) : State :=
  if s.pair.mode = .off then s
  else
    let s := sendStatus (modPair (fun p => { p with faultSent := true }) s)
    if s.pair.mode = .active then enterSync (endExercise stFault (decideAll s)) else s

/-- A resynchronisation is abandoned (R391); it is tried again after 1 s. -/
def resyncFail (s : State) : State := modPair (fun p => { p with retry := true }) (clearSession s)

/-! ## The log (R373, R379) -/

/-- ORDER's CHECKS: for each ingress pipe the CRC-16 over bytes 0 to 11 of its heads in order. -/
def checksOf (hs : List (Nat × Bytes)) : List Nat :=
  (List.range 16).map (fun i => crc16 (((hs.filter (fun h => (if h.1 < 64 then h.1 / 8 else 8 + (h.1 - 64) / 8) == i)).map (fun h => h.2.take 12)).flatten))

/-- ORDER's HEADS: counts by port. -/
def countsOf (ports : List Nat) : List Nat := (List.range 128).map (fun p => (ports.filter (· == p)).length)

/-- ORDER's body for the slot in progress. -/
def orderBody (p : Pair) : Bytes :=
  let vs := p.heads.map (fun h => h.2.1)
  let vlen := (2 * vs.length + 63) / 64 * 8
  beBytes 4 p.slot ++ beBytes 2 p.runs.length ++ beBytes 2 p.excs.length ++
    beBytes 96 (packFields 6 (countsOf (p.heads.map (·.1)))) ++
    beBytes 32 (packFields 16 (checksOf (p.heads.map (fun h => (h.1, h.2.2))))) ++
    beBytes vlen (packFields 2 vs * 2 ^ (8 * vlen - 2 * vs.length)) ++
    pad8 ((p.runs.map (fun r => beBytes 4 (r.1 * 2 ^ 25 + r.2.1 * 2 ^ 8 + r.2.2 * 4))).flatten) ++
    (p.excs.map (fun e => beBytes 8 (e.kind * 2 ^ 60 + e.port * 2 ^ 53 + e.frame * 2 ^ 37 + e.data))).flatten

/-- Heads of a slot join the cut-in records (R391 step 4): up to 16 of each port. -/
def gatherCuts (slot : Nat) (heads : List (Nat × Nat × Bytes)) (cuts : List (Nat × Nat × Nat × Bytes)) : List (Nat × Nat × Nat × Bytes) :=
  heads.foldl (fun cs h =>
    if cs.any (fun c => c.1 == h.1) then
      cs.map (fun c => if c.1 = h.1 ∧ c.2.2.1 < 16 then (c.1, c.2.1, c.2.2.1 + 1, c.2.2.2 ++ h.2.2) else c)
    else cs ++ [(h.1, slot, 1, h.2.2)]) cuts

/-- A cut-in record (R382 KIND 8). -/
def cutRecord (c : Nat × Nat × Nat × Bytes) : Bytes := leBytes 4 c.2.1 ++ leBytes 4 (crc32c c.2.2.2) ++ leBytes 1 c.2.2.1 ++ leBytes 7 0

/-- The source's cut-in records of a slot: those whose 16 heads are complete, and 1 ms after the cut-in slot the rest. -/
def sendCuts (s : State) : State :=
  match s.pair.cutIn with
  | none => s
  | some at_ =>
    let p := s.pair
    let cuts := gatherCuts p.slot p.heads p.cuts
    let full := cuts.filter (fun c => c.2.2.1 == 16 && !(p.cuts.any (fun d => d.1 == c.1 && d.2.2.1 == 16)))
    let s := full.foldl (fun s c => sendItem (some at_) 8 c.1 (cutRecord c) s) (modPair (fun p => { p with cuts }) s)
    if 15625 ≤ behind at_ p.slot then
      let rest := (List.range 128).filterMap (fun k =>
        match cuts.find? (fun c => c.1 == k) with
        | some c => if c.2.2.1 = 16 then none else some c
        | none => some (k, 0xffffffff, 0, []))
      let s := rest.foldl (fun s c =>
        sendItem (some at_) 8 c.1 (if c.2.2.1 = 0 then leBytes 4 0xffffffff ++ leBytes 12 0 else cutRecord c) s) s
      modPair (fun p => { p with cutIn := none, cuts := [] }) s
    else s

/-- Frames from before the cut-in slot are gone: PRE_PENDING is cleared (R391 step 6). -/
def reviewEarly (s : State) : State :=
  if s.pair.prePending && !s.fabric.frames.cells.any (fun c => c.2.early) then
    raiseHeld 0 0x0901 0 0 (detailOf [(20, s.pair.mode.code), (21, s.pair.mode.code)]) (modPair (fun p => { p with prePending := false }) s)
  else s

/-- PAIR_SLOT_END (R373, R374, R381, R383): the changes made since the last slot are mirrored, the heads of the slot are decided in
canonical order, and ORDER tells them, the releases and the exceptions. -/
def slotEnd (s : State) : State :=
  match s.pair.mode with
  | .off => s
  | .active =>
    let s := sendObjects (some s.pair.slot) s.pair.dirty s
    let s := sendCommands (some s.pair.slot) s.pair.commands s
    let s := decideAll (modPair (fun p => { p with dirty := [], commands := [] }) s)
    let s := sendCuts (sendPair 1 (orderBody s.pair) s)
    reviewEarly (modPair (fun p => { p with slot := (p.slot + 1) % 2 ^ 32, heads := [], runs := [], excs := [] }) s)
  | .standby => s
  | _ => modPair (fun p => { p with slot := (p.slot + 1) % 2 ^ 32 }) s

/-- PAIR_SLOT_END. -/
def execPairSlotEnd (s : State) : Host.Outcome State Fault Refusal := act slotEnd s

/-! ## Timers (R370, R371, R380, R385, R393) -/

/-- Whether the condition of a declared fault lasts (R388): a tamper response of rank SQUELCH or higher, or a lost root PLL lock. -/
def faultLasts (s : State) : Bool := tamperLock s || !s.power.rootLock

/-- PAIR_STATUS_INTERVAL (R380): every 1 us. -/
def statusInterval (s : State) : State :=
  if s.pair.mode = .off then s
  else
    let s := modPair (fun p => { p with faultSent := p.faultSent && faultLasts s }) s
    let needs := s.pair.nonceOwn == [] && !s.pair.retry && (s.pair.mode == .sync || (s.pair.source && s.pair.stage != .none))
    sendStatus (if needs then drawNonce s else s)

/-- PAIR_STATUS_INTERVAL. -/
def execPairStatusInterval (s : State) : Host.Outcome State Fault Refusal := act statusInterval s

/-- PAIR_ALIVE_TOGGLE (R370): the pin toggles while the data path runs. `partner`: the partner's pin has toggled since. -/
def execPairAliveToggle (partner : Bool) (s : State) : Host.Outcome State Fault Refusal :=
  act (fun s =>
    let s := modPair (fun p => { p with aliveIn := p.aliveIn || (partner && p.mode != .off) }) s
    if s.power.rootLock then driveAll 4 (!s.pair.aliveOut) (modPair (fun p => { p with aliveOut := !p.aliveOut }) s) else s) s

/-- PAIR_RESYNC_RETRY (R371): 1 s after a failed resynchronisation a device in SYNC tries again. -/
def resyncRetry (s : State) : State :=
  if s.pair.mode = .sync ∧ s.pair.retry then sendStatus (drawNonce (modPair (fun p => { p with retry := false }) s)) else s

/-- PAIR_RESYNC_RETRY. -/
def execPairResyncRetry (s : State) : Host.Outcome State Fault Refusal := act resyncRetry s

/-- PAIR_DWELL_EXPIRY (R393): the device that handed the active role over asks for it back, at a slot at least 2 ahead. -/
def dwellExpiry (s : State) : State :=
  if s.pair.roundTrip ∧ s.pair.mode = .standby then
    sendStatus (modPair (fun p => { p with handBack := true, roundTrip := false, handover := some ((p.slot + 2) % 2 ^ 32) }) s)
  else s

/-- PAIR_DWELL_EXPIRY. -/
def execPairDwellExpiry (s : State) : Host.Outcome State Fault Refusal := act dwellExpiry s

/-- CLAIM_INTERVAL (R385): every 10 ms. -/
def execClaimInterval (s : State) : Host.Outcome State Fault Refusal := act sendClaims s

/-- STANDBY_HOLD_EXPIRY (R373): the oldest head held on a port has waited 2 us. The standby leaves lockstep; in SYNC and ISOLATED the
head is dropped, but for a device that looks for its cut-in heads (R391 step 4). -/
def headExpiry (port : Nat) (s : State) : State :=
  if !s.pair.held.any (fun h => h.port == port) then s
  else if s.pair.mode = .standby then syncLost 0 s
  else if (s.pair.mode = .sync ∧ s.pair.stage ≠ .cutIn) ∨ s.pair.mode = .isolated then
    match takeFirst (fun (h : HeldHead) => h.port == port) s.pair.held with
    | some (_, rest) => pairCount 4 (modPair (fun p => { p with held := rest }) s)
    | none => s
  else s

/-- STANDBY_HOLD_EXPIRY. -/
def execStandbyHoldExpiry (port : Nat) (s : State) : Host.Outcome State Fault Refusal := act (headExpiry port) s

/-- RELEASE_FRAME_WAIT_EXPIRY (R373): a logged release has waited 20 us for its frame. -/
def execReleaseFrameWaitExpiry (s : State) : Host.Outcome State Fault Refusal :=
  act (fun s => if s.pair.mode = .standby ∧ s.pair.waitRuns ≠ [] then syncLost 1 s else s) s

/-! ## Merges (R387) -/

/-- Whether one claim beats another (R385). -/
def beats (c1 id1 c2 id2 : Nat) : Bool :=
  let d := (c1 + 65536 - c2) % 65536
  if d = 0 ∨ d = 32768 then decide (id1 < id2) else decide (d < 32768)

/-- Whether a claim was verified within 35 ms. -/
def claimLive (s : State) (t : Option Nat) : Bool := match t with | some m => decide (msNow s ≤ m + 35) | none => false

/-- The port that a merge's live claims choose: PORT_B when true. -/
def claimedPort (s : State) (m : Merge) : Bool :=
  match claimLive s m.timeA, claimLive s m.timeB with
  | true, true => !beats m.claimA m.idA m.claimB m.idB
  | true, false => false
  | false, true => true
  | false, false => m.claimedB

/-- The claimed port of a merge is chosen again; a switch ends the holds of the new claimed port's frames and posts
PAIR_MERGE_SWITCH. -/
def updateClaimed (i : Nat) (s : State) : State :=
  match s.pair.merges.find i with
  | none => s
  | some m =>
    let b := claimedPort s m
    if b = m.claimedB then s
    else
      let s := modPair (fun p => { p with merges := p.merges.set i { m with claimedB := b } }) s
      let s := raiseHeld 0 0x0905 0 i (detailOf [(20, b2n b), (24, if b then m.claimB else m.claimA)]) s
      let line := 64 + (if b then m.portB else m.portA)
      (s.fabric.frames.keysIf (fun _ f => f.ingress == line && f.mergeWait == 1)).foldl (fun s n => mergeHoldEnd n s) s

/-- ACC_CLAIM_RX (R387): the oldest message of a port's queue is a CLAIM; on a merged port, and under the merge's community, it is
recorded for the port it came in on. -/
def claimRx (port : Nat) (s : State) : State :=
  match takeMessage port 6 s with
  | none => s
  | some (m, s) =>
    let s := match peerAt s m.community m.port m.src with
      | some pi => noteSeq pi m.text s
      | none => s
    match mergeOf s m.wire with
    | none => s
    | some (i, g) =>
      if m.community ≠ g.community then s
      else
        let body := textBody m.text
        let claim := beAt body 16 2
        let id := beAt body 0 8
        let g := if m.wire = g.portA then { g with claimA := claim, idA := id, timeA := some (msNow s) }
          else { g with claimB := claim, idB := id, timeB := some (msNow s) }
        updateClaimed i (modPair (fun p => { p with merges := p.merges.set i g }) s)

/-- ACC_CLAIM_RX. -/
def execAccClaimRx (port : Nat) (s : State) : Host.Outcome State Fault Refusal := act (claimRx port) s

/-- MERGE_CLAIM_UPDATE: every 1 ms. -/
def execMergeClaimUpdate (s : State) : Host.Outcome State Fault Refusal :=
  act (fun s => s.pair.merges.keys.foldl (fun s i => updateClaimed i s) s) s

/-- MERGE_HOLD_END: MERGE_SKEW after the head of a held frame, once the frame is stored whole. -/
def execMergeHoldEnd (frame : Nat) (s : State) : Host.Outcome State Fault Refusal := act (mergeHoldEnd frame) s

end Sys2Proof.Machine
end

