-- ==== Sys2Proof/Machine/PairCommands.lean ====
section
/-!
DEFINITION. The commands of the pair (12_redundant_pair R394 to R398).
-/
namespace Sys2Proof.Machine

open Sys2Proof

/-! ## PAIR_CONFIG (R394, R395) -/

def pcOp (c : Cmd) : Nat := c.get ⟨8, 0, 2⟩
def pcPortA (c : Cmd) : Nat := c.get ⟨9, 0, 6⟩
def pcPortB (c : Cmd) : Nat := c.get ⟨10, 0, 6⟩
/-- PN_LEAD and MERGE_SKEW, 0 for the default. -/
def pcLead (c : Cmd) : Nat := if c.u32 28 = 0 then 1048576 else c.u32 28
def pcSkew (c : Cmd) : Nat := if c.u16 12 = 0 then 2000 else c.u16 12

/-- Whether a PX lane is under PRBS (03 R97). -/
def pxUnderPrbs (s : State) : Bool :=
  [128, 129].any (fun l => match s.ports.lanes.find l with | some v => v.prbsTx || v.prbsRx | none => false)

/-- PAIR_SET's STATE causes. -/
def pairSetRefused (c : Cmd) (s : State) : Bool :=
  s.pair.mode != .off || (slotOf s (c.u16 10)).type != 4 || !bitOf (slotOf s (c.u16 10)).usage 3 || (commOf s (pcPortA c)).isNone ||
    pinsOf s 4 == [] || pinsOf s 5 == [] || pxUnderPrbs s

/-- MERGE_SET's STATE causes. -/
def mergeSetRefused (c : Cmd) (s : State) : Bool :=
  let a := pcPortA c
  let b := pcPortB c
  let community := match commOf s (c.get ⟨11, 0, 6⟩) with | some v => bitOf v.portMask a | none => false
  match portOf s (64 + a), portOf s (64 + b) with
  | some p, some q =>
    p.rate != q.rate || p.fec != q.fec || (mergeOf s a).isSome || (mergeOf s b).isSome || q.path != .unassigned ||
      s.channels.scs.cells.any (fun x => x.2.port == b) || !community
  | _, _ => true

/-- The merge whose PORT_A is given. -/
def mergeAt (s : State) (a : Nat) : Option Nat := (s.pair.merges.keysIf (fun _ m => m.portA == a)).head?

/-- PAIR_SET (R371): ALONE with claim 1, or SYNC with every line transmitter gated. -/
def pairSet (c : Cmd) (s : State) : State :=
  let s := modPair (fun p => { p with
    link28 := c.flag 8 3, community := pcPortA c, keySlot := c.u16 10, partnerId := c.u64 12, gateMask := c.u64 20, pnLead := pcLead c
    seqTx := 0, seqRx := 0, seqFresh := true, sent := [], slot := 0 }) s
  if c.flag 8 2 then enterPair .alone (modPair (fun p => { p with claim := 1 }) s) else enterSync s

/-- PAIR_CLEAR (R371): claims stop, gating is released; the device decides the heads it holds. -/
def pairClear (s : State) : State :=
  if s.pair.mode = .off then s
  else
    let s := decideAll (enterPair .off (endFollowing s))
    modPair (fun p => { merges := p.merges, history := p.history }) s

/-- PAIR_CONFIG. -/
def specPairConfig : OpSpec where
  opcode := 0x0901
  cls := .b
  privilege := .p
  fields := fun c =>
    match pcOp c with
    | 0 => [⟨8, 0, 4⟩, ⟨9, 0, 6⟩, fld 10 2, fld 12 8, fld 20 8, fld 28 4]
    | 1 => [⟨8, 0, 2⟩]
    | 2 => [⟨8, 0, 3⟩, ⟨9, 0, 6⟩, ⟨10, 0, 6⟩, ⟨11, 0, 6⟩, fld 12 2]
    | _ => [⟨8, 0, 2⟩, ⟨9, 0, 6⟩]
  own := fun c s =>
    match pcOp c with
    | 0 => [(c.u64 12 == s.boot.deviceId, 12), (pcLead c < 65536 || 16777216 < pcLead c, 28), (16383 < c.u16 10, 10)]
    | 2 => [(pcSkew c < 100 || 2000 < pcSkew c, 12), (pcPortA c == pcPortB c, 9)]
    | _ => []
  badState := fun c s =>
    match pcOp c with
    | 0 => pairSetRefused c s
    | 1 => s.pair.mode == .standby || s.pair.mode == .isolated
    | 2 => mergeSetRefused c s
    | _ => (mergeAt s (pcPortA c)).isNone
  locks := fun c =>
    match pcOp c with
    | 0 => [.pair, .lane 128, .lane 129] ++ ((List.range 64).filter (bitOf (c.u64 20))).map (fun p => .port (64 + p))
    | 1 => [.pair, .lane 128, .lane 129]
    | 2 => [.lane 128, .lane 129, .port (64 + pcPortA c), .port (64 + pcPortB c)]
    | _ => [.lane 128, .lane 129, .port (64 + pcPortA c)]
  noResource := fun c s => pcOp c == 2 && decide (32 ≤ s.pair.merges.cells.length)
  effect := fun c s =>
    match pcOp c with
    | 0 => (pairSet c s, ok 0)
    | 1 => (pairClear s, ok 0)
    | 2 =>
      let i := (s.pair.merges.firstFree 0 32).getD 0
      let m : Merge :=
        { portA := pcPortA c, portB := pcPortB c, cutThrough := c.flag 8 2, community := c.get ⟨11, 0, 6⟩, skew := pcSkew c }
      (modPair (fun p => { p with merges := p.merges.set i m }) s, ok (resultOf [(8, i)]))
    | _ =>
      let i := (mergeAt s (pcPortA c)).getD 0
      (modPair (fun p => { p with merges := p.merges.erase i }) s, ok (resultOf [(8, i)]))

/-- PAIR_CONFIG. -/
def execPairConfig (c : Cmd) (s : State) : Host.Outcome State Fault Refusal := hostOp specPairConfig c s

/-! ## PAIR_STATUS (R396) -/

/-- A merge record. -/
def mergeRecord (s : State) (i : Nat) : Bytes :=
  match s.pair.merges.find i with
  | none => List.replicate 8 0
  | some m =>
    leBytes 1 (m.portA + 64 + 128 * b2n m.claimedB) ++ leBytes 1 (m.portB + 64 * b2n (claimLive s m.timeA) + 128 * b2n (claimLive s m.timeB)) ++
      leBytes 2 m.claimA ++ leBytes 2 m.claimB ++ leBytes 2 0

/-- PAIR_STATUS. -/
def specPairStatus : OpSpec where
  opcode := 0x0902
  cls := .a
  privilege := .p
  underLock := true
  fields := fun _ => []
  pointer := fun _ => true
  effect := fun c s =>
    let p := s.pair
    let flags := p.mode.code + 8 * b2n p.prePending + 16 * b2n p.linkUp + 32 * b2n p.aliveIn
    (s, .done { status := stOk, result := resultOf [(8, flags), (10, p.claim), (12, p.partnerClaim), (14, p.lag)]
                data := if c.dataPtr = 0 then [] else ((List.range 32).map (mergeRecord s)).flatten })

/-- PAIR_STATUS. -/
def execPairStatus (c : Cmd) (s : State) : Host.Outcome State Fault Refusal := hostOp specPairStatus c s

/-! ## PAIR_EXERCISE (R393, R397) -/

/-- PAIR_EXERCISE: the active device announces a slot two slots ahead. -/
def specPairExercise : OpSpec where
  opcode := 0x0903
  cls := .c
  privilege := .p
  fields := fun _ => [⟨8, 0, 1⟩, fld 12 4]
  own := fun c _ => [(c.u32 12 != 0 && (c.u32 12 < 10 || 1000 < c.u32 12), 12)]
  badState := fun _ s => s.pair.mode != .active || s.pair.prePending
  locks := fun _ => [.pair]
  effect := fun c s =>
    let s := modPair (fun p => { p with
      handover := some ((p.slot + 2) % 2 ^ 32), roundTrip := c.flag 8 0, dwell := if c.u32 12 = 0 then 100 else c.u32 12
      startedTick := s.tick }) s
    (sendStatus s, .wait .work)

/-- PAIR_EXERCISE. -/
def execPairExercise (c : Cmd) (s : State) : Host.Outcome State Fault Refusal := hostOp specPairExercise c s

/-! ## PAIR_RESYNC (R398) -/

/-- PAIR_RESYNC: by the issuing device's state. -/
def specPairResync : OpSpec where
  opcode := 0x0904
  cls := .c
  privilege := .p
  fields := fun _ => []
  badState := fun _ s => s.pair.partnerMode.isNone || !s.pair.linkUp || s.pair.mode == .off || s.pair.mode == .isolated
  locks := fun _ => [.pair]
  effect := fun _ s =>
    let s :=
      match s.pair.mode with
      | .sync => sendStatus (drawNonce (clearSession s))
      | .standby => enterSync s
      | _ =>
        let s := drawNonce (modPair (fun p => { p with faultSent := false, nonceOwn := [] }) s)
        sendStatus (modPair (fun p => { p with source := true, stage := .nonces }) s)
    (modPair (fun p => { p with startedMs := msNow s }) s, .wait .work)

/-- PAIR_RESYNC. -/
def execPairResync (c : Cmd) (s : State) : Host.Outcome State Fault Refusal := hostOp specPairResync c s

end Sys2Proof.Machine
end

