-- ==== Sys2Proof/Machine/Access.lean ====
section
/-!
DEFINITION. Access control and DMA (18_access_and_dma): the commands of the gate table, address translation with its cache, DMA
faults, DMA_XLT_SET and DMA_RESUME.
-/
namespace Sys2Proof.Machine

open Sys2Proof

/-! ## Rules in bytes (R525) -/

/-- A rule of 16 bytes, as one little-endian number. -/
def ruleOf (n : Nat) : GateRule where
  base := bitsOf n 0 20
  limit := bitsOf n 32 20
  functions := bitsOf n 64 32
  valid := bitOf n 96
  action := bitsOf n 97 2
  debug := bitOf n 99
  scope := bitsOf n 100 2

/-- Whether a rule's fields hold a reserved encoding, or a valid rule's LIMIT lies below its BASE (R543). -/
def ruleEncodes (r : GateRule) : Bool := r.action != 3 && r.scope != 3
def ruleOrdered (r : GateRule) : Bool := !r.valid || decide (r.base ≤ r.limit)

/-- The reserved bits of a rule. -/
def ruleReserved (n : Nat) : Bool := bitsOf n 20 12 != 0 || bitsOf n 52 12 != 0 || bitsOf n 102 26 != 0

/-- Rule `r` of GATE_LOAD's payload. -/
def loadedRule (p : Bytes) (r : Nat) : Nat := leAt p (16 * r) 16

/-- Whether a payload of 64 rules is refused (R543). -/
def payloadRefused (p : Bytes) : Bool :=
  (List.range 64).any (fun r =>
    ruleReserved (loadedRule p r) || !ruleEncodes (ruleOf (loadedRule p r)) || !ruleOrdered (ruleOf (loadedRule p r)))

/-! ## The commands of the gate table (R528 to R531, R543 to R546) -/

/-- GATE_LOAD (R528, R543). -/
def specGateLoad : OpSpec where
  opcode := 0x0f01
  cls := .b
  privilege := .p
  fields := fun _ => []
  pointer := fun _ => true
  payloadLength := fun _ => 1024
  own := fun c _ => [(payloadRefused c.payload, 56)]
  locks := fun _ => [.gate 0]
  effect := fun c s =>
    let b := !s.gate.activeB
    let s := (List.range 64).foldl (fun s r => setGateRule b r (ruleOf (loadedRule c.payload r)) s) s
    ({ s with gate := { s.gate with loaded := true } }, ok (resultOf [(8, b2n b)]))

/-- GATE_LOAD. -/
def execGateLoad (c : Cmd) (s : State) : Host.Outcome State Fault Refusal := hostOp specGateLoad c s

/-- The swap of R529: the loaded set is in force for every access that enters from now on. -/
def swapGate (s : State) : State :=
  count 0x10288 { s with gate := { s.gate with activeB := !s.gate.activeB, loaded := false, epoch := (s.gate.epoch + 1) % 2 ^ 32 } }

/-- GATE_SWAP (R529, R544): it waits for the accesses admitted under the old set. -/
def specGateSwap : OpSpec where
  opcode := 0x0f02
  cls := .b
  privilege := .p
  fields := fun _ => []
  locks := fun _ => [.gate 0]
  badState := fun _ s => !s.gate.loaded
  effect := fun _ s => (swapGate s, .wait .work)

/-- GATE_SWAP. -/
def execGateSwap (c : Cmd) (s : State) : Host.Outcome State Fault Refusal := hostOp specGateSwap c s

/-- GATE_SWAP_DRAIN_END: the swap's command completes and GATE_SWAPPED is posted (R529, R551). -/
def execGateSwapDrainEnd (s : State) : Host.Outcome State Fault Refusal :=
  act (fun s =>
    let swap (r : Running) : Bool := r.isOp 0x0f02 && r.wait == .work
    if s.running.any swap then
      let e := s.gate.epoch
      let b := b2n s.gate.activeB
      completeRunning swap (fun _ => { status := stOk, result := resultOf [(8, e), (12, b)] })
        (raiseHeld 0 0x0f04 0 0 (detailOf [(20, e), (24, b)]) s)
    else s) s

/-- GATE_EDIT (R530, R545). -/
def specGateEdit : OpSpec where
  opcode := 0x0f03
  cls := .a
  privilege := .p
  fields := fun _ => [⟨8, 0, 7⟩, ⟨16, 0, 20⟩, ⟨20, 0, 20⟩, ⟨24, 0, 32⟩, ⟨28, 0, 6⟩]
  own := fun c _ =>
    let r := ruleOf (bitsOf c.bits 128 128)
    [(!ruleEncodes r, 28), (!ruleOrdered r, 16)]
  locks := fun _ => [.gate 0]
  badState := fun c s => c.flag 8 6 && !s.gate.loaded
  effect := fun c s =>
    (setGateRule (s.gate.activeB != c.flag 8 6) (c.get ⟨8, 0, 6⟩) (ruleOf (bitsOf c.bits 128 128)) s, ok 0)

/-- GATE_EDIT. -/
def execGateEdit (c : Cmd) (s : State) : Host.Outcome State Fault Refusal := hostOp specGateEdit c s

/-- GATE_BARRIER (R530, R546): it waits for every access that has entered. -/
def specGateBarrier : OpSpec where
  opcode := 0x0f04
  cls := .a
  privilege := .p
  fields := fun _ => []
  locks := fun _ => [.gate 0]
  effect := fun _ s => (s, .wait .work)

/-- GATE_BARRIER. -/
def execGateBarrier (c : Cmd) (s : State) : Host.Outcome State Fault Refusal := hostOp specGateBarrier c s

/-- BARRIER_DRAIN_END: every access that entered before the barrier has completed (R530). -/
def execBarrierDrainEnd (s : State) : Host.Outcome State Fault Refusal :=
  act (fun s =>
    let e := s.gate.epoch
    completeRunning (fun r => r.isOp 0x0f04 && r.wait == .work) (fun _ => { status := stOk, result := resultOf [(8, e)] }) s) s

/-- GATE_VIOL_COUNT_READ: the count is returned and cleared (R9 RC). -/
def execGateViolCountRead (s : State) : Host.Outcome State Fault Refusal := actRead 0 (gatedRead 0x10210 (clearingRead 0 0x10210)) s

/-- GATE_VIOL_INFO written with VALID = 1: the capture is cleared and the next one armed (R523). -/
def clearViolation (w : Word) (s : State) : State :=
  if bitOf w.toNat 31 then setReg 0x10208 0 (setReg 0x1020c 0 s) else s

/-- GATE_VIOL_INFO_CLEAR. -/
def execGateViolInfoClear (s : State) : Host.Outcome State Fault Refusal :=
  act (gatedWrite 0x1020c (clearViolation (BitVec.ofNat 32 (2 ^ 31)))) s

/-! ## Translation (R533, R534) -/

/-- A function's translation. -/
def xltOf (s : State) (f : Nat) : Xlt := s.dma.xlt.get {} f
def setXlt (f : Nat) (x : Xlt) (s : State) : State := { s with dma := { s.dma with xlt := s.dma.xlt.put {} f x } }
def setCache (c : List Translation) (s : State) : State := { s with dma := { s.dma with cache := c } }

/-- What a translation ends in: the bus address, or the KIND of R536. -/
inductive Xlated
  | bus (addr : Nat)
  | fault (kind : Nat)
  deriving DecidableEq, Repr

/-- The bytes of a cached page, and whether a virtual address lies in it. -/
def Translation.size (t : Translation) : Nat := if t.large then 0x200000 else 0x1000
def Translation.covers (t : Translation) (f va : Nat) : Bool := t.fn == f && decide (t.va ≤ va) && decide (va < t.va + t.size)

/-- How many entries a function holds. -/
def heldBy (cache : List Translation) (f : Nat) : Nat := (cache.filter (fun t => t.fn == f)).length

/-- The cache without the first, least recently used, entry of a kind. -/
def dropFirst (p : Translation → Bool) : List Translation → List Translation
  | [] => []
  | t :: rest => if p t then rest else t :: dropFirst p rest

/-- Room for one more entry of a function (R534). -/
def makeRoom (cache : List Translation) (f : Nat) : List Translation :=
  let own := heldBy cache f
  if 256 ≤ own then dropFirst (fun t => t.fn == f) cache
  else if cache.length < 1024 then cache
  else
    let most := ((List.range 32).map (heldBy cache)).foldl max 0
    if own = most then dropFirst (fun t => t.fn == f) cache
    else dropFirst (fun t => heldBy cache t.fn == most) cache

/-- A page entry that the outside answered, or none: read as {VALID, LARGE, WRITE, reserved bits set, ADDR}. -/
def entryBit (e : Quad) (i : Nat) : Bool := bitOf e.toNat i
def entryAddr (e : Quad) : Nat := e.toNat / 4096 * 4096

/-- What a walk finds: a fault, or the translation of the page (R533). `entries` answers its table reads in order; none: the read
failed. -/
def walk (f va : Nat) (write : Bool) (entries : List (Option Quad)) :
    Sum Nat Translation × List (Option Quad) :=
  match entries with
  | some e1 :: rest =>
    if !entryBit e1 0 then (.inl 1, rest)
    else if bitsOf e1.toNat 3 9 != 0 || (entryBit e1 1 && bitsOf e1.toNat 12 9 != 0) then (.inl 5, rest)
    else if entryBit e1 1 then
      if write && !entryBit e1 2 then (.inl 3, rest)
      else (.inr { fn := f, va := va / 0x200000 * 0x200000, large := true, write := entryBit e1 2, addr := entryAddr e1 }, rest)
    else
      match rest with
      | some e2 :: rest =>
        if !entryBit e2 0 then (.inl 2, rest)
        else if entryBit e2 1 || bitsOf e2.toNat 3 9 != 0 then (.inl 5, rest)
        else if write && !(entryBit e1 2 && entryBit e2 2) then (.inl 3, rest)
        else (.inr { fn := f, va := va / 4096 * 4096, large := false, write := entryBit e1 2 && entryBit e2 2, addr := entryAddr e2 }, rest)
      | _ => (.inl 5, rest.drop 1)
  | _ => (.inl 5, entries.drop 1)

/-- Translate a virtual address for a function: from the cache, whose entry of that page is discarded when `parity` says that it has
failed, or by a walk. The translation used becomes the most recently used one. -/
def translate (f va : Nat) (write parity : Bool) (entries : List (Option Quad)) (s : State) :
    Xlated × List (Option Quad) × State :=
  let hit := s.dma.cache.find? (fun t => t.covers f va)
  let without := dropFirst (fun t => t.covers f va) s.dma.cache
  if !(xltOf s f).enabled then (.fault 7, entries, s)
  else if 2 ^ (xltOf s f).l1 ≤ va / 0x200000 then (.fault 4, entries, s)
  else
    let s := if parity && hit.isSome then count 0x103a0 (setCache without s) else s
    match (if parity then none else hit) with
    | some t =>
      if write && !t.write then (.fault 3, entries, s)
      else (.bus (t.addr + (va - t.va)), entries, setCache (without ++ [t]) s)
    | none =>
      let s := count 0x10390 s
      match walk f va write entries with
      | (.inl k, rest) => (.fault k, rest, s)
      | (.inr t, rest) => (.bus (t.addr + (va - t.va)), rest, setCache (makeRoom s.dma.cache f ++ [t]) s)

/-- Drop a function's cached translations, or those that reach into a range. -/
def dropFn (f : Nat) (s : State) : State := setCache (s.dma.cache.filter (fun t => t.fn != f)) s
def dropRange (f va length : Nat) (s : State) : State :=
  setCache (s.dma.cache.filter (fun t => t.fn != f || decide (t.va + t.size ≤ va) || decide (va + length ≤ t.va))) s

/-! ## Faults (R536, R537) -/

/-- The FAULT_IDs that a function has outstanding. -/
def faultsOf (s : State) (f : Nat) : List Nat :=
  s.running.filterMap (fun r => if r.cmd.fn = f then (match r.xfer with | some x => x.fault | none => none) else none)

/-- The lowest number from `lo` on that a list does not hold. -/
def lowestFree (xs : List Nat) (lo : Nat) : Nat → Nat
  | 0 => lo
  | n + 1 => if xs.contains lo then lowestFree xs (lo + 1) n else lo

/-- The function-virtual address at which a transfer goes on. -/
def Xfer.at (r : Running) (x : Xfer) : Nat :=
  if r.cmd.opcode = 0x0302 && x.toHost then r.cmd.u64 24 + x.listed else x.addr + x.moved

/-- A transfer stops at the start of a faulting page: its FAULT_ID, and DMA_FAULT to the function and the PF (R536, R551). -/
def dmaFault (index kind : Nat) (s : State) : State :=
  match s.running[index]? with
  | none => s
  | some r =>
    match r.xfer with
    | none => s
    | some x =>
      let id := lowestFree (faultsOf s r.cmd.fn) 0 16
      let va := Xfer.at r x
      let off := if r.cmd.opcode = 0x0302 && x.toHost then x.listed else x.moved
      let s := { s with running := s.running.set index { r with xfer := some { x with fault := some id } } }
      let d := detailOf [(20, va % 2 ^ 40), (25, kind), (26, r.cmd.qp + 4 * b2n x.toHost), (27, id), (28, off)]
      count 0x10388 (raiseFor r.cmd.fn 0x0f03 2 r.cmd.tag d s)

/-- L3_EXPIRY: a DMA transaction of a transfer is unanswered for 50 ms: a fault of KIND 6 (19 R557). -/
def execL3Expiry (index : Nat) (s : State) : Host.Outcome State Fault Refusal :=
  act (fun s =>
    match s.running[index]? with
    | some r =>
      match r.xfer with
      | some x =>
        if r.wait = .transfer ∧ x.fault = none then dmaFault index 6 { s with watchdog := { s.watchdog with lastLevel := 3 } } else s
      | none => s
    | none => s) s

/-- Whether a function has a command that transfers or waits on a fault (R547). -/
def transferring (s : State) (f : Nat) : Bool := s.running.any (fun r => r.cmd.fn == f && r.wait == .transfer)

/-- The fields of DMA_XLT_SET that its OP uses (R547). -/
def xltFields (c : Cmd) : List Fld :=
  ⟨8, 0, 2⟩ :: (match c.get ⟨8, 0, 2⟩ with
    | 0 => [⟨9, 0, 5⟩, fld 16 8]
    | 1 => [fld 24 8, fld 32 8]
    | _ => [])

/-- DMA_XLT_SET (R535, R547). -/
def specDmaXltSet : OpSpec where
  opcode := 0x0f10
  cls := .a
  privilege := .f
  decommissioned := fun _ => true
  fields := xltFields
  own := fun c _ =>
    match c.get ⟨8, 0, 2⟩ with
    | 0 => [(19 < c.get ⟨9, 0, 5⟩, 9), (c.u64 16 % 4096 != 0, 16)]
    | 1 =>
      [(c.u64 24 % 4096 != 0 || decide (2 ^ 40 ≤ c.u64 24), 24), (c.u64 32 == 0 || c.u64 32 % 4096 != 0, 32),
       (2 ^ 40 < c.u64 24 + c.u64 32, 24)]
    | _ => []
  badState := fun c s => (c.get ⟨8, 0, 2⟩ == 0 || c.get ⟨8, 0, 2⟩ == 3) && transferring s c.fn
  effect := fun c s =>
    match c.get ⟨8, 0, 2⟩ with
    | 0 => (dropFn c.fn (setXlt c.fn { enabled := true, root := c.u64 16, l1 := c.get ⟨9, 0, 5⟩ } s), ok 0)
    | 1 => (dropRange c.fn (c.u64 24) (c.u64 32) s, ok 0)
    | 2 => (dropFn c.fn s, ok 0)
    | _ => (setXlt c.fn { xltOf s c.fn with enabled := false } s, ok 0)

/-- DMA_XLT_SET. -/
def execDmaXltSet (c : Cmd) (s : State) : Host.Outcome State Fault Refusal := hostOp specDmaXltSet c s

/-- Whether a running command waits on a fault of a function. -/
def waitsOn (f id : Nat) (r : Running) : Bool :=
  r.cmd.fn == f && (match r.xfer with | some x => x.fault == some id | none => false)

/-- The transfer goes on from the start of the faulting page, whose cached translation is discarded (R537). -/
def resumeXfer (f id : Nat) (s : State) : State :=
  match s.running.find? (waitsOn f id) with
  | none => s
  | some r =>
    match r.xfer with
    | none => s
    | some x =>
      let s := { s with running := s.running.map (fun r =>
        if waitsOn f id r then { r with xfer := r.xfer.map (fun x => { x with fault := none }) } else r) }
      dropRange f (Xfer.at r x / 4096 * 4096) 4096 s

/-- DMA_RESUME (R537, R548). -/
def specDmaResume : OpSpec where
  opcode := 0x0f11
  cls := .a
  privilege := .f
  underLock := true
  decommissioned := fun _ => true
  fields := fun _ => [⟨8, 0, 4⟩]
  badState := fun c s => !(faultsOf s c.fn).contains (c.get ⟨8, 0, 4⟩)
  effect := fun c s => (resumeXfer c.fn (c.get ⟨8, 0, 4⟩) s, ok 0)

/-- DMA_RESUME. -/
def execDmaResume (c : Cmd) (s : State) : Host.Outcome State Fault Refusal := hostOp specDmaResume c s

end Sys2Proof.Machine
end

