-- ==== Sys2Proof/Machine/Pmc.lean ====
section
/-!
DEFINITION. Programmable counters, bandwidth windows, the counter window and STATS_READ (20_counters).
-/
namespace Sys2Proof.Machine

open Sys2Proof

/-! ## Counters -/

/-- The 64-bit counters of BAR2, by offset (04 R142, 05 R184 and the other chapters' counter areas). -/
def isCounter (off : Nat) : Bool :=
  off % 8 == 0 &&
    [(0x200, 0xa00), (0x1000, 0x1800), (0x2100, 0x2180), (0x3100, 0x3140), (0x4200, 0x4220), (0x4800, 0x5080), (0x5400, 0x6400),
     (0x7100, 0x7180), (0x8200, 0x8280), (0x8400, 0xa440), (0xb100, 0xb300), (0xc100, 0xc150), (0xd100, 0xd140), (0xf100, 0xf140),
     (0x10080, 0x10098), (0x10280, 0x10298), (0x10380, 0x103a8), (0x10480, 0x104b8)].any
      (fun a => decide (a.1 ≤ off) && decide (off < a.2))

/-- PMC_SELn. -/
def pmcSel (c : PmcCounter) : Nat :=
  b2n c.enable * 2 ^ 31 + b2n c.chain * 2 ^ 30 + b2n c.filterAll * 2 ^ 29 + c.filter * 2 ^ 12 + c.event

/-- A PMC slot: VALUE and OVERFLOW. -/
def pmcSlot (c : PmcCounter) : Nat := c.value + b2n c.overflow * 2 ^ 63

/-- What FILTER names for an event (R570): none for a reserved event, else how many objects there are, 0 for an event without one. -/
def pmcObjects (ev : Nat) : Option Nat :=
  if ev ≤ 2 then some 0
  else if 0x10 ≤ ev ∧ ev ≤ 0x17 then some 128
  else if (0x100 ≤ ev ∧ ev ≤ 0x10c) ∨ (0x110 ≤ ev ∧ ev ≤ 0x11e) then some 16
  else if 0x120 ≤ ev ∧ ev ≤ 0x127 then some 18
  else if 0x128 ≤ ev ∧ ev ≤ 0x12b then some 128
  else if 0x130 ≤ ev ∧ ev ≤ 0x135 then some 129
  else if 0x138 ≤ ev ∧ ev ≤ 0x13b then some 16
  else if (0x140 ≤ ev ∧ ev ≤ 0x14f) ∨ (0x150 ≤ ev ∧ ev ≤ 0x15c) then some 0
  else if 0x200 ≤ ev ∧ ev ≤ 0x203 then some 131072
  else if ev = 0x300 ∨ ev = 0x301 then some 32
  else none

/-- Whether a SET's EVENT is reserved, or its FILTER out of range for it (R582). -/
def pmcFilterBad (ev filter : Nat) : Bool :=
  match pmcObjects ev with
  | none => true
  | some n => if n = 0 then filter != 0 else decide (n ≤ filter)

/-! ## Snapshots (R578, R579) -/

/-- The buffer that a STATS_READ in progress reads, by the mark its transfer carries (R579). -/
def readBuffer (s : State) : Option Bool :=
  s.running.findSome? (fun r =>
    match r.xfer with
    | some x => if r.isOp 0x1002 && r.cmd.get ⟨8, 0, 3⟩ == 3 && x.done != 0 then some (x.done == 2) else none
    | none => none)

/-- Every PMC and TO are latched in the buffer that is not being read; PMC_SNAPSHOT (R578, R579, R587). -/
def latchSnapshot (byDomain : Bool) (s : State) : State :=
  let b := match readBuffer s with
    | some held => !held
    | none => !s.pmc.lastB
  let shot : Snapshot :=
    { sec := s.time.clock.sec, ns := s.time.clock.ns, slots := (List.range 128).map (fun n => pmcSlot (pmcOf s n)) }
  let seq := (s.pmc.snapSeq + 1) % 2 ^ 32
  let p := { s.pmc with lastB := b, snapSeq := seq }
  let p := if b then { p with bufB := shot } else { p with bufA := shot }
  raiseHeld 0 0x1007 0 0 (detailOf [(20, b2n byDomain), (24, seq)]) { s with pmc := p }

/-- The buffer written last. -/
def lastSnapshot (s : State) : Snapshot := if s.pmc.lastB then s.pmc.bufB else s.pmc.bufA

/-! ## PMC_CONFIG (R571 to R573, R582) -/

/-- The fields that an OP uses. -/
def pmcFields (c : Cmd) : List Fld :=
  ⟨8, 0, 3⟩ :: (match c.get ⟨8, 0, 3⟩ with
    | 0 => [⟨9, 0, 7⟩, ⟨12, 0, 10⟩, ⟨14, 0, 3⟩, ⟨16, 0, 17⟩, ⟨20, 0, 48⟩, fld 28 4]
    | 1 => [⟨9, 0, 7⟩]
    | 2 => [⟨10, 0, 5⟩, ⟨14, 3, 2⟩]
    | 3 => [⟨32, 0, 20⟩]
    | _ => [])

/-- SET: the selection and value in one whole write; CHAIN clears the upper counter (R571, R573). -/
def pmcSet (c : Cmd) (s : State) : State :=
  let n := c.get ⟨9, 0, 7⟩
  let v : PmcCounter :=
    { value := bitsOf c.bits 160 48, enable := c.flag 14 0, chain := c.flag 14 1, filterAll := c.flag 14 2, filter := c.get ⟨16, 0, 17⟩
      event := c.get ⟨12, 0, 10⟩, readers := c.u32 28 }
  let s := setPmc n v s
  if v.chain then setPmc (n + 1) { pmcOf s (n + 1) with value := 0, overflow := false, readers := v.readers } s else s

/-- A bit of a 32-bit map of functions, written. -/
def withBit (map f : Nat) (b : Bool) : Nat :=
  if b then map ||| 2 ^ f else map - (map &&& 2 ^ f)

/-- PMC_CONFIG. -/
def specPmcConfig : OpSpec where
  opcode := 0x1001
  cls := .a
  privilege := .p
  fields := pmcFields
  own := fun c _ =>
    let n := c.get ⟨9, 0, 7⟩
    [(5 ≤ c.get ⟨8, 0, 3⟩, 8),
     (c.get ⟨8, 0, 3⟩ == 0 && pmcFilterBad (c.get ⟨12, 0, 10⟩) (c.get ⟨16, 0, 17⟩), 12),
     (c.get ⟨8, 0, 3⟩ == 0 && c.flag 14 1 && n % 2 == 1, 9),
     (c.get ⟨8, 0, 3⟩ == 3 && (c.get ⟨32, 0, 20⟩ == 0 || decide (1000000 < c.get ⟨32, 0, 20⟩)), 32)]
  badState := fun c s => c.get ⟨8, 0, 3⟩ == 0 && pmcUpper s (c.get ⟨9, 0, 7⟩)
  locks := fun c =>
    if c.get ⟨8, 0, 3⟩ ≤ 1 then
      .pmc (c.get ⟨9, 0, 7⟩) :: (if c.flag 14 1 then [.pmc (c.get ⟨9, 0, 7⟩ + 1)] else [])
    else []
  effect := fun c s =>
    let n := c.get ⟨9, 0, 7⟩
    match c.get ⟨8, 0, 3⟩ with
    | 0 =>
      let s := pmcSet c s
      (s, ok (resultOf [(8, pmcSel (pmcOf s n))]))
    | 1 => (s, ok (resultOf [(8, pmcSlot (pmcOf s n))]))
    | 2 =>
      let f := c.get ⟨10, 0, 5⟩
      ({ s with pmc := { s.pmc with
          userRead := withBit s.pmc.userRead f (c.flag 14 3), bwRead := withBit s.pmc.bwRead f (c.flag 14 4) } }, ok 0)
    | 3 => ({ s with pmc := { s.pmc with nextUs := c.get ⟨32, 0, 20⟩ } }, ok 0)
    | _ =>
      let s := latchSnapshot false s
      (s, ok (resultOf [(8, s.pmc.snapSeq)]))

/-- PMC_CONFIG. -/
def execPmcConfig (c : Cmd) (s : State) : Host.Outcome State Fault Refusal := hostOp specPmcConfig c s

/-- PMC_WRAP: one more occurrence reaches a counter, or the chained pair it belongs to, that stands at its maximum (R572). -/
def execPmcWrap (counter : Nat) (s : State) : Host.Outcome State Fault Refusal :=
  act (fun s =>
    let n := if pmcUpper s counter then counter - 1 else counter
    let c := pmcOf s n
    let full := c.value == 2 ^ 48 - 1 && (!c.chain || (pmcOf s (n + 1)).value == 2 ^ 48 - 1)
    if counter < 128 && c.enable && full then pmcAdd n 1 s else s) s

/-- BW_WINDOW_END: the totals of all positions are written, then PMC_BW_SEQ counts (R574, R575). -/
def execBwWindowEnd (s : State) : Host.Outcome State Fault Refusal :=
  act (fun s => { s with pmc := { s.pmc with
    totals := s.pmc.running, running := .empty, bwSeq := (s.pmc.bwSeq + 1) % 2 ^ 32, windowUs := s.pmc.nextUs } }) s

/-! ## The counter window (R576, R577) -/

/-- Whether a function's window is live, and its bandwidth area. -/
def windowLive (s : State) (f : Nat) : Bool := bitOf s.pmc.userRead f
def bwLive (s : State) (f : Nat) : Bool := windowLive s f && bitOf s.pmc.bwRead f

/-- A PMC slot as a requester sees it: all of BAR2's view, and in the window those whose READERS include the function. -/
def slotSeen (s : State) (all : Bool) (f n : Nat) : Nat :=
  if all || (windowLive s f && bitOf (pmcOf s n).readers f) then pmcSlot (pmcOf s n) else 0

/-- PMC_WIN_INFO. -/
def winInfo (s : State) (f : Nat) : Nat := b2n (windowLive s f) * 2 ^ 31 + b2n (bitOf s.pmc.bwRead f) * 2 ^ 30 + f

/-- The latched word of an address for a requester, replaced. -/
def putLatch (req addr word : Nat) (s : State) : State :=
  let rest := s.pmc.latched.filter (fun l => !(l.1 == req && l.2.1 == addr))
  { s with pmc := { s.pmc with latched := (req, addr, word) :: rest } }

/-- The word latched for a requester at an address (R577). -/
def latchedWord (s : State) (req addr : Nat) : Nat :=
  match s.pmc.latched.find? (fun l => l.1 == req && l.2.1 == addr) with | some l => l.2.2 | none => 0

/-- Whether a word is latched for a requester at an address. -/
def isLatched (s : State) (req addr : Nat) : Bool := s.pmc.latched.any (fun l => l.1 == req && l.2.1 == addr)

/-- A latched word of slot `n` as a requester sees it. -/
def latchSeen (s : State) (all : Bool) (req addr n : Nat) : Nat :=
  if all || (windowLive s req && bitOf (pmcOf s n).readers req) then latchedWord s req addr else 0

/-- The low word of slot `n` is read at an address: its high word is latched, or with CHAIN all 96 bits; the upper counter of a chained
pair returns what the pair's latch holds (R577). -/
def slotLowRead (req addr n : Nat) (all : Bool) (s : State) : State :=
  if pmcUpper s n && isLatched s req addr then emit (.readData req (BitVec.ofNat 32 (latchSeen s all req addr n))) s
  else
    let v := slotSeen s all req n
    let u := slotSeen s all req (n + 1)
    let s := putLatch req (addr + 4) (v / 2 ^ 32) s
    let s := if (pmcOf s n).chain then putLatch req (addr + 8) (u % 2 ^ 32) (putLatch req (addr + 12) (u / 2 ^ 32) s) else s
    emit (.readData req (BitVec.ofNat 32 v)) s

/-- A bandwidth register's total, as a function sees it: `i` is 2q for RX and 2q + 1 for TX. -/
def bwSeen (s : State) (f i : Nat) : Nat := if bwLive s f then s.pmc.totals.get 0 i % 2 ^ 64 else 0

/-- The low word of a bandwidth register is read: its high word is latched. -/
def bwLowRead (req addr i : Nat) (s : State) : State :=
  let v := bwSeen s req i
  emit (.readData req (BitVec.ofNat 32 v)) (putLatch req (addr + 4) (v / 2 ^ 32) s)

/-- PMC_SLOT_LOW_READ: a function reads the low word of a slot in its counter window, or the PF one of BAR2's PMC_CNTn. -/
def execPmcSlotLowRead (fn : Nat) (bar2 : Bool) (off : Nat) (s : State) : Host.Outcome State Fault Refusal :=
  actRead fn (fun s =>
    if bar2 then
      if 0x11400 ≤ off ∧ off < 0x11800 ∧ off % 8 = 0 then
        gatedRead off (slotLowRead 0 off ((off - 0x11400) / 8) true) s
      else s
    else
      let addr := bar0 fn off
      match gateCheck fn addr false false [] s with
      | (s, some reason) => emit (.readData fn 0) (gateDeny fn addr false false reason s)
      | (s, none) =>
        if 0x8000 ≤ off ∧ off < 0x8400 ∧ off % 8 = 0 then slotLowRead fn addr ((off - 0x8000) / 8) false s
        else if 0x8400 ≤ off ∧ off < 0x8c00 ∧ off % 8 = 0 then bwLowRead fn addr ((off - 0x8400) / 8) s
        else s) s

/-! ## STATS_READ (R580, R581) -/

/-- Whether a requester may see an SC. -/
def statsOwns (s : State) (f n : Nat) : Bool :=
  f == 0 || (match s.channels.scs.find n with | some e => e.tenant == f | none => false)

/-- Four counters as 32 bytes. -/
def countsBytes (c : Counts) : Bytes := leBytes 8 c.c0 ++ leBytes 8 c.c1 ++ leBytes 8 c.c2 ++ leBytes 8 c.c3

/-- A record of kind 0. -/
def saStats (s : State) (f n : Nat) : Bytes :=
  match s.channels.sas.find n with
  | none => leBytes 48 n
  | some a =>
    if statsOwns s f a.sc then
      let t := saCounts s n
      leBytes 4 n ++ leBytes 4 (1 + 2 * b2n t.incomplete) ++ leBytes 8 a.sc ++ countsBytes t
    else leBytes 48 n

/-- An SC's totals record and the current counters of each of its SAs. -/
def scCounts (s : State) (n : Nat) : Counts :=
  (s.channels.sas.keysIf (fun _ a => a.sc == n)).foldl (fun t k => t.add (saCounts s k)) (s.channels.scTotals.get {} n)

/-- A record of kind 1. -/
def scStats (s : State) (f n : Nat) : Bytes :=
  if (s.channels.scs.find n).isSome && statsOwns s f n then
    leBytes 4 n ++ leBytes 12 (1 + 2 * b2n (scCounts s n).incomplete) ++ countsBytes (scCounts s n)
  else leBytes 48 n

/-- The header of kinds 3 and 4. -/
def statsHead (seq sec ns : Nat) : Bytes := leBytes 4 seq ++ leBytes 6 sec ++ leBytes 22 ns

/-- A record of kinds 3 and 4: zeros for a VF that READERS omit. -/
def pmcStats (s : State) (f n v : Nat) : Bytes := leBytes 8 (if f = 0 || bitOf (pmcOf s n).readers f then v else 0)

/-- What a STATS_READ writes. -/
def statsData (c : Cmd) (s : State) : Bytes :=
  let ns := (List.range (c.u32 16)).map (fun i => c.u32 12 + i)
  match c.get ⟨8, 0, 3⟩ with
  | 0 => (ns.map (saStats s c.fn)).flatten
  | 1 => (ns.map (scStats s c.fn)).flatten
  | 2 => ((List.range (c.u32 16)).map (fun i => leBytes 8 (counter s (c.u32 12 + 8 * i)).toNat)).flatten
  | 3 =>
    let b := lastSnapshot s
    statsHead s.pmc.snapSeq b.sec b.ns ++ (ns.map (fun n => pmcStats s c.fn n ((b.slots[n]?).getD 0))).flatten
  | _ => statsHead 0 s.time.clock.sec s.time.clock.ns ++ (ns.map (fun n => pmcStats s c.fn n (pmcSlot (pmcOf s n)))).flatten

/-- How many objects a kind numbers; kind 2 names BAR2 offsets. -/
def statsRange (c : Cmd) : Nat :=
  match c.get ⟨8, 0, 3⟩ with
  | 0 => 262144
  | 1 => 131072
  | _ => 128

/-- Whether a kind 2 run of offsets leaves the counter areas. -/
def statsOutside (c : Cmd) : Bool :=
  if 0x20000 < c.u32 12 + 8 * c.u32 16 then true
  else (List.range (c.u32 16)).any (fun i => !isCounter (c.u32 12 + 8 * i))

/-- The channel of the statistics region is absent or retrains: a command that needs it meets a fault (19 R556). -/
def statsRetrains (s : State) : Bool :=
  match s.reservoir.statsChannel with
  | none => true
  | some n => (chOf s n).state == .retraining

/-- STATS_READ. -/
def specStatsRead : OpSpec where
  opcode := 0x1002
  cls := .b
  privilege := .t
  underLock := true
  fields := fun _ => [⟨8, 0, 3⟩, fld 12 4, fld 16 4]
  pointer := fun _ => true
  pfForm := fun c => c.get ⟨8, 0, 3⟩ == 2
  own := fun c _ =>
    let k := c.get ⟨8, 0, 3⟩
    [(5 ≤ k, 8), (c.u32 16 == 0 || 65536 < c.u32 16, 16),
     (k < 5 && k != 2 && statsRange c < c.u32 12 + c.u32 16, 12),
     (k == 2 && c.u32 16 ≤ 65536 && (c.u32 12 % 8 != 0 || statsOutside c), 12)]
  notReady := fun c s => c.get ⟨8, 0, 3⟩ ≤ 1 && s.reservoir.statsMoving
  effect := fun c s =>
    if c.get ⟨8, 0, 3⟩ ≤ 1 && (s.reservoir.fatal || statsRetrains s) then (s, failed stFault 0)
    else
      let step := if c.get ⟨8, 0, 3⟩ = 2 then 8 else 1
      (s, .done { status := stOk, result := resultOf [(8, c.u32 16), (12, c.u32 12 + step * c.u32 16)], data := statsData c s })

/-- STATS_READ. -/
def execStatsRead (c : Cmd) (s : State) : Host.Outcome State Fault Refusal := hostOp specStatsRead c s

end Sys2Proof.Machine
end

