-- ==== Sys2Proof/Machine/Tamper.lean ====
section
/-!
DEFINITION. Tamper and environment monitors (16_tamper): alarms and their responses, the battery domain and Sillage, TMP_CONFIG,
TMP_EVIDENCE, TMP_ACK, TMP_SELFTEST, and the GPIOs' PIN_ASSIGN.
-/
namespace Sys2Proof.Machine

open Sys2Proof

/-! ## Sillage (R477, R479) -/

/-- BAT_SECONDS. -/
def batSeconds (s : State) : Nat := (s.tamper.batBase + s.tick / 625000000) % 2 ^ 32

/-- Write a source. -/
def setSource (n : Nat) (t : TamperSource) (s : State) : State :=
  { s with tamper := { s.tamper with sources := s.tamper.sources.put (sourceDefault n) n t } }

/-- Whether a source alarms when its condition appears. -/
def TamperSource.armed (t : TamperSource) : Bool := t.enabled && !t.fused

/-- The record of an onset (R468, R479). -/
def recordOnset (n : Nat) (s : State) : State :=
  let t := sourceOf s n
  let now := batSeconds s
  setSource n { t with
    active := true, pending := true, seen := true
    applied := if t.pending then max t.applied t.rank else t.rank
    count := satAdd 0xffff t.count 1
    firstS := if t.seen then t.firstS else now
    lastS := now } s

/-- Advance the OTP zeroisation counter, or owe it (R475, R480): not in BLANK and FACTORY. -/
def countZeroise (powered : Bool) (s : State) : State :=
  let t := s.tamper
  if s.boot.lifecycle ≤ 1 then s
  else if powered && t.vppOtp then { s with tamper := { t with otpCount := min 32 (t.otpCount + 1) } }
  else
    { s with tamper := { t with
        zeroisePending := min 15 (t.zeroisePending + 1), pendingLost := t.pendingLost || t.zeroisePending == 15 } }

/-! ## Responses (R470 to R474) -/

/-- Bytes 0 to 47 of every SA entry are zeroed; with `fail` FAILED is set in every SA, as an orphan's. -/
def zeroSas (fail : Bool) (s : State) : State :=
  let zero (a : Sa) : Sa :=
    if fail then { a with key := 0, nextPn := 0, low := 0, failed := true, failedOrphan := true }
    else { a with key := 0, nextPn := 0, low := 0 }
  { s with channels := { s.channels with sas := s.channels.sas.mapSome (fun _ a => some (zero a)) } }

/-- ERASE_SESSION (R262): the session root is invalidated, or at its limit every SA destroyed and ROOT_GEN kept. -/
def eraseSession (s : State) : State :=
  if s.attar.rootGen < genLimit then invalidateRoot 2 s
  else
    let due := (s.channels.sas.cells.filter (fun k => k.2.accord && !k.2.failed)).map (fun k => k.2.sc)
    let s := due.foldl (fun s sc => rekeyDue sc s) (zeroSas true s)
    raiseInvalidated 0 0xffff s.attar.rootGen 2 (serveRekeyDue s)

/-- The erasures of ERASE_ALL (R470): keeper key, system store, every slot, the key bytes of every SA; the zeroisation is counted. -/
def eraseAll (s : State) : State :=
  let s := zeroSas false s
  let s := { s with attar := { s.attar with
    keeper := none, storageKey := none, domainKey := none, sessionReady := false, sessionRoot := 0, slots := .empty } }
  countZeroise true s

/-- The halt of R474: the cores stop and nothing runs. -/
def halt (s : State) : State :=
  let w := s.watchdog
  { s with
    halted := true, cmdReady := false
    watchdog := { w with ctl := { w.ctl with up := false }, acc := { w.acc with up := false }, hk := { w.hk with up := false } } }

/-- The client ports that transmit a frame stomp it (R472). -/
def stompClients (s : State) : State :=
  (List.range 64).foldl (fun s p => if (egressOf s p).tx.isSome then stompTx p (squelchDrop s) else s) s

/-- Every line transmitter cuts off the frame in transmission. -/
def cutLines (s : State) : State :=
  (List.range 64).foldl (fun s p => if (egressOf s (64 + p)).tx.isSome then cutTx (64 + p) s else s) s

/-- FAREWELL with reason 4 to each ACTIVE peer (R472). -/
def farewellAll (s : State) : State :=
  (s.accord.peers.keysIf (fun _ p => p.state == .active)).foldl (fun s pi => sendFarewell pi 4 s) s

/-- What comes before the lock of a SQUELCH onset where FAREWELL is set: the line transmitters are given over to FAREWELL for at most
1 ms (R472); never at ERASE_ALL. -/
def farewellWindow (rank : Nat) (s : State) : State :=
  if s.tamper.farewell && rank < 4 then
    farewellAll { cutLines s with tamper := { s.tamper with farewellRuns := true } }
  else s

/-- The opcodes that R264 aborts while they run. -/
def keyOperations : List Nat := [0x0501, 0x0502, 0x0403, 0x0504, 0x0505, 0x0104]

/-- A slot whose KEY_WRITE is aborted is left EMPTY, its GEN one higher (R264). -/
def abortWrite (n : Nat) (s : State) : State :=
  let v := slotOf s n
  let t := emptied v
  reviewCommunities (raiseInvalidated v.tenant n t.gen 1 (setSlot n t s))

/-- Key operations in progress are aborted under R264. -/
def abortKeys (s : State) : State :=
  let op (r : Running) : Bool := keyOperations.contains r.cmd.opcode
  let hit := s.running.filter op
  let s := hit.foldl (fun s r => if r.isOp 0x0501 then abortWrite (r.cmd.u16 8) s else s) s
  stopRunning op stFault 0 (hit.foldl (fun s _ => attCount 7 s) s)

/-- The actions that a response adds when the rank in force goes from `old` to `new` (R470, R471). -/
def raiseResponse (old new : Nat) (s : State) : State :=
  let s := if old = 0 ∧ 1 ≤ new then abortKeys s else s
  if old < 2 ∧ 2 ≤ new then declareFault (driveLed 1 true (cutSquelched (stompClients s))) else s

/-- TMP_ALARM (R492): coalesced by source and rank, but always posted where it raises the rank in force. -/
def raiseAlarm (n old : Nat) (atStart : Bool) (s : State) : State :=
  let r := (sourceOf s n).rank
  let now := tamperRank s
  let d := detailOf [(20, if atStart then (sourceOf s n).applied else r), (21, now), (22, b2n atStart),
    (24, if atStart then (sourceOf s n).lastS else batSeconds s)]
  let scope := n + 16 * r
  let severity := if (if atStart then (sourceOf s n).applied else r) = 0 then 0 else 3
  if old < r ∧ holdOpen s 0x0d01 scope then raise 0x0d01 severity n d s
  else raiseScoped 0 scope 0x0d01 severity n d s

/-- Alarms of one cycle are one alarm at the highest of their ranks (R471). -/
def alarm (ns : List Nat) (s : State) : State :=
  if ns = [] then s
  else
    let old := tamperRank s
    let rank := (ns.map (fun n => (sourceOf s n).rank)).foldl max 0
    let s := if old < 2 ∧ 2 ≤ rank then farewellWindow rank s else s
    let s := countBy 0x10088 ns.length (ns.foldl (fun s n => recordOnset n s) s)
    let s := raiseResponse old (tamperRank s) s
    let s := if 3 ≤ rank then eraseSession s else s
    let s := if 4 ≤ rank then eraseAll s else s
    let s := ns.foldl (fun s n => raiseAlarm n old false s) s
    if 4 ≤ rank then halt s else s

/-- The named sources whose condition appears now: those armed alarm, the others only note the condition. -/
def onset (ns : List Nat) (s : State) : State :=
  let fresh := ((List.range 11).filter (fun n => ns.contains n && !(sourceOf s n).active && !(sourceOf s n).fused))
  let armed := fresh.filter (fun n => (sourceOf s n).armed)
  let idle := fresh.filter (fun n => !(sourceOf s n).armed)
  alarm armed (idle.foldl (fun s n => setSource n { sourceOf s n with active := true } s) s)

/-- TAMPER_ONSET. -/
def execTamperOnset (sources : List Nat) (s : State) : Host.Outcome State Fault Refusal := act (onset sources) s

/-- A pin alarm, or TS10's, on the cell alone (R478): recorded; a pin alarm of rank ALERT or higher zeroises the keeper key. -/
def onsetOnCell (n : Nat) (s : State) : State :=
  let t := sourceOf s n
  if n < 6 ∨ 10 < n ∨ t.active ∨ t.fused then s
  else if !t.enabled then setSource n { t with active := true } s
  else
    let s := recordOnset n s
    if n < 10 ∧ 1 ≤ t.rank then countZeroise false { s with attar := { s.attar with keeper := none } } else s

/-- TAMPER_PIN_ON_CELL: it happens while main power is off. -/
def execTamperPinOnCell (sources : List Nat) (s : State) : Host.Outcome State Fault Refusal :=
  always (fun s => sources.foldl (fun s n => onsetOnCell n s) { s with powered := false }) s

/-- TAMPER_CONDITION_END: the condition has been absent for 1 ms, or a pin's DEBOUNCE (R468). -/
def execTamperConditionEnd (source : Nat) (s : State) : Host.Outcome State Fault Refusal :=
  always (fun s => if source ≤ 10 then setSource source { sourceOf s source with active := false } s else s) s

/-- FAREWELL_WINDOW_END: the line transmitters are squelched (R472). -/
def execFarewellWindowEnd (s : State) : Host.Outcome State Fault Refusal :=
  act (fun s => if s.tamper.farewellRuns then { s with tamper := { s.tamper with farewellRuns := false } } else s) s

/-! ## TMP_CONFIG (R482 to R485) -/

def tmpSource (c : Cmd) : Nat := c.get ⟨8, 0, 4⟩
def tmpGlobal (c : Cmd) : Bool := c.flag 8 4
def tmpFuse (c : Cmd) : Bool := !tmpGlobal c && c.flag 9 4
def tmpRank (c : Cmd) : Nat := c.get ⟨9, 0, 3⟩
def tmpEnable (c : Cmd) : Bool := c.flag 9 3
def tmpMode (c : Cmd) : Nat := c.get ⟨10, 0, 2⟩
def tmpDebounce (c : Cmd) : Nat := if c.u8 11 = 0 then 10 else c.u8 11
def isPinSource (n : Nat) : Bool := 6 ≤ n && n ≤ 9

/-- The GPIO that drives the mesh of a pin. -/
def meshDriver (s : State) (pin : Nat) : Option Nat := (pinsOf s 7).find? (fun g => (pinOf s g).inst == pin)

/-- The changes that DEPLOYED forbids (R484). -/
def deployedForbids (c : Cmd) (t : TamperSource) : Bool :=
  decide (tmpRank c < t.rank) || (t.enabled && !tmpEnable c) ||
    (isPinSource (tmpSource c) && (tmpMode c != t.mode || decide (t.debounce < tmpDebounce c)))

/-- TMP_CONFIG. -/
def specTmpConfig : OpSpec where
  opcode := 0x0d01
  cls := .b
  privilege := .p
  lifecycles := fun c => if tmpFuse c then some [1, 2] else none
  fields := fun c =>
    if tmpGlobal c then [⟨8, 4, 1⟩, ⟨12, 0, 1⟩]
    else if tmpFuse c then [⟨8, 0, 4⟩, ⟨9, 4, 1⟩]
    else [⟨8, 0, 4⟩, ⟨9, 0, 4⟩, ⟨10, 0, 2⟩, fld 11 1]
  own := fun c _ =>
    if tmpGlobal c then []
    else
      let pin := isPinSource (tmpSource c)
      [(10 < tmpSource c, 8), (4 < tmpRank c, 9), (pin && tmpMode c == 3, 10),
       (!pin && (tmpMode c != 0 || c.u8 11 != 0) && !tmpFuse c, 8)]
  locks := fun c => if tmpGlobal c then [] else [.source (tmpSource c)]
  badState := fun c s =>
    let t := sourceOf s (tmpSource c)
    !tmpGlobal c &&
      (t.fused || (tmpFuse c && !s.tamper.vppOtp) ||
        (!tmpFuse c &&
          ((lifecycle s == 3 && deployedForbids c t) ||
            (isPinSource (tmpSource c) && tmpMode c == 2 && (meshDriver s (tmpSource c - 6)).isNone))))
  effect := fun c s =>
    let n := tmpSource c
    let t := sourceOf s n
    if tmpGlobal c then ({ s with tamper := { s.tamper with farewell := c.flag 12 0 } }, ok 0)
    else if tmpFuse c then (setSource n { t with fused := true, enabled := false } s, ok 0)
    else
      let u : TamperSource := if isPinSource n then { t with mode := tmpMode c, debounce := tmpDebounce c } else t
      let s := setSource n { u with rank := tmpRank c, enabled := tmpEnable c } s
      let anew : Bool := t.active && tmpEnable c && (!t.enabled || decide (t.rank < tmpRank c))
      (if anew then alarm [n] s else s, ok 0)

/-- TMP_CONFIG. -/
def execTmpConfig (c : Cmd) (s : State) : Host.Outcome State Fault Refusal := hostOp specTmpConfig c s

/-! ## TMP_EVIDENCE (R486) -/

/-- A 16-bit map of the sources with a property. -/
def sourceMask (s : State) (p : TamperSource → Bool) : Nat :=
  ((List.range 16).map (fun n => b2n (p (sourceOf s n)) * 2 ^ n)).foldl (· + ·) 0

/-- A Sillage entry (R479). -/
def sillageEntry (t : TamperSource) : Bytes :=
  leBytes 1 (b2n t.pending + 2 * b2n t.seen + 4 * b2n t.active + 8 * b2n t.fused + 16 * b2n t.selftestFail) ++
    leBytes 1 t.applied ++ leBytes 2 t.count ++ leBytes 4 t.firstS ++ leBytes 4 t.lastS ++ leBytes 4 0

/-- The 288-byte block. -/
def evidenceBlock (s : State) : Bytes :=
  leBytes 4 (batSeconds s) ++ leBytes 6 s.time.clock.sec ++ leBytes 4 s.time.clock.ns ++ leBytes 18 0 ++
    ((List.range 16).map (fun n => sillageEntry (sourceOf s n))).flatten

/-- RESULT of TMP_EVIDENCE. -/
def evidenceResult (s : State) : Nat :=
  let t := s.tamper
  resultOf [(8, sourceMask s (·.pending)), (10, sourceMask s (·.seen)),
    (12, t.otpCount + 64 * b2n (t.otpCount == 32) + 128 * b2n t.lostPower), (13, t.zeroisePending + 16 * b2n t.pendingLost),
    (14, tamperRank s + 8 * b2n (sourceMask s (·.pending) != 0))]

/-- TMP_EVIDENCE. -/
def specTmpEvidence : OpSpec where
  opcode := 0x0d02
  cls := .a
  privilege := .p
  underLock := true
  decommissioned := fun _ => true
  lifecycles := fun c => if c.flag 8 0 then some [1] else none
  fields := fun _ => [⟨8, 0, 1⟩]
  pointer := fun _ => true
  effect := fun c s =>
    let r : Reply := { status := stOk, result := evidenceResult s, data := if c.dataPtr = 0 then [] else evidenceBlock s }
    let clear (n : Nat) (s : State) : State :=
      setSource n { sourceOf s n with seen := false, count := 0, firstS := 0, lastS := 0 } s
    (if c.flag 8 0 then (List.range 16).foldl (fun s n => clear n s) s else s, .done r)

/-- TMP_EVIDENCE. -/
def execTmpEvidence (c : Cmd) (s : State) : Host.Outcome State Fault Refusal := hostOp specTmpEvidence c s

/-! ## TMP_ACK (R476, R487) -/

/-- PENDING of the named sources whose condition is absent is cleared; the lock and the squelch end with the last PENDING of rank 2. -/
def acknowledge (mask : Nat) (s : State) : State :=
  let was := tamperLock s
  let s := (List.range 11).foldl (fun s n =>
    let t := sourceOf s n
    if bitOf mask n && t.pending && !t.active then setSource n { t with pending := false, applied := 0 } s else s) s
  if was && !tamperLock s then
    raiseHeld 0 0x0d02 0 0 (detailOf [(20, sourceMask s (·.pending))])
      (driveLed 1 false { s with tamper := { s.tamper with farewellRuns := false } })
  else s

/-- TMP_ACK. -/
def specTmpAck : OpSpec where
  opcode := 0x0d03
  cls := .a
  privilege := .p
  underLock := true
  fields := fun _ => [fld 8 2]
  effect := fun c s =>
    let s := acknowledge (c.u16 8) s
    (s, ok (resultOf [(8, sourceMask s (·.pending)), (10, b2n (tamperLock s))]))

/-- TMP_ACK. -/
def execTmpAck (c : Cmd) (s : State) : Host.Outcome State Fault Refusal := hostOp specTmpAck c s

/-! ## TMP_SELFTEST (R482, R488) -/

/-- The self-tests of sources in ascending order; whether a source passes is free (notes/assumptions/1). -/
def selfTests (mask : Nat) : List Nat → Nat × Nat × State → Nat × Nat × State
  | [], a => a
  | n :: rest, (good, bad, s) =>
    if bitOf mask n && (sourceOf s n).armed then
      let (pass, s) := drawFree 1 s
      let s := count 0x10090 (setSource n { sourceOf s n with selftestFail := pass != 1 } s)
      if pass = 1 then selfTests mask rest (good + 2 ^ n, bad, s)
      else selfTests mask rest (good, bad + 2 ^ n, raiseHeld 0 0x0d03 2 n 0 s)
    else selfTests mask rest (good, bad, s)

/-- TMP_SELFTEST. -/
def specTmpSelftest : OpSpec where
  opcode := 0x0d05
  cls := .b
  privilege := .p
  fields := fun _ => [fld 8 2]
  effect := fun c s =>
    let (good, bad, s) := selfTests (c.u16 8) (List.range 11) (0, 0, s)
    (s, ok (resultOf [(8, good), (10, bad)]))

/-- TMP_SELFTEST. -/
def execTmpSelftest (c : Cmd) (s : State) : Host.Outcome State Fault Refusal := hostOp specTmpSelftest c s

/-! ## PIN_ASSIGN (R489) -/

def pinNumber (c : Cmd) : Nat := c.get ⟨8, 0, 4⟩
def pinFunction (c : Cmd) : Nat := if c.flag 8 7 then 0 else c.get ⟨9, 0, 4⟩
def pinInstance (c : Cmd) : Nat := c.get ⟨10, 0, 2⟩

/-- The level that an output's function gives it. -/
def functionLevel (s : State) (p : Pin) : Bool :=
  match p.function with
  | 1 => s.time.ppsOut
  | 3 => p.level
  | 4 => s.pair.aliveOut
  | 6 => s.pair.mode == .active || s.pair.mode == .alone
  | 8 =>
    match p.inst with
    | 0 => s.cmdReady
    | 1 => tamperLock s
    | 2 => s.pair.mode == .active || s.pair.mode == .alone
    | _ => s.reservoir.degraded
  | 9 => !bitOf (reg s (bar0 0 0x3000)).toNat 2
  | _ => false

/-- Whether a function is an output. -/
def isOutput (function : Nat) : Bool := [1, 3, 4, 6, 7, 8, 9, 10].contains function

/-- The holder of a GPIO as R60 names it. -/
def pinHolder (p : Pin) : Nat := if p.battery then 0xfe else 0

/-- Another GPIO that already has a function of which the device has one, or one per instance. -/
def otherHolder (s : State) (g function inst : Nat) : Option Nat :=
  if [1, 2, 4, 5, 6, 9, 10].contains function then (pinsOf s function).find? (· != g)
  else if function = 7 then (pinsOf s 7).find? (fun k => k != g && (pinOf s k).inst == inst)
  else none

/-- Whether R489 forbids the release of a GPIO. -/
def releaseForbidden (s : State) (g : Nat) : Bool :=
  let p := pinOf s g
  match p.function with
  | 3 => s.time.timers.cells.any (fun t => t.2.action != 2 && t.2.pin == g)
  | 4 | 5 | 6 => s.pair.mode != .off
  | 7 => (sourceOf s (6 + p.inst)).enabled && (sourceOf s (6 + p.inst)).mode == 2
  | _ => false

/-- PIN_ASSIGN. -/
def specPinAssign : OpSpec where
  opcode := 0x0d06
  cls := .a
  privilege := .p
  fields := fun c => [⟨8, 0, 4⟩, ⟨8, 7, 1⟩, ⟨11, 0, 1⟩] ++ (if c.flag 8 7 then [] else [⟨9, 0, 4⟩, ⟨10, 0, 2⟩])
  own := fun c _ =>
    [(11 ≤ pinFunction c, 9), (c.flag 11 0 && [0, 2, 5].contains (pinFunction c), 9)]
  locks := fun c => [.pin (pinNumber c)]
  badState := fun c s => pinFunction c == 0 && releaseForbidden s (pinNumber c)
  conflict := fun c s =>
    let p := pinOf s (pinNumber c)
    if pinFunction c = 0 then none
    else if p.function ≠ 0 ∧ (p.function ≠ pinFunction c ∨ (p.function = 7 ∧ p.inst ≠ pinInstance c)) then some (pinHolder p)
    else (otherHolder s (pinNumber c) (pinFunction c) (pinInstance c)).map (fun g => pinHolder (pinOf s g))
  effect := fun c s =>
    let g := pinNumber c
    let old := pinOf s g
    if pinFunction c = 0 then (setPin g {} s, ok 0)
    else
      let p : Pin :=
        { function := pinFunction c, inst := pinInstance c, invert := c.flag 11 0
          level := old.function == 3 && pinFunction c == 3 && old.level, battery := old.battery }
      let s := setPin g p s
      (if isOutput p.function then drive g (functionLevel s p) s else s, ok 0)

/-- PIN_ASSIGN. -/
def execPinAssign (c : Cmd) (s : State) : Host.Outcome State Fault Refusal := hostOp specPinAssign c s

end Sys2Proof.Machine
end

