-- ==== Sys2Proof/Machine/Boot.lean ====
section
/-!
DEFINITION. Boot and identity (17_boot_and_identity): images and banks, the choice of a bank, FW_STAGE, FW_ACTIVATE, LC_ADVANCE,
ID_CERTS and ATTEST; DEV_INFO (02_command_channel R68).
-/
namespace Sys2Proof.Machine

open Sys2Proof

/-! ## Images (R495 to R498) -/

def imgHeader : Nat := 24576
def imgMagic : Nat := 0x474e5746
def imgVersion (i : Bytes) : Nat := leAt i 8 4
def imgMajor (i : Bytes) : Nat := byteAt i 8
def imgSvn (i : Bytes) : Nat := byteAt i 12 % 64
def imgBytes (i : Bytes) : Nat := leAt i 16 4
def imgMinRevision (i : Bytes) : Nat := leAt i 24 2
def imgKeySlot (alg : Nat) (i : Bytes) : Nat := byteAt i (28 + alg) % 4
def imgKey (alg : Nat) (i : Bytes) : Bytes := if alg = 0 then slice i 80 384 else slice i 464 48
def imgSig (alg : Nat) (i : Bytes) : Bytes := if alg = 0 then slice i 512 384 else slice i 4096 16224

/-- GEN_REVISION (00_scope R13). -/
def genRevision : Nat := 0x0a01

/-- Code 3 of R496 apart from MAGIC: FORMAT and the reserved bytes. -/
def imgFormed (i : Bytes) : Bool :=
  leAt i 4 2 == 1 && allZero (slice i 6 2) && allZero (slice i 30 2) && allZero (slice i 896 3200) && allZero (slice i 20320 4256)

/-- The vendor key of an algorithm is known and not revoked (R496 code 7, R497). -/
def keyKnown (s : State) (alg : Nat) (i : Bytes) : Bool :=
  Config.sha384 (imgKey alg i) == Config.vendorHash alg (imgKeySlot alg i) && !s.boot.revoked.contains (alg, imgKeySlot alg i)

/-- The signature of an algorithm over bytes 0 to 511 verifies. -/
def sigGood (alg : Nat) (i : Bytes) : Bool := Config.sigValid alg (imgKey alg i) (i.take 512) (imgSig alg i)

/-- IMAGE_HASH matches the code. -/
def hashGood (i : Bytes) : Bool := Config.sha384 (slice i imgHeader (imgBytes i)) == beAt i 32 48

/-- The checks of R496 in their order: 0 for a valid image, else the code of the first that fails; 10 for a flash read error. -/
def checkImage (s : State) (i : Bytes) (readable : Bool) : Nat :=
  if !readable then 10
  else if !(leAt i 0 4 == imgMagic && imgFormed i) then 3
  else if !(keyKnown s 0 i && keyKnown s 1 i) then 7
  else if !sigGood 0 i then 5
  else if !sigGood 1 i then 6
  else if !hashGood i then 4
  else if imgSvn i < s.boot.floor then 8
  else if genRevision < imgMinRevision i then 9
  else 0

/-! ## Banks (R499, R503) -/

/-- A bank's bytes. -/
def bankOf (s : State) (b : Bool) : Bytes := if b then s.boot.bankB else s.boot.bankA
def setBank (b : Bool) (bs : Bytes) (s : State) : State :=
  { s with boot := if b then { s.boot with bankB := bs } else { s.boot with bankA := bs } }

/-- An error code of BOOT_STATUS for a bank. -/
def setBankError (b : Bool) (code : Nat) (s : State) : State :=
  { s with boot := if b then { s.boot with errorB := code } else { s.boot with errorA := code } }

/-- FW_FALLBACK (R517). -/
def raiseFallback (b : Bool) (cause code : Nat) (s : State) : State :=
  raiseHeld 0 0x0e02 2 (b2n b) (detailOf [(20, cause), (21, code)]) s

/-- The banks in the order the ROM tries them, and whether the first is a trial (R499). -/
def chooseBank (s : State) : (List Bool × Bool) × State :=
  match s.boot.record with
  | none => (([false, true], false), setBankError false 2 s)
  | some r =>
    if r.trialSet && !r.trialUsed then
      (([!r.active, r.active], true), { s with boot := { s.boot with record := some { r with trialUsed := true } } })
    else if r.trialSet then
      (([r.active, !r.active], false),
       raiseFallback (!r.active) 1 0 { s with boot := { s.boot with record := some { active := r.active } } })
    else (([r.active, !r.active], false), s)

/-- A valid image is loaded and runs: `source` 0 normal, 1 fallback, 2 recovery; `how` 0 reset, 1 RESTART, 2 L6 (R517 FW_BOOTED). -/
def runImage (b : Bool) (img : Bytes) (source how : Nat) (trial : Bool) (s : State) : State :=
  let s := { s with boot := { s.boot with bank := b, trial, source, running := img.take (imgHeader + imgBytes img), stage := 4 } }
  raiseHeld 0 0x0e01 0 (b2n b) (detailOf [(20, source), (21, how), (24, imgVersion img)]) s

/-- The banks are tried in order; whether one runs. `bad` are the banks that cannot be read. -/
def tryBanks (bad : List Bool) (how : Nat) : (order : List Bool) → (first trial : Bool) → State → Bool × State
  | [], _, _, s => (false, s)
  | b :: rest, first, trial, s =>
    let code := checkImage s (bankOf s b) (!bad.contains b)
    if code = 0 then
      let s := if first then s else raiseFallback (!b) 0 (if b then s.boot.errorA else s.boot.errorB) s
      (true, runImage b (bankOf s b) (if first then 0 else 1) how (first && trial) s)
    else tryBanks bad how rest false false (setBankError b code s)

/-- Steps 4 to 7 of R500. -/
def bootBanks (bad : List Bool) (how : Nat) (s : State) : Bool × State :=
  let ((order, trial), s) := chooseBank s
  tryBanks bad how order true trial s

/-! ## The cores (R500 step 7, 19 R560) -/

/-- CMD_READY changes. -/
def setReady (b : Bool) (s : State) : State := driveLed 0 b { s with cmdReady := b }

/-- The open exchanges of Accord end with reason 10, their SAs left to R238; CPU_ACC goes on from the SC and SA entries (06 R200). -/
def accordRestart (s : State) : State :=
  let stop (p : Peer) : Option Exchange :=
    match p.exchange with | some x => if x.stage = .done then none else some x | none => none
  let s := (s.accord.peers.keysIf (fun _ p => (stop p).isSome)).foldl (fun s pi =>
    match peerOf s pi with
    | none => s
    | some p =>
      match stop p with
      | none => s
      | some x =>
        let s := setPeer pi { p with
          exchange := none, lastFail := 10, backoff := if x.initiator then some x.rekey else p.backoff
          leftover := if x.rxSa.isSome || x.txSa.isSome then some x else none } s
        raiseAgreeFailed pi 10 (accCount 10 s)) s
  serveWishes (serveRekeyDue (reviewCommunities s))

/-- All three cores run. -/
def coresUp (s : State) : State :=
  let w := s.watchdog
  { s with watchdog := { w with
      ctl := { w.ctl with up := true }, acc := { w.acc with up := true }, hk := { w.hk with up := true }, stopped := false } }

/-- All three cores stay stopped (R503, 19 R561). -/
def coresStop (s : State) : State :=
  let w := s.watchdog
  setReady false { s with watchdog := { w with
      ctl := { w.ctl with up := false }, acc := { w.acc with up := false }, hk := { w.hk with up := false }, stopped := true } }

/-- All three cores have started again on an image: what ran in CPU_CTL is aborted, CPU_ACC's exchanges end (19 R558, R560). -/
def coresRestarted (s : State) : State := accordRestart (setReady true (coresUp (stopRunning (fun _ => true) stAborted 2 s)))

/-- The cores stop and start again from the bank that R499 chooses (R506). -/
def restartCores (bad : List Bool) (how : Nat) (s : State) : State :=
  match bootBanks bad how s with
  | (true, s) => coresRestarted { s with boot := { s.boot with stage := 6 } }
  | (false, s) => coresStop (stopRunning (fun _ => true) stAborted 2 s)

/-! ## DEV_INFO (02 R68) -/

/-- DEV_INFO. -/
def specDevInfo : OpSpec where
  opcode := 0x0101
  cls := .a
  privilege := .f
  underLock := true
  decommissioned := fun _ => true
  fields := fun _ => []
  effect := fun c s =>
    let qps := ((List.range 4).map (fun n => b2n (qpEnabled s c.fn n) * 2 ^ n)).foldl (· + ·) 0
    (s, ok (resultOf [(8, imgVersion s.boot.running), (12, c.fn), (13, lifecycle s), (14, b2n s.boot.bank), (15, qps)]))

/-- DEV_INFO. -/
def execDevInfo (c : Cmd) (s : State) : Host.Outcome State Fault Refusal := hostOp specDevInfo c s

/-! ## FW_STAGE (R504, R505) -/

def stageOp (c : Cmd) : Nat := c.get ⟨8, 0, 2⟩
def stageOffset (c : Cmd) : Nat := c.u32 12
def stageLength (c : Cmd) : Nat := c.u32 16

/-- The bank that is not running. -/
def idleBank (s : State) : Bool := !s.boot.bank

/-- The DETAIL of SIG_FAIL at BEGIN, 0 where both signatures hold under known keys. -/
def stageSig (s : State) (i : Bytes) : Nat :=
  b2n (!(keyKnown s 0 i && sigGood 0 i)) + 2 * b2n (!(keyKnown s 1 i && sigGood 1 i))

/-- Erased flash. -/
def erased (n : Nat) : Bytes := List.replicate n 0xff

/-- A run of a bank's bytes replaced. -/
def overwrite (bs : Bytes) (off : Nat) (new : Bytes) : Bytes := bs.take off ++ new ++ bs.drop (off + new.length)

/-- The session ends with the bank invalid. -/
def abandonStage (s : State) : State :=
  let b := idleBank s
  setBank b (overwrite (bankOf s b) 0 (erased 4096)) { s with boot := { s.boot with staging := none } }

/-- The conditions of STATE (R505). -/
def stageForbidden (c : Cmd) (s : State) : Bool :=
  s.boot.trial ||
    (match stageOp c, s.boot.staging with
     | 0, some _ => true
     | 0, none => decide (imgSvn c.payload < s.boot.floor) || decide (genRevision < imgMinRevision c.payload)
     | 1, some _ => decide (imgHeader + imgBytes (bankOf s (idleBank s)) < stageOffset c + stageLength c)
     | _, some _ => false
     | _, none => true)

/-- FW_STAGE's effect once the checks pass; `flashFailures` is the board's. -/
def stageEffect (c : Cmd) (s : State) : State × Result :=
  let b := idleBank s
  let next (n : Nat) (s : State) : State × Result :=
    ({ s with boot := { s.boot with staging := some n } }, ok (resultOf [(8, n)]))
  match stageOp c with
  | 0 =>
    let sig := stageSig s c.payload
    if sig ≠ 0 then (s, failed stSigFail sig)
    else if 1 ≤ s.attar.flashFailures then (abandonStage s, failed stFault 0)
    else next imgHeader (setBank b (erased 4 ++ (c.payload.drop 4).take (imgHeader - 4) ++ erased (imgBytes c.payload)) s)
  | 1 =>
    if 1 ≤ s.attar.flashFailures then (abandonStage s, failed stFault 0)
    else next (stageOffset c + stageLength c) (setBank b (overwrite (bankOf s b) (stageOffset c) c.payload) s)
  | 2 =>
    if 1 ≤ s.attar.flashFailures then (abandonStage s, failed stFault 0)
    else if !hashGood (bankOf s b) then (abandonStage s, failed stSigFail 4)
    else
      let img := overwrite (bankOf s b) 0 (leBytes 4 imgMagic)
      let s := setBank b img { s with boot := { s.boot with staging := none } }
      (raiseHeld 0 0x0e03 0 (b2n b) (detailOf [(20, imgSvn img), (24, imgVersion img)]) s, ok (resultOf [(8, imgVersion img)]))
  | _ =>
    let (v, s) := drawFree 32 (abandonStage s)
    (s, ok (resultOf [(8, v)]))

/-- FW_STAGE. -/
def specFwStage : OpSpec where
  opcode := 0x0e01
  cls := .d
  privilege := .p
  fields := fun _ => [⟨8, 0, 2⟩, fld 12 4, fld 16 4]
  pointer := fun c => stageOp c ≤ 1
  payloadLength := fun c => if stageOp c ≤ 1 then stageLength c else 0
  own := fun c s =>
    match stageOp c with
    | 0 => [(stageOffset c != 0, 12), (stageLength c != imgHeader, 16),
            (!(imgFormed c.payload && leAt c.payload 0 4 == imgMagic && imgBytes c.payload % 4096 == 0 &&
                decide (imgBytes c.payload ≤ 6291456)), 56)]
    | 1 =>
      [((match s.boot.staging with | some n => stageOffset c != n | none => false), 12),
       (stageLength c < 8 || 1048576 < stageLength c || stageLength c % 8 != 0, 16)]
    | _ => [(stageOffset c != 0, 12), (stageLength c != 0, 16)]
  badState := stageForbidden
  locks := fun _ => [.flash]
  effect := stageEffect

/-- FW_STAGE. -/
def execFwStage (c : Cmd) (s : State) : Host.Outcome State Fault Refusal := hostOp specFwStage c s

/-! ## FW_ACTIVATE (R506, R507) -/

def actMode (c : Cmd) : Nat := c.get ⟨8, 0, 2⟩
def actRestart (c : Cmd) : Bool := c.flag 8 2

/-- FW_ACTIVATE. -/
def specFwActivate : OpSpec where
  opcode := 0x0e02
  cls := .c
  privilege := .p
  fields := fun _ => [⟨8, 0, 3⟩]
  own := fun c _ => [(actRestart c && 2 ≤ actMode c, 8)]
  locks := fun _ => [.flash]
  badState := fun c s =>
    s.boot.staging.isSome ||
      (match actMode c with
       | 2 => !s.boot.trial
       | 3 => s.boot.trial || !s.tamper.vppOtp
       | _ =>
         checkImage s (bankOf s (idleBank s)) true != 0 ||
           (actRestart c && imgMajor (bankOf s (idleBank s)) != imgMajor s.boot.running))
  effect := fun c s =>
    let run := s.boot.bank
    let s := match actMode c with
      | 0 => { s with boot := { s.boot with record := some { active := !run } } }
      | 1 => { s with boot := { s.boot with record := some { active := run, trialSet := true } } }
      | 2 => { s with boot := { s.boot with record := some { active := run }, trial := false } }
      | _ => { s with boot := { s.boot with floor := max s.boot.floor (imgSvn s.boot.running) } }
    let r := s.boot.record.getD {}
    let reply : Reply :=
      { status := stOk, result := resultOf [(8, b2n r.active), (9, b2n r.trialSet + 2 * b2n r.trialUsed), (10, s.boot.floor)] }
    if actRestart c then (restartCores [] 1 (finish c reply s), .posted) else (s, .done reply)

/-- FW_ACTIVATE. -/
def execFwActivate (c : Cmd) (s : State) : Host.Outcome State Fault Refusal := hostOp specFwActivate c s

/-! ## LC_ADVANCE (R508, R509, R512) -/

def lcTarget (c : Cmd) : Nat := c.get ⟨8, 0, 3⟩

/-- A new keeper key (R265): it discards the storage key, the tombstones and the floor. -/
def newKeeper (s : State) : State :=
  let (k, s) := drawFree 256 (entServe 1 32 s)
  { s with attar := { s.attar with keeper := some k, storageKey := none, tombstones := .empty, floor := 0 } }

/-- No lane carries frames in DECOMMISSIONED (R508): every port goes down and stays down. -/
def closePorts (s : State) : State :=
  s.ports.ports.keys.foldl (fun s p =>
    match portOf s p with
    | none => s
    | some v =>
      let s := modPort p (fun v => { v with slot := v.slot - v.slot / 32 % 2 * 32 }) s
      if v.linkUp then linkDown p 4 s else restartLink p s) s

/-- The state is fused and told; leaving FACTORY clears DEBUG_HOLD (19 R567). -/
def enterLifecycle (target : Nat) (s : State) : State :=
  let old := s.boot.lifecycle
  let w := s.watchdog
  let s := { s with boot := { s.boot with lifecycle := target }, watchdog := { w with debugHold := false } }
  raiseHeld 0 0x0d04 1 0 (detailOf [(20, target), (21, old)]) s

/-- The work of each TARGET, the unit serving. -/
def advance (target : Nat) (s : State) : State :=
  match target with
  | 1 =>
    let (rsa, s) := drawFree 3072 (entServe 2 480 s)
    let (slh, s) := drawFree 768 s
    enterLifecycle 1 { s with boot := { s.boot with identity := some { rsa, slh }, idValid := true } }
  | 2 => enterLifecycle 2 (leaveTest (needStorage (newKeeper s)).2)
  | 3 => enterLifecycle 3 s
  | _ => enterLifecycle 4 (closePorts { eraseAll s with boot := { s.boot with identity := none, idValid := false } })

/-- Whether a TARGET draws keys. -/
def advanceDraws (target : Nat) : Bool := target == 1 || target == 2

/-- LC_ADVANCE. -/
def specLcAdvance : OpSpec where
  opcode := 0x0d04
  cls := .c
  privilege := .p
  fields := fun _ => [⟨8, 0, 3⟩, fld 12 4]
  own := fun c s =>
    [(!(lcTarget c == 4 || (lcTarget c == lifecycle s + 1 && lcTarget c ≤ 4)), 8), (c.u32 12 != 0x4c434144, 12)]
  badState := fun c s =>
    !s.tamper.vppOtp || s.boot.trial || (lifecycle s == 0 && lcTarget c == 4) ||
      (lcTarget c == 2 && (match s.boot.identity with | some d => d.chainRsa == [] || d.chainSlh == [] | none => true))
  locks := fun _ => [.flash, .identity]
  effect := fun c s =>
    if advanceDraws (lcTarget c) && !entServes s 2 then (s, .wait .entropy) else (advance (lcTarget c) s, ok 0)

/-- LC_ADVANCE. -/
def execLcAdvance (c : Cmd) (s : State) : Host.Outcome State Fault Refusal := hostOp specLcAdvance c s

/-! ## ID_CERTS (R513) -/

def certWrite (c : Cmd) : Bool := c.flag 8 0
def certSlh (c : Cmd) : Bool := c.flag 8 1

/-- A chain of the identity. -/
def Identity.chain (d : Identity) (slh : Bool) : Bytes := if slh then d.chainSlh else d.chainRsa

/-- ID_CERTS. -/
def specIdCerts : OpSpec where
  opcode := 0x0e04
  cls := .b
  privilege := .f
  underLock := true
  decommissioned := fun c => !certWrite c
  lifecycles := fun c => if certWrite c then some [1] else none
  pfForm := certWrite
  fields := fun _ => [⟨8, 0, 2⟩, fld 12 4]
  pointer := fun _ => true
  payloadLength := fun c => if certWrite c then c.u32 12 else 0
  own := fun c _ => [(certWrite c && (c.u32 12 < 8 || 16384 < c.u32 12), 12)]
  locks := fun c => if certWrite c then [.flash] else []
  effect := fun c s =>
    match s.boot.identity, s.boot.idValid with
    | some d, true =>
      if certWrite c then
        if Config.leafMatches (b2n (certSlh c)) (if certSlh c then d.slh else d.rsa) c.payload then
          let d := if certSlh c then { d with chainSlh := c.payload } else { d with chainRsa := c.payload }
          ({ s with boot := { s.boot with identity := some d } }, ok 0)
        else (s, failed stIntegrity 0)
      else
        let chain := d.chain (certSlh c)
        let result := resultOf [(8, chain.length)]
        if c.u32 12 < chain.length then (s, .done { status := stNoResource, result })
        else (s, .done { status := stOk, result, data := chain })
    | _, _ => (s, failed stIntegrity 0)

/-- ID_CERTS. -/
def execIdCerts (c : Cmd) (s : State) : Host.Outcome State Fault Refusal := hostOp specIdCerts c s

/-! ## ATTEST (R514, R515) -/

/-- The report body. -/
def reportBody (c : Cmd) (s : State) : Bytes :=
  let b := s.boot
  let other := bankOf s (idleBank s)
  let valid := checkImage s other true == 0
  let flacon := match activeCopy s with | some f => f.generation | none => 0
  let set : Bool := s.time.state != .unset
  leBytes 4 0x41545354 ++ leBytes 2 1 ++ leBytes 2 256 ++ leBytes 8 b.deviceId ++ leBytes 4 0x96404000 ++ leBytes 4 genRevision ++
    leBytes 1 (b.lifecycle + 8 * b2n (tamperLock s)) ++ leBytes 1 c.fn ++
    leBytes 1 (b2n b.bank + 2 * b.source + 8 * b2n b.trial) ++ leBytes 1 b.floor ++ leBytes 4 (imgVersion b.running) ++
    leBytes 4 (imgSvn b.running) ++ beBytes 48 (Config.sha384 (b.running.take 512)) ++
    leBytes 4 (if valid then imgVersion other else 0) ++ leBytes 4 (if valid then imgSvn other else 0) ++
    leBytes 4 flacon ++ leBytes 4 s.attar.rootGen ++ leBytes 2 (sourceMask s (·.pending)) ++ leBytes 2 (sourceMask s (·.seen)) ++
    leBytes 4 s.tamper.otpCount ++ leBytes 6 (if set then s.time.clock.sec else 0) ++ leBytes 4 (if set then s.time.clock.ns else 0) ++
    leBytes 1 (imgKeySlot 0 b.running) ++ leBytes 1 (imgKeySlot 1 b.running) ++ leBytes 32 (bitsOf c.bits 64 256) ++ leBytes 104 0

/-- The report: the body signed with both identity keys, salt and randomness drawn. -/
def attestReply (d : Identity) (c : Cmd) (s : State) : Reply × State :=
  let body := reportBody c s
  let (salt, s) := drawFree 384 (entServe 2 72 s)
  let (rand, s) := drawFree 192 s
  let data := body ++ beBytes 384 (Config.mac 60 d.rsa (beBytes 48 salt ++ body)) ++ beBytes 16224 (Config.mac 61 d.slh (beBytes 24 rand ++ body))
  ({ status := stOk, data }, s)

/-- ATTEST. -/
def specAttest : OpSpec where
  opcode := 0x0e03
  cls := .c
  privilege := .f
  underLock := true
  lifecycles := fun _ => some [1, 2, 3]
  fields := fun _ => [fld 8 32]
  pointer := fun _ => true
  locks := fun _ => [.identity]
  effect := fun c s =>
    match s.boot.identity, s.boot.idValid with
    | some d, true =>
      if entServes s 2 then
        let (r, s) := attestReply d c s
        (s, .done r)
      else (s, .wait .entropy)
    | _, _ => (s, failed stIntegrity 0)

/-- ATTEST. -/
def execAttest (c : Cmd) (s : State) : Host.Outcome State Fault Refusal := hostOp specAttest c s

end Sys2Proof.Machine
end

