-- ==== Sys2Proof/Machine/Watchdog.lean ====
section
/-!
DEFINITION. Timeouts and self-recovery (19_timeouts_and_recovery): the watchdog levels L0 to L7, the restart of a core, the class
timers of commands (02 R55, R57), and WD_CONFIG.
-/
namespace Sys2Proof.Machine

open Sys2Proof

/-- Count a watchdog counter (R568). -/
def wdCount (i n : Nat) (s : State) : State := countBy (0x10480 + 8 * i) n s

/-- The level of the most recent recovery. -/
def lastLevel (n : Nat) (s : State) : State := { s with watchdog := { s.watchdog with lastLevel := n } }

/-! ## L0 (R554) -/

/-- One frame with words in a flushed stage: stomped where its head has left its egress, else dropped. -/
def flushFrame (fid : Nat) (s : State) : State :=
  match frameOf s fid with
  | none => s
  | some f =>
    let s := wdCount 1 1 s
    if f.headLeft then stompTx f.egress s else dropWhole fid s

/-- A stage is flushed. A plane loses cells, which the resequencers miss (09 R282); every other stage loses frames. -/
def flushStage (unit stage : Nat) (frames : List Nat) (cells : List (Nat × Nat × Nat)) (s : State) : State :=
  let plane : Bool := unit == 32 || unit == 33
  let fids := if plane then [] else (frames.filter (fun n => (frameOf s n).isSome)).eraseDups
  let s := fids.foldl (fun s n => flushFrame n s) s
  let lost (c : Cell) : Bool := plane && c.plane == unit - 32 && cells.contains (c.input, c.output, c.seq)
  let s := { s with fabric := { s.fabric with cells := s.fabric.cells.filter (fun c => !lost c) } }
  let s := raiseHeld 0 0x1001 2 unit (detailOf [(20, stage), (24, fids.length)]) (wdCount 0 1 s)
  declareFault (lastLevel 0 s)

/-- L0_FLUSH: a stage has held a word for 1 us while its downstream was ready. `frames` are the frames with words in it; of a plane,
`cells` are the cells {input, output, number} in it. -/
def execL0Flush (unit stage : Nat) (frames : List Nat) (cells : List (Nat × Nat × Nat)) (s : State) :
    Host.Outcome State Fault Refusal := act (flushStage unit stage frames cells) s

/-! ## L1 (R555) -/

/-- Complete one running command with a status, its work so far standing. -/
def stopIndex (index status detail : Nat) (s : State) : State :=
  match s.running[index]? with
  | none => s
  | some r => postCompletion r.cmd status detail (stopResult r) { s with running := s.running.eraseIdx index }

/-- WD_TABLE_EXPIRED. -/
def tableExpired (object index : Nat) (s : State) : State :=
  raiseHeld 0 0x1002 2 object (detailOf [(24, index)]) (wdCount 2 1 (lastLevel 1 s))

/-- L1_EXPIRY: an operation's retry has expired too. `what`: 0 a selector block operation, 1 a multicast block operation, 2 a
firmware write of an entry for the running command `index`. -/
def execL1Expiry (what table pipe entry index : Nat) (s : State) : Host.Outcome State Fault Refusal :=
  act (fun s =>
    match what with
    | 0 =>
      let (how, s) := drawFree 8 (tableExpired table entry s)
      selDone 4 entry false (failParity table pipe entry how s)
    | 1 =>
      let (how, s) := drawFree 8 (tableExpired (table + 8) entry s)
      let s := failMc (table == 1) entry how s
      { s with fabric := { s.fabric with mcResult := 3 } }
    | _ => stopIndex index stFault 0 (tableExpired (table + 16) entry s)) s

/-! ## L2 (R556) -/

/-- L2_EXPIRY: a DDR access has exceeded 20 us: the channel retrains, and a command that the access was made for completes with
FAULT. -/
def execL2Expiry (channel : Nat) (index : Option Nat) (s : State) : Host.Outcome State Fault Refusal :=
  act (fun s =>
    let s := if (chOf s channel).state = .online then beginRetrain channel 1 (lastLevel 2 s) else s
    match index with
    | some i => stopIndex i stFault 0 s
    | none => s) s

/-! ## L4 (R558; 02 R55, R57) -/

/-- CLASS_TIMEOUT: the class time of a running command has ended while CPU_CTL runs. -/
def execClassTimeout (index : Nat) (s : State) : Host.Outcome State Fault Refusal :=
  act (fun s =>
    match s.running[index]? with
    | none => s
    | some r =>
      if !s.watchdog.ctl.up then s
      else if (match r.xfer with | some x => x.fault.isSome | none => false) then
        stopIndex index stAborted 1 (lastLevel 4 s)
      else stopIndex index stTimeout 0 (wdCount 3 1 (lastLevel 4 s))) s

/-! ## L5 (R559, R564) -/

/-- A function's queue pairs disabled. -/
def disablePairs (fn : Nat) (s : State) : State :=
  (List.range 4).foldl (fun s n => regClear (qpReg fn n 0x10) 1 s) s

/-- L5_EXPIRY: a command of the function is still running L5_GRACE after its class time: the function's commands are aborted and its
queue pairs disabled. -/
def recoverFunction (fn : Nat) (s : State) : State :=
  let own (r : Running) : Bool := r.cmd.fn == fn && r.cmd.qp < 4
  let stopped := (s.running.filter own).length
  let qps := ((List.range 4).map (fun n => b2n (qpEnabled s fn n) * 2 ^ n)).foldl (· + ·) 0
  if stopped = 0 then s
  else
    let s := disablePairs fn (stopRunning own stAborted 3 s)
    raiseHeld fn 0x1003 1 fn (detailOf [(20, stopped), (22, qps)]) (wdCount 4 1 (lastLevel 5 s))

/-- L5_EXPIRY. -/
def execL5Expiry (fn : Nat) (s : State) : Host.Outcome State Fault Refusal := act (recoverFunction fn) s

/-! ## L6 (R560, R561) -/

/-- A core by its requester ID: 32 CPU_CTL, 33 CPU_ACC, 34 CPU_HK. -/
def coreOf (s : State) (n : Nat) : Core :=
  if n = 32 then s.watchdog.ctl else if n = 33 then s.watchdog.acc else s.watchdog.hk
def setCore (n : Nat) (c : Core) (s : State) : State :=
  let w := s.watchdog
  { s with watchdog :=
      if n = 32 then { w with ctl := c } else if n = 33 then { w with acc := c } else { w with hk := c } }

/-- L6_EXPIRY: a core has given no kick for L6_MS: it is held in reset, or only told under DEBUG_HOLD. -/
def coreExpiry (core : Nat) (s : State) : State :=
  let c := coreOf s core
  if core < 32 ∨ 34 < core ∨ !c.up then s
  else if s.watchdog.debugHold then raiseHeld 0 0x1005 1 core 0 s
  else
    let s := setCore core { c with up := false, downMs := msNow s, restarts := msNow s :: c.restarts.take 10 } s
    let s := { s with watchdog := { s.watchdog with restarts := satAdd 0xffff s.watchdog.restarts 1 } }
    let s := if core = 32 then setReady false s else s
    wdCount 5 1 (lastLevel 6 s)

/-- L6_EXPIRY. -/
def execL6Expiry (core : Nat) (s : State) : Host.Outcome State Fault Refusal := act (coreExpiry core) s

/-- Whether the restart in progress is the one after RESTART_LIMIT restarts within 60 s (R561). -/
def limitReached (limit : Nat) (restarts : List Nat) : Bool :=
  match restarts.tail[0]?, restarts.tail[limit - 1]? with
  | some newest, some oldest => decide (newest ≤ oldest + 60000)
  | _, _ => false

/-- WD_CORE_RESTART: byte 20 is 0 from SRAM, 1 reloaded from flash, 2 stopped. -/
def raiseRestart (core how down : Nat) (s : State) : State :=
  raiseHeld 0 0x1004 3 core (detailOf [(20, how), (24, msNow s - down)]) s

/-- A restarted core takes its work up again. -/
def coreRuns (core : Nat) (s : State) : State :=
  let c := coreOf s core
  let s := setCore core { c with up := true } s
  let s :=
    if core = 32 then setReady true (stopRunning (fun _ => true) stAborted 2 s)
    else if core = 33 then accordRestart s
    else s
  raiseRestart core 0 c.downMs s

/-- The ROM has read an image from flash: all three cores start on it, or stay stopped where none verified. -/
def coresReloaded (core : Nat) (found : Bool) (s : State) : State :=
  let down := (coreOf s core).downMs
  if found then
    let s := setCore core { coreOf s core with restarts := [] } { s with boot := { s.boot with stage := 6 } }
    raiseRestart core 1 down (coresRestarted s)
  else raiseRestart core 2 down (coresStop s)

/-- The ROM reloads the running bank, or the other one (17 R503). -/
def reloadImage (bad : List Bool) (s : State) : Bool × State :=
  let b := s.boot.bank
  let good := checkImage s (bankOf s b) (!bad.contains b) == 0
  let s := raiseHeld 0 0x0e04 1 (b2n b) (detailOf [(20, b2n !good)]) s
  tryBanks bad 2 [b, !b] true s.boot.trial s

/-- CORE_RESTART_COMPLETE: 50 ms after the expiry at the latest the core runs. `hashOk`: the image region still has its hash;
`bad`: the banks that cannot be read. Under a trial the restart counts as a start, and the ROM chooses a bank (17 R506). -/
def coreRestart (core : Nat) (hashOk : Bool) (bad : List Bool) (s : State) : State :=
  let c := coreOf s core
  if core < 32 ∨ 34 < core ∨ c.up ∨ s.watchdog.stopped then s
  else if s.boot.trial then
    match bootBanks bad 2 s with
    | (found, s) => coresReloaded core found s
  else if hashOk && !limitReached s.watchdog.restartLimit c.restarts then coreRuns core s
  else
    match reloadImage bad s with
    | (found, s) => coresReloaded core found s

/-- CORE_RESTART_COMPLETE. -/
def execCoreRestartComplete (core : Nat) (hashOk : Bool) (bad : List Bool) (s : State) : Host.Outcome State Fault Refusal :=
  act (coreRestart core hashOk bad) s

/-! ## L7 (R562) -/

/-- L7_FW_ALIVE_TIMEOUT: the partner's FW_ALIVE has been 0 for 10 ms: PAIR_FW_SILENT, and nothing else changes. -/
def execL7FwAliveTimeout (s : State) : Host.Outcome State Fault Refusal :=
  act (fun s =>
    if s.pair.mode ≠ .off ∧ !s.pair.partnerFw then raiseHeld 0 0x0907 1 0 0 (wdCount 6 1 (lastLevel 7 s)) else s) s

/-! ## WD_CONFIG (R567) -/

def wdQuery (c : Cmd) : Bool := c.flag 8 0
def wdL6 (c : Cmd) : Nat := if c.u16 10 = 0 then 500 else c.u16 10
def wdL5 (c : Cmd) : Nat := if c.u16 12 = 0 then 2000 else c.u16 12
def wdLimit (c : Cmd) : Nat := if c.get ⟨9, 0, 4⟩ = 0 then 3 else c.get ⟨9, 0, 4⟩

/-- WD_CONFIG. -/
def specWdConfig : OpSpec where
  opcode := 0x1003
  cls := .a
  privilege := .p
  fields := fun _ => [⟨8, 0, 2⟩, ⟨9, 0, 4⟩, fld 10 2, fld 12 2]
  own := fun c _ =>
    if wdQuery c then []
    else
      [(10 < wdLimit c, 9), (wdL6 c < 200 || 5000 < wdL6 c, 10), (wdL5 c < 500 || 30000 < wdL5 c, 12),
       (wdL5 c < wdL6 c + 200, 10)]
  badState := fun c s => !wdQuery c && c.flag 8 1 && lifecycle s != 1
  effect := fun c s =>
    let s := if wdQuery c then s
      else { s with watchdog := { s.watchdog with
               debugHold := c.flag 8 1, restartLimit := wdLimit c, l6Ms := wdL6 c, graceMs := wdL5 c } }
    let w := s.watchdog
    (s, ok (resultOf [(8, b2n (wdQuery c) + 2 * b2n w.debugHold), (9, w.restartLimit), (10, w.l6Ms), (12, w.graceMs)]))

/-- WD_CONFIG. -/
def execWdConfig (c : Cmd) (s : State) : Host.Outcome State Fault Refusal := hostOp specWdConfig c s

end Sys2Proof.Machine
end

