-- ==== Sys2Proof/Machine/DomainBase.lean ====
section
/-!
DEFINITION. Domain links (13_domain R401 to R408): member numbers, messages out and in, and the domain keys.
-/
namespace Sys2Proof.Machine

open Sys2Proof

/-! ## The tree (R401, R402) -/

/-- Count a domain counter (R425). -/
def domCount (i n : Nat) (s : State) : State := countBy (0xd100 + 8 * i) n s

def modDomain (f : Domain → Domain) (s : State) : State := { s with domain := f s.domain }

/-- A domain link. -/
def dxOf (s : State) (n : Nat) : DomLink := if n = 0 then s.domain.dx0 else if n = 1 then s.domain.dx1 else s.domain.dx2
def setDx (n : Nat) (v : DomLink) (s : State) : State :=
  modDomain (fun d => if n = 0 then { d with dx0 := v } else if n = 1 then { d with dx1 := v } else { d with dx2 := v }) s

/-- A member's depth. -/
def memberDepth (m : Nat) : Nat := (m + 1).log2

/-- Whether member `k` lies in the subtree of member `c`, at most `fuel` levels below. -/
def descends (c : Nat) : Nat → Nat → Bool
  | 0, k => k == c
  | fuel + 1, k => k == c || (k != 0 && descends c fuel ((k - 1) / 2))

/-- A bitmap of members. -/
def bitmap (ms : List Nat) : Nat := (ms.map (fun k => 2 ^ k)).foldl (· + ·) 0

/-- The members of a subtree. -/
def subtree (c : Nat) : List Nat := (List.range 63).filter (descends c 6)

/-- Whether this device is in the domain: a manager whose domain is formed, or a joined worker. -/
def inDomain (s : State) : Bool := s.domain.role != 0 && s.domain.joined

/-- The links that a member uses: a manager has no parent. A member at depth 5 accepts no device on DX1 and DX2: it refuses its JOIN (R409). -/
def domLinks (s : State) : List Nat :=
  match s.domain.role with
  | 0 => []
  | 1 => [1, 2]
  | _ => [0, 1, 2]

/-- The member number below a link, where this device has one. -/
def childOf (s : State) (n : Nat) : Option Nat := s.domain.member.map (fun m => 2 * m + n)

/-- The links to joined children. -/
def childLinks (s : State) : List Nat := [1, 2].filter (fun n => (domLinks s).contains n && (dxOf s n).up && (dxOf s n).joined)

/-- The members below a link. -/
def below (s : State) (n : Nat) : List Nat := match childOf s n with | some c => subtree c | none => []

/-- The link toward a member below. -/
def routeTo (s : State) (m : Nat) : Option Nat := [1, 2].find? (fun n => (below s n).contains m)

/-! ## Keys (R405) -/

/-- k_dlink and k_dom. -/
def dlinkKey (cak domainId : Nat) : Nat := Config.mac 31 cak (beBytes 4 domainId)
def domKey (cak domainId gen : Nat) : Nat := Config.mac 30 cak (beBytes 4 domainId ++ beBytes 4 gen)

/-- DOMAIN_GEN takes a value, k_dom is derived, and what it orphans is seen. -/
def setDomainGen (gen : Nat) (s : State) : State :=
  let key := domKey s.domain.cak s.domain.domainId gen
  reviewCommunities (markDirty 7 0 { s with attar := { s.attar with domainGen := gen, domainKey := some key } })

/-- DOM_STATE (R426). -/
def raiseDomState (what : Nat) (s : State) : State := raiseHeld 0 0x0a01 0 0 (detailOf [(20, what), (24, s.attar.domainGen)]) s

/-! ## Messages out (R404, R407) -/

/-- The LENGTH of each TYPE (R408). -/
def domLength (type : Nat) : Nat :=
  match type with
  | 1 => 64
  | 2 => 56
  | 3 => 56
  | 4 => 96
  | 5 => 56
  | 6 => 136
  | 7 => 56
  | _ => 80

/-- TAG (R406). -/
def domTag (key : Nat) (text : Bytes) : Bytes := beBytes 16 (Config.mac 32 key text)

/-- A message. -/
def domMessage (s : State) (type retx seq epoch dst : Nat) (body : Bytes) : Bytes :=
  let text := beBytes 1 type ++ beBytes 1 retx ++ beBytes 2 (40 + body.length) ++ beBytes 4 seq ++ beBytes 4 s.domain.domainId ++
    beBytes 4 epoch ++ beBytes 1 (s.domain.member.getD 255) ++ beBytes 1 dst ++ beBytes 6 0 ++ body
  text ++ domTag s.domain.linkKey text

/-- Send a message on a link; the last 16 KiB are kept. -/
def domSend (n type dst : Nat) (body : Bytes) (s : State) : State :=
  let v := dxOf s n
  match v.epochOwn with
  | none => s
  | some e =>
    if !v.up ∧ type ≠ 1 then s
    else
      let m := domMessage s type 0 v.seqTx e dst body
      let s := setDx n { v with seqTx := (v.seqTx + 1) % 2 ^ 32, sent := keepBytes 16384 ((v.seqTx, m) :: v.sent) } s
      domCount 0 1 (emit (.message (1 + n) m) s)

/-- Send to every joined child, or toward one member below. -/
def domDown (type : Nat) (body : Bytes) (s : State) : State := (childLinks s).foldl (fun s n => domSend n type 255 body s) s
def domTo (m type : Nat) (body : Bytes) (s : State) : State :=
  match routeTo s m with
  | some n => domSend n type m body s
  | none => s

/-- Send to the parent. -/
def domUp (type : Nat) (body : Bytes) (s : State) : State :=
  domSend 0 type (match s.domain.member with | some m => (m - 1) / 2 | none => 0) body s

/-- A message again, with RETX set and tagged anew. -/
def domRetx (s : State) (m : Bytes) : Bytes :=
  let text := m.take 1 ++ beBytes 1 1 ++ (m.take (m.length - 16)).drop 2
  text ++ domTag s.domain.linkKey text

/-- Resend from ACK_SEQ on; none where it is no longer kept. -/
def domResend (n ack : Nat) (s : State) : Option State :=
  let v := dxOf s n
  let due := (v.sent.filter (fun m => reached ack m.1)).reverse
  if ack ≠ v.seqTx ∧ !v.sent.any (fun m => m.1 == ack) then none
  else some (due.foldl (fun s m => domCount 3 1 (emit (.message (1 + n) (domRetx s m.2)) s)) s)

/-! ## Messages in (R406) -/

/-- A message is refused: counted and told. Causes: 0 TAG, 1 DOMAIN_ID, 2 EPOCH. -/
def domAuthFail (n cause : Nat) (s : State) : State := raiseHeld 0 0x0a05 1 n (detailOf [(20, cause)]) (domCount 4 1 s)

/-- What a link takes from a message: its SRC, DST and body. -/
structure DomIn where
  src : Nat
  dst : Nat
  body : Bytes
  deriving DecidableEq, Repr

/-- The order of messages on an established session (R384), and what a KEEPALIVE establishes (R406). -/
def domOrder (n type seq : Nat) (echoes : Bool) (v : DomLink) (m : DomIn) (s : State) : Option DomIn × State :=
  if echoes && !v.up then
    (some m, setDx n { v with up := true, seqRx := if seq = 0 then 1 else 0, discarding := seq != 0 } s)
  else if !v.up then (if type = 1 then some m else none, setDx n v s)
  else if seq = v.seqRx then (some m, setDx n { v with seqRx := (seq + 1) % 2 ^ 32, discarding := false } s)
  else if reached v.seqRx seq then (none, setDx n { v with discarding := true } s)
  else (none, setDx n v s)

/-- A message arrives on a link; `crc` says that its blocks and CRC are good. -/
def domReceive (n type : Nat) (data : Bytes) (crc : Bool) (s : State) : Option DomIn × State :=
  let v := dxOf s n
  let body := (data.drop 24).take (data.length - 40)
  let epoch := beAt data 12 4
  let peer := beAt body 4 4
  let fresh : Bool := type == 1 && v.epochTheirs != some epoch && (peer == 0 || v.epochOwn == some peer)
  if !(domLinks s).contains n || v.epochOwn.isNone then (none, s)
  else if !crc || data.length ≠ domLength (byteAt data 0) || beAt data 2 2 ≠ data.length then
    (none, domCount 2 1 (setDx n { v with discarding := v.up } s))
  else if byteAt data 0 ≠ type then (none, s)
  else if data.drop (data.length - 16) ≠ domTag s.domain.linkKey (data.take (data.length - 16)) then (none, domAuthFail n 0 s)
  else if beAt data 8 4 ≠ s.domain.domainId then (none, domAuthFail n 1 s)
  else if v.epochTheirs ≠ some epoch ∧ !fresh then (none, domAuthFail n 2 s)
  else
    let v := if fresh then { v with up := false, epochTheirs := some epoch, seqTx := 0, seqRx := 0, sent := [], discarding := false }
      else v
    domOrder n type (beAt data 4 4) (type == 1 && v.epochOwn == some peer) v
      { src := byteAt data 16, dst := byteAt data 17, body } (domCount 1 1 s)

end Sys2Proof.Machine
end

