-- ==== Sys2Proof/Machine/Domain.lean ====
section
/-!
DEFINITION. Manager and workers (13_domain R409 to R426): joining and leaving, distributed keys, time, global operations, reports,
and DOM_CONFIG, DOM_GLOBAL and DOM_MEMBERS.
-/
namespace Sys2Proof.Machine

open Sys2Proof

/-! ## Members (R401, R424) -/

/-- The depth D of the domain, as the manager knows it. -/
def domainDepth (s : State) : Nat := ((s.domain.members.keysIf (fun _ v => v.joined)).map memberDepth).foldl max 0

/-- Members of a list that the manager records as joined. -/
def joinedOf (s : State) (ms : List Nat) : List Nat :=
  ms.filter (fun k => match s.domain.members.find k with | some v => v.joined | none => false)

/-- Write a member's record. -/
def setMemberRecord (m : Nat) (v : Member) (s : State) : State := modDomain (fun d => { d with members := d.members.set m v }) s

/-! ## Ends of global operations (R416, R417) -/

/-- Members of a bitmap that have ever joined. -/
def knownMask (s : State) (failed : Nat) : Nat := bitmap (s.domain.members.keys.filter (fun k => bitOf failed k))

/-- GLOBAL_ACK. -/
def sendAck (opid done failed : Nat) (s : State) : State :=
  domUp 7 (beBytes 4 opid ++ beBytes 2 done ++ beBytes 2 0 ++ beBytes 8 failed) s

/-- The manager's command completes; with INCLUDE_MANAGER the manager resets after it. -/
def completeGlobal (failed : Nat) (s : State) : State :=
  let op (r : Running) : Bool := r.isOp 0x0a02 && r.wait == .work && r.cmd.get ⟨8, 0, 4⟩ != 1
  let wish := (s.running.find? (fun r => op r && r.cmd.get ⟨8, 0, 4⟩ == 4 && r.cmd.flag 8 4)).map
    (fun r => ({ full := r.cmd.u8 9 == 0, byDomain := true } : ResetWish))
  let s := completeRunning op (fun _ => { status := stOk, result := resultOf [(8, failed)] }) s
  match wish with
  | some w => { s with power := { s.power with wish := some w } }
  | none => s

/-- An operation has all its acknowledgements: a worker sends its own up, the manager's command completes. -/
def finishOp (o : DomOp) (s : State) : State :=
  let s := modDomain (fun d => { d with ops := d.ops.filter (fun x => x.opid != o.opid) }) s
  if s.domain.role = 1 then completeGlobal (knownMask s o.failed) s else sendAck o.opid o.done o.failed s

/-- This member's own part of an operation is done: it waits for its joined children, or ends at once. -/
def startOp (op opid : Nat) (good : Bool) (s : State) : State :=
  let own := s.domain.member.getD 0
  let o : DomOp := { op, opid, waiting := childLinks s, done := b2n good, failed := if good then 0 else 2 ^ own }
  if o.waiting = [] then finishOp o s else modDomain (fun d => { d with ops := d.ops ++ [o] }) s

/-- Replace an operation, or end it. -/
def updateOp (o : DomOp) (s : State) : State :=
  if o.waiting = [] then finishOp o s
  else modDomain (fun d => { d with ops := d.ops.map (fun x => if x.opid = o.opid then o else x) }) s

/-- The release of a barrier reaches this member: its command completes with FAILED. -/
def releaseBarrier (id failed : Nat) (s : State) : State :=
  match s.domain.barrier with
  | none => s
  | some b =>
    if b.id ≠ id then s
    else
      completeRunning (fun r => r.isOp 0x0a02 && r.wait == .work && r.cmd.get ⟨8, 0, 4⟩ == 1)
        (fun _ => { status := stOk, result := resultOf [(8, failed)] }) (modDomain (fun d => { d with barrier := none }) s)

/-- The body of GLOBAL. -/
def globalBody (op kind opid id failed sec ns : Nat) (command : Bytes) : Bytes :=
  beBytes 1 op ++ beBytes 1 0 ++ beBytes 1 kind ++ beBytes 1 0 ++ beBytes 4 opid ++ beBytes 4 id ++ beBytes 4 (failed / 2 ^ 32) ++
    beBytes 6 sec ++ beBytes 4 ns ++ beBytes 2 0 ++ beBytes 4 failed ++ (command ++ List.replicate (64 - command.length) 0)

/-- A barrier's member and its subtree have arrived: GLOBAL_ACK goes up; at the manager the release goes down. -/
def reviewBarrier (s : State) : State :=
  match s.domain.barrier with
  | none => s
  | some b =>
    if !(b.own && (childLinks s).all (fun n => b.links.contains n)) then s
    else if s.domain.role = 1 then
      let failed := knownMask s b.failed
      releaseBarrier b.id failed (domDown 6 (globalBody 1 0 0 b.id failed 0 0 []) s)
    else sendAck b.id (b.done + 1) b.failed s

/-- A child is lost or late: it fails with its subtree. -/
def failChild (n : Nat) (s : State) : State :=
  let mask := bitmap (below s n)
  let s := (s.domain.ops.filter (fun o => o.waiting.contains n)).foldl (fun s o =>
    updateOp { o with waiting := o.waiting.filter (· != n), failed := o.failed ||| mask } s) s
  reviewBarrier (modDomain (fun d => { d with
    barrier := d.barrier.map (fun b => if b.links.contains n then b else { b with failed := b.failed ||| mask }) }) s)

/-- GLOBAL_ACK from a child (R417): of an operation, or of a barrier whose ID it names. -/
def ackRx (n opid done failed : Nat) (s : State) : State :=
  match s.domain.ops.find? (fun o => o.opid == opid && o.waiting.contains n) with
  | some o => updateOp { o with waiting := o.waiting.filter (· != n), done := o.done + done, failed := o.failed ||| failed } s
  | none =>
    let b := s.domain.barrier.getD { id := opid }
    if b.id ≠ opid then s
    else
      reviewBarrier (modDomain (fun d => { d with barrier := some { b with
        links := if b.links.contains n then b.links else n :: b.links, done := b.done + done, failed := b.failed ||| failed } }) s)

/-! ## Leaving (R410) -/

/-- A worker leaves the domain: it keeps its keys, its schedules and DOMAIN_GEN; its time domain is lost. -/
def leaveDomain (s : State) : State :=
  let b := s.domain.timeB
  let s := modDomain (fun d => { d with joined := false, member := none, stepped := false, retry := true, ops := [] }) s
  let s := if (domainOf s b).agent && (domainOf s b).state == .locked then enterDomain b .lost 2 s else s
  raiseDomState 1 s

/-- The members below a lost link leave, as the manager sees it. -/
def membersLost (n : Nat) (s : State) : State :=
  let lost := joinedOf s (below s n)
  if s.domain.role ≠ 1 ∨ lost = [] then s
  else
    let s := lost.foldl (fun s k =>
      match s.domain.members.find k with
      | some v => setMemberRecord k { v with joined := false, sinceMs := msNow s } s
      | none => s) s
    let s := modDomain (fun d => { d with depth := domainDepth s }) s
    raiseHeld 0 0x0a03 1 0 (detailOf [(20, (childOf s n).getD 0), (24, bitmap lost)]) s

/-- A link's session is over. -/
def loseLink (n : Nat) (s : State) : State :=
  let s := setDx n {} s
  if n = 0 then (if s.domain.joined then leaveDomain s else s) else membersLost n (failChild n s)

/-- DOM_LINK_LOSS: a link has had no valid message for 10 ms (R407, R410; 19 R562). -/
def execDomLinkLoss (link : Nat) (s : State) : Host.Outcome State Fault Refusal :=
  act (fun s =>
    if (domLinks s).contains link ∧ (dxOf s link).epochTheirs.isSome then loseLink link (wdCount 6 1 (lastLevel 7 s)) else s) s

/-! ## KEEPALIVE (R406 to R408) -/

/-- The body of KEEPALIVE. -/
def keepaliveBody (s : State) (n : Nat) : Bytes :=
  let v := dxOf s n
  beBytes 4 v.seqRx ++ beBytes 4 (v.epochTheirs.getD 0) ++
    beBytes 1 (b2n v.discarding + 2 * b2n (inDomain s) + 4 * b2n s.domain.stepped) ++ beBytes 1 (s.domain.member.getD 255) ++
    beBytes 1 s.domain.depth ++ beBytes 1 0 ++ beBytes 4 (stamp s) ++ beBytes 4 v.txNs ++ beBytes 4 ((stamp s + 2 ^ 32 - v.rxNs) % 2 ^ 32)

/-- This end's EPOCH is drawn when the link comes up. -/
def drawEpoch (n : Nat) (s : State) : State :=
  if (dxOf s n).epochOwn.isNone && entServes s 1 then
    let (e, s) := drawFree 32 (entServe 1 4 s)
    setDx n { dxOf s n with epochOwn := some e } s
  else s

/-- The REPORTs that wait go up behind the other messages (R419). -/
def sendReports (s : State) : State :=
  if s.domain.role = 2 ∧ inDomain s ∧ s.domain.dx0.up then
    let s' := s.domain.reports.foldl (fun s e => domUp 8 (beBytes 1 (s.domain.member.getD 0) ++ beBytes 7 0 ++ e) s) s
    modDomain (fun d => { d with reports := [] }) s'
  else s

/-- DOM_KEEPALIVE_INTERVAL: every 1 us. -/
def execDomKeepaliveInterval (s : State) : Host.Outcome State Fault Refusal :=
  act (fun s =>
    sendReports ((domLinks s).foldl (fun s n =>
      let s := drawEpoch n s
      domSend n 1 255 (keepaliveBody s n) s) s)) s

/-- A worker asks to join (R409). -/
def sendJoin (s : State) : State := domSend 0 2 0 (beBytes 8 s.boot.deviceId ++ beBytes 8 0) s

/-- The average link delay (R407). -/
def linkDelay (v : DomLink) : Nat := v.delays.foldl (· + ·) 0 / max 1 v.delays.length

/-- What a KEEPALIVE tells of its sender. -/
def notePartner (n : Nat) (b : Bytes) (s : State) : State :=
  let v := dxOf s n
  let now := stamp s
  let echo := beAt b 16 4
  let trip := ((now + 2 ^ 32 - echo) % 2 ^ 32 + 2 ^ 32 - beAt b 20 4) % 2 ^ 32
  let s := setDx n { v with
    joined := bitOf (byteAt b 8) 1, timeLocked := bitOf (byteAt b 8) 2, member := byteAt b 9, txNs := beAt b 12 4, rxNs := now
    delays := if echo = 0 then v.delays else trip / 2 :: v.delays.take 63 } s
  match s.domain.role, childOf s n with
  | 1, some c =>
    match s.domain.members.find c with
    | some r => setMemberRecord c { r with timeLocked := bitOf (byteAt b 8) 2 } s
    | none => s
  | _, _ => s

/-- A parent's KEEPALIVE at a worker: the domain's depth, and whether the parent is in the domain. -/
def followParent (established : Bool) (b : Bytes) (s : State) : State :=
  let up := bitOf (byteAt b 8) 1
  let s := if up then modDomain (fun d => { d with depth := byteAt b 10 % 8 }) s else s
  let s := if !up && s.domain.joined then leaveDomain s else s
  if established then sendJoin s else s

/-- A valid KEEPALIVE. -/
def keepaliveIn (n : Nat) (was : Bool) (b : Bytes) (s : State) : State :=
  let s := notePartner n b s
  let s := if n = 0 then followParent (!was && s.domain.dx0.up) b s else s
  if bitOf (byteAt b 8) 0 ∧ (dxOf s n).up then (domResend n (beAt b 0 4) s).getD (loseLink n s) else s

/-- DOM_KEEPALIVE_RX. -/
def execDomKeepaliveRx (link : Nat) (data : Bytes) (crc : Bool) (s : State) : Host.Outcome State Fault Refusal :=
  act (fun s =>
    let was := (dxOf s link).up && (dxOf s link).epochTheirs == some (beAt data 12 4)
    match domReceive link 1 data crc s with
    | (some m, s) => keepaliveIn link was m.body s
    | (none, s) => s) s

/-! ## Distributed keys (R412) -/

/-- Whether a slot lies in the distributed range. -/
def inRange (s : State) (slot : Nat) : Bool :=
  decide (s.domain.slotBase ≤ slot) && decide (slot < s.domain.slotBase + s.domain.slotCount)

/-- Whether a slot holds a distributed key, and one of the current DOMAIN_GEN. -/
def distributed (s : State) (slot : Nat) : Bool := (slotOf s slot).type != 0 && (slotOf s slot).parent == domainSlot
def currentKey (s : State) (slot : Nat) : Bool := distributed s slot && (slotOf s slot).parentGen == s.attar.domainGen

/-- A distributed key is written. -/
def writeShared (slot key : Nat) (persist : Bool) (s : State) : State :=
  let v : Slot :=
    { key, type := 1, usage := 1, persist, parent := domainSlot, parentGen := s.attar.domainGen, gen := (slotOf s slot).gen }
  reviewCommunities (attCount 4 (setSlot slot v s))

/-- The refusal of a key. -/
def refuseKey (s : State) : Bool × State := (false, domCount 6 1 s)

/-- A member takes a key for a slot: an equal one stays, a different one replaces it, any other key is not touched. -/
def takeKey (slot key : Nat) (persist : Bool) (s : State) : Bool × State :=
  if !inRange s slot then refuseKey s
  else if (slotOf s slot).corrupt then refuseKey s
  else if (slotOf s slot).type = 0 then (true, writeShared slot key persist s)
  else if !currentKey s slot then refuseKey s
  else if (slotOf s slot).key = key then (true, s)
  else (true, writeShared slot key persist (invalidateSlot slot 0 s))

/-- A member deletes a distributed key. -/
def deleteKey (slot : Nat) (s : State) : Bool × State :=
  if !inRange s slot then refuseKey s
  else if distributed s slot then (true, invalidateSlot slot 0 s)
  else if occupied s slot then refuseKey s
  else (true, s)

/-- The body of KEYS. -/
def keysBody (s : State) (slot opid : Nat) (delete persist : Bool) : Bytes :=
  let wrapped := Config.wrap 33 (s.attar.domainKey.getD 0) (leBytes 32 (slotOf s slot).key)
  beBytes 2 slot ++ beBytes 1 (b2n delete + 2 * b2n persist) ++ beBytes 1 0 ++ beBytes 4 s.attar.domainGen ++ beBytes 4 opid ++
    beBytes 4 0 ++ (if delete then List.replicate 40 0 else beBytes 40 (beNat wrapped))

/-- The manager sends a member every distributed key, the current TIME and every schedule ahead (R409). -/
def welcomeMember (m : Nat) (s : State) : State :=
  let slots := s.attar.slots.keysIf (fun k _ => inRange s k && currentKey s k)
  let s := slots.foldl (fun s k => domTo m 4 (keysBody s k 0 false (slotOf s k).persist) s) s
  let s := if s.time.state = .unset then s
    else domTo m 5 (beBytes 6 s.time.clock.sec ++ beBytes 4 s.time.clock.ns ++ beBytes 6 0) s
  (s.domain.schedules.filter (fun x => decide (toTotal s < instantNs x.sec x.ns))).foldl (fun s x =>
    domTo m 6 (globalBody x.op 0 0 x.id 0 x.sec x.ns []) s) s

/-! ## JOIN and WELCOME (R409) -/

/-- The body of WELCOME. -/
def welcomeBody (s : State) (deviceId result m : Nat) : Bytes :=
  beBytes 8 deviceId ++ beBytes 1 result ++ beBytes 1 m ++ beBytes 1 s.domain.depth ++ beBytes 1 0 ++ beBytes 4 s.attar.domainGen

/-- Send WELCOME toward a member; a child it joins is joined for this member's own operations too. -/
def sendWelcome (deviceId result m : Nat) (s : State) : State :=
  let body := welcomeBody s deviceId result m
  match routeTo s m with
  | none => s
  | some n =>
    let s := if result = 0 ∧ childOf s n = some m then setDx n { dxOf s n with joined := true } s else s
    domSend n 3 m body s

/-- The manager answers a JOIN. -/
def managerJoin (deviceId m : Nat) (s : State) : State :=
  let holder := s.domain.members.find m
  if (match holder with | some v => v.joined && v.deviceId != deviceId | none => false) then sendWelcome deviceId 2 m s
  else
    let s := setMemberRecord m { deviceId, sinceMs := msNow s, lastReport := (holder.map (·.lastReport)).getD [] } s
    let s := modDomain (fun d => { d with depth := domainDepth s }) s
    let s := sendWelcome deviceId 0 m s
    raiseHeld 0 0x0a02 0 0 (detailOf [(24, 2 ^ m)]) (welcomeMember m s)

/-- A JOIN from a child link: numbered by the joiner's parent, refused, forwarded up, or answered. -/
def joinIn (n : Nat) (src : Nat) (b : Bytes) (s : State) : State :=
  let id := beAt b 0 8
  match childOf s n, inDomain s with
  | some c, true =>
    let m := if src = 255 then c else byteAt b 8
    if 5 < memberDepth c then domSend n 3 255 (welcomeBody s id 1 255) s
    else if s.domain.role = 1 then managerJoin id m s
    else domSend 0 2 0 (beBytes 8 id ++ beBytes 1 m ++ beBytes 7 0) s
  | _, _ => domSend n 3 255 (welcomeBody s id 3 255) s

/-- DOM_JOIN_RX. -/
def execDomJoinRx (link : Nat) (data : Bytes) (crc : Bool) (s : State) : Host.Outcome State Fault Refusal :=
  act (fun s =>
    match domReceive link 2 data crc s with
    | (some m, s) => if link = 0 then s else joinIn link m.src m.body s
    | (none, s) => s) s

/-- A worker receives WELCOME for itself. -/
def welcomed (b : Bytes) (s : State) : State :=
  if byteAt b 8 ≠ 0 then domCount 5 1 (modDomain (fun d => { d with retry := true }) s)
  else
    let m := byteAt b 9
    let s := modDomain (fun d => { d with joined := true, member := some m, depth := byteAt b 10 % 8, stepped := false, retry := false }) s
    let s := setMemberRecord m { deviceId := s.boot.deviceId, sinceMs := msNow s } s
    let s := setDomainGen (beAt b 12 4) s
    let s := if (domainOf s s.domain.timeB).agent then timeReset s.domain.timeB s else s
    raiseDomState 0 s

/-- WELCOME at a worker: its own, or one to pass on. -/
def welcomeIn (b : Bytes) (s : State) : State :=
  if beAt b 0 8 = s.boot.deviceId ∧ (!s.domain.joined ∨ s.domain.member = some (byteAt b 9)) then welcomed b s
  else
    let m := byteAt b 9
    match routeTo s m with
    | none => s
    | some n =>
      let s := if byteAt b 8 = 0 ∧ childOf s n = some m then setDx n { dxOf s n with joined := true } s else s
      domSend n 3 m b s

/-- DOM_WELCOME_RX. -/
def execDomWelcomeRx (link : Nat) (data : Bytes) (crc : Bool) (s : State) : Host.Outcome State Fault Refusal :=
  act (fun s =>
    match domReceive link 3 data crc s with
    | (some m, s) => if link = 0 ∧ s.domain.role = 2 then welcomeIn m.body s else s
    | (none, s) => s) s

/-- DOM_JOIN_RETRY: every 1 s. -/
def execDomJoinRetry (s : State) : Host.Outcome State Fault Refusal :=
  act (fun s => if s.domain.role = 2 ∧ s.domain.retry ∧ !s.domain.joined ∧ s.domain.dx0.up then sendJoin s else s) s

/-! ## KEYS, TIME (R412, R413) -/

/-- KEYS at a worker: its own part, then its children. -/
def keysIn (m : DomIn) (s : State) : State :=
  let b := m.body
  let slot := beAt b 0 2
  let mine : Bool := m.dst == 255 || s.domain.member == some m.dst
  if !inDomain s then s
  else if !mine then domTo m.dst 4 b s
  else
    let (good, s) :=
      if bitOf (byteAt b 2) 0 then deleteKey slot s
      else
        match Config.unwrap (s.attar.domainKey.getD 0) (slice b 16 40) with
        | none => refuseKey s
        | some key => takeKey slot (key % 2 ^ 256) false s
    if m.dst ≠ 255 then s else startOp 5 (beAt b 8 4) good (domDown 4 b s)

/-- DOM_KEYS_RX. -/
def execDomKeysRx (link : Nat) (data : Bytes) (crc : Bool) (s : State) : Host.Outcome State Fault Refusal :=
  act (fun s =>
    match domReceive link 4 data crc s with
    | (some m, s) => if link = 0 ∧ s.domain.role = 2 then keysIn m s else s
    | (none, s) => s) s

/-- DOM_TIME_INTERVAL: every 1 ms the manager sends TIME from its TO. -/
def execDomTimeInterval (s : State) : Host.Outcome State Fault Refusal :=
  act (fun s =>
    if s.domain.role = 1 ∧ s.time.state ≠ .unset then
      domDown 5 (beBytes 6 s.time.clock.sec ++ beBytes 4 s.time.clock.ns ++ beBytes 6 0) s
    else s) s

/-- A worker disciplines its domain: one step after joining, then a rate within the bound of R428 that nothing fixes. -/
def discipline (total : Nat) (s : State) : State :=
  let b := s.domain.timeB
  if !(domainOf s b).agent then s
  else if !s.domain.stepped then
    modDomain (fun d => { d with stepped := true }) (applyStep b (total / secondNs) (total % secondNs) s)
  else
    let (r, s) := drawFree 32 s
    applyRate b (toSigned 32 ((nominalRate : Int) - rateBound + (r % 6871947 : Nat))) s

/-- TIME at a worker: applied at its own instant, and passed on with the residence time added. -/
def timeIn (m : DomIn) (s : State) : State :=
  let here := instantNs (beAt m.body 0 6) (beAt m.body 6 4) + linkDelay s.domain.dx0
  let mine : Bool := m.dst == 255 || s.domain.member == some m.dst
  let (stay, s) := drawFree 16 s
  let out := here + stay
  let body := beBytes 6 (out / secondNs) ++ beBytes 4 (out % secondNs) ++ beBytes 6 0
  if !inDomain s then s
  else
    let s := if mine then discipline here s else domTo m.dst 5 body s
    if m.dst = 255 then domDown 5 body s else s

/-- DOM_TIME_RX. -/
def execDomTimeRx (link : Nat) (data : Bytes) (crc : Bool) (s : State) : Host.Outcome State Fault Refusal :=
  act (fun s =>
    match domReceive link 5 data crc s with
    | (some m, s) => if link = 0 ∧ s.domain.role = 2 then timeIn m s else s
    | (none, s) => s) s

/-! ## Global operations at a member (R414, R416) -/

/-- ROTATE at a member: DOMAIN_GEN rises by 1. -/
def rotate (s : State) : State := raiseDomState 2 (setDomainGen (min genLimit (s.attar.domainGen + 1)) s)

/-- A schedule is taken: a rekey of every peer of the community is opened for its switch at the instant. -/
def takeSchedule (op id sec ns : Nat) (s : State) : State :=
  let s := modDomain (fun d => { d with
    schedules := d.schedules.filter (fun x => !(x.op == op && x.id == id)) ++ [{ op, id, sec, ns }] }) s
  if op = 8 then rekeyAt id sec ns s else s

/-- A member's own part of an operation, and whether it is done. -/
def actGlobal (op kind id sec ns : Nat) (command : Bytes) (s : State) : Bool × State :=
  match op with
  | 2 => (true, modDomain (fun d => { d with broadcast := d.broadcast ++ [BitVec.ofNat 512 (leNat command)] }) s)
  | 3 => (true, modDomain (fun d => { d with latches := d.latches ++ [{ sec, ns, snapshot := true, resetKind := none }] }) s)
  | 4 => (true, modDomain (fun d => { d with latches := d.latches ++ [{ sec, ns, snapshot := false, resetKind := some kind }] }) s)
  | 7 => (true, rotate s)
  | 8 => (true, takeSchedule 8 id sec ns s)
  | 9 => (s.gate.loaded, takeSchedule 9 id sec ns s)
  | _ => (true, s)

/-- GLOBAL at a worker: its own part, then its children. -/
def globalIn (m : DomIn) (s : State) : State :=
  let b := m.body
  let op := byteAt b 0
  let mine : Bool := m.dst == 255 || s.domain.member == some m.dst
  if !inDomain s then s
  else if !mine then domTo m.dst 6 b s
  else if op = 1 then
    let failed := beAt b 12 4 * 2 ^ 32 + beAt b 28 4
    releaseBarrier (beAt b 8 4) failed (domDown 6 b s)
  else
    let (good, s) := actGlobal op (byteAt b 2) (beAt b 8 4) (beAt b 16 6) (beAt b 22 4) (slice b 32 64) s
    if m.dst ≠ 255 then s else startOp op (beAt b 4 4) good (domDown 6 b s)

/-- DOM_GLOBAL_RX. -/
def execDomGlobalRx (link : Nat) (data : Bytes) (crc : Bool) (s : State) : Host.Outcome State Fault Refusal :=
  act (fun s =>
    match domReceive link 6 data crc s with
    | (some m, s) => if link = 0 ∧ s.domain.role = 2 then globalIn m s else s
    | (none, s) => s) s

/-- DOM_GLOBAL_ACK_RX. -/
def execDomGlobalAckRx (link : Nat) (data : Bytes) (crc : Bool) (s : State) : Host.Outcome State Fault Refusal :=
  act (fun s =>
    match domReceive link 7 data crc s with
    | (some m, s) =>
      if link = 0 ∨ !inDomain s then s else ackRx link (beAt m.body 0 4) (beAt m.body 4 2) (beAt m.body 8 8) s
    | (none, s) => s) s

/-- DOM_ACK_TIMEOUT: 10 us after the member's own part the children still missing fail with their subtrees. -/
def execDomAckTimeout (opid : Nat) (s : State) : Host.Outcome State Fault Refusal :=
  act (fun s =>
    match s.domain.ops.find? (fun o => o.opid == opid) with
    | none => s
    | some o =>
      let mask := o.waiting.foldl (fun k n => k ||| bitmap (below s n)) 0
      updateOp { o with waiting := [], failed := o.failed ||| mask } s) s

/-! ## Reports (R419) -/

/-- A REPORT at the manager: recorded, and gathered with those of the same CODE and OBJECT. -/
def reportIn (b : Bytes) (s : State) : State :=
  let m := byteAt b 0
  let e := slice b 8 32
  let code := leAt e 0 2
  let object := leAt e 12 4
  let s := match s.domain.members.find m with
    | some v => setMemberRecord m { v with lastReport := e } s
    | none => s
  let old := s.domain.merging
  let merging :=
    if old.any (fun g => g.1 == code && g.2.1 == object) then
      old.map (fun g => if g.1 = code ∧ g.2.1 = object then (code, object, g.2.2.1, g.2.2.2.1 ||| 2 ^ m, g.2.2.2.2 + 1) else g)
    else old ++ [(code, object, byteAt e 2 % 4, 2 ^ m, 1)]
  modDomain (fun d => { d with merging }) s

/-- DOM_REPORT_RX. -/
def execDomReportRx (link : Nat) (data : Bytes) (crc : Bool) (s : State) : Host.Outcome State Fault Refusal :=
  act (fun s =>
    match domReceive link 8 data crc s with
    | (some m, s) =>
      if link = 0 ∨ !inDomain s then s else if s.domain.role = 1 then reportIn m.body s else domUp 8 m.body s
    | (none, s) => s) s

/-- DOM_REPORT_MERGE: 10 ms after the first REPORT of a CODE and OBJECT one DOM_WORKER_EVENT tells them. -/
def execDomReportMerge (code object : Nat) (s : State) : Host.Outcome State Fault Refusal :=
  act (fun s =>
    match s.domain.merging.find? (fun g => g.1 == code && g.2.1 == object) with
    | none => s
    | some g =>
      let s := modDomain (fun d => { d with merging := d.merging.filter (fun g => !(g.1 == code && g.2.1 == object)) }) s
      let e := mkEvent s 0x0a04 g.2.2.1 0 object (detailOf [(20, code), (24, g.2.2.2.1)])
      post 0 { e with count := min 0xffff g.2.2.2.2 } s) s

/-! ## Instants (R414) -/

/-- DOM_SCHEDULED_INSTANT: the instant of a schedule has come. An SC's own ROLL switches a rekey (06 R193); GATE_EPOCH swaps the
gate's sets, or is told where none is loaded. -/
def execDomScheduledInstant (op id : Nat) (s : State) : Host.Outcome State Fault Refusal :=
  act (fun s =>
    match s.domain.schedules.find? (fun x => x.op == op && x.id == id) with
    | none => s
    | some x =>
      if toTotal s < instantNs x.sec x.ns then s
      else
        let s := modDomain (fun d => { d with schedules := d.schedules.filter (fun x => !(x.op == op && x.id == id)) }) s
        if op ≠ 9 then s
        else if s.gate.loaded then
          let c : Cmd := { fn := 0, qp := 4, seq := 0, packet := 0x0f02, payload := [] }
          { swapGate s with running := s.running ++ [{ cmd := c, cls := .b, locks := [.gate 0], wait := .work }] }
        else raiseDomState 3 s) s

/-! ## DOM_CONFIG (R420, R421) -/

def domRole (c : Cmd) : Nat := c.get ⟨8, 0, 2⟩

/-- The domain is left: its links end as lost ones do, the time domain is given back, the domain key goes; at a worker DOMAIN_GEN rises (R411). -/
def endDomain (s : State) : State :=
  let old := s.domain
  let s := failChild 2 (failChild 1 s)
  let s := if old.timeEnable then setDomain old.timeB { domainOf s old.timeB with agent := false } s else s
  let gen := if old.role = 2 then min genLimit (s.attar.domainGen + 1) else s.attar.domainGen
  let s := { s with
    domain := { minSeverity := old.minSeverity, nextOpid := old.nextOpid, broadcast := old.broadcast }
    attar := { s.attar with domainKey := none, domainGen := gen } }
  if old.role = 0 then s else raiseDomState 1 (reviewCommunities (markDirty 7 0 s))

/-- DOM_CONFIG's settings. -/
def domSettings (c : Cmd) (s : State) : Domain :=
  let cak := match commOf s (c.get ⟨9, 0, 6⟩) with | some m => (slotOf s m.keySlot).key | none => 0
  { s.domain with
    role := domRole c, link28 := c.flag 8 2, timeB := c.flag 8 3, timeEnable := c.flag 8 4, community := c.get ⟨9, 0, 6⟩
    minSeverity := c.get ⟨10, 0, 2⟩, domainId := c.u32 12, slotBase := c.u16 16, slotCount := c.u16 18
    cak, linkKey := dlinkKey cak (c.u32 12) }

/-- DOM_CONFIG. -/
def specDomConfig : OpSpec where
  opcode := 0x0a01
  cls := .b
  privilege := .p
  fields := fun _ => [⟨8, 0, 5⟩, ⟨9, 0, 6⟩, ⟨10, 0, 2⟩, fld 12 4, fld 16 2, fld 18 2]
  own := fun c _ =>
    [(domRole c == 3, 8), (c.u32 12 == 0, 12), (c.u16 18 == 0 || 1024 < c.u16 18, 18), (16384 < c.u16 16 + c.u16 18, 16)]
  badState := fun c s =>
    domRole c != 0 &&
      (s.domain.role != 0 ||
        (match commOf s (c.get ⟨9, 0, 6⟩) with | some m => !keySlotUsable s m.keySlot | none => true) ||
        [130, 131, 132].any (fun l => match s.ports.lanes.find l with | some v => v.prbsTx || v.prbsRx | none => false))
  locks := fun _ => [.lane 130, .lane 131, .lane 132]
  conflict := fun c s => if domRole c != 0 && c.flag 8 4 && (domainOf s (c.flag 8 3)).agent then some 0x25 else none
  effect := fun c s =>
    match domRole c with
    | 0 => (endDomain s, ok 0)
    | r =>
      let s := { s with domain := domSettings c s }
      let s := if r = 2 ∧ c.flag 8 4 then setDomain (c.flag 8 3) { domainOf s (c.flag 8 3) with agent := true } s else s
      if r = 1 then
        let s := modDomain (fun d => { d with joined := true, member := some 0, stepped := false }) s
        let s := setMemberRecord 0 { deviceId := s.boot.deviceId, sinceMs := msNow s } s
        (raiseDomState 0 (setDomainGen s.attar.domainGen s), ok 0)
      else (s, ok 0)

/-- DOM_CONFIG. -/
def execDomConfig (c : Cmd) (s : State) : Host.Outcome State Fault Refusal := hostOp specDomConfig c s

/-! ## DOM_GLOBAL (R416, R418, R422, R423) -/

def globalOp (c : Cmd) : Nat := c.get ⟨8, 0, 4⟩
def globalSlot (c : Cmd) : Nat := c.u16 10
def globalSec (c : Cmd) : Nat := c.get ⟨16, 0, 48⟩

/-- Fields set for an OP that does not use them. -/
def globalStray (c : Cmd) : List (Bool × Nat) :=
  let op := globalOp c
  [ (op != 4 && c.flag 8 4, 8), (op != 5 && c.flag 8 5, 8), (op != 4 && c.u8 9 != 0, 9),
    (op != 5 && op != 6 && globalSlot c != 0, 10), (!(op == 1 || op == 8 || op == 9) && c.u32 12 != 0, 12),
    (op != 8 && op != 9 && globalSec c != 0, 16), (op != 8 && op != 9 && c.u32 22 != 0, 22) ]

/-- Whether a BROADCAST may carry an opcode: one that a replay script may hold, and that takes no payload. -/
def broadcastable (op : Nat) : Bool := scriptOpcode op && op != 0x0301 && op != 0x0302 && op != 0x0f01

/-- A KEY_CREATE at the manager: the key is drawn, written and sent. -/
def createKey (c : Cmd) (opid : Nat) (s : State) : Bool × State :=
  let (key, s) := drawFree 256 (entServe 1 32 s)
  let (good, s) := takeKey (globalSlot c) key (c.flag 8 5) s
  if good then (true, domDown 4 (keysBody s (globalSlot c) opid false (c.flag 8 5)) s)
  else
    let wrapped := Config.wrap 33 (s.attar.domainKey.getD 0) (leBytes 32 key)
    let body := (keysBody s (globalSlot c) opid false (c.flag 8 5)).take 16 ++ beBytes 40 (beNat wrapped)
    (false, domDown 4 body s)

/-- The latch instant of SNAPSHOT and RESET. -/
def latchAt (s : State) : Nat := toTotal s + 200 + s.domain.depth * 320

/-- An operation of the manager: its own part, the message to its children. -/
def managerOp (c : Cmd) (opid : Nat) (s : State) : Bool × State :=
  let at' := latchAt s
  let sec := at' / secondNs
  let ns := at' % secondNs
  match globalOp c with
  | 2 => (true, domDown 6 (globalBody 2 0 opid 0 0 0 0 (c.payload.take 64)) s)
  | 3 =>
    let (good, s) := actGlobal 3 0 0 sec ns [] s
    (good, domDown 6 (globalBody 3 0 opid 0 0 sec ns []) s)
  | 4 =>
    let s := modDomain (fun d => { d with latches := d.latches ++ [{ sec, ns, snapshot := false, resetKind := none }] }) s
    (true, domDown 6 (globalBody 4 (c.u8 9) opid 0 0 sec ns []) s)
  | 5 => createKey c opid s
  | 6 =>
    let (good, s) := deleteKey (globalSlot c) s
    (good, domDown 4 (keysBody s (globalSlot c) opid true false) s)
  | op =>
    let (good, s) := actGlobal op 0 (c.u32 12) (globalSec c) (c.u32 22) [] s
    (good, domDown 6 (globalBody op 0 opid (c.u32 12) 0 (globalSec c) (c.u32 22) []) s)

/-- A member arrives at a barrier (R416, R418). -/
def arrive (id : Nat) (s : State) : State × Result :=
  let b := s.domain.barrier.getD { id }
  if b.id ≠ id ∨ s.running.any (fun r => r.isOp 0x0a02 && globalOp r.cmd == 1) then (s, failed stBusy 0)
  else
    let s := modDomain (fun d => { d with barrier := some { b with own := true } }) s
    if s.domain.role = 1 ∧ (childLinks s).all (fun n => b.links.contains n) then
      let mask := knownMask s b.failed
      let s := domDown 6 (globalBody 1 0 0 id mask 0 0 []) (modDomain (fun d => { d with barrier := none }) s)
      (s, ok (resultOf [(8, mask)]))
    else (reviewBarrier s, .wait .work)

/-- DOM_GLOBAL's effect once the checks pass. -/
def globalEffect (c : Cmd) (s : State) : State × Result :=
  if globalOp c = 1 then arrive (c.u32 12) s
  else if globalOp c = 5 ∧ !entServes s 1 then (s, .wait .entropy)
  else
    let opid := s.domain.nextOpid
    let s := modDomain (fun d => { d with nextOpid := max 1 ((opid + 1) % 2 ^ 32) }) s
    let (good, s) := managerOp c opid s
    let o : DomOp := { op := globalOp c, opid, waiting := childLinks s, failed := if good then 0 else 1 }
    if o.waiting = [] then
      let s := if globalOp c = 4 ∧ c.flag 8 4 then
          { s with power := { s.power with wish := some { full := c.u8 9 == 0, byDomain := true } } }
        else s
      (s, ok (resultOf [(8, o.failed)]))
    else (modDomain (fun d => { d with ops := d.ops ++ [o] }) s, .wait .work)

/-- DOM_GLOBAL. -/
def specDomGlobal : OpSpec where
  opcode := 0x0a02
  cls := .b
  privilege := .p
  fields := fun _ => [⟨8, 0, 6⟩, fld 9 1, fld 10 2, fld 12 4, ⟨16, 0, 48⟩, fld 22 4]
  pointer := fun c => globalOp c == 2
  payloadLength := fun c => if globalOp c = 2 then 64 else 0
  own := fun c s =>
    let op := globalOp c
    [ (op == 0 || 10 ≤ op, 8), (op == 4 && 2 ≤ c.u8 9, 9), ((op == 5 || op == 6) && !inRange s (globalSlot c), 10),
      (op == 2 && !(broadcastable (leAt c.payload 0 2) && leAt c.payload 56 8 == 0), 56) ] ++ globalStray c
  badState := fun c s =>
    let op := globalOp c
    s.domain.role == 0 || (s.domain.role == 2 && (op != 1 || !s.domain.joined)) ||
      ((op == 8 || op == 9) && decide (instantNs (globalSec c) (c.u32 22) < toTotal s + secondNs)) ||
      (op == 6 && !occupied s (globalSlot c)) || (op == 7 && genLimit ≤ s.attar.domainGen)
  locks := fun c => if globalOp c = 1 then [] else [.domain]
  effect := globalEffect

/-- DOM_GLOBAL. -/
def execDomGlobal (c : Cmd) (s : State) : Host.Outcome State Fault Refusal := hostOp specDomGlobal c s

/-! ## DOM_MEMBERS (R424) -/

/-- A record of 64 bytes; TIME_LOCKED of a member that is no child of this device is told by nothing. -/
def memberRecord (m : Nat) (s : State) : Bytes × State :=
  match s.domain.members.find m with
  | none => (List.replicate 64 0, s)
  | some v =>
    let own : Bool := s.domain.member == some m
    let (far, s) := if own || m = 1 || m = 2 then (0, s) else drawFree 1 s
    let locked : Bool := if own then s.domain.stepped else if m = 1 ∨ m = 2 then v.timeLocked else far == 1
    let since := min (2 ^ 32 - 1) ((msNow s - v.sinceMs) / 1000)
    (leBytes 8 v.deviceId ++ leBytes 1 (b2n v.joined + 2 * b2n locked) ++ leBytes 1 (memberDepth m) ++ leBytes 2 0 ++ leBytes 4 since ++
      (v.lastReport ++ List.replicate (32 - v.lastReport.length) 0) ++ leBytes 16 0, s)

/-- The records of DOM_MEMBERS. -/
def memberRecords (s : State) : Bytes × State :=
  (List.range 63).foldl (fun (acc : Bytes × State) m =>
    let (b, s) := memberRecord m acc.2
    (acc.1 ++ b, s)) ([], s)

/-- DOM_MEMBERS. -/
def specDomMembers : OpSpec where
  opcode := 0x0a03
  cls := .a
  privilege := .p
  underLock := true
  fields := fun _ => []
  pointer := fun _ => true
  effect := fun c s =>
    let d := s.domain
    let (count, s) := if d.role = 2 then drawFree 6 s else (s.domain.members.countIf (fun _ v => v.joined), s)
    let (data, s) := if c.dataPtr = 0 then ([], s) else memberRecords s
    let result := resultOf
      [(8, d.role + 4 * b2n (inDomain s) + 8 * b2n d.stepped), (9, d.member.getD 255), (10, d.depth), (11, count),
       (12, s.attar.domainGen)]
    (s, .done { status := stOk, data, result })

/-- DOM_MEMBERS. -/
def execDomMembers (c : Cmd) (s : State) : Host.Outcome State Fault Refusal := hostOp specDomMembers c s

end Sys2Proof.Machine
end

