-- ==== Sys2Proof/Machine/EntropyServe.lean ====
section
/-!
DEFINITION. How the entropy unit serves those who wait (15_entropy R459, R460).
-/
namespace Sys2Proof.Machine

open Sys2Proof

/-- Keys of the device's own, priority 0: session root, keeper key, storage key. The reservoir key has a row of its own. -/
def serveKeys (s : State) : State :=
  let s := if s.attar.sessionReady then s else drawSessionRoot s
  let wants : Bool := (s.boot.lifecycle == 2 || s.boot.lifecycle == 3) && s.attar.keeper.isNone
  let s := if wants && entServes s 1 then newKeeper s else s
  (needStorage s).2

/-- The EPOCH of Accord, and its responders that wait. -/
def serveAccord (s : State) : State :=
  let s :=
    if s.accord.epoch.isNone && entServes s 1 then
      let (e, s) := drawFree 32 (entServe 1 4 s)
      markDirty 7 0 { s with accord := { s.accord with epoch := some e } }
    else s
  let s := s.accord.peers.keys.foldl (fun s p => if entServes s 5 then serveResponder p s else s) s
  serveWishes s

/-- A waiting command's effect runs again; it completes, or waits on. -/
def resumeEffect (effect : Cmd → State → State × Result) (r : Running) (s : State) : State :=
  let s := { s with running := s.running.filter (fun x => x != r) }
  match effect r.cmd s with
  | (s, .done reply) => finishRunning r reply s
  | (s, .wait w) => { s with running := s.running ++ [{ r with wait := w }] }
  | (s, .posted) => s

/-- KEY_CREATE, LC_ADVANCE and ATTEST that wait, in the order they came. -/
def serveCommands (s : State) : State :=
  (s.running.filter (fun r => r.wait == .entropy && !r.isOp 0x0c01)).foldl (fun s r =>
    if r.isOp 0x0a02 then resumeEffect globalEffect r s
    else if r.isOp 0x0d04 then resumeEffect specLcAdvance.effect r s
    else resumeEffect specAttest.effect r s) s

/-- The ENT_READ served next: the first one of the next function in turn. -/
def nextRead (s : State) : Option Running :=
  ((List.range 32).map (fun k => (s.entropy.nextFn + k) % 32)).findSome? (fun f =>
    s.running.find? (fun r => r.wait == .entropy && r.isOp 0x0c01 && r.cmd.fn == f))

/-- ENT_READs, one whole command a turn. -/
def serveReads : Nat → State → State
  | 0, s => s
  | n + 1, s =>
    match nextRead s with
    | none => s
    | some r =>
      if readServes s r.cmd then
        let s := { s with
          running := s.running.filter (fun x => x != r)
          entropy := { s.entropy with nextFn := (r.cmd.fn + 1) % 32 } }
        let (reply, s) := readReply r.cmd s
        serveReads n (finishRunning r reply s)
      else s

/-- ENT_REQUEST_SERVE: output is available. In TEST only ENT_READ is served. -/
def serveRequests (s : State) : State :=
  let s := if s.entropy.state = .ready then serveCommands (serveAccord (serveKeys s)) else s
  serveReads s.running.length s

/-- ENT_REQUEST_SERVE. -/
def execEntRequestServe (s : State) : Host.Outcome State Fault Refusal := act serveRequests s

end Sys2Proof.Machine
end

