-- ==== Sys2Proof/Machine/Begin.lean ====
section
/-!
DEFINITION. DEV_RESET (21_clocks_reset_power R598); every opcode's specification by its number; how CPU_CTL begins the commands it has
fetched (02_command_channel R47 to R50); and the DMA engine's turns (18_access_and_dma R536 to R539).
-/
namespace Sys2Proof.Machine

open Sys2Proof

/-! ## DEV_RESET (R598, R599) -/

/-- The bank that R499 would choose. -/
def nextBank (s : State) : Bool :=
  match s.boot.record with
  | none => false
  | some r => if r.trialSet && !r.trialUsed then !r.active else r.active

/-- DEV_RESET. The reset itself is DEV_RESET_START. -/
def specDevReset : OpSpec where
  opcode := 0x0102
  cls := .c
  privilege := .p
  underLock := true
  fields := fun _ => [fld 8 1, fld 12 4, fld 16 2]
  own := fun c _ => [(2 ≤ c.u8 8, 8), (c.u32 12 != 0x52534554, 12), (1000 < c.u16 16, 16)]
  badState := fun c s =>
    c.u8 8 == 1 && (s.boot.staging.isSome || imgMajor (bankOf s (nextBank s)) != imgMajor s.boot.running)
  effect := fun c s =>
    ({ s with power := { s.power with wish := some { full := c.u8 8 == 0, byDomain := false } } }, ok (resultOf [(8, c.u8 8)]))

/-- DEV_RESET. -/
def execDevReset (c : Cmd) (s : State) : Host.Outcome State Fault Refusal := hostOp specDevReset c s

/-! ## The opcodes (R75) -/

/-- Every opcode, by group. -/
def opSpecs : List OpSpec :=
  [specDevInfo, specDevReset, specDevEventsMask, specDevConfigSave, specDevTenantSet] ++
  [specPortConfig, specPortStatus, specLaneTune, specPortMap] ++
  [specSelBulkLoad, specSelShadowCompare, specSelLpmMode] ++
  [specScCreate, specScDelete, specSaInstall, specSaRetire, specSaStatus, specSaRoll, specScTenantAssign] ++
  [specKeyWrite, specKeyInvalidate, specKeyStatus, specFlaconCommit, specFlaconLoad] ++
  [specAccCommunitySet, specAccPeerList, specAccPeerDrop, specAccPolicy] ++
  [specFabBufferPartition, specFabAudit, specRsvConfig, specRsvStatus, specRsvScrub] ++
  [specSchNodeSet, specSchQueueSet, specMtrSet] ++
  [specPairConfig, specPairStatus, specPairExercise, specPairResync] ++
  [specDomConfig, specDomGlobal, specDomMembers] ++
  [specTimStep, specTimRate, specTimSelect, specTimSchedule] ++
  [specEntRead, specEntStatus, specEntTestPattern] ++
  [specTmpConfig, specTmpEvidence, specTmpAck, specLcAdvance, specTmpSelftest, specPinAssign] ++
  [specFwStage, specFwActivate, specAttest, specIdCerts] ++
  [specGateLoad, specGateSwap, specGateEdit, specGateBarrier, specDmaXltSet, specDmaResume] ++
  [specPmcConfig, specStatsRead, specWdConfig, specDiagLoopback]

/-- The specification of an opcode; none for a number that R75 does not list. -/
def specOf (opcode : Nat) : Option OpSpec := opSpecs.find? (fun x => x.opcode == opcode)

/-! ## Commands of no queue pair (13 R416; 17 R516; 12 R381) -/

/-- Run a command that posts no completion: its status and DETAIL, none where it completes later. -/
def runQuiet (c : Cmd) (s : State) : Option (Nat × Nat) × State :=
  match specOf c.opcode with
  | none => (some (stBadOpcode, 0), s)
  | some spec =>
    match checks spec c s with
    | some f => (some f, s)
    | none =>
      match spec.effect c s with
      | (t, .done r) => (some (r.status, r.detail), mirrorCommand c r.status t)
      | (t, .wait w) => (none, hold spec c w t)
      | (t, .posted) => (none, t)

/-- A command of a BROADCAST that CPU_CTL executes; a failure is told in this device's own EQ, under a code that the spec does not
give. -/
def runBroadcast (s : State) : State :=
  match s.domain.broadcast with
  | [] => s
  | packet :: rest =>
    let c : Cmd := { fn := 0, qp := 4, seq := 0, packet, payload := [] }
    let s := { s with domain := { s.domain with broadcast := rest } }
    match runQuiet c s with
    | (some (status, _), s) =>
      if status = stOk then s
      else
        let (code, s) := drawFree 16 s
        let (severity, s) := drawFree 2 s
        let (object, s) := drawFree 32 s
        let (detail, s) := drawFree 96 s
        raise code severity object detail s
    | (none, s) => s

/-! ## Beginning a command (R47, R48, R50) -/

/-- Classes C and D go on beside the next command of their SQ. -/
def longClass (c : Class) : Bool := c == .c || c == .d

/-- Whether the command at the head of an SQ may begin. -/
def mayBegin (s : State) (f n : Nat) : Bool :=
  match (qpOf s f n).fetched with
  | [] => false
  | h :: _ =>
    let own := s.running.filter (fun r => r.cmd.fn == f && r.cmd.qp == n)
    let long : Bool := match specOf (bitsOf h.packet.toNat 0 16) with | some x => longClass x.cls | none => false
    own.all (fun r => longClass r.cls) && !(bitOf h.packet.toNat 16 && own != []) &&
      !(long && decide (8 ≤ s.running.countP (fun r => longClass r.cls)))

/-- The SQ whose command begins next: functions in turn, and a function's SQs in turn. -/
def nextSq (s : State) : Option (Nat × Nat) :=
  ((List.range 32).map (fun k => (s.nextFn + k) % 32)).findSome? (fun f =>
    (((List.range 4).map (fun k => ((fnOf s f).nextQp + k) % 4)).find? (fun n => mayBegin s f n)).map (fun n => (f, n)))

/-- The specification under which a command with a payload is checked before the payload is there: what concerns the payload's
content waits. -/
def headSpec (x : OpSpec) : OpSpec :=
  { x with
    own := fun c s => (x.own c s).filter (fun e => e.2 != 56)
    objectParam := fun c s => (x.objectParam c s).filter (fun e => e.2 != 56)
    badState := if x.opcode = 0x0e01 then fun _ _ => false else x.badState }

/-- Commands whose effect is partial (R56). -/
def partialOp (opcode : Nat) : Bool := [0x0301, 0x0302, 0x0602, 0x1002].contains opcode

/-- The snapshot buffer that a STATS_READ of the last snapshot reads: 1 A, 2 B. -/
def heldBuffer (c : Cmd) (s : State) : Nat := if c.opcode = 0x1002 ∧ c.get ⟨8, 0, 3⟩ = 3 then (if s.pmc.lastB then 2 else 1) else 0

/-- A command begins (R61, 18 R538): a payload is read first; an atomic result is written once its pages are translated; a partial
result as it goes. -/
def beginCommand (x : OpSpec) (c : Cmd) (s : State) : State :=
  let need := x.payloadLength c
  let run (r : Running) (s : State) : State := { s with running := s.running ++ [r] }
  let r : Running := { cmd := c, cls := x.cls, locks := x.locks c, wait := .transfer }
  let fail (f : Nat × Nat) : State := postCompletion c f.1 f.2 (x.failResult c s f.1 f.2) s
  if need ≠ 0 then
    match checks (headSpec x) c s with
    | some f => fail f
    | none => run { r with xfer := some { toHost := false, addr := c.dataPtr, length := need } } s
  else
    match checks x c s with
    | some f => fail f
    | none =>
      match x.effect c s with
      | (t, .posted) => t
      | (t, .wait w) => run { r with wait := w, xfer := some { toHost := true, addr := c.dataPtr, length := 0 } } t
      | (t, .done reply) =>
        let out : Xfer := { toHost := true, addr := c.dataPtr, length := reply.data.length }
        if reply.data = [] then mirrorCommand c reply.status (finish c reply t)
        else if partialOp c.opcode then
          run { r with xfer := some { out with data := reply.data, done := heldBuffer c s }, reply := some reply } t
        else run { r with xfer := some out } s

/-- CPU_CTL begins the next command. `writable`: the outside accepts a write to the chosen pair's CQ. -/
def beginNext (writable : Bool) (s : State) : State :=
  if !s.cmdReady then s
  else if s.domain.broadcast ≠ [] then runBroadcast s
  else
    match nextSq s with
    | none => s
    | some (f, n) =>
      let q := qpOf s f n
      match q.fetched with
      | [] => s
      | h :: rest =>
        let F := fnOf s f
        let s := setFn f ({ F with nextQp := (n + 1) % 4 }.setQp n { q with fetched := rest, cqFails := !writable })
          { s with nextFn := (f + 1) % 32 }
        let c : Cmd := { fn := f, qp := n, seq := h.seq, packet := h.packet, payload := [] }
        match specOf c.opcode with
        | none => postCompletion c stBadOpcode 0 0 s
        | some x => beginCommand x c s

/-- COMMAND_BEGIN. -/
def execCommandBegin (writable : Bool) (s : State) : Host.Outcome State Fault Refusal := act (beginNext writable) s

/-! ## A turn of the DMA engine (R536, R538, R539) -/

/-- Whether a running command has a transfer to go on with. -/
def moves (r : Running) : Bool :=
  r.wait == .transfer && (match r.xfer with | some x => x.fault.isNone | none => false)

/-- The command that gets the next turn: functions in turn, and a function's commands in turn. -/
def nextTransfer (s : State) : Option Nat :=
  ((List.range 32).map (fun k => (s.dma.nextFn + k) % 32)).findSome? (fun f =>
    let own := (List.range s.running.length).filter (fun i =>
      match s.running[i]? with | some r => moves r && r.cmd.fn == f | none => false)
    let turnOf (i : Nat) : Nat := match (s.running[i]?).bind (·.xfer) with | some x => x.turn | none => 0
    own.foldl (fun best i => match best with | none => some i | some b => if turnOf i < turnOf b then some i else some b) none)

/-- Change the transfer of a running command. -/
def setXfer (i : Nat) (x : Xfer) (s : State) : State :=
  match s.running[i]? with
  | some r => { s with running := s.running.set i { r with xfer := some x } }
  | none => s

/-- A running command is done. -/
def dropRunning (i : Nat) (s : State) : State := { s with running := s.running.eraseIdx i }

/-- SEL_BULK_LOAD applies the entries that are whole (R138, R538); none while more is to come. -/
def loadWhole (r : Running) (x : Xfer) (s : State) : State × Xfer × Option Reply :=
  let t := r.cmd.get ⟨8, 0, 3⟩
  let n := x.data.length / entryBytes t
  let (s, done, stop) := bulkLoad t (r.cmd.get ⟨12, 0, 18⟩) n x.done x.data s
  let x := { x with done, data := x.data.drop (n * entryBytes t) }
  let result := resultOf [(8, done), (12, stop)]
  match stop with
  | 0 => (s, x, if x.length ≤ x.moved then some { status := stOk, result } else none)
  | 1 => (s, x, some { status := stNoResource, result })
  | 2 => (s, x, some { status := stBadParam, detail := 56, result })
  | _ => (s, x, some { status := stState, detail := lifecycle s, result })

/-- SEL_SHADOW_COMPARE compares the entries that are whole (R140, R141, R538); at the end the counts of a keyed table. -/
def compareWhole (r : Running) (x : Xfer) (s : State) : Xfer :=
  let t := r.cmd.get ⟨8, 0, 3⟩
  let n := x.data.length / entryBytes t
  let have' := x.list.length / 8
  let (pos, recs, live, full) := compareAll s t (r.cmd.get ⟨12, 0, 18⟩) (r.cmd.u32 20 - have') n x.done x.data [] x.live
  let x := { x with done := pos, list := x.list ++ recs.flatten, live, data := x.data.drop (n * entryBytes t), full }
  if x.moved < x.length ∧ !full then x
  else
    let differ := !full && 2 ≤ t && live != validCount s t
    let room := x.list.length / 8 < r.cmd.u32 20
    { x with
      ended := true, full := full || (differ && !room)
      list := if differ && room then x.list ++ mismatch (validCount s t) 3 else x.list }

/-- What a SEL_SHADOW_COMPARE ends with once its list is written. -/
def compareReply (x : Xfer) : Option Reply :=
  let result := resultOf [(8, x.done), (12, x.list.length / 8)]
  if x.ended ∧ x.list.length ≤ x.listed then some { status := if x.full then stNoResource else stOk, result } else none

/-- Bytes of a page have moved: the command goes on, or completes. Whether it is still running. -/
def afterMove (i : Nat) (r : Running) (x : Xfer) (s : State) : Bool × State :=
  let complete (reply : Reply) (s : State) : Bool × State := (false, postCompletion r.cmd reply.status reply.detail reply.result (dropRunning i s))
  let goOn (x : Xfer) (s : State) : Bool × State := (true, setXfer i x s)
  if r.cmd.opcode = 0x0301 then
    match loadWhole r x s with
    | (s, _, some reply) => complete reply s
    | (s, x, none) => goOn x s
  else if r.cmd.opcode = 0x0302 then
    let x := if x.toHost then x else compareWhole r x s
    match compareReply x with
    | some reply => complete reply s
    | none => goOn { x with toHost := decide (x.listed < x.list.length) } s
  else if x.moved < x.length then goOn x s
  else
    match x.toHost, r.reply with
    | false, _ =>
      match specOf r.cmd.opcode with
      | some spec => (false, runOp spec { r.cmd with payload := x.data } (dropRunning i s))
      | none => (false, dropRunning i s)
    | true, some reply =>
      let s := dropRunning i s
      if partialOp r.cmd.opcode then (false, postCompletion r.cmd reply.status reply.detail reply.result s)
      else (false, finish r.cmd reply s)
    | true, none =>
      match specOf r.cmd.opcode with
      | none => (false, dropRunning i s)
      | some spec =>
        let s := dropRunning i s
        match spec.effect r.cmd s with
        | (t, .done reply) => (false, mirrorCommand r.cmd reply.status (finish r.cmd reply t))
        | (t, .wait w) => (false, { t with running := t.running ++ [{ r with wait := w }] })
        | (t, .posted) => (false, t)

/-- The bytes that a transfer may still move in its direction. -/
def leftOf (r : Running) (x : Xfer) : Nat :=
  if r.cmd.opcode = 0x0302 ∧ x.toHost then x.list.length - x.listed else x.length - x.moved

/-- One page's bytes move: `answer` is what host memory gave for a read, or anything for a write that it took. A partial result is
written page by page; an atomic one when the whole is translated. -/
def movePage (i n : Nat) (r : Running) (x : Xfer) (answer : Bytes) (s : State) : Bool × State :=
  let s := pmcEvent 0x301 r.cmd.fn n (countBy 0x10380 n s)
  if !x.toHost then
    let bytes := (answer ++ List.replicate n 0).take n
    afterMove i r { x with data := x.data ++ bytes, moved := x.moved + n } s
  else if r.cmd.opcode = 0x0302 then
    let s := emit (.hostWrite r.cmd.fn (Xfer.at r x) (slice x.list x.listed n)) s
    afterMove i r { x with listed := x.listed + n } s
  else
    let s := if partialOp r.cmd.opcode then emit (.hostWrite r.cmd.fn (Xfer.at r x) (slice x.data x.moved n)) s else s
    afterMove i r { x with moved := x.moved + n } s

/-- The pages of a turn: each is translated, checked at the gate and moved, until the turn's 64 KiB are used, a fault strikes or the
command is done. `pages` answers the accesses to host data in order, none for one that failed. -/
def turnPages (i buffer : Nat) (bad : List Nat) : Nat → Nat → Bool → List (Option Quad) → List (Option Bytes) → State → State
  | 0, _, _, _, _, s => s
  | fuel + 1, room, parity, entries, pages, s =>
    match s.running[i]? with
    | none => s
    | some r =>
      match r.xfer with
      | none => s
      | some x =>
        if room = 0 then count 0x10398 s
        else
          let va := Xfer.at r x
          let n := min (min (4096 - va % 4096) (leftOf r x)) room
          match translate r.cmd.fn va x.toHost parity entries s with
          | (.fault k, _, s) => dmaFault i k s
          | (.bus _, entries, s) =>
            match gateCheck r.cmd.fn (buffer + x.moved) (!x.toHost) true bad s with
            | (s, some reason) =>
              let s := gateDeny r.cmd.fn (buffer + x.moved) (!x.toHost) true reason s
              stopIndex i stNoPermission 2 s
            | (s, none) =>
              match pages with
              | [] => s
              | none :: _ => dmaFault i 6 s
              | some answer :: pages =>
                match movePage i n r x answer s with
                | (true, s) => turnPages i buffer bad fuel (room - n) false entries pages s
                | (false, s) => s

/-- DMA_TURN. `entries`: the table reads of the walks, in order; `parity`: the first page's cached translation has failed its parity;
`buffer`: the interconnect address of the device buffer bound to the command; `bad`: gate rules whose parity fails now. -/
def execDmaTurn (entries : List (Option Quad)) (pages : List (Option Bytes)) (parity : Bool) (buffer : Nat) (bad : List Nat)
    (s : State) : Host.Outcome State Fault Refusal :=
  act (fun s =>
    match nextTransfer s with
    | none => s
    | some i =>
      match s.running[i]? with
      | none => s
      | some r =>
        match r.xfer with
        | none => s
        | some x =>
          let turns := s.dma.turns + 1
          let s := { setXfer i { x with turn := turns } s with dma := { s.dma with turns, nextFn := (r.cmd.fn + 1) % 32 } }
          turnPages i buffer bad (pages.length + 1) 65536 parity entries pages s) s

end Sys2Proof.Machine
end

