-- ==== Sys2Proof/Machine/PairFollow.lean ====
section
/-!
DEFINITION. The pair link's messages in (12_redundant_pair R372 to R393): what a standby makes of the log and of mirrored items, what
STATUS tells, takeover, resynchronisation and handover.
-/
namespace Sys2Proof.Machine

open Sys2Proof

/-! ## Mirrored items (R381, R382) -/

/-- Write or clear a mirrored selector or multicast entry. -/
def applyEntry (table idx : Nat) (data : Bytes) (s : State) : State :=
  let d := leNat data
  match table with
  | 6 => if idx < 8192 then setGroup idx { data := d % 2 ^ 64 &&& groupMask } s else s
  | 7 => if idx < 65536 then setMember idx { data := d % 2 ^ 64 &&& memberMask } s else s
  | 5 => s
  | t =>
    let d := leNat (data.take (entryBytes t))
    if tableSize t ≤ idx then s
    else
      let s := if entryValid t (selEntry s t idx).data then clearEntry t idx s else s
      let s := if entryValid t d then storeEntry t idx d s else s
      if 2 ≤ t then noteFill t s else s

/-- Write an SC entry; what the layout does not hold stays. -/
def applySc (n : Nat) (data : Bytes) (s : State) : State :=
  match scFromBytes data with
  | none => { s with channels := { s.channels with scs := s.channels.scs.erase n } }
  | some c =>
    let fired := match scOf s n with | some old => old.rollFired && (c.armedPn || c.armedTime) | none => false
    if n < scCapacity then setSc n { c with rollFired := fired } s else s

/-- The SC whose slot names an SA. -/
def scNaming (s : State) (n : Nat) : Nat :=
  ((s.channels.scs.keysIf (fun _ c => c.sas.contains n)).head?).getD 0

/-- Write an SA entry. At the standby an SA that it already runs under the same key keeps the PNs that the log gives it (R375); in SYNC
the item's stand. VALID 0 makes the slot invalid. -/
def applySa (n : Nat) (data : Bytes) (s : State) : State :=
  match saFromBytes data (scNaming s n) with
  | none => vacate n s
  | some a =>
    if saCapacity ≤ n then s
    else
      match saOf s n with
      | none => setSa n a s
      | some old =>
        let same := old.key = a.key ∧ old.receive = a.receive ∧ !old.draining
        let a := if same then { a with superseded := old.superseded, thresholdTold := old.thresholdTold, deadline := old.deadline
                                       deltas := old.deltas } else a
        let a := if same ∧ pairFollows s then { a with nextPn := old.nextPn, low := if a.receive then old.low else a.low } else a
        setSa n a s

/-- The state that a code of a peer record names (07_accord R240). -/
def peerState (code : Nat) : Option PeerState :=
  match code with
  | 1 => some .discovered
  | 2 => some .active
  | 3 => some .lost
  | 4 => some .suppressed
  | _ => none

/-- Whether SC `n` is one that Accord has created for a port and a direction. -/
def accordScAt (s : State) (n port : Nat) (rx : Bool) : Bool :=
  match scOf s n with | some c => c.accord && c.port == port && c.receive == rx | none => false

/-- Write a peer-table entry (KIND 5). Open exchanges are not mirrored: one that the record shows open is to be started afresh after a
takeover (R385). -/
def applyPeer (pi : Nat) (b : Bytes) (s : State) : State :=
  match peerState (byteAt b 2 % 8) with
  | none => { s with accord := { s.accord with peers := s.accord.peers.erase pi } }
  | some st =>
    let ci := byteAt b 85 % 64
    let port := byteAt b 3 % 64
    let keys : Bool := st == .active || st == .lost
    let old := peerOf s pi
    let tx := leAt b 28 4
    let rx := leAt b 32 4
    let afresh := if leAt b 40 4 = (match old with | some o => o.agreements | none => 0) then old.bind (·.wish) else none
    let p : Peer :=
      { community := ci, port, mac := beAt b 8 6, state := st, deviceId := leAt b 16 8, epoch := leAt b 36 4, seq := leAt b 64 4
        helloMs := leAt b 86 2, localPi := leAt b 14 2, peerPi := leAt b 24 2, txSc := if keys || accordScAt s tx port false then some tx else none
        rxSc := if keys || accordScAt s rx port true then some rx else none, agreements := leAt b 40 4, seenMs := msNow s - leAt b 44 4
        agreedMs := msNow s - leAt b 48 4 * 1000, lastFail := byteAt b 52, wish := if bitOf (byteAt b 2) 3 then some keys else afresh, backoff := if leAt b 80 4 = 0 then none else some keys
        timeouts := byteAt b 84, oldRx := match old with | some o => o.oldRx | none => [] }
    let s := { s with accord := { s.accord with peers := s.accord.peers.set pi p } }
    match commOf s ci with
    | some c => setComm ci { c with seqs := c.seqs.put 0 port (max (c.seqs.get 0 port) (leAt b 68 4)) } s
    | none => s

/-- Execute a mirrored command (KIND 6): no completion is posted, and the state of the pair does not refuse it. -/
def applyCommand (data : Bytes) (s : State) : State :=
  let c : Cmd := { fn := 0, qp := 4, seq := 0, packet := BitVec.ofNat 512 (leNat (data.take 64)), payload := data.drop 64 }
  match specOf c.opcode with
  | none => s
  | some spec =>
    match checks spec c (modPair (fun p => { p with mode := .off }) s) with
    | some _ => s
    | none =>
      match spec.effect c s with
      | (t, .done r) => mirrorCommand c r.status t
      | (t, .wait w) => hold spec c w t
      | (t, .posted) => t

/-- Take over the generations (KIND 7). -/
def applyGenerations (b : Bytes) (s : State) : State :=
  let s := { s with attar := { s.attar with rootGen := leAt b 0 4, domainGen := leAt b 4 4 } }
  let s := { s with accord := { s.accord with epoch := if leAt b 8 4 = 0 then s.accord.epoch else some (leAt b 8 4) } }
  modPair (fun p => { p with sharedMac := some (beAt b 12 6) }) s

/-- Apply an item. -/
def applyItem (i : MirrorItem) (s : State) : State :=
  match i.kind with
  | 1 => applyEntry (bitsOf i.index 24 3) (bitsOf i.index 0 18) i.data s
  | 2 => applySc (i.index % 131072) i.data s
  | 3 => applySa (i.index % 262144) i.data s
  | 4 => setSlot (i.index % 16384) (slotFromBytes i.data) s
  | 5 => applyPeer i.index i.data s
  | 6 => applyCommand i.data s
  | 7 => applyGenerations i.data s
  | 8 => modPair (fun p => { p with
      records := p.records.filter (fun r => r.1 != i.index) ++ [(i.index, leAt i.data 0 4, leAt i.data 4 4, byteAt i.data 8 % 32)] }) s
  | _ => s

/-- Apply the items whose APPLY_SLOT a slot has reached. -/
def applyUpTo (slot : Nat) (s : State) : State :=
  let due (i : MirrorItem) : Bool := match i.apply with | some a => reached a slot | none => true
  let now := s.pair.items.filter due
  now.foldl (fun s i => applyItem i s) (modPair (fun p => { p with items := p.items.filter (fun i => !due i) }) s)

/-- The items of a deciphered MIRROR message. -/
def parseItems : Nat → Bytes → List MirrorItem
  | 0, _ => []
  | fuel + 1, b =>
    let len := beAt b 2 2
    if b.length < 16 ∨ len < 16 ∨ b.length < len then []
    else
      let at_ := beAt b 8 4
      { apply := if at_ = 0xffffffff then none else some at_, kind := byteAt b 0, index := beAt b 4 4
        data := (b.take len).drop 16 } :: parseItems fuel (b.drop len)

/-! ## Taking over and leaving (R371, R386, R388, R389) -/

/-- What an exchange left that this device's CPU_ACC does not hold, seen from the SC and SA entries (06 R199, R200): a transmit SA that stands
by and is not armed, and the receive SA in NEXT_AN's slot, under which no frame need have verified. -/
def strayExchange (s : State) (p : Peer) : Option Exchange :=
  match p.txSc.bind (scOf s), p.rxSc.bind (scOf s) with
  | some c, some r =>
    let stands (an : Nat) : Bool := match (c.slot an).bind (saOf s) with | some a => saState a (an == c.encAn) == 3 | none => false
    if c.armedPn || c.armedTime || p.exchange.isSome then none
    else match [0, 1, 2, 3].find? stands with
      | none => none
      | some an => some { number := 0, initiator := false, stage := .accepted, rekey := p.hasKeys, rxAn := r.nextAn, txAn := an
                          rxSa := r.slot r.nextAn, txSa := c.slot an }
  | _, _ => none

/-- CPU_ACC of the device that becomes active goes on from the entries: what open exchanges left is looked at after 2 s (07 R238), and
they, and keys that are due, have new openings (R385). -/
def startAccord (s : State) : State :=
  let s := (s.accord.peers.keysIf (fun _ p => (strayExchange s p).isSome)).foldl (fun s pi =>
    modPeer pi (fun p => { p with leftover := strayExchange s p }) s) s
  serveWishes (serveRekeyDue s)

/-- A takeover (R389): the device decides what it holds itself, carries on ALONE with claim + 1, and its Accord engine starts. -/
def takeover (cause : Nat) (s : State) : State :=
  let s := endFollowing (endExercise stFault s)
  let items := s.pair.items
  let s := items.foldl (fun s i => applyItem i s) s
  let claim := (s.pair.partnerClaim + 1) % 65536
  let s := clearSession (modPair (fun p => { p with claim, handover := none, handBack := false, roundTrip := false }) s)
  let s := decideAll (enterPair .alone s)
  startAccord (raiseHeld 0 0x0902 3 0 (detailOf [(20, cause), (24, claim)]) (pairCount 5 s))

/-- The standby loses its partner's messages while the partner's pin toggles (R388). -/
def isolate (s : State) : State := enterPair .isolated (clearSession (endFollowing s))

/-! ## The order of messages (R384) -/

/-- A message from the link, in order: none where it is lost, repeated or out of order. A receiver of a CRC failure or of a gap discards
until the expected SEQ arrives, and tells it with NACK. -/
def pairReceive (type : Nat) (data : Bytes) (crc : Bool) (s : State) : Option Bytes × State :=
  let p := s.pair
  let seq := beAt data 4 4
  let nack (s : State) : State :=
    if s.pair.discarding then s else sendStatus (modPair (fun p => { p with discarding := true }) s)
  if p.mode = .off ∨ !s.power.rootLock then (none, s)
  else if !crc ∨ data.length ≠ beAt data 2 2 ∨ data.length % 8 ≠ 0 ∨ data.length < 16 ∨ 4096 < data.length then
    (none, nack (pairCount 2 s))
  else if byteAt data 0 ≠ type then (none, s)
  else
    let restart : Bool := type == 3 && seq == 0 && byteAt data 16 % 8 == 1 && byteAt data 1 % 2 == 0
    if p.seqFresh ∨ restart ∨ seq = p.seqRx then
      let s := modPair (fun p => { p with seqFresh := false, discarding := false, seqRx := (seq + 1) % 2 ^ 32, linkUp := true })
        (pairCount 1 s)
      (some data, if s.pair.mode = .isolated then enterSync s else s)
    else if reached seq p.seqRx then (none, s)
    else (none, nack s)

/-! ## Resynchronisation: the source (R390, R391) -/

/-- Forget the mirrored tables, which the source sends whole; it sends no item for an entry that is invalid. -/
def clearMirrored (s : State) : State :=
  let s := [0, 1, 2, 3, 4].foldl (fun s t =>
    (s.selectors.table t).keys.foldl (fun s i => clearEntry t i s) s) s
  let s := { s with fabric := { s.fabric with groups := .empty, members := .empty, clearing := [] } }
  let s := { s with channels := { s.channels with scs := .empty, sas := .empty } }
  let s := { s with attar := { s.attar with slots := .empty } }
  { s with accord := { s.accord with peers := .empty } }

/-- The session key of a resynchronisation (R381). -/
def pairSession (source sync : Bytes) (s : State) : Nat :=
  let a := min s.boot.deviceId s.pair.partnerId
  let b := max s.boot.deviceId s.pair.partnerId
  Config.mac 50 (slotOf s s.pair.keySlot).key (source ++ sync ++ beBytes 8 a ++ beBytes 8 b)

/-- Everything that is mirrored, as KIND and index. -/
def mirroredObjects (s : State) : List (Nat × Nat) :=
  (([0, 1, 2, 3, 4].map (fun t => (s.selectors.table t).keys.map (fun i => (1, t * 2 ^ 24 + i)))).flatten) ++
    s.fabric.members.keys.map (fun i => (1, 7 * 2 ^ 24 + i)) ++ s.fabric.groups.keys.map (fun i => (1, 6 * 2 ^ 24 + i)) ++
    s.channels.scs.keys.map (fun i => (2, i)) ++ s.channels.sas.keys.map (fun i => (3, i)) ++
    s.attar.slots.keys.map (fun i => (4, i)) ++ s.accord.peers.keys.map (fun i => (5, i)) ++ [(7, 0)]

/-- P of each transmit SA (R391 step 3). -/
def pnLeads (s : State) : List (Nat × Nat) :=
  (s.channels.sas.cells.filter (fun c => !c.2.receive && !c.2.draining)).map (fun c =>
    let suite := match scOf s c.2.sc with | some v => v.suite | none => 0
    (c.1, min (c.2.nextPn + s.pair.pnLead) (pnEnd suite + 1)))

/-- Steps 1 to 3 at the source: the nonces, the tables, P of each transmit SA, and a cut-in slot 1 ms ahead. -/
def sourceResync (theirs : Bytes) (s : State) : State :=
  let s := if s.pair.nonceOwn = [] then drawNonce s else s
  if s.pair.nonceOwn = [] then modPair (fun p => { p with source := true, stage := .nonces }) s
  else
    let s := modPair (fun p => { p with source := true, stage := .nonces, nonceTheirs := theirs, mirrorTx := 0, cuts := [] }) s
    let s := sendStatus (modPair (fun p => { p with session := some (pairSession p.nonceOwn theirs s) }) s)
    let s := sendCommands none s.pair.history s
    let s := sendObjects none (mirroredObjects s) s
    let at_ := (s.pair.slot + 15625) % 2 ^ 32
    let leads := pnLeads s
    let s := leads.foldl (fun s l => sendItem (some at_) 3 l.1 (saBytes s l.1 (some l.2)) s) s
    modPair (fun p => { p with stage := .cutIn, cutIn := some at_, leads, dirty := [], commands := [] }) s

/-- A device in SYNC has seen its partner's nonce: the session, and empty tables for the items that come. -/
def syncResync (theirs : Bytes) (s : State) : State :=
  let s := modPair (fun p => { p with
    nonceTheirs := theirs, session := some (pairSession theirs p.nonceOwn s), stage := .items, mirrorRx := 0, items := [], records := []
    cutIn := none, orders := [] }) s
  clearMirrored s

/-! ## STATUS (R380, R388, R393) -/

/-- What a STATUS says of its sender. -/
def noteStatus (b : Bytes) (s : State) : State :=
  let flags := byteAt b 16
  modPair (fun p => { p with
    partnerMode := some (flags % 8), partnerFault := bitOf flags 3, partnerFw := bitOf flags 4, partnerClaim := beAt b 18 2
    handover := if bitOf flags 6 then some (beAt b 24 4) else p.handover }) s

/-- A NACK asks for messages again (R384). -/
def answerNack (ack : Nat) (s : State) : State :=
  match resendPair ack s with
  | some s => s
  | none =>
    match s.pair.mode with
    | .standby => syncLost 2 s
    | .active =>
      let (cause, s) := drawFree 8 s
      partnerLost cause s
    | _ => s

/-- What a STATUS does by the state of its receiver. A partner in SYNC with the nonce of the session is on its way to the cut-in. -/
def statusEffect (b : Bytes) (s : State) : State :=
  let p := s.pair
  let flags := byteAt b 16
  let theirs := flags % 8
  let fault := bitOf flags 3
  let nonce := slice b 32 32
  let handing : Bool := bitOf flags 6 || p.handover.isSome
  match p.mode with
  | .standby =>
    if fault then takeover 1 s
    else if theirs = 3 ∧ !allZero nonce ∧ nonce ≠ p.nonceTheirs then enterSync s
    else
      let claim := (p.partnerClaim + 65535) % 65536
      if claim = p.claim ∨ handing then s
      else sendClaims (sendStatus (modPair (fun p => { p with claim }) s))
  | .active =>
    if fault then partnerLost 1 s
    else if theirs ≠ 2 ∧ theirs ≠ 3 ∧ !handing ∧ !(theirs = 1 ∧ nonce = p.nonceTheirs) then
      let (cause, s) := drawFree 8 s
      partnerLost cause s
    else s
  | .alone =>
    if theirs = 4 then
      let s := raiseHeld 0 0x0909 1 0 (detailOf [(24, beAt b 8 8)]) s
      if p.partnerId < s.boot.deviceId then enterSync s else s
    else s
  | _ => s

/-- A nonce that is new moves the resynchronisation on (R391 step 1). -/
def statusNonce (b : Bytes) (s : State) : State :=
  let theirs := byteAt b 16 % 8
  let nonce := slice b 32 32
  if allZero nonce then s
  else
    match s.pair.mode with
    | .alone | .active =>
      if theirs = 1 ∧ (nonce ≠ s.pair.nonceTheirs ∨ s.pair.session.isNone) then sourceResync nonce s else s
    | .sync =>
      if (theirs = 3 ∨ theirs = 4) ∧ s.pair.nonceOwn ≠ [] ∧ (nonce ≠ s.pair.nonceTheirs ∨ s.pair.session.isNone) then
        syncResync nonce s
      else s
    | _ => s

/-- PAIR_STATUS_RX: a STATUS of the expected partner. -/
def statusRx (data : Bytes) (crc : Bool) (s : State) : State :=
  match pairReceive 3 data crc s with
  | (none, s) => s
  | (some b, s) =>
    if beAt b 8 8 ≠ s.pair.partnerId ∨ b.length ≠ 64 then s
    else
      let s := noteStatus b s
      let s := if bitOf (byteAt b 16) 5 then answerNack (beAt b 20 4) s else s
      statusNonce b (statusEffect b s)

/-- PAIR_STATUS_RX. `crc`: the message's CRC is good. -/
def execPairStatusRx (data : Bytes) (crc : Bool) (s : State) : Host.Outcome State Fault Refusal := act (statusRx data crc) s

/-! ## ORDER (R373 to R377, R379) -/

/-- The fields of an ORDER message. -/
structure Order where
  slot : Nat
  counts : List Nat
  checks : List Nat
  verdicts : List Nat
  runs : List (Nat × Nat × Nat)
  excs : List Exc
  deriving DecidableEq, Repr

/-- An EXCEPTION entry. -/
def parseExc (b : Bytes) : Exc :=
  let w := beAt b 0 8
  { kind := bitsOf w 60 4, port := bitsOf w 53 7, frame := bitsOf w 37 16, data := bitsOf w 0 37 }

/-- A RUN entry: node, leaf, frames. -/
def parseRun (b : Bytes) : Nat × Nat × Nat :=
  let w := beAt b 0 4
  (bitsOf w 25 7, bitsOf w 8 17, bitsOf w 2 6)

/-- Read ORDER. -/
def parseOrder (b : Bytes) : Order :=
  let heads := beNat (slice b 16 96)
  let counts := (List.range 128).map (fun k => bitsOf heads (762 - 6 * k) 6)
  let n := counts.foldl (· + ·) 0
  let vlen := (2 * n + 63) / 64 * 8
  let vs := beNat (slice b 144 vlen)
  let runs := beAt b 12 2
  let excAt := 144 + vlen + (4 * runs + 7) / 8 * 8
  { slot := beAt b 8 4, counts
    checks := (List.range 16).map (fun i => beAt b (112 + 2 * i) 2)
    verdicts := (List.range n).map (fun i => bitsOf vs (8 * vlen - 2 * i - 2) 2)
    runs := (List.range runs).map (fun i => parseRun (slice b (144 + vlen + 4 * i) 4))
    excs := (List.range (beAt b 14 2)).map (fun i => parseExc (slice b (excAt + 8 * i) 8)) }

/-- The heads of a slot, once every port holds as many as the log counts: them in canonical order, and the rest. -/
def headsOf (counts : List Nat) (held : List HeldHead) : Option (List HeldHead × List HeldHead) :=
  let mine (p : Nat) : List HeldHead := held.filter (fun h => h.port == p)
  let ports := List.range 128
  let count (p : Nat) : Nat := counts.getD p 0
  if ports.all (fun p => decide (count p ≤ (mine p).length)) then
    some ((ports.map (fun p => (mine p).take (count p))).flatten, (ports.map (fun p => (mine p).drop (count p))).flatten)
  else none

/-- Retirements that the log places before a head (R379 RETIRE). -/
def toldRetires (port : Nat) (s : State) : State :=
  let is (e : Exc) : Bool := e.kind == 3 && e.port == port && e.frame == s.pair.inNo.get 0 port % 65536
  let es := s.pair.told.filter is
  es.foldl (fun s e =>
    match (scOf s (bitsOf e.data 0 17)).bind (fun c => c.slot (bitsOf e.data 17 2)) with
    | some n => vacate n (raiseSc (bitsOf e.data 0 17) (bitsOf e.data 17 2) 0x0406 0 (detailOf [(20, n)]) s)
    | none => s) (modPair (fun p => { p with told := p.told.filter (fun e => !is e) }) s)

/-- An exception drops a frame whose tail has been settled (R375: drops after the head). -/
def dropTold (e : Exc) (s : State) : State :=
  let reason := bitsOf e.data 32 4
  let is (fid : Nat) (f : Frame) : Bool :=
    f.ingress == e.port && f.inNo % 65536 == e.frame && f.tailSeen && !f.early && f.source.isNone &&
      !s.pair.tails.any (fun t => t.fid == fid)
  if e.kind = 1 ∧ 3 ≤ reason ∧ reason ≠ 6 then
    match s.fabric.frames.keysIf is with
    | fid :: _ => dropWhole fid (modPair (fun p => { p with told := p.told.filter (fun x => x != e) }) s)
    | [] => s
  else s

/-- Release up to a number of a leaf's frames to its port as the log says (R375), and how many are left. The shapers and deficits are
charged as at the active. -/
def releaseRun (q leaf : Nat) : Nat → State → Nat × State
  | 0, s => (0, s)
  | k + 1, s =>
    match leafOf s leaf with
    | none => (k + 1, s)
    | some l =>
      match l.onDie, l.state with
      | fid :: _, .attached v =>
        match frameOf s fid with
        | none => (k + 1, s)
        | some f =>
          if f.stored then
            let s := chargeRelease q v leaf l.prio (frameLength s f) s
            releaseRun q leaf k (settleLeaf leaf (releaseFrame q leaf fid s))
          else (k + 1, s)
      | _, _ => (k + 1, s)

/-- Make the releases that can be made, per port node in order. -/
def releaseRuns (s : State) : State :=
  let runs := s.pair.waitRuns
  let step (acc : List (Nat × Nat × Nat) × State) (r : Nat × Nat × Nat) : List (Nat × Nat × Nat) × State :=
    if acc.1.any (fun w => w.1 == r.1) then (acc.1 ++ [r], acc.2)
    else
      match releaseRun r.1 r.2.1 r.2.2 acc.2 with
      | (0, s) => (acc.1, s)
      | (k, s) => (acc.1 ++ [(r.1, r.2.1, k)], s)
  let (left, s) := runs.foldl step ([], modPair (fun p => { p with waitRuns := [] }) s)
  modPair (fun p => { p with waitRuns := left }) s

/-- Decide the heads of a followed slot with their verdicts. -/
def decideFollowed : List HeldHead → List Nat → State → State
  | h :: hs, v :: vs, s => decideFollowed hs vs (decideHeld (some v) h (toldRetires h.port s))
  | _, _, s => s

/-- Follow the oldest ORDER if its heads are held: whether it was, and the state. -/
def followOrder (s : State) : Bool × State :=
  match s.pair.orders with
  | [] => (false, s)
  | b :: rest =>
    let o := parseOrder b
    match headsOf o.counts s.pair.held with
    | none => (false, s)
    | some (hs, held) =>
      let s := modPair (fun p => { p with orders := rest, held }) (applyUpTo o.slot s)
      if checksOf (hs.map (fun h => (h.port, h.head))) ≠ o.checks then (false, syncLost 3 s)
      else
        let s := modPair (fun p => { p with slot := o.slot }) s
        let s := decideFollowed hs o.verdicts s
        match s.pair.unfollowed with
        | some cause => (false, syncLost cause s)
        | none => (true, releaseRuns (modPair (fun p => { p with waitRuns := p.waitRuns ++ o.runs }) s))

/-- Follow the log as far as heads are held. -/
def followOrders : Nat → State → State
  | 0, s => s
  | fuel + 1, s =>
    match followOrder s with
    | (true, s) => followOrders fuel s
    | (false, s) => s

/-- Follow every waiting ORDER that can be followed; the lag is not a state of the model and is free. -/
def followAll (s : State) : State :=
  let s := releaseRuns (followOrders s.pair.orders.length s)
  let (lag, s) := drawFree 16 s
  if pairFollows s then modPair (fun p => { p with lag }) s else s

/-- PAIR_ORDER_RX (R373, R377): ORDER(t) settles the tails seen by slot t - 3; its exceptions are kept, and the slot is decided once its
heads are held. -/
def orderRx (data : Bytes) (crc : Bool) (s : State) : State :=
  match pairReceive 1 data crc s with
  | (none, s) => s
  | (some b, s) =>
    if s.pair.mode ≠ .standby ∧ !(s.pair.mode = .sync ∧ s.pair.stage = .cutIn) then s
    else
      let o := parseOrder b
      let due := s.pair.tails.filter (fun t => reached (t.slot + 3) o.slot)
      let s := modPair (fun p => { p with tails := p.tails.filter (fun t => !reached (t.slot + 3) o.slot) }) s
      let s := due.foldl (fun s t => settleTail t s) s
      let s := modPair (fun p => { p with told := p.told ++ o.excs, orders := p.orders ++ [b] }) s
      let s := o.excs.foldl (fun s e => dropTold e s) s
      if pairFollows s then serveRekeyDue (followAll s) else s

/-- PAIR_ORDER_RX. -/
def execPairOrderRx (data : Bytes) (crc : Bool) (s : State) : Host.Outcome State Fault Refusal := act (orderRx data crc) s

/-! ## MIRROR in (R381, R383) -/

/-- MIRROR cannot be used: the standby leaves lockstep, a resynchronisation is abandoned. -/
def mirrorFail (s : State) : State :=
  match s.pair.mode with
  | .standby => syncLost 4 s
  | .sync => resyncFail s
  | _ => s

/-- Take an item: at once, or kept for its slot. A lead in SYNC names the cut-in slot (R391 step 3). -/
def takeItem (i : MirrorItem) (s : State) : State :=
  if i.kind = 8 then applyItem i s
  else
    match i.apply with
    | none => applyItem i s
    | some a =>
      let s := modPair (fun p => { p with items := p.items ++ [i] }) s
      if i.kind = 3 ∧ s.pair.mode = .sync ∧ s.pair.stage = .items then
        modPair (fun p => { p with stage := .cutIn, cutIn := some a }) s
      else s

/-- PAIR_MIRROR_RX: the tag over bytes 0 to 15 (RETX clear) and the items, and the sequence. -/
def mirrorRx (data : Bytes) (crc : Bool) (s : State) : State :=
  match pairReceive 2 data crc s with
  | (none, s) => s
  | (some b, s) =>
    if s.pair.mode ≠ .standby ∧ s.pair.mode ≠ .sync then s
    else
      match s.pair.session with
      | none => s
      | some k =>
        let n := beAt b 8 8
        let aad := b.take 1 ++ beBytes 1 0 ++ (b.take 16).drop 2
        let cipher := (b.drop 16).take (b.length - 32)
        let tag := b.drop (b.length - 16)
        if b.length < 32 ∨ n ≠ s.pair.mirrorRx + 1 ∨ Config.gcmTag k n aad cipher ≠ tag then mirrorFail s
        else
          let items := parseItems 256 (Config.gcmOpen k n aad cipher)
          reviewCommunities (items.foldl (fun s i => takeItem i s) (modPair (fun p => { p with mirrorRx := n }) s))

/-- PAIR_MIRROR_RX. -/
def execPairMirrorRx (data : Bytes) (crc : Bool) (s : State) : Host.Outcome State Fault Refusal := act (mirrorRx data crc) s

/-! ## Silence (R388) -/

/-- PAIR_SILENCE_TIMEOUT: for 10 us no valid message, or (`pin`) no toggle of PAIR_ALIVE_IN. -/
def silence (pin : Bool) (s : State) : State :=
  if s.pair.mode = .off then s
  else if pin then
    let s := modPair (fun p => { p with aliveIn := false }) s
    match s.pair.mode with
    | .standby => if s.pair.linkUp then raiseHeld 0 0x0908 1 0 0 s else takeover 0 s
    | .isolated => takeover 0 s
    | _ => s
  else
    let s := modPair (fun p => { p with linkUp := false }) s
    match s.pair.mode with
    | .standby => if s.pair.aliveIn then isolate s else takeover 0 s
    | .active => partnerLost 0 s
    | .sync => if s.pair.stage = .none then s else resyncFail s
    | .alone => if s.pair.stage = .none then s else clearSession s
    | _ => s

/-- PAIR_SILENCE_TIMEOUT. -/
def execPairSilenceTimeout (pin : Bool) (s : State) : Host.Outcome State Fault Refusal := act (silence pin) s

/-! ## The cut-in slot (R391 steps 4 and 5) -/

/-- A PAIR_RESYNC that waits has reached step 5. -/
def resyncDone (s : State) : State :=
  completeRunning (fun r => r.isOp 0x0904 && r.wait == .work)
    (fun _ => { status := stOk, result := resultOf [(8, msNow s - s.pair.startedMs)] }) s

/-- Frames in the device come from before the cut-in slot; frame numbers start at 0. -/
def markEarly (s : State) : State :=
  let s := (s.fabric.frames.keys).foldl (fun s n => modFrame n (fun f => { f with early := true }) s) s
  modPair (fun p => { p with inNo := .empty, outNo := .empty }) s

/-- The source at its cut-in slot: NEXT_PN of each transmit SA becomes its P; it is ACTIVE, and what changed since the tables were sent
is sent again. -/
def sourceCutIn (at_ : Nat) (s : State) : State :=
  let s := s.pair.leads.foldl (fun s l => modSa l.1 (fun a => { a with nextPn := max a.nextPn l.2 }) s) s
  let dirty := s.pair.dirty
  let commands := s.pair.commands
  let s := sendCommands (some at_) commands (sendObjects (some at_) dirty s)
  let s := markEarly s
  let pending := s.fabric.frames.cells != []
  let s := modPair (fun p => { p with
    leads := [], dirty := [], commands := [], slot := at_, heads := [], runs := [], excs := [], cuts := [], prePending := pending
    stage := .none, source := false, nonceOwn := [] }) s
  resyncDone (enterPair .active s)

/-- The held heads of a port from the first that its record names on: none where no run of heads matches. -/
def matchHeads (crc heads : Nat) : List HeldHead → Option (List HeldHead)
  | [] => none
  | h :: hs =>
    let run := (h :: hs).take heads
    if run.length = heads ∧ crc32c ((run.map (fun x => x.head.take 64)).flatten) = crc then some (h :: hs)
    else matchHeads crc heads hs

/-- What a port still holds at the cut-in: from its frame 0 on; nothing where the log gives its first head. -/
def cutHeads (held : List HeldHead) (r : Nat × Nat × Nat × Nat) : Option (List HeldHead) :=
  let mine := held.filter (fun h => h.port == r.1)
  if r.2.2.2 = 0 then some [] else matchHeads r.2.2.1 r.2.2.2 mine

/-- The heads of every port at the cut-in, none where one port's record matches nothing. -/
def cutAll (held : List HeldHead) : List (Nat × Nat × Nat × Nat) → Option (List HeldHead)
  | [] => some []
  | r :: rs =>
    match cutHeads held r, cutAll held rs with
    | some a, some b => some (a ++ b)
    | _, _ => none

/-- Frames that a device in SYNC still holds are not those of the log: they go at the cut-in. -/
def dropStale (s : State) : State :=
  let sending (n : Nat) : Bool := s.fabric.egress.cells.any (fun c => match c.2.tx with | some t => t.fid == n | none => false)
  (s.fabric.frames.keysIf (fun n f => f.source.isNone && !sending n)).foldl (fun s n => dropWhole n (pairCount 4 s)) s

/-- The device in SYNC at the cut-in slot, once it holds a record of each port: it finds its frames 0 and is STANDBY. -/
def syncCutIn (at_ : Nat) (s : State) : State :=
  if !(List.range 128).all (fun p => s.pair.records.any (fun r => r.1 == p)) then s
  else
    match cutAll s.pair.held s.pair.records with
    | none => resyncFail s
    | some held =>
      let lost := s.pair.held.length - held.length
      let s := applyUpTo at_ (markEarly (dropStale (countBy (0xc100 + 8 * 4) lost s)))
      let s := modPair (fun p => { p with
        held, records := [], stage := .none, cutIn := none, slot := (at_ + 2 ^ 32 - 1) % 2 ^ 32, nonceOwn := []
        claim := (p.partnerClaim + 65535) % 65536 }) s
      followAll (resyncDone (enterPair .standby s))

/-- PAIR_CUT_IN. -/
def pairCutIn (s : State) : State :=
  match s.pair.cutIn, s.pair.stage, s.pair.mode with
  | some at_, .cutIn, .sync => syncCutIn at_ s
  | some at_, .cutIn, .alone => sourceCutIn at_ s
  | some at_, .cutIn, .active => sourceCutIn at_ s
  | _, _, _ => s

/-- PAIR_CUT_IN. -/
def execPairCutIn (s : State) : Host.Outcome State Fault Refusal := act pairCutIn s

/-! ## Handover (R393, R397) -/

/-- PAIR_EXERCISE completes; byte 12 is the state in which the device is left. -/
def exerciseDone (us : Nat) (s : State) : State :=
  completeRunning (fun r => r.isOp 0x0903 && r.wait == .work)
    (fun _ => { status := stOk, result := resultOf [(8, us % 2 ^ 32), (12, s.pair.mode.code)] }) s

/-- The old active forgets its exchanges: the open ones end with reason 10, their SAs left to the new active (R385, 07 R238). -/
def dropExchanges (s : State) : State :=
  (s.accord.peers.keysIf (fun _ p => p.exchange.isSome)).foldl (fun s pi =>
    match (peerOf s pi).bind (·.exchange) with
    | none => s
    | some x =>
      if x.stage = .done then modPeer pi (fun p => { p with exchange := none }) s
      else raiseAgreeFailed pi 10 (accCount 10 (modPeer pi (fun p => { p with exchange := none, lastFail := 10 }) s))) s

/-- The old active at the slot: it follows its partner's log. Its open exchanges end (R385). With ROUND_TRIP the command waits for the
role to come back, and the time to the slot is kept. -/
def handOver (slot : Nat) (s : State) : State :=
  let us := (s.tick - s.pair.startedTick) * 8 / 5000
  let s := dropExchanges s
  let s := modPair (fun p => { p with
    handover := none, handBack := false, heads := [], runs := [], excs := [], dirty := [], commands := []
    mirrorRx := p.mirrorTx, slot := (slot + 2 ^ 32 - 1) % 2 ^ 32, startedTick := if p.roundTrip then us else p.startedTick }) s
  let s := enterPair .standby s
  if s.pair.roundTrip then s else exerciseDone us s

/-- The new active at the slot: claim + 1; it decides the slot itself. -/
def takeHandover (slot : Nat) (s : State) : State :=
  let s := endFollowing s
  let items := s.pair.items
  let s := items.foldl (fun s i => applyItem i s) s
  let claim := (s.pair.partnerClaim + 1) % 65536
  let back := s.pair.handBack
  let us := s.pair.startedTick
  let s := modPair (fun p => { p with
    handover := none, handBack := false, orders := [], items := [], heads := [], runs := [], excs := [], dirty := [], commands := []
    mirrorTx := p.mirrorRx, claim, slot }) s
  let s := enterPair .active s
  let s := raiseHeld 0 0x0902 3 0 (detailOf [(20, 2), (24, claim)]) (pairCount 5 s)
  startAccord (if back then exerciseDone us s else s)

/-- PAIR_HANDOVER_SLOT: the slot that STATUS announced is reached. -/
def handoverSlot (s : State) : State :=
  match s.pair.handover, s.pair.mode with
  | some h, .active => handOver h s
  | some h, .standby => takeHandover h s
  | _, _ => s

/-- PAIR_HANDOVER_SLOT. -/
def execPairHandoverSlot (s : State) : Host.Outcome State Fault Refusal := act handoverSlot s

end Sys2Proof.Machine
end

