-- ==== Sys2Proof/Machine/Resets.lean ====
section
/-!
DEFINITION. Starts, resets and clocks (21_clocks_reset_power; 17_boot_and_identity R500, R501, R516; 16_tamper R477, R481): what a reset
keeps, the way from reset release to CMD_READY, function resets, REFCLK and temperature.
-/
namespace Sys2Proof.Machine

open Sys2Proof

/-! ## Replay (17 R516, 16 R490) -/

/-- The entries of a script: offset, packet and payload. DATA_PTR stands for the payload: 0 where there is none. -/
def scriptEntries (bs : Bytes) : (entries at_ : Nat) → List (Nat × Cmd)
  | 0, _ => []
  | n + 1, off =>
    let e := bs.drop off
    let len := leAt e 56 4
    let pointer := if len = 0 then 0 else 4096
    let packet := BitVec.ofNat 512 (leNat (e.take 56) + pointer * 2 ^ 448)
    if e.length < 64 then []
    else (off, { fn := 0, qp := 4, seq := 0, packet, payload := slice e 64 len }) :: scriptEntries bs n (off + entryLength e)

/-- The order of claims on a GPIO at start (R490): tamper 0, pair 1, time 2, everything else 3. -/
def claimOrder (function : Nat) : Nat :=
  if function = 7 then 0
  else if 4 ≤ function ∧ function ≤ 6 then 1
  else if 1 ≤ function ∧ function ≤ 3 then 2
  else 3

/-- The GPIO and function that an entry claims, if it claims one. -/
def pinClaim (c : Cmd) : Option (Nat × Nat) :=
  let function := c.get ⟨9, 0, 4⟩
  if c.opcode = 0x0d06 ∧ !c.flag 8 7 ∧ function ≠ 0 then some (c.get ⟨8, 0, 4⟩, function) else none

/-- Whether an entry's claim loses to another one of the script. -/
def losesPin (entries : List (Nat × Cmd)) (c : Cmd) : Bool :=
  match pinClaim c with
  | none => false
  | some (g, f) =>
    entries.any (fun e => match pinClaim e.2 with | some (h, k) => h == g && decide (claimOrder k < claimOrder f) | none => false)

/-- One entry of the replay. A payload shorter than the command takes is refused as one that cannot be read. -/
def replayEntry (entries : List (Nat × Cmd)) (s : State) (e : Nat × Cmd) : State :=
  let c := e.2
  let short : Bool := match specOf c.opcode with | some spec => decide (c.payload.length < spec.payloadLength c) | none => false
  let r : Option (Nat × Nat) × State :=
    if losesPin entries c then (some (stConflict, 0), s)
    else if short then (some (stBadParam, 56), s)
    else runQuiet c s
  match r with
  | (none, s) => { s with boot := { s.boot with replayDone := min 0xffff (s.boot.replayDone + 1) } }
  | (some (status, detail), s) =>
    if status = stOk then { s with boot := { s.boot with replayDone := min 0xffff (s.boot.replayDone + 1) } }
    else
      let s := { s with boot := { s.boot with replayFailed := min 0xffff (s.boot.replayFailed + 1) } }
      raiseHeld 0 0x0e05 2 e.1 (detailOf [(20, status), (21, detail), (24, c.opcode)]) s

/-- The copy of R133. -/
def copySplit (s : State) : State :=
  let split := regField s 0x30 0 12
  { s with selectors := { s.selectors with lineSplit := if split = 0 then 1 else split } }

/-- The configuration is replayed, if there is one. -/
def replay (s : State) : State :=
  let script := match activeCopy s with | some c => c.config | none => []
  if script.length = 0 then copySplit s
  else
    let split := leAt script 4 2
    let s := if split = 0 then s else setReg 0x30 (BitVec.ofNat 32 (split % 4096)) s
    let entries := scriptEntries script (min (leAt script 0 4) 262144) 16
    entries.foldl (replayEntry entries) (copySplit { s with boot := { s.boot with stage := 5 } })

/-! ## The way to CMD_READY (R500) -/

/-- Steps 8 to 10: the identity, the Flacon, the replay; then commands are served. -/
def finishBoot (s : State) : State :=
  let s := coresUp s
  let bad := if s.boot.identity.isNone then 2 else s.boot.board.idBad
  let s := { s with boot := { s.boot with idValid := decide (bad < 2) } }
  let s := if bad = 0 then s else raiseHeld 0 0x0e06 2 0 (detailOf [(20, if bad = 1 then 1 else 0)]) s
  let s := replay (flaconStart s)
  setReady true { s with boot := { s.boot with stage := 6 } }

/-- Bring-up of a channel (10_reservoir R308). -/
def bringUp (n : Nat) (d : Nat × Nat × Bool) (s : State) : State :=
  match d.1 with
  | 1 =>
    let s := modCh n (fun c => { c with state := .failed, capacity := d.2.1 % 3, ranks2 := d.2.2 }) s
    raiseHeld 0 0x0709 3 n (detailOf [(20, 3)]) s
  | 2 => modCh n (fun c => { c with state := .trained, capacity := d.2.1 % 3, ranks2 := d.2.2 }) s
  | _ => s

/-- From root PLL lock on (R500 steps 3 to 10): the entropy unit starts, channels come up beside, a bank is loaded. -/
def bootOn (s : State) : State :=
  let s := { s with power := { s.power with rootLock := true } }
  let s := if s.boot.board.kat then s else failEnt 0 { s with entropy := { s.entropy with katFailed := true } }
  let s := (s.boot.board.dimms.take 4).zipIdx.foldl (fun s d => bringUp d.2 d.1 s) s
  match bootBanks (s.boot.board.badBanks.map (· == 1)) 0 s with
  | (true, s) => finishBoot s
  | (false, s) => { s with boot := { s.boot with stage := 7, bank := false } }

/-- ZEROISE_PENDING is programmed where VPP_OTP is present (16_tamper R480). -/
def programPending (s : State) : State :=
  let t := s.tamper
  if t.vppOtp then { s with tamper := { t with otpCount := min 32 (t.otpCount + t.zeroisePending), zeroisePending := 0 } } else s

/-- A start from reset release (R481, R500). The alarms found pending are told when the PF first enables its EQ. Without REFCLK the root
PLL does not lock: TS5 alarms, and the ROM retries. -/
def boot (board : Board) (s : State) : State :=
  let s := programPending { s with boot := { s.boot with board } }
  let pending := (List.range 16).filter (fun n => (sourceOf s n).pending)
  let s := pending.foldl (fun s n => raiseAlarm n 4 true s) s
  if board.otpBad then { s with boot := { s.boot with otpBad := true, stage := 1, errorA := 1 } }
  else if s.power.refclkOk then bootOn s
  else onset [5] s

/-! ## Power-on and full reset (21 R595, R596) -/

/-- What a power-on or full reset keeps: the battery domain, OTP, the flash, what the board and the outside are, and on a full reset the
RWS fields. `off`: seconds that BAT_SECONDS has gone on. -/
def restarted (powerOn : Bool) (off : Nat) (s : State) : State :=
  let t := s.tamper
  let a := s.attar
  let b := s.boot
  let p := s.power
  let split := regField s 0x30 0 12
  let tamper : Tamper :=
    { sources := t.sources, farewell := t.farewell, otpCount := t.otpCount, zeroisePending := t.zeroisePending
      pendingLost := t.pendingLost, lostPower := t.lostPower, batBase := (batSeconds s + off) % 2 ^ 32, vppOtp := t.vppOtp
      pins := t.pins.mapSome (fun _ v => if v.battery then some v else none) }
  let attar : Attar :=
    { keeper := a.keeper, tombstones := a.tombstones, floor := a.floor, copyA := a.copyA, copyB := a.copyB
      domainGen := a.domainGen, flashFailures := a.flashFailures }
  let boot : Boot :=
    { lifecycle := b.lifecycle, deviceId := b.deviceId, floor := b.floor, revoked := b.revoked, board := b.board
      bankA := b.bankA, bankB := b.bankB, record := b.record, identity := b.identity }
  let power : Power :=
    { refclkOk := p.refclkOk, pcieOk := p.pcieOk, rails := p.rails, tj := p.tj, tjPeak := p.tj
      current := p.current, power := p.power, pointer := if powerOn then 0 else p.pointer }
  let fresh : State := { pending := s.pending, out := s.out, freeIx := s.freeIx, tamper, attar, boot, power }
  if powerOn then fresh else setReg 0x30 (BitVec.ofNat 32 split) fresh

/-- A full reset (R599, R600): a device in ACTIVE first tells its partner FAULT; commands that run end without a completion. A
FLACON_COMMIT is one step of the model and is never interrupted. -/
def fullReset (byDomain : Bool) (board : Board) (s : State) : State :=
  let s := if s.pair.mode = .active then sendStatus (modPair (fun p => { p with faultSent := true }) s) else s
  let s := restarted false 0 s
  boot board { s with power := { s.power with cause := if byDomain then 5 else 4 } }

/-- FULL_RESET. -/
def execFullReset (byDomain : Bool) (board : Board) (s : State) : Host.Outcome State Fault Refusal := act (fullReset byDomain board) s

/-- The banks' contents after they have been written from outside while the device did not run. -/
def writeBanks (banks : List (Bool × Bytes)) (s : State) : State := banks.foldl (fun s b => setBank b.1 b.2 s) s

/-- The detectors on the die start anew once VDD_CORE has been gone. -/
def freshDetectors (s : State) : State :=
  [0, 1, 2, 3, 4, 5].foldl (fun s n => setSource n { sourceOf s n with active := false } s) s

/-- A power-on reset: `removed` VDD_CORE was gone, which alone ends a halt. -/
def powerOn (cause : Nat) (removed : Bool) (off : Nat) (vpp refclk : Bool) (banks : List (Bool × Bytes)) (board : Board) (s : State) :
    State :=
  if s.halted && !removed then s
  else
    let s := restarted true off s
    let s := if removed then freshDetectors s else s
    let s := { s with
      tamper := { s.tamper with vppOtp := vpp }
      power := { s.power with cause := cause % 4, refclkOk := refclk } }
    boot board (writeBanks banks s)

/-- POWER_ON_RESET (R595, R597). `cause`: 0 PORST_N, 1 to 3 a brown-out; `removed`: VDD_CORE was gone; `off`: seconds without main
power; `vpp`: VPP_OTP is present; `refclk`: REFCLK runs; `banks`: firmware banks written from outside meanwhile. -/
def execPowerOnReset (cause : Nat) (removed : Bool) (off : Nat) (vpp refclk : Bool) (banks : List (Bool × Bytes)) (board : Board)
    (s : State) : Host.Outcome State Fault Refusal :=
  always (powerOn cause removed off vpp refclk banks board) s

/-! ## The other resets -/

/-- FIRMWARE_RESET (R596): running commands complete with ABORTED, a staging session ends, the cores start from the bank that R499
chooses; the data path and BAR0 stay. -/
def firmwareReset (s : State) : State := restartCores [] 0 { s with boot := { s.boot with staging := none } }

/-- FIRMWARE_RESET. -/
def execFirmwareReset (s : State) : Host.Outcome State Fault Refusal := act firmwareReset s

/-- A function's queues, MSI-X table and translation go (02 R59, 18 R541); its mask, settings and objects stay. -/
def clearFunction (f : Nat) (s : State) : State :=
  let old := fnOf s f
  let s := { s with
    regs := s.regs.mapSome (fun a w => if inBar0 f a then none else some w)
    running := s.running.filter (fun r => r.cmd.fn != f || decide (4 ≤ r.cmd.qp))
    dma := { s.dma with xlt := s.dma.xlt.erase f }
    time := { s.time with snaps := s.time.snaps.erase f
                          timers := s.time.timers.mapSome (fun _ t => if t.owner = f ∧ t.action = 2 then none else some t) } }
  dropFn f (setFn f { groupMask := old.groupMask, minSeverity := old.minSeverity, tenant := old.tenant } s)

/-- FUNCTION_RESET (R59, R541, 19 R564). -/
def functionReset (f : Nat) (s : State) : State :=
  if 31 < f then s
  else
    let stopped := (s.running.filter (fun r => r.cmd.fn == f && decide (r.cmd.qp < 4))).length
    raise 0x0103 1 f (detailOf [(20, min 0xffff stopped)]) (clearFunction f s)

/-- FUNCTION_RESET. -/
def execFunctionReset (fn : Nat) (s : State) : Host.Outcome State Fault Refusal := act (functionReset fn) s

/-- HOST_RESET (R596): every function's BAR0, and the host rings, while traffic goes on; it posts no event. -/
def hostReset (s : State) : State :=
  let s := (List.range 32).foldl (fun s f => clearFunction f s) s
  let s := [0, 1, 2, 3].foldl (fun s n => ringDisable n (reg s (ringCtrl n) &&& ~~~1#32) s) s
  { s with power := { s.power with hostResets := min 0xffff (s.power.hostResets + 1) } }

/-- HOST_RESET. -/
def execHostReset (s : State) : Host.Outcome State Fault Refusal := act hostReset s

/-- The reset that DEV_RESET or DOM_GLOBAL asked for begins. -/
def wishedReset (board : Board) (s : State) : State :=
  match s.power.wish with
  | none => s
  | some w =>
    let s := { s with power := { s.power with wish := none } }
    if w.full then fullReset w.byDomain board s else firmwareReset s

/-- DEV_RESET_START (R599). -/
def execDevResetStart (board : Board) (s : State) : Host.Outcome State Fault Refusal := act (wishedReset board) s

/-- DOM_LATCH_INSTANT (13_domain R416): the latch instants that TO has reached, each told on the DOM_SYNC pin; counters latch, or the
member resets. -/
def latchInstant (board : Board) (s : State) : State :=
  let due (l : Latch) : Bool := decide (instantNs l.sec l.ns ≤ toTotal s)
  let now := s.domain.latches.filter due
  let s := modDomain (fun d => { d with latches := d.latches.filter (fun l => !due l) }) s
  now.foldl (fun s l =>
    let s := driveAll 10 false (driveAll 10 true s)
    let s := if l.snapshot then latchSnapshot true s else s
    match l.resetKind with
    | some 0 => fullReset true board s
    | some _ => firmwareReset s
    | none => s) s

/-- DOM_LATCH_INSTANT. -/
def execDomLatchInstant (board : Board) (s : State) : Host.Outcome State Fault Refusal := act (latchInstant board) s

/-- BATTERY_LOSS (16_tamper R477): with main power off the battery domain's contents are lost; fuses stay. -/
def batteryLoss (s : State) : State :=
  let ticked := s.tick / 625000000
  let sources := s.tamper.sources.mapSome (fun n t =>
    let d : TamperSource := { sourceDefault n with fused := t.fused || (sourceDefault n).fused }
    if d = sourceDefault n then none else some d)
  { s with
    powered := false
    attar := { s.attar with keeper := none, tombstones := .empty, floor := 0, domainGen := 0 }
    tamper := { s.tamper with
      sources, farewell := false, zeroisePending := 0, pendingLost := false, lostPower := true, pins := .empty
      batBase := (2 ^ 32 - ticked % 2 ^ 32) % 2 ^ 32 } }

/-- BATTERY_LOSS. -/
def execBatteryLoss (s : State) : Host.Outcome State Fault Refusal := always batteryLoss s

/-! ## Recovery (17 R501) -/

/-- The bytes of the recovery window. -/
def windowBytes (length : Nat) (s : State) : Bytes :=
  (((List.range ((length + 3) / 4)).map (fun i => leBytes 4 (s.boot.window.get 0 i).toNat)).flatten).take length

/-- BOOT_RECOVERY is written: LENGTH is kept; GO in stage 7 checks the image in the window and runs it. -/
def recoveryGo (w : Word) (s : State) : State :=
  let s := { s with boot := { s.boot with recoveryLength := bitsOf w.toNat 0 23 } }
  if !bitOf w.toNat 31 || !inRecovery s then s
  else
    let img := windowBytes s.boot.recoveryLength s
    let code := checkImage s img true
    if code = 0 then finishBoot (runImage false img 2 0 false { s with boot := { s.boot with window := .empty } })
    else setBankError false code s

/-- BOOT_RECOVERY_GO. -/
def execBootRecoveryGo (value : Word) (s : State) : Host.Outcome State Fault Refusal :=
  act (gatedWrite 0x10104 (recoveryGo value)) s

/-! ## Clocks and temperature (21 R590, R606) -/

/-- REFCLK_LOSS: the root PLL holds over, and TS5 alarms. -/
def refclkLoss (s : State) : State :=
  let p := s.power
  let s := { s with power := { p with
    refclkOk := false, holdover := p.holdover || p.rootLock, holdoverSeen := p.holdoverSeen || p.rootLock } }
  onset [5] s

/-- REFCLK_LOSS. -/
def execRefclkLoss (s : State) : Host.Outcome State Fault Refusal := act refclkLoss s

/-- REFCLK_RETURN: the PLL is locked to REFCLK again; a start that waited for it goes on. `offset`: REFCLK_OFFSET as measured. -/
def refclkReturn (offset : Nat) (s : State) : State :=
  let waits : Bool := !s.power.rootLock && !s.power.refclkOk && s.boot.stage == 0
  let s := { s with power := { s.power with refclkOk := true, holdover := false, offset := offset % 65536 } }
  if waits then bootOn s else s

/-- REFCLK_RETURN. -/
def execRefclkReturn (offset : Nat) (s : State) : Host.Outcome State Fault Refusal := act (refclkReturn offset) s

/-- ROOT_PLL_LOCK_LOSS: the PLL itself fails (12 R388): FAULT is declared, and TS5 alarms. -/
def execRootPllLockLoss (s : State) : Host.Outcome State Fault Refusal :=
  act (fun s => onset [5] (declareFault { s with power := { s.power with rootLock := false } })) s

/-- TEMP_SAMPLE: the highest of the four sensors in degrees, the current of VDD_CORE and the power in units of 0.1. -/
def tempSample (tj : Int) (current power : Nat) (s : State) : State :=
  let p := s.power
  let s := { s with power := { p with
    tj, tjPeak := max p.tjPeak tj, overTemp := p.overTemp || decide (105 < tj), current := current % 65536, power := power % 65536 } }
  if 125 < tj ∨ tj < -25 then onset [4] s else s

/-- TEMP_SAMPLE. -/
def execTempSample (tj : Int) (current power : Nat) (s : State) : Host.Outcome State Fault Refusal := act (tempSample tj current power) s

end Sys2Proof.Machine
end

