-- ==== Sys2Proof/Machine/Registers.lean ====
section
/-!
DEFINITION. Registers as a whole (00_scope R7 to R9, R13; the register tables of every chapter): what a read returns, what a write
changes, the management I2C target (22 R623) and debug accesses (18 R524).
-/
namespace Sys2Proof.Machine

open Sys2Proof

/-! ## BAR0 (00_scope R13; 02 R33 to R40, R72; 14 R436; 18; 20 R576) -/

/-- A bitmap of the fault identifiers that a function has outstanding (18 R536). -/
def faultMap (s : State) (f : Nat) : Nat :=
  let ids := s.running.filterMap (fun r => if r.cmd.fn = f then r.xfer.bind (fun x => x.fault) else none)
  ((List.range 16).map (fun n => b2n (ids.contains n) * 2 ^ n)).foldl (· + ·) 0

/-- CMD_QPn_STATUS.IDLE: no command of the pair is fetched and still without a completion. -/
def pairIdle (s : State) (f n : Nat) : Bool :=
  (qpOf s f n).fetched.length == 0 && !s.running.any (fun r => r.cmd.fn == f && r.cmd.qp == n)

/-- CMD_FN_STATUS. -/
def fnStatus (s : State) (f : Nat) : Nat :=
  s.boot.lifecycle % 8 * 2 ^ 10 + b2n s.cmdReady * 2 ^ 9 + b2n (tamperLock s) * 2 ^ 8 + f % 32

/-- A register of the tenant page (02 R72). -/
def tenantPage (s : State) (f i : Nat) : Nat :=
  let t := (fnOf s f).tenant
  let free (q : Tenant → Nat) (capacity : Nat) : Nat := capacity - quotaSum s q 0
  match i with
  | 0 => b2n (f == 0 || t.enable) * 2 ^ 9 + b2n (f == 0 || t.keyOwner) * 2 ^ 8 + f
  | 1 => if f = 0 then free (·.scQuota) scCapacity else t.scQuota
  | 2 => scUsed s f
  | 3 => if f = 0 then free (·.saQuota) saCapacity else t.saQuota
  | 4 => saUsed s f
  | 5 => if f = 0 then free (·.keyQuota) keyCapacity else t.keyQuota
  | 6 => keyUsed s f
  | _ => 0

/-- A word of a function's counter window (20 R576, R577). -/
def windowWord (s : State) (f addr off : Nat) : Nat :=
  if !windowLive s f then 0
  else if off < 0x8400 then
    if off % 8 = 0 then slotSeen s false f ((off - 0x8000) / 8) % 2 ^ 32 else latchSeen s false f addr ((off - 0x8000) / 8)
  else if off < 0x8c00 then
    if off % 8 = 0 then bwSeen s f ((off - 0x8400) / 8) % 2 ^ 32 else if bwLive s f then latchedWord s f addr else 0
  else if off = 0x8c00 then winInfo s f
  else if off = 0x8c04 then s.pmc.bwSeq
  else if off = 0x8c08 then s.pmc.windowUs
  else 0

/-- What a read of a function's BAR0 returns. -/
def bar0Read (s : State) (f off : Nat) : Nat :=
  let stored := (reg s (bar0 f off)).toNat
  let snap := s.time.snaps.get 0 f
  if off = 0 then 0x96404000
  else if off = 4 then genRevision
  else if 0x100 ≤ off ∧ off < 0x180 then
    let n := (off - 0x100) / 0x20
    if off % 0x20 = 0x1c then
      (qpOf s f n).sqHead * 2 ^ 16 + bitsOf stored 1 3 * 2 + b2n (pairIdle s f n)
    else stored
  else if off = 0x190 then (fnOf s f).eqTail * 2 ^ 16 + bitsOf stored 0 4
  else if off = 0x1a4 then fnStatus s f
  else if off = 0x200 then s.time.clock.ns
  else if off = 0x204 then snap % 2 ^ 32
  else if off = 0x208 then snap / 2 ^ 32 % 2 ^ 16
  else if off = 0x210 then
    let x := s.dma.xlt.get {} f
    b2n x.enabled * 2 ^ 31 + x.l1 % 32 * 2 ^ 26 + faultMap s f
  else if 0x1000 ≤ off ∧ off < 0x101c then tenantPage s f ((off - 0x1000) / 4)
  else if 0x8000 ≤ off ∧ off < 0x9000 then windowWord s f (bar0 f off) off
  else stored

/-! ## BAR2 -/

/-- The Accord block (07). -/
def accordRead (s : State) (off : Nat) : Nat :=
  let peers := s.accord.peers.cells.length
  if off = 0x2000 then
    b2n (engineRuns s && accUp s) * 2 ^ 31 + b2n s.accord.paused * 2 ^ 30 + b2n (decide (16384 ≤ peers)) * 2 ^ 29 +
      inProgress s % 2 ^ 11 * 2 ^ 16 + peers % 2 ^ 15
  else if off = 0x2004 then
    let a := rateNow s
    a.failedLast % 2 ^ 13 * 2 ^ 16 + a.doneLast % 2 ^ 13
  else 0

/-- The key store's block (08). -/
def attarRead (s : State) (off : Nat) : Nat :=
  let a := s.attar
  if off = 0x3000 then
    b2n a.keeper.isSome * 2 ^ 31 + b2n a.sessionReady * 2 ^ 30 + a.slots.countIf (fun _ v => v.corrupt) * 2 ^ 15 +
      a.slots.countIf (fun _ v => v.type != 0 || v.corrupt)
  else if off = 0x3004 then a.rootGen
  else if off = 0x3008 then
    copyCode s true * 2 ^ 20 + copyCode s false * 2 ^ 16 + b2n (a.active == some true) * 2 ^ 10 + b2n a.erasing.isSome * 2 ^ 9 +
      b2n (flaconDirty s) * 2 ^ 8 + a.tombstones.cells.length % 32
  else if off = 0x300c then (match activeCopy s with | some c => c.generation | none => 0)
  else if off = 0x3010 then a.floor
  else if off = 0x3014 then (reg s off).toNat
  else 0

/-- The fabric's block (09). -/
def fabricRead (s : State) (off : Nat) : Nat :=
  let f := s.fabric
  if off = 0x4000 then
    b2n f.plane1.up * 2 ^ 31 + b2n f.plane0.up * 2 ^ 30 + b2n f.sweep.isSome * 2 ^ 29 + freeCells s % 2 ^ 18
  else if off = 0x4008 then bitsOf (reg s off).toNat 31 1 * 2 ^ 31 + f.lastReturned % 2 ^ 18
  else if 0x4010 ≤ off ∧ off ≤ 0x4020 then classQuota s ((off - 0x4010) / 4)
  else if 0x4030 ≤ off ∧ off ≤ 0x4040 then cellsFor (classWords s ((off - 0x4030) / 4))
  else if off = 0x405c then f.mcResult * 2
  else if 0x4100 ≤ off ∧ off < 0x4180 then
    let n := (off - 0x4100) / 0x20
    if off % 0x20 = 0xc then (hostRing s n).limit
    else if off % 0x20 = 0x10 then (hostRing s n).tail
    else if off % 0x20 ≤ 8 then (reg s off).toNat
    else 0
  else (reg s off).toNat

/-- The reservoir's block (10). -/
def reservoirRead (s : State) (off : Nat) : Nat :=
  if off = 0x7000 then rsvStatus s
  else if off = 0x7004 then (reg s off).toNat
  else if 0x7010 ≤ off ∧ off < 0x7020 then chStatus (chOf s ((off - 0x7010) / 4))
  else if 0x7020 ≤ off ∧ off < 0x7030 then chFree s ((off - 0x7020) / 4)
  else 0

/-- The scheduler's and the meters' fill registers (11). -/
def fillRead (s : State) (off : Nat) : Nat :=
  if off = 0x8000 then s.sched.leaves.cells.length
  else if off = 0x8004 then s.sched.leaves.countIf (fun _ l => l.spilling) * 2 ^ 14 + s.sched.services.cells.length
  else if off = 0xb000 then
    s.sched.meters.countIf (fun n _ => decide (n < 131072)) * 2 ^ 13 + s.sched.meters.countIf (fun n _ => decide (131072 ≤ n))
  else 0

/-- The pair's and the domain's blocks (12, 13). -/
def groupRead (s : State) (off : Nat) : Nat :=
  let p := s.pair
  let d := s.domain
  let map := ((List.range 64).map (fun m =>
    match d.members.find m with | some v => b2n v.joined * 2 ^ m | none => 0)).foldl (· + ·) 0
  if off = 0xc000 then
    p.mode.code * 2 ^ 29 + b2n p.prePending * 2 ^ 28 + b2n p.linkUp * 2 ^ 27 + b2n p.aliveIn * 2 ^ 26 + b2n p.faultSent * 2 ^ 25 +
      p.claim % 2 ^ 16
  else if off = 0xc004 then p.lag % 2 ^ 16
  else if off = 0xd000 then
    d.role * 2 ^ 30 + b2n (inDomain s) * 2 ^ 29 + (b2n d.dx0.up + 2 * b2n d.dx1.up + 4 * b2n d.dx2.up) * 2 ^ 26 +
      b2n d.stepped * 2 ^ 25 + d.depth % 8 * 2 ^ 22 + (d.member.getD 63) % 64 * 2 ^ 16
  else if off = 0xd004 then map % 2 ^ 32
  else if off = 0xd008 then map / 2 ^ 32
  else 0

/-- The time block (14). -/
def timeRead (s : State) (off : Nat) : Nat :=
  let t := s.time
  if off = 0xe000 then
    toCode t.state * 2 ^ 30 + b2n t.selected * 2 ^ 29 + b2n t.failover * 2 ^ 28 + domCode t.ta.state * 2 ^ 26 +
      domCode t.tb.state * 2 ^ 24 + b2n t.ta.agent * 2 ^ 23 + b2n t.tb.agent * 2 ^ 22 + b2n t.ta.step.isSome * 2 ^ 21 +
      b2n t.tb.step.isSome * 2 ^ 20 + t.slewPpm % 2 ^ 9
  else if off = 0xe004 then offsetNs s t.selected
  else if off = 0xe008 then t.ta.rate
  else if off = 0xe00c then t.tb.rate
  else if off = 0xe010 ∨ off = 0xe014 then (reg s off).toNat
  else if off = 0xe018 then t.ppsSeq
  else if off = 0xe01c then t.ppsTo
  else if off = 0xe020 then t.ppsTa
  else if off = 0xe024 then t.ppsTb
  else 0

/-- The tamper block (16). -/
def tamperRead (s : State) (off : Nat) : Nat :=
  let t := s.tamper
  if off = 0x10000 then
    b2n (decide (0 < sourceMask s (·.pending))) * 2 ^ 31 + tamperRank s * 2 ^ 28 + b2n (tamperLock s) * 2 ^ 27 +
      b2n (tamperLock s) * 2 ^ 26 + t.otpCount % 64 * 2 ^ 20 + t.zeroisePending % 16 * 2 ^ 16 + sourceMask s (·.active)
  else if off = 0x10004 then sourceMask s (·.fused) * 2 ^ 16 + sourceMask s (·.pending)
  else if off = 0x10008 then batSeconds s
  else 0

/-- The boot block (17). -/
def bootRead (s : State) (off : Nat) : Nat :=
  let b := s.boot
  if off = 0x10100 then
    b.stage * 2 ^ 28 + b.errorA * 2 ^ 24 + b.errorB * 2 ^ 20 + b.source * 2 ^ 18 + b2n b.bank * 2 ^ 17 + b2n b.trial * 2 ^ 16 +
      b2n b.idValid * 2 ^ 15 + b.floor % 64 * 2 ^ 6 + imgSvn b.running
  else if off = 0x10104 then b.recoveryLength
  else if off = 0x10108 then b.replayFailed * 2 ^ 16 + b.replayDone
  else if off = 0x1010c then
    b2n (decide (b.lifecycle ≤ 2)) * 2 ^ 5 + b2n (decide (b.lifecycle ≤ 1)) * 2 ^ 4 + b2n s.tamper.vppOtp * 2 ^ 3 + b.lifecycle % 8
  else 0

/-- The gate's, the DMA engine's and the watchdog's blocks (18, 19). -/
def accessRead (s : State) (off : Nat) : Nat :=
  let w := s.watchdog
  let waits := s.running.any (fun r => (r.isOp 0x0f02 || r.isOp 0x0f04) && r.wait == .work)
  let failed := (List.range 64).any (fun r => (gateRule s s.gate.activeB r).parityFailed)
  let faults := s.running.countP (fun r => match r.xfer with | some x => x.fault.isSome | none => false)
  if off = 0x10200 then
    b2n s.gate.activeB * 2 ^ 31 + b2n s.gate.loaded * 2 ^ 30 + b2n waits * 2 ^ 29 + b2n failed * 2 ^ 28
  else if off = 0x10204 then s.gate.epoch
  else if off = 0x10208 ∨ off = 0x1020c ∨ off = 0x10210 then (reg s off).toNat
  else if off = 0x10300 then min 31 faults * 2 ^ 16 + s.dma.cache.length
  else if off = 0x10400 then
    b2n w.ctl.up * 2 ^ 31 + b2n w.acc.up * 2 ^ 30 + b2n w.hk.up * 2 ^ 29 + b2n w.stopped * 2 ^ 28 + b2n w.debugHold * 2 ^ 27 +
      w.lastLevel % 16 * 2 ^ 16 + min 0xffff w.restarts
  else 0

/-- A temperature as a signed byte. -/
def degrees (t : Int) : Nat := toSigned 8 t

/-- PWR_TEMP, PWR_POWER and PWR_RESET_CAUSE. -/
def pwrTemp (s : State) : Nat := degrees s.power.tjPeak * 2 ^ 8 + degrees s.power.tj
def pwrPower (s : State) : Nat := s.power.current % 2 ^ 16 * 2 ^ 16 + s.power.power % 2 ^ 16
def pwrCause (s : State) : Nat := s.power.hostResets % 2 ^ 16 * 2 ^ 16 + s.power.cause % 16

/-- The clock and power block (21). -/
def clockRead (s : State) (off : Nat) : Nat :=
  let p := s.power
  if off = 0x10500 then
    b2n p.rootLock * 2 ^ 31 + b2n p.holdover * 2 ^ 30 + b2n p.refclkOk * 2 ^ 29 + b2n p.pcieOk * 2 ^ 28 + b2n p.holdoverSeen * 2 ^ 27 +
      p.offset % 2 ^ 16
  else if off = 0x10510 then p.rails % 128 * 2 ^ 25 + b2n p.overTemp * 2 ^ 24
  else if off = 0x10514 then pwrCause s
  else if off = 0x10518 then pwrTemp s
  else if off = 0x1051c then pwrPower s
  else 0

/-- The PMC block (20). A PMC_CNTn's high word is what the read of its low word latched for the requester. -/
def pmcRead (s : State) (req off : Nat) : Nat :=
  let last := lastSnapshot s
  let slot (n : Nat) : Nat := last.slots.getD n 0
  if off < 0x11200 then pmcSel (pmcOf s ((off - 0x11000) / 4))
  else if off < 0x11400 then (pmcOf s ((off - 0x11200) / 4)).readers
  else if off < 0x11800 then
    if off % 8 = 0 then slotSeen s true req ((off - 0x11400) / 8) % 2 ^ 32 else latchedWord s req off
  else if off < 0x11c00 then
    if off % 8 = 0 then slot ((off - 0x11800) / 8) % 2 ^ 32 else slot ((off - 0x11800) / 8) / 2 ^ 32
  else if off = 0x11c00 then s.pmc.snapSeq
  else if off = 0x11c04 then last.ns
  else if off = 0x11c08 then last.sec % 2 ^ 32
  else if off = 0x11c0c then last.sec / 2 ^ 32 % 2 ^ 16
  else if off = 0x11c10 then s.pmc.userRead
  else if off = 0x11c14 then s.pmc.bwRead
  else 0

/-- The selectors' block and the SC and SA registers (04, 05). -/
def selectorRead (s : State) (off : Nat) : Nat :=
  let v := s.selectors
  if off = 0x24 then v.statusIndex * 2 ^ 12 + b2n v.statusEvicted * 2 ^ 4 + v.statusResult * 2
  else if off = 0x30 then v.lineSplit % 2 ^ 12 * 2 ^ 16 + regField s 0x30 0 12
  else if off = 0x38 then validCount s 3
  else if off = 0x3c then validCount s 2 * 2 ^ 16 + validCount s 4
  else if off = 0x1808 then flushStatus s
  else (reg s off).toNat

/-- The high word of a counter: the one latched, where its low word was the last one read (04 R142). -/
def counterHigh (s : State) (off : Nat) : Nat :=
  match s.latch with
  | some (a, w) => if a = off then w else (counter s (off - 4)).toNat / 2 ^ 32
  | none => (counter s (off - 4)).toNat / 2 ^ 32

/-- What a read of BAR2 returns to a requester. -/
def bar2Read (s : State) (req off : Nat) : Nat :=
  if isCounter off then (counter s off).toNat % 2 ^ 32
  else if isCounter (off - 4) ∧ 4 ≤ off then counterHigh s off
  else if off < 0x2000 then selectorRead s off
  else if off < 0x3000 then accordRead s off
  else if off < 0x4000 then attarRead s off
  else if off < 0x7000 then fabricRead s off
  else if off < 0x8000 then reservoirRead s off
  else if off < 0xc000 then fillRead s off
  else if off < 0xe000 then groupRead s off
  else if off < 0xf000 then timeRead s off
  else if off = 0xf000 then entState s
  else if 0xf004 ≤ off ∧ off ≤ 0xf010 then esStatus (esOf s ((off - 0xf004) / 4))
  else if off < 0x10000 then 0
  else if off < 0x10100 then tamperRead s off
  else if off < 0x10200 then bootRead s off
  else if off < 0x10500 then accessRead s off
  else if off < 0x10600 then clockRead s off
  else if 0x11000 ≤ off ∧ off < 0x11c18 then pmcRead s req off
  else if 0x00800000 ≤ off ∧ off < 0x01000000 then
    if inRecovery s then (s.boot.window.get 0 ((off - 0x00800000) / 4)).toNat else 0
  else 0

/-- What a read at an interconnect address returns. -/
def addrRead (s : State) (req addr : Nat) : Word :=
  BitVec.ofNat 32 (if addr < 0x01000000 then bar2Read s req addr else bar0Read s ((addr - 0x01000000) / 0x10000) (bar0Off addr))

/-! ## Writes -/

/-- Change a register's RW bits: those of a mask. -/
def writeBits (a mask : Nat) (w : Word) (s : State) : State := setReg a (w &&& BitVec.ofNat 32 mask) s

/-- A write of an MSI-X table entry; a vector unmasked while it is pending is signalled (02 R40, by PCIe's format). -/
def msixWrite (f off : Nat) (w : Word) (s : State) : State :=
  let v := (off - 0x2000) / 16
  let s :=
    if off % 16 = 0 then writeBits (bar0 f off) 0xfffffffc w s
    else if off % 16 = 12 then writeBits (bar0 f off) 1 w s
    else writeBits (bar0 f off) 0xffffffff w s
  if off % 16 = 12 ∧ !bitOf w.toNat 0 ∧ regBit s (bar0 f 0x3000) v then
    let s := emit (.msix f v) (regClear (bar0 f 0x3000) (BitVec.ofNat 32 (2 ^ v)) s)
    if f = 0 ∧ v = 2 then driveAll 9 true s else s
  else s

/-- A write of a queue pair's register. -/
def pairWrite (f n off : Nat) (w : Word) (s : State) : State :=
  let a := qpReg f n off
  match off with
  | 0 => writeBits a 0xfffff000 w s
  | 4 => writeBits a 0xffffffff w s
  | 8 => writeBits a 0xfffff000 w s
  | 12 => writeBits a 0xffffffff w s
  | 0x10 => if bitOf w.toNat 0 then qpEnable f n w true s else qpDisable f n w s
  | 0x14 => sqTailWrite f n w s
  | 0x18 => cqHeadWrite f n w s
  | 0x1c => regClear a (w &&& 0xe) s
  | _ => s

/-- A write of a function's BAR0. -/
def bar0Write (f off : Nat) (w : Word) (s : State) : State :=
  if 0x100 ≤ off ∧ off < 0x180 then pairWrite f ((off - 0x100) / 0x20) (off % 0x20) w s
  else if off = 0x180 then writeBits (bar0 f off) 0xfffff000 w s
  else if off = 0x184 then writeBits (bar0 f off) 0xffffffff w s
  else if off = 0x188 then
    if bitOf w.toNat 0 then eqEnable f w true s else writeBits (bar0 f off) 0xf00 w s
  else if off = 0x18c then eqHeadWrite f w s
  else if off = 0x190 then regClear (bar0 f off) (w &&& 0xa) s
  else if off = 0x1a0 then writeBits (bar0 f off) 0x00ffffff w s
  else if 0x2000 ≤ off ∧ off < 0x2030 then msixWrite f off w s
  else s

/-- SEL_CMD is written: the operation that OP names. -/
def selCommand (w : Word) (s : State) : State :=
  match w.toNat % 4 with
  | 0 => selRead w false s
  | 1 => selWrite w s
  | 2 => selClear w s
  | _ => selFind w false s

/-- FAB_MC_CMD is written; a reserved OP ends with BAD_PARAM. -/
def mcCommand (w : Word) (s : State) : State :=
  match w.toNat % 4 with
  | 0 => mcRead w false s
  | 1 => mcWrite w s
  | _ => mcDone w 1 s

/-- A write of a host ring's register. -/
def ringWrite (n off : Nat) (w : Word) (s : State) : State :=
  let a := 0x4100 + 0x20 * n + off
  match off with
  | 0 => writeBits a 0xfffff000 w s
  | 4 => writeBits a 0xffffffff w s
  | 8 => if bitOf w.toNat 0 then ringEnable n w s else ringDisable n w s
  | 12 => ringLimit n w s
  | _ => s

/-- The plain RW registers of BAR2 with the bits that a write changes. -/
def plainMask (off : Nat) : Option Nat :=
  if 4 ≤ off ∧ off ≤ 0x20 then some 0xffffffff
  else if off = 0x2c then some 0x0fff0001
  else if off = 0x30 then some 0xfff
  else if off = 0x34 then some 0xffff7f01
  else if off = 0x1800 then some 1
  else if off = 0x1804 then some 0x1ffff
  else if off = 0x3014 then some 0x1ffff
  else if off = 0x4004 then some 0x1ffff
  else if off = 0x4054 ∨ off = 0x4058 then some 0xffffffff
  else if off = 0x7004 then some 0xff
  else if off = 0xe010 then some 7
  else if off = 0xe014 then some 0x7ffff
  else none

/-- A write of SEL_POLICY: a field that is written 3 keeps its value (04 R128). -/
def policyWrite (w : Word) (s : State) : State :=
  let field (i : Nat) : Nat :=
    let v := bitsOf w.toNat (2 * i) 2
    if v = 3 then regField s 0x28 (2 * i) 2 else v
  setReg 0x28 (BitVec.ofNat 32 (field 0 + 4 * field 1 + 16 * field 2)) s

/-- A write of BAR2. -/
def bar2Write (off : Nat) (w : Word) (s : State) : State :=
  match plainMask off with
  | some mask => writeBits off mask w s
  | none =>
    if off = 0 then selCommand w s
    else if off = 0x28 then policyWrite w s
    else if off = 0x4008 then regClear off (w &&& 0x80000000) s
    else if off = 0x4050 then mcCommand w s
    else if 0x4100 ≤ off ∧ off < 0x4180 then ringWrite ((off - 0x4100) / 0x20) (off % 0x20) w s
    else if off = 0x10104 then recoveryGo w s
    else if off = 0x1020c then clearViolation w s
    else if off = 0x10500 then if bitOf w.toNat 27 then { s with power := { s.power with holdoverSeen := false } } else s
    else if off = 0x10510 then
      if bitOf w.toNat 24 then { s with power := { s.power with overTemp := decide (105 < s.power.tj) } } else s
    else if 0x00800000 ≤ off ∧ off < 0x01000000 ∧ inRecovery s then
      { s with boot := { s.boot with window := s.boot.window.put 0 ((off - 0x00800000) / 4) w } }
    else s

/-- A write at an interconnect address. -/
def addrWrite (addr : Nat) (w : Word) (s : State) : State :=
  if addr < 0x01000000 then bar2Write addr w s else bar0Write ((addr - 0x01000000) / 0x10000) (bar0Off addr) w s

/-- REGISTER_WRITE (R8, R9): a function writes a register of its BAR0, or the PF one of BAR2. -/
def registerWrite (fn : Nat) (bar2 : Bool) (off : Nat) (w : Word) (s : State) : State :=
  let addr := if bar2 then off else bar0 fn off
  if off % 4 ≠ 0 ∨ (bar2 ∧ (fn ≠ 0 ∨ 0x01000000 ≤ off)) ∨ (!bar2 ∧ 0x10000 ≤ off) ∨ 31 < fn then s
  else gated fn addr true [] (addrWrite addr w) s

/-- REGISTER_WRITE. -/
def execRegisterWrite (fn : Nat) (bar2 : Bool) (off : Nat) (value : Word) (s : State) : Host.Outcome State Fault Refusal :=
  act (registerWrite fn bar2 off value) s

/-! ## The management I2C target (22 R623) -/

/-- GEN_MGMT_STATUS. -/
def mgmtStatus (s : State) : Nat :=
  b2n s.halted * 2 ^ 31 + b2n (tamperLock s) * 2 ^ 30 + b2n s.cmdReady * 2 ^ 29 + s.boot.lifecycle % 8 * 2 ^ 26 +
    b2n s.power.overTemp * 2 ^ 25 + b2n s.power.holdover * 2 ^ 24 + s.boot.stage % 16 * 2 ^ 20 + s.pair.mode.code * 2 ^ 16

/-- A register of the target by its number. -/
def mgmtWord (s : State) (i : Nat) : Nat :=
  match i with
  | 0 => 0x96404000
  | 1 => genRevision
  | 2 => s.boot.deviceId % 2 ^ 32
  | 3 => s.boot.deviceId / 2 ^ 32
  | 4 => mgmtStatus s
  | 5 => pwrTemp s
  | 6 => pwrPower s
  | 7 => pwrCause s
  | _ => 0

/-- The byte at a pointer. -/
def mgmtByte (s : State) (p : Nat) : Byte := BitVec.ofNat 8 (bitsOf (mgmtWord s (p / 4)) (8 * (p % 4)) 8)

/-- Whether the target answers its address. -/
def i2cAnswers (s : State) : Bool := s.powered && s.power.rootLock

/-- I2C_POINTER_WRITE: the first byte sets the pointer, further bytes are ignored. -/
def execI2cPointerWrite (data : Bytes) (s : State) : Host.Outcome State Fault Refusal :=
  always (fun s =>
    match data with
    | b :: _ => if i2cAnswers s then { s with power := { s.power with pointer := b.toNat } } else s
    | [] => s) s

/-- I2C_READ of a number of bytes: little-endian from the pointer on, which wraps from FFh to 00h. -/
def execI2cRead (count : Nat) (s : State) : Host.Outcome State Fault Refusal :=
  always (fun s =>
    if i2cAnswers s then
      let p := s.power.pointer
      emit (.i2c ((List.range count).map (fun k => mgmtByte s ((p + k) % 256)))) { s with power := { s.power with pointer := (p + count) % 256 } }
    else s) s

/-! ## Debug accesses (18 R524, 17 R510) -/

/-- The reads that change what they read, as a debug access makes them. -/
def debugRead (addr : Nat) (s : State) : State :=
  let off := bar0Off addr
  if addr < 0x01000000 then
    if isCounter addr then counterLowRead 36 addr s
    else if (0x40 ≤ addr ∧ addr ≤ 0x54) ∨ addr = 0x10210 then clearingRead 36 addr s
    else if addr = 0x1808 then flushStatusRead 36 s
    else if 0x11400 ≤ addr ∧ addr < 0x11800 ∧ addr % 8 = 0 then slotLowRead 36 addr ((addr - 0x11400) / 8) true s
    else emit (.readData 36 (addrRead s 36 addr)) s
  else if addr < 0x01200000 then
    if off = 8 ∨ off = 0x194 then clearingRead 36 addr s else emit (.readData 36 (addrRead s 36 addr)) s
  else if addr < 0x02800000 then
    let at_ := addr - 0x02000000
    if inRecovery s then emit (.readData 36 (s.boot.window.get 0 (at_ / 4))) s
    else if at_ < imageBytes s then
      emit (.readData 36 (BitVec.ofNat 32 (leAt s.boot.running (imgHeader + at_) 4))) s
    else
      let (v, s) := drawFree 32 s
      emit (.readData 36 (BitVec.ofNat 32 v)) s
  else
    let (v, s) := drawFree 32 s
    emit (.readData 36 (BitVec.ofNat 32 v)) s

/-- DEBUG_ACCESS: an access of the debug access port, which works in BLANK and FACTORY, as requester 36. `badRules` are gate rules
that fail their parity as it is checked. What a write does to a memory whose layout the spec does not give is refused by name. -/
def execDebugAccess (addr : Nat) (write : Bool) (value : Word) (badRules : List Nat) (s : State) : Host.Outcome State Fault Refusal :=
  if s.halted || !s.powered || s.boot.otpBad || decide (1 < s.boot.lifecycle) || addr % 4 != 0 then .next s
  else
    match gateCheck 36 addr write false badRules s with
    | (s, some reason) =>
      let s := gateDeny 36 addr write false reason s
      .next (if write then s else emit (.readData 36 0) s)
    | (s, none) =>
      if !write then .next (debugRead addr s)
      else if addr < 0x01200000 then .next (addrWrite addr value s)
      else if inRecovery s && decide (addr < 0x02800000) then .next (addrWrite (addr - 0x01800000) value s)
      else .refused .unstatedMemory

end Sys2Proof.Machine
end

