-- ==== Sys2Proof/Machine/Dispatch.lean ====
section
/-!
DEFINITION. What each command does: one arm for each constructor, each a direct call of the command's meaning.
-/
namespace Sys2Proof.Machine

/-- The effect of a command on everything but the queue. -/
def exec (i : Instr) (s : State) : Host.Outcome State Fault Refusal :=
  match i with
  | .registerWrite fn bar2 off value => Sys2Proof.Machine.execRegisterWrite fn bar2 off value s
  | .badRegisterAccess fn read => Sys2Proof.Machine.execBadRegisterAccess fn read s
  | .counterLowRead off => Sys2Proof.Machine.execCounterLowRead off s
  | .pmcSlotLowRead fn bar2 off => Sys2Proof.Machine.execPmcSlotLowRead fn bar2 off s
  | .genBadAccessRead fn => Sys2Proof.Machine.execGenBadAccessRead fn s
  | .cmdEqLostRead fn => Sys2Proof.Machine.execCmdEqLostRead fn s
  | .selParityCountRead table => Sys2Proof.Machine.execSelParityCountRead table s
  | .saFlushStatusRead => Sys2Proof.Machine.execSaFlushStatusRead s
  | .gateViolCountRead => Sys2Proof.Machine.execGateViolCountRead s
  | .gateViolInfoClear => Sys2Proof.Machine.execGateViolInfoClear s
  | .timSnapNsRead fn => Sys2Proof.Machine.execTimSnapNsRead fn s
  | .cmdQpSqTailWrite fn qp value => Sys2Proof.Machine.execCmdQpSqTailWrite fn qp value s
  | .cmdQpCqHeadWrite fn qp value => Sys2Proof.Machine.execCmdQpCqHeadWrite fn qp value s
  | .cmdQpEnable fn qp value writable => Sys2Proof.Machine.execCmdQpEnable fn qp value writable s
  | .cmdQpDisable fn qp value => Sys2Proof.Machine.execCmdQpDisable fn qp value s
  | .cmdEqEnable fn value writable => Sys2Proof.Machine.execCmdEqEnable fn value writable s
  | .cmdEqHeadWrite fn value => Sys2Proof.Machine.execCmdEqHeadWrite fn value s
  | .cqDelayExpiry fn => Sys2Proof.Machine.execCqDelayExpiry fn s
  | .selCmdRead value upset => Sys2Proof.Machine.execSelCmdRead value upset s
  | .selCmdWrite value => Sys2Proof.Machine.execSelCmdWrite value s
  | .selCmdClear value => Sys2Proof.Machine.execSelCmdClear value s
  | .selCmdFind value upset => Sys2Proof.Machine.execSelCmdFind value upset s
  | .fabMcRead value upset => Sys2Proof.Machine.execFabMcRead value upset s
  | .fabMcWrite value => Sys2Proof.Machine.execFabMcWrite value s
  | .fabHrEnable ring value => Sys2Proof.Machine.execFabHrEnable ring value s
  | .fabHrDisable ring value => Sys2Proof.Machine.execFabHrDisable ring value s
  | .fabHrLimitWrite ring value => Sys2Proof.Machine.execFabHrLimitWrite ring value s
  | .bootRecoveryGo value => Sys2Proof.Machine.execBootRecoveryGo value s
  | .i2cPointerWrite data => Sys2Proof.Machine.execI2cPointerWrite data s
  | .i2cRead count => Sys2Proof.Machine.execI2cRead count s
  | .commandFetch fn qp packet ok => Sys2Proof.Machine.execCommandFetch fn qp packet ok s
  | .commandBegin writable => Sys2Proof.Machine.execCommandBegin writable s
  | .classTimeout index => Sys2Proof.Machine.execClassTimeout index s
  | .functionReset fn => Sys2Proof.Machine.execFunctionReset fn s
  | .eventHoldExpiry code scope => Sys2Proof.Machine.execEventHoldExpiry code scope s
  | .devInfo c => Sys2Proof.Machine.execDevInfo c s
  | .devReset c => Sys2Proof.Machine.execDevReset c s
  | .devEventsMask c => Sys2Proof.Machine.execDevEventsMask c s
  | .devConfigSave c => Sys2Proof.Machine.execDevConfigSave c s
  | .devTenantSet c => Sys2Proof.Machine.execDevTenantSet c s
  | .portConfig c => Sys2Proof.Machine.execPortConfig c s
  | .portStatus c => Sys2Proof.Machine.execPortStatus c s
  | .laneTune c => Sys2Proof.Machine.execLaneTune c s
  | .portMap c => Sys2Proof.Machine.execPortMap c s
  | .selBulkLoad c => Sys2Proof.Machine.execSelBulkLoad c s
  | .selShadowCompare c => Sys2Proof.Machine.execSelShadowCompare c s
  | .selLpmMode c => Sys2Proof.Machine.execSelLpmMode c s
  | .scCreate c => Sys2Proof.Machine.execScCreate c s
  | .scDelete c => Sys2Proof.Machine.execScDelete c s
  | .saInstall c => Sys2Proof.Machine.execSaInstall c s
  | .saRetire c => Sys2Proof.Machine.execSaRetire c s
  | .saStatus c => Sys2Proof.Machine.execSaStatus c s
  | .saRoll c => Sys2Proof.Machine.execSaRoll c s
  | .scTenantAssign c => Sys2Proof.Machine.execScTenantAssign c s
  | .keyWrite c => Sys2Proof.Machine.execKeyWrite c s
  | .keyInvalidate c => Sys2Proof.Machine.execKeyInvalidate c s
  | .keyStatus c => Sys2Proof.Machine.execKeyStatus c s
  | .flaconCommit c => Sys2Proof.Machine.execFlaconCommit c s
  | .flaconLoad c => Sys2Proof.Machine.execFlaconLoad c s
  | .accCommunitySet c => Sys2Proof.Machine.execAccCommunitySet c s
  | .accPeerList c => Sys2Proof.Machine.execAccPeerList c s
  | .accPeerDrop c => Sys2Proof.Machine.execAccPeerDrop c s
  | .accPolicy c => Sys2Proof.Machine.execAccPolicy c s
  | .fabBufferPartition c => Sys2Proof.Machine.execFabBufferPartition c s
  | .fabAudit c => Sys2Proof.Machine.execFabAudit c s
  | .rsvConfig c => Sys2Proof.Machine.execRsvConfig c s
  | .rsvStatus c => Sys2Proof.Machine.execRsvStatus c s
  | .rsvScrub c => Sys2Proof.Machine.execRsvScrub c s
  | .schNodeSet c => Sys2Proof.Machine.execSchNodeSet c s
  | .schQueueSet c => Sys2Proof.Machine.execSchQueueSet c s
  | .mtrSet c => Sys2Proof.Machine.execMtrSet c s
  | .pairConfig c => Sys2Proof.Machine.execPairConfig c s
  | .pairStatus c => Sys2Proof.Machine.execPairStatus c s
  | .pairExercise c => Sys2Proof.Machine.execPairExercise c s
  | .pairResync c => Sys2Proof.Machine.execPairResync c s
  | .domConfig c => Sys2Proof.Machine.execDomConfig c s
  | .domGlobal c => Sys2Proof.Machine.execDomGlobal c s
  | .domMembers c => Sys2Proof.Machine.execDomMembers c s
  | .timStep c => Sys2Proof.Machine.execTimStep c s
  | .timRate c => Sys2Proof.Machine.execTimRate c s
  | .timSelect c => Sys2Proof.Machine.execTimSelect c s
  | .timSchedule c => Sys2Proof.Machine.execTimSchedule c s
  | .entRead c => Sys2Proof.Machine.execEntRead c s
  | .entStatus c => Sys2Proof.Machine.execEntStatus c s
  | .entTestPattern c => Sys2Proof.Machine.execEntTestPattern c s
  | .tmpConfig c => Sys2Proof.Machine.execTmpConfig c s
  | .tmpEvidence c => Sys2Proof.Machine.execTmpEvidence c s
  | .tmpAck c => Sys2Proof.Machine.execTmpAck c s
  | .lcAdvance c => Sys2Proof.Machine.execLcAdvance c s
  | .tmpSelftest c => Sys2Proof.Machine.execTmpSelftest c s
  | .pinAssign c => Sys2Proof.Machine.execPinAssign c s
  | .fwStage c => Sys2Proof.Machine.execFwStage c s
  | .fwActivate c => Sys2Proof.Machine.execFwActivate c s
  | .attest c => Sys2Proof.Machine.execAttest c s
  | .idCerts c => Sys2Proof.Machine.execIdCerts c s
  | .gateLoad c => Sys2Proof.Machine.execGateLoad c s
  | .gateSwap c => Sys2Proof.Machine.execGateSwap c s
  | .gateEdit c => Sys2Proof.Machine.execGateEdit c s
  | .gateBarrier c => Sys2Proof.Machine.execGateBarrier c s
  | .dmaXltSet c => Sys2Proof.Machine.execDmaXltSet c s
  | .dmaResume c => Sys2Proof.Machine.execDmaResume c s
  | .pmcConfig c => Sys2Proof.Machine.execPmcConfig c s
  | .statsRead c => Sys2Proof.Machine.execStatsRead c s
  | .wdConfig c => Sys2Proof.Machine.execWdConfig c s
  | .diagLoopback c => Sys2Proof.Machine.execDiagLoopback c s
  | .portSignalLoss port lock => Sys2Proof.Machine.execPortSignalLoss port lock s
  | .portLocalFaultDetect port => Sys2Proof.Machine.execPortLocalFaultDetect port s
  | .portRemoteFaultDetect port => Sys2Proof.Machine.execPortRemoteFaultDetect port s
  | .portRemoteFaultClear port => Sys2Proof.Machine.execPortRemoteFaultClear port s
  | .portAnComplete port => Sys2Proof.Machine.execPortAnComplete port s
  | .portTrainingComplete port => Sys2Proof.Machine.execPortTrainingComplete port s
  | .portLockAchieved port => Sys2Proof.Machine.execPortLockAchieved port s
  | .portLinkUpTimer port => Sys2Proof.Machine.execPortLinkUpTimer port s
  | .trainingTimeout port lane => Sys2Proof.Machine.execTrainingTimeout port lane s
  | .trainingRetry port => Sys2Proof.Machine.execTrainingRetry port s
  | .fecWindowEnd port corrected uncorrectable blocks symbols laneErrors => Sys2Proof.Machine.execFecWindowEnd port corrected uncorrectable blocks symbols laneErrors s
  | .faultPropagateHoldoff port => Sys2Proof.Machine.execFaultPropagateHoldoff port s
  | .clientFrameHead port head whole backlog upsets => Sys2Proof.Machine.execClientFrameHead port head whole backlog upsets s
  | .clientFrameTail port rest fcs => Sys2Proof.Machine.execClientFrameTail port rest fcs s
  | .lineFrameHead port head whole upsets => Sys2Proof.Machine.execLineFrameHead port head whole upsets s
  | .lineFrameTail port rest fcs => Sys2Proof.Machine.execLineFrameTail port rest fcs s
  | .fabricMatch plane => Sys2Proof.Machine.execFabricMatch plane s
  | .cellArrival input output plane ok => Sys2Proof.Machine.execCellArrival input output plane ok s
  | .reseqTimeout input output => Sys2Proof.Machine.execReseqTimeout input output s
  | .expressFrameAssembled frame => Sys2Proof.Machine.execExpressFrameAssembled frame s
  | .leFrameHead port upsets descParity => Sys2Proof.Machine.execLeFrameHead port upsets descParity s
  | .ceFrameHead port descParity => Sys2Proof.Machine.execCeFrameHead port descParity s
  | .expressUnderrun port => Sys2Proof.Machine.execExpressUnderrun port s
  | .mpFrameHead frame upsets => Sys2Proof.Machine.execMpFrameHead frame upsets s
  | .schedulerRelease node upsets descParity => Sys2Proof.Machine.execSchedulerRelease node upsets descParity s
  | .fineSlot inst slot => Sys2Proof.Machine.execFineSlot inst slot s
  | .coarseBoundary inst slot => Sys2Proof.Machine.execCoarseBoundary inst slot s
  | .hostFrameDeliver ring buf ok => Sys2Proof.Machine.execHostFrameDeliver ring buf ok s
  | .fabHostFramesWindow ring => Sys2Proof.Machine.execFabHostFramesWindow ring s
  | .fabAuditPeriod => Sys2Proof.Machine.execFabAuditPeriod s
  | .fabSweepEnd => Sys2Proof.Machine.execFabSweepEnd s
  | .memberInUseClear member => Sys2Proof.Machine.execMemberInUseClear member s
  | .mcScrub found => Sys2Proof.Machine.execMcScrub found s
  | .mcParityRestore member index copy => Sys2Proof.Machine.execMcParityRestore member index copy s
  | .spillPageWrite leaf misses upsets => Sys2Proof.Machine.execSpillPageWrite leaf misses upsets s
  | .pageFillTimeout leaf misses upsets => Sys2Proof.Machine.execPageFillTimeout leaf misses upsets s
  | .pageWriteComplete leaf pageSeq => Sys2Proof.Machine.execPageWriteComplete leaf pageSeq s
  | .pageReadComplete leaf misses upsets => Sys2Proof.Machine.execPageReadComplete leaf misses upsets s
  | .rsvLapRestEnd channel => Sys2Proof.Machine.execRsvLapRestEnd channel s
  | .rsvKeyDrawn => Sys2Proof.Machine.execRsvKeyDrawn s
  | .rsvRetrainAttemptEnd channel ok => Sys2Proof.Machine.execRsvRetrainAttemptEnd channel ok s
  | .rsvPatrol upsets => Sys2Proof.Machine.execRsvPatrol upsets s
  | .ageTick pipe => Sys2Proof.Machine.execAgeTick pipe s
  | .selectorScrub found => Sys2Proof.Machine.execSelectorScrub found s
  | .lineEntryRewrite peer => Sys2Proof.Machine.execLineEntryRewrite peer s
  | .bloomRebuild family length => Sys2Proof.Machine.execBloomRebuild family length s
  | .filterParityRebuild family length => Sys2Proof.Machine.execFilterParityRebuild family length s
  | .scParityRestore sc => Sys2Proof.Machine.execScParityRestore sc s
  | .schParityRestore kind index copy => Sys2Proof.Machine.execSchParityRestore kind index copy s
  | .saFlush sa => Sys2Proof.Machine.execSaFlush sa s
  | .statsSweep upsets => Sys2Proof.Machine.execStatsSweep upsets s
  | .retirementDeadline sa => Sys2Proof.Machine.execRetirementDeadline sa s
  | .saDrainComplete sa => Sys2Proof.Machine.execSaDrainComplete sa s
  | .rollFire sc => Sys2Proof.Machine.execRollFire sc s
  | .helloInterval => Sys2Proof.Machine.execHelloInterval s
  | .accFrameRx port => Sys2Proof.Machine.execAccFrameRx port s
  | .accFragTimeout port => Sys2Proof.Machine.execAccFragTimeout port s
  | .accHelloRx port => Sys2Proof.Machine.execAccHelloRx port s
  | .accOfferRx port => Sys2Proof.Machine.execAccOfferRx port s
  | .accAcceptRx port => Sys2Proof.Machine.execAccAcceptRx port s
  | .accConfirmRx port => Sys2Proof.Machine.execAccConfirmRx port s
  | .accRollRx port => Sys2Proof.Machine.execAccRollRx port s
  | .accFarewellRx port => Sys2Proof.Machine.execAccFarewellRx port s
  | .discoveryRecord => Sys2Proof.Machine.execDiscoveryRecord s
  | .peerMissCheck => Sys2Proof.Machine.execPeerMissCheck s
  | .peerHoldExpiry peer => Sys2Proof.Machine.execPeerHoldExpiry peer s
  | .peerSuppressEnd peer => Sys2Proof.Machine.execPeerSuppressEnd peer s
  | .discoveredWaitExpiry peer => Sys2Proof.Machine.execDiscoveredWaitExpiry peer s
  | .offerRetransmit peer => Sys2Proof.Machine.execOfferRetransmit peer s
  | .offerGiveUp peer => Sys2Proof.Machine.execOfferGiveUp peer s
  | .confirmRetransmit peer => Sys2Proof.Machine.execConfirmRetransmit peer s
  | .confirmGiveUp peer => Sys2Proof.Machine.execConfirmGiveUp peer s
  | .acceptTimeout peer => Sys2Proof.Machine.execAcceptTimeout peer s
  | .exchangeBackoffExpiry peer => Sys2Proof.Machine.execExchangeBackoffExpiry peer s
  | .rekeyIntervalExpiry peer => Sys2Proof.Machine.execRekeyIntervalExpiry peer s
  | .rollResend peer => Sys2Proof.Machine.execRollResend peer s
  | .rollWaitExpiry peer => Sys2Proof.Machine.execRollWaitExpiry peer s
  | .supersededRetire sa => Sys2Proof.Machine.execSupersededRetire sa s
  | .communityTeardown community => Sys2Proof.Machine.execCommunityTeardown community s
  | .responderEntropyTimeout peer => Sys2Proof.Machine.execResponderEntropyTimeout peer s
  | .attScrubPeriod upsets => Sys2Proof.Machine.execAttScrubPeriod upsets s
  | .attAutoRepair slot => Sys2Proof.Machine.execAttAutoRepair slot s
  | .flaconEraseDone => Sys2Proof.Machine.execFlaconEraseDone s
  | .pairSlotEnd => Sys2Proof.Machine.execPairSlotEnd s
  | .pairOrderRx data crc => Sys2Proof.Machine.execPairOrderRx data crc s
  | .pairMirrorRx data crc => Sys2Proof.Machine.execPairMirrorRx data crc s
  | .pairStatusRx data crc => Sys2Proof.Machine.execPairStatusRx data crc s
  | .pairStatusInterval => Sys2Proof.Machine.execPairStatusInterval s
  | .pairAliveToggle partner => Sys2Proof.Machine.execPairAliveToggle partner s
  | .pairSilenceTimeout pin => Sys2Proof.Machine.execPairSilenceTimeout pin s
  | .pairCutIn => Sys2Proof.Machine.execPairCutIn s
  | .pairResyncRetry => Sys2Proof.Machine.execPairResyncRetry s
  | .pairHandoverSlot => Sys2Proof.Machine.execPairHandoverSlot s
  | .pairDwellExpiry => Sys2Proof.Machine.execPairDwellExpiry s
  | .claimInterval => Sys2Proof.Machine.execClaimInterval s
  | .accClaimRx port => Sys2Proof.Machine.execAccClaimRx port s
  | .mergeClaimUpdate => Sys2Proof.Machine.execMergeClaimUpdate s
  | .mergeHoldEnd frame => Sys2Proof.Machine.execMergeHoldEnd frame s
  | .domKeepaliveInterval => Sys2Proof.Machine.execDomKeepaliveInterval s
  | .domKeepaliveRx link data crc => Sys2Proof.Machine.execDomKeepaliveRx link data crc s
  | .domJoinRx link data crc => Sys2Proof.Machine.execDomJoinRx link data crc s
  | .domWelcomeRx link data crc => Sys2Proof.Machine.execDomWelcomeRx link data crc s
  | .domJoinRetry => Sys2Proof.Machine.execDomJoinRetry s
  | .domKeysRx link data crc => Sys2Proof.Machine.execDomKeysRx link data crc s
  | .domTimeInterval => Sys2Proof.Machine.execDomTimeInterval s
  | .domTimeRx link data crc => Sys2Proof.Machine.execDomTimeRx link data crc s
  | .domGlobalRx link data crc => Sys2Proof.Machine.execDomGlobalRx link data crc s
  | .domGlobalAckRx link data crc => Sys2Proof.Machine.execDomGlobalAckRx link data crc s
  | .domAckTimeout opid => Sys2Proof.Machine.execDomAckTimeout opid s
  | .domReportRx link data crc => Sys2Proof.Machine.execDomReportRx link data crc s
  | .domReportMerge code object => Sys2Proof.Machine.execDomReportMerge code object s
  | .domLinkLoss link => Sys2Proof.Machine.execDomLinkLoss link s
  | .domScheduledInstant op id => Sys2Proof.Machine.execDomScheduledInstant op id s
  | .domLatchInstant board => Sys2Proof.Machine.execDomLatchInstant board s
  | .timeDomainHoldExpiry domain => Sys2Proof.Machine.execTimeDomainHoldExpiry domain s
  | .toSlewConverged => Sys2Proof.Machine.execToSlewConverged s
  | .ppsInEdge gpio => Sys2Proof.Machine.execPpsInEdge gpio s
  | .ppsMissing => Sys2Proof.Machine.execPpsMissing s
  | .ppsOutSecond => Sys2Proof.Machine.execPpsOutSecond s
  | .timerFire timer => Sys2Proof.Machine.execTimerFire timer s
  | .entWindowEnd windows => Sys2Proof.Machine.execEntWindowEnd windows s
  | .entHealthFail source rct => Sys2Proof.Machine.execEntHealthFail source rct s
  | .entRetestTimeout => Sys2Proof.Machine.execEntRetestTimeout s
  | .entFailedRetest passed => Sys2Proof.Machine.execEntFailedRetest passed s
  | .entSourceRetest source passed => Sys2Proof.Machine.execEntSourceRetest source passed s
  | .entRequestServe => Sys2Proof.Machine.execEntRequestServe s
  | .tamperOnset sources => Sys2Proof.Machine.execTamperOnset sources s
  | .tamperPinOnCell sources => Sys2Proof.Machine.execTamperPinOnCell sources s
  | .tamperConditionEnd source => Sys2Proof.Machine.execTamperConditionEnd source s
  | .farewellWindowEnd => Sys2Proof.Machine.execFarewellWindowEnd s
  | .powerOnReset cause removed off vpp refclk banks board => Sys2Proof.Machine.execPowerOnReset cause removed off vpp refclk banks board s
  | .fullReset byDomain board => Sys2Proof.Machine.execFullReset byDomain board s
  | .devResetStart board => Sys2Proof.Machine.execDevResetStart board s
  | .hostReset => Sys2Proof.Machine.execHostReset s
  | .firmwareReset => Sys2Proof.Machine.execFirmwareReset s
  | .batteryLoss => Sys2Proof.Machine.execBatteryLoss s
  | .l0Flush unit stage frames cells => Sys2Proof.Machine.execL0Flush unit stage frames cells s
  | .l1Expiry what table pipe entry index => Sys2Proof.Machine.execL1Expiry what table pipe entry index s
  | .l2Expiry channel index => Sys2Proof.Machine.execL2Expiry channel index s
  | .l3Expiry index => Sys2Proof.Machine.execL3Expiry index s
  | .l5Expiry fn => Sys2Proof.Machine.execL5Expiry fn s
  | .l6Expiry core => Sys2Proof.Machine.execL6Expiry core s
  | .coreRestartComplete core hashOk bad => Sys2Proof.Machine.execCoreRestartComplete core hashOk bad s
  | .l7FwAliveTimeout => Sys2Proof.Machine.execL7FwAliveTimeout s
  | .dmaTurn entries pages parity buffer bad => Sys2Proof.Machine.execDmaTurn entries pages parity buffer bad s
  | .gateRuleRestore setB rule => Sys2Proof.Machine.execGateRuleRestore setB rule s
  | .gateSwapDrainEnd => Sys2Proof.Machine.execGateSwapDrainEnd s
  | .bwWindowEnd => Sys2Proof.Machine.execBwWindowEnd s
  | .pmcWrap counter => Sys2Proof.Machine.execPmcWrap counter s
  | .refclkLoss => Sys2Proof.Machine.execRefclkLoss s
  | .refclkReturn offset => Sys2Proof.Machine.execRefclkReturn offset s
  | .tempSample tj current power => Sys2Proof.Machine.execTempSample tj current power s
  | .reappearanceHoldExpiry peer => Sys2Proof.Machine.execReappearanceHoldExpiry peer s
  | .endedExchangeRetire peer => Sys2Proof.Machine.execEndedExchangeRetire peer s
  | .entropyWaitExpiry index => Sys2Proof.Machine.execEntropyWaitExpiry index s
  | .standbyHoldExpiry port => Sys2Proof.Machine.execStandbyHoldExpiry port s
  | .releaseFrameWaitExpiry => Sys2Proof.Machine.execReleaseFrameWaitExpiry s
  | .localFaultClear port => Sys2Proof.Machine.execLocalFaultClear port s
  | .barrierDrainEnd => Sys2Proof.Machine.execBarrierDrainEnd s
  | .debugAccess addr write value badRules => Sys2Proof.Machine.execDebugAccess addr write value badRules s
  | .ppsOutWidthEnd => Sys2Proof.Machine.execPpsOutWidthEnd s
  | .rootPllLockLoss => Sys2Proof.Machine.execRootPllLockLoss s

end Sys2Proof.Machine
end

