-- ==== Sys2Proof/Machine/Tick.lean ====
section
/-!
DEFINITION. Time passing (14_time R427, 20_counters R570, 21_clocks R592): what one CK_TS cycle of 1.6 ns does while no command
comes. DESIGN CHOICE (notes/assumptions/8): the table has no row for a clock cycle; a step on an empty queue is one.
-/
namespace Sys2Proof.Machine

open Sys2Proof

/-- Cycles of a clock of `num / den` of CK_TS that fall within one CK_TS cycle: all clocks divide one VCO from one start (R593). -/
def cyclesIn (num den tick : Nat) : Nat := (tick + 1) * num / den - tick * num / den

/-- CK_CORE runs at 5/2 of CK_TS, and CK_SCHED at 5/8. -/
def coreCycles (tick : Nat) : Nat := cyclesIn 5 2 tick
def schedCycles (tick : Nat) : Nat := cyclesIn 5 8 tick

/-- PMC events 001h and 002h of the cycles that fall within one CK_TS cycle. -/
def countCycles (s : State) : State := pmcEvent 0x002 0 (schedCycles s.tick) (pmcEvent 0x001 0 (coreCycles s.tick) s)

/-- One CK_TS cycle. A halted device's clocks of day stand; without main power nothing of the die runs (16 R478). -/
def tickDevice (s : State) : State :=
  if !s.powered then s
  else if s.halted || !s.power.rootLock then { s with tick := s.tick + 1 }
  else
    let s := tickClocks (countCycles s)
    { s with tick := s.tick + 1 }

end Sys2Proof.Machine
end

