-- ==== Sys2Proof/WellFormed.lean ====
section
/-!
DEFINITION. Which operands a command can have: the numbers of things that the spec counts, the alignment of register accesses, the
opcode of each row's packet. The machine gives every command a meaning, well formed or not.
-/
namespace Sys2Proof

/-- A queue command: its function and pair exist (pair 4 stands for a replay entry or the domain), and its packet carries the
row's opcode (02 R42). -/
def cmdOk (opcode : Nat) (c : Cmd) : Bool := decide (c.fn < 32) && decide (c.qp < 5) && c.opcode == opcode

/-- The head of a frame: the whole of it, or at least its first 128 bytes (01 R17). -/
def headOk (head : Bytes) (whole : Bool) : Bool := whole || decide (128 ≤ head.length)

/-- Whether a command is well formed. -/
def Instr.wellFormed : Instr → Bool
  | .registerWrite fn bar2 off _ => decide (fn < 32) && decide (off % 4 = 0) &&
      if bar2 then decide (fn = 0) && decide (off < 0x01000000) else decide (off < 0x10000)
  | .badRegisterAccess fn _ => decide (fn < 32)
  | .counterLowRead off => decide (off % 8 = 0) && decide (off < 0x01000000)
  | .pmcSlotLowRead fn bar2 off => decide (fn < 32) && decide (off % 8 = 0) &&
      if bar2 then decide (fn = 0) && decide (0x11400 ≤ off) && decide (off < 0x11800) else decide (0x8000 ≤ off) && decide (off < 0x8c00)
  | .genBadAccessRead fn => decide (fn < 32)
  | .cmdEqLostRead fn => decide (fn < 32)
  | .selParityCountRead table => decide (table < 6)
  | .saFlushStatusRead => true
  | .gateViolCountRead => true
  | .gateViolInfoClear => true
  | .timSnapNsRead fn => decide (fn < 32)
  | .cmdQpSqTailWrite fn qp _ => decide (fn < 32) && decide (qp < 4)
  | .cmdQpCqHeadWrite fn qp _ => decide (fn < 32) && decide (qp < 4)
  | .cmdQpEnable fn qp _ _ => decide (fn < 32) && decide (qp < 4)
  | .cmdQpDisable fn qp _ => decide (fn < 32) && decide (qp < 4)
  | .cmdEqEnable fn _ _ => decide (fn < 32)
  | .cmdEqHeadWrite fn _ => decide (fn < 32)
  | .cqDelayExpiry fn => decide (fn < 32)
  | .selCmdRead _ _ => true
  | .selCmdWrite _ => true
  | .selCmdClear _ => true
  | .selCmdFind _ _ => true
  | .fabMcRead _ _ => true
  | .fabMcWrite _ => true
  | .fabHrEnable ring _ => decide (ring < 4)
  | .fabHrDisable ring _ => decide (ring < 4)
  | .fabHrLimitWrite ring _ => decide (ring < 4)
  | .bootRecoveryGo _ => true
  | .i2cPointerWrite data => !data.isEmpty
  | .i2cRead _ => true
  | .commandFetch fn qp _ _ => decide (fn < 32) && decide (qp < 4)
  | .commandBegin _ => true
  | .classTimeout _ => true
  | .functionReset fn => decide (fn < 32)
  | .eventHoldExpiry _ _ => true
  | .devInfo c => cmdOk 0x0101 c
  | .devReset c => cmdOk 0x0102 c
  | .devEventsMask c => cmdOk 0x0103 c
  | .devConfigSave c => cmdOk 0x0104 c
  | .devTenantSet c => cmdOk 0x0105 c
  | .portConfig c => cmdOk 0x0201 c
  | .portStatus c => cmdOk 0x0202 c
  | .laneTune c => cmdOk 0x0203 c
  | .portMap c => cmdOk 0x0204 c
  | .selBulkLoad c => cmdOk 0x0301 c
  | .selShadowCompare c => cmdOk 0x0302 c
  | .selLpmMode c => cmdOk 0x0303 c
  | .scCreate c => cmdOk 0x0401 c
  | .scDelete c => cmdOk 0x0402 c
  | .saInstall c => cmdOk 0x0403 c
  | .saRetire c => cmdOk 0x0404 c
  | .saStatus c => cmdOk 0x0405 c
  | .saRoll c => cmdOk 0x0406 c
  | .scTenantAssign c => cmdOk 0x0407 c
  | .keyWrite c => cmdOk 0x0501 c
  | .keyInvalidate c => cmdOk 0x0502 c
  | .keyStatus c => cmdOk 0x0503 c
  | .flaconCommit c => cmdOk 0x0504 c
  | .flaconLoad c => cmdOk 0x0505 c
  | .accCommunitySet c => cmdOk 0x0601 c
  | .accPeerList c => cmdOk 0x0602 c
  | .accPeerDrop c => cmdOk 0x0603 c
  | .accPolicy c => cmdOk 0x0604 c
  | .fabBufferPartition c => cmdOk 0x0701 c
  | .fabAudit c => cmdOk 0x0702 c
  | .rsvConfig c => cmdOk 0x0710 c
  | .rsvStatus c => cmdOk 0x0711 c
  | .rsvScrub c => cmdOk 0x0712 c
  | .schNodeSet c => cmdOk 0x0801 c
  | .schQueueSet c => cmdOk 0x0802 c
  | .mtrSet c => cmdOk 0x0803 c
  | .pairConfig c => cmdOk 0x0901 c
  | .pairStatus c => cmdOk 0x0902 c
  | .pairExercise c => cmdOk 0x0903 c
  | .pairResync c => cmdOk 0x0904 c
  | .domConfig c => cmdOk 0x0a01 c
  | .domGlobal c => cmdOk 0x0a02 c
  | .domMembers c => cmdOk 0x0a03 c
  | .timStep c => cmdOk 0x0b01 c
  | .timRate c => cmdOk 0x0b02 c
  | .timSelect c => cmdOk 0x0b03 c
  | .timSchedule c => cmdOk 0x0b04 c
  | .entRead c => cmdOk 0x0c01 c
  | .entStatus c => cmdOk 0x0c02 c
  | .entTestPattern c => cmdOk 0x0c03 c
  | .tmpConfig c => cmdOk 0x0d01 c
  | .tmpEvidence c => cmdOk 0x0d02 c
  | .tmpAck c => cmdOk 0x0d03 c
  | .lcAdvance c => cmdOk 0x0d04 c
  | .tmpSelftest c => cmdOk 0x0d05 c
  | .pinAssign c => cmdOk 0x0d06 c
  | .fwStage c => cmdOk 0x0e01 c
  | .fwActivate c => cmdOk 0x0e02 c
  | .attest c => cmdOk 0x0e03 c
  | .idCerts c => cmdOk 0x0e04 c
  | .gateLoad c => cmdOk 0x0f01 c
  | .gateSwap c => cmdOk 0x0f02 c
  | .gateEdit c => cmdOk 0x0f03 c
  | .gateBarrier c => cmdOk 0x0f04 c
  | .dmaXltSet c => cmdOk 0x0f10 c
  | .dmaResume c => cmdOk 0x0f11 c
  | .pmcConfig c => cmdOk 0x1001 c
  | .statsRead c => cmdOk 0x1002 c
  | .wdConfig c => cmdOk 0x1003 c
  | .diagLoopback c => cmdOk 0x1004 c
  | .portSignalLoss port _ => decide (port < 128)
  | .portLocalFaultDetect port => decide (port < 128)
  | .portRemoteFaultDetect port => decide (port < 128)
  | .portRemoteFaultClear port => decide (port < 128)
  | .portAnComplete port => decide (port < 128)
  | .portTrainingComplete port => decide (port < 128)
  | .portLockAchieved port => decide (port < 128)
  | .portLinkUpTimer port => decide (port < 128)
  | .trainingTimeout port _ => decide (port < 128)
  | .trainingRetry port => decide (port < 128)
  | .fecWindowEnd port _ _ _ _ _ => decide (port < 128)
  | .faultPropagateHoldoff port => decide (port < 128)
  | .clientFrameHead port head whole _ _ => decide (port < 64) && headOk head whole
  | .clientFrameTail port _ _ => decide (port < 64)
  | .lineFrameHead port head whole _ => decide (port < 64) && headOk head whole
  | .lineFrameTail port _ _ => decide (port < 64)
  | .fabricMatch plane => decide (plane < 2)
  | .cellArrival input output plane _ => decide (input < 16) && decide (output < 18) && decide (plane < 2)
  | .reseqTimeout input output => decide (input < 16) && decide (output < 18)
  | .expressFrameAssembled _ => true
  | .leFrameHead port _ _ => decide (port < 64)
  | .ceFrameHead port _ => decide (port < 64)
  | .expressUnderrun port => decide (port < 128)
  | .mpFrameHead _ _ => true
  | .schedulerRelease node _ _ => decide (node < 128)
  | .fineSlot inst slot => decide (inst < 16) && decide (slot < 1024)
  | .coarseBoundary inst slot => decide (inst < 16) && decide (slot < 64)
  | .hostFrameDeliver ring _ _ => decide (ring < 4)
  | .fabHostFramesWindow ring => decide (ring < 4)
  | .fabAuditPeriod => true
  | .fabSweepEnd => true
  | .memberInUseClear member => decide (member < 65536)
  | .mcScrub _ => true
  | .mcParityRestore _ _ _ => true
  | .spillPageWrite leaf _ _ => decide (leaf < 131072)
  | .pageFillTimeout leaf _ _ => decide (leaf < 131072)
  | .pageWriteComplete leaf _ => decide (leaf < 131072)
  | .pageReadComplete leaf _ _ => decide (leaf < 131072)
  | .rsvLapRestEnd channel => decide (channel < 4)
  | .rsvKeyDrawn => true
  | .rsvRetrainAttemptEnd channel _ => decide (channel < 4)
  | .rsvPatrol _ => true
  | .ageTick pipe => decide (pipe < 8)
  | .selectorScrub _ => true
  | .lineEntryRewrite peer => decide (peer < 16384)
  | .bloomRebuild _ _ => true
  | .filterParityRebuild _ _ => true
  | .scParityRestore sc => decide (sc < 131072)
  | .schParityRestore _ _ _ => true
  | .saFlush sa => decide (sa < 262144)
  | .statsSweep _ => true
  | .retirementDeadline sa => decide (sa < 262144)
  | .saDrainComplete sa => decide (sa < 262144)
  | .rollFire sc => decide (sc < 131072)
  | .helloInterval => true
  | .accFrameRx port => decide (port < 64)
  | .accFragTimeout port => decide (port < 64)
  | .accHelloRx port => decide (port < 64)
  | .accOfferRx port => decide (port < 64)
  | .accAcceptRx port => decide (port < 64)
  | .accConfirmRx port => decide (port < 64)
  | .accRollRx port => decide (port < 64)
  | .accFarewellRx port => decide (port < 64)
  | .discoveryRecord => true
  | .peerMissCheck => true
  | .peerHoldExpiry peer => decide (peer < 16384)
  | .peerSuppressEnd peer => decide (peer < 16384)
  | .discoveredWaitExpiry peer => decide (peer < 16384)
  | .offerRetransmit peer => decide (peer < 16384)
  | .offerGiveUp peer => decide (peer < 16384)
  | .confirmRetransmit peer => decide (peer < 16384)
  | .confirmGiveUp peer => decide (peer < 16384)
  | .acceptTimeout peer => decide (peer < 16384)
  | .exchangeBackoffExpiry peer => decide (peer < 16384)
  | .rekeyIntervalExpiry peer => decide (peer < 16384)
  | .rollResend peer => decide (peer < 16384)
  | .rollWaitExpiry peer => decide (peer < 16384)
  | .supersededRetire sa => decide (sa < 262144)
  | .communityTeardown community => decide (community < 64)
  | .responderEntropyTimeout peer => decide (peer < 16384)
  | .attScrubPeriod upsets => upsets.all (fun n => decide (n < 16384))
  | .attAutoRepair slot => decide (slot < 16384)
  | .flaconEraseDone => true
  | .pairSlotEnd => true
  | .pairOrderRx _ _ => true
  | .pairMirrorRx _ _ => true
  | .pairStatusRx _ _ => true
  | .pairStatusInterval => true
  | .pairAliveToggle _ => true
  | .pairSilenceTimeout _ => true
  | .pairCutIn => true
  | .pairResyncRetry => true
  | .pairHandoverSlot => true
  | .pairDwellExpiry => true
  | .claimInterval => true
  | .accClaimRx port => decide (port < 64)
  | .mergeClaimUpdate => true
  | .mergeHoldEnd _ => true
  | .domKeepaliveInterval => true
  | .domKeepaliveRx link _ _ => decide (link < 3)
  | .domJoinRx link _ _ => decide (link < 3)
  | .domWelcomeRx link _ _ => decide (link < 3)
  | .domJoinRetry => true
  | .domKeysRx link _ _ => decide (link < 3)
  | .domTimeInterval => true
  | .domTimeRx link _ _ => decide (link < 3)
  | .domGlobalRx link _ _ => decide (link < 3)
  | .domGlobalAckRx link _ _ => decide (link < 3)
  | .domAckTimeout _ => true
  | .domReportRx link _ _ => decide (link < 3)
  | .domReportMerge _ _ => true
  | .domLinkLoss link => decide (link < 3)
  | .domScheduledInstant _ _ => true
  | .domLatchInstant _ => true
  | .timeDomainHoldExpiry domain => decide (domain < 2)
  | .toSlewConverged => true
  | .ppsInEdge gpio => decide (gpio < 16)
  | .ppsMissing => true
  | .ppsOutSecond => true
  | .timerFire timer => decide (timer < 64)
  | .entWindowEnd _ => true
  | .entHealthFail source _ => decide (source < 4)
  | .entRetestTimeout => true
  | .entFailedRetest _ => true
  | .entSourceRetest source _ => decide (source < 4)
  | .entRequestServe => true
  | .tamperOnset sources => sources.all (fun n => decide (n < 16))
  | .tamperPinOnCell sources => sources.all (fun n => decide (n < 16))
  | .tamperConditionEnd source => decide (source < 16)
  | .farewellWindowEnd => true
  | .powerOnReset cause _ _ _ _ _ _ => decide (cause < 4)
  | .fullReset _ _ => true
  | .devResetStart _ => true
  | .hostReset => true
  | .firmwareReset => true
  | .batteryLoss => true
  | .l0Flush _ _ _ _ => true
  | .l1Expiry what _ _ _ _ => decide (what < 3)
  | .l2Expiry channel _ => decide (channel < 4)
  | .l3Expiry _ => true
  | .l5Expiry fn => decide (fn < 32)
  | .l6Expiry core => decide (32 ≤ core) && decide (core ≤ 34)
  | .coreRestartComplete core _ _ => decide (32 ≤ core) && decide (core ≤ 34)
  | .l7FwAliveTimeout => true
  | .dmaTurn _ _ _ _ _ => true
  | .gateRuleRestore _ rule => decide (rule < 64)
  | .gateSwapDrainEnd => true
  | .bwWindowEnd => true
  | .pmcWrap counter => decide (counter < 128)
  | .refclkLoss => true
  | .refclkReturn _ => true
  | .tempSample _ _ _ => true
  | .reappearanceHoldExpiry peer => decide (peer < 16384)
  | .endedExchangeRetire peer => decide (peer < 16384)
  | .entropyWaitExpiry _ => true
  | .standbyHoldExpiry port => decide (port < 128)
  | .releaseFrameWaitExpiry => true
  | .localFaultClear port => decide (port < 128)
  | .barrierDrainEnd => true
  | .debugAccess addr _ _ _ => decide (addr < 2 ^ 32) && decide (addr % 4 = 0)
  | .ppsOutWidthEnd => true
  | .rootPllLockLoss => true
end Sys2Proof
end

