-- ==== Sys2Proof/Safety.lean ====
section
/-!
DEFINITION. What statements say about states: when commands act, the canonical form of the tables that registers, counters and
functions live in, the halted device, what reporting (events, interrupts, completions) may change, and what a completion is.
-/
namespace Sys2Proof.Machine

open Sys2Proof

/-! ## When commands act -/

/-- Main power is present, the device has not halted and its OTP reads: commands act. -/
def State.live (s : State) : Bool := !s.halted && s.powered && !s.boot.otpBad

/-- Queue commands run (02 R34, CMD_READY). -/
def State.serving (s : State) : Bool := s.live && s.cmdReady

/-- The registers, counters and functions in canonical form: indices strictly rising. -/
def State.tablesOk (s : State) : Bool := s.regs.wf && s.counters.wf && s.fns.wf

/-- Whether a command takes VDD_CORE away and so ends a halt (16 R474). -/
def endsHalt : Instr → Bool
  | .powerOnReset _ removed _ _ _ _ _ => removed
  | _ => false

/-- A halted device whose waiting commands leave VDD_CORE in place. -/
def State.staysHalted (s : State) : Bool := s.halted && s.pending.all (fun i => !endsHalt i)

/-- A well-formed queue command of an opcode passes every check of 02 R61 on a device that serves. -/
def Passes (opcode : Nat) (spec : OpSpec) (c : Cmd) (s : State) : Prop :=
  cmdOk opcode c = true ∧ s.serving = true ∧ checks spec c s = none

/-- The queue command of an opcode's row. -/
def commandOf : Instr → Option Cmd
  | .devInfo c | .devReset c | .devEventsMask c | .devConfigSave c | .devTenantSet c | .portConfig c | .portStatus c
  | .laneTune c | .portMap c | .selBulkLoad c | .selShadowCompare c | .selLpmMode c | .scCreate c | .scDelete c
  | .saInstall c | .saRetire c | .saStatus c | .saRoll c | .scTenantAssign c | .keyWrite c | .keyInvalidate c
  | .keyStatus c | .flaconCommit c | .flaconLoad c | .accCommunitySet c | .accPeerList c | .accPeerDrop c
  | .accPolicy c | .fabBufferPartition c | .fabAudit c | .rsvConfig c | .rsvStatus c | .rsvScrub c | .schNodeSet c
  | .schQueueSet c | .mtrSet c | .pairConfig c | .pairStatus c | .pairExercise c | .pairResync c | .domConfig c
  | .domGlobal c | .domMembers c | .timStep c | .timRate c | .timSelect c | .timSchedule c | .entRead c
  | .entStatus c | .entTestPattern c | .tmpConfig c | .tmpEvidence c | .tmpAck c | .lcAdvance c | .tmpSelftest c
  | .pinAssign c | .fwStage c | .fwActivate c | .attest c | .idCerts c | .gateLoad c | .gateSwap c | .gateEdit c
  | .gateBarrier c | .dmaXltSet c | .dmaResume c | .pmcConfig c | .statsRead c | .wdConfig c | .diagLoopback c => some c
  | _ => none

/-! ## Outcomes -/

/-- The outcome is a next state with a property. -/
def Gives (o : Host.Outcome State Fault Refusal) (p : State → Prop) : Prop := ∃ t, o = .next t ∧ p t

/-- The gate lets a register access of a requester through, and finds no rule parity failed (18 R520). -/
def GateAllows (s : State) (requester addr : Nat) (write : Bool) : Prop := gateCheck requester addr write false [] s = (s, none)

/-- The state with a 64-bit counter raised. -/
def State.plus (off n : Nat) (s : State) : State := { s with counters := s.counters.put 0 off (counter s off + BitVec.ofNat 64 n) }

/-- No running command is one of the key operations that a tamper alarm aborts (08 R264). -/
def State.noKeyOps (s : State) : Bool := s.running.all (fun r => !keyOperations.contains r.cmd.opcode)

/-- What a power-on or a full reset leaves before the boot: every field at its reset value but the queue, the transcript and what the
battery, the fuses, the flash, the board and, on a full reset, the RWS fields keep (16_tamper, 17_boot_and_identity, 21 R595). -/
structure FreshStart (s r : State) : Prop where
  rest : r = { pending := s.pending, out := s.out, freeIx := s.freeIx, regs := r.regs, tamper := r.tamper, attar := r.attar
               boot := r.boot, power := r.power }
  regs : ∀ a, a ≠ 0x30 → reg r a = regReset a
  keys : r.attar = { keeper := s.attar.keeper, tombstones := s.attar.tombstones, floor := s.attar.floor, copyA := s.attar.copyA
                     copyB := s.attar.copyB, domainGen := s.attar.domainGen, flashFailures := s.attar.flashFailures }
  sources : ∀ n, sourceOf r n = sourceOf s n ∨ (n < 6 ∧ sourceOf r n = { sourceOf s n with active := false })
  policy : r.tamper.farewell = s.tamper.farewell ∧ r.tamper.otpCount = s.tamper.otpCount ∧
    r.tamper.zeroisePending = s.tamper.zeroisePending ∧ r.tamper.farewellRuns = false
  pins : ∀ g, pinOf r g = if (pinOf s g).battery then pinOf s g else {}
  fuses : r.boot.lifecycle = s.boot.lifecycle ∧ r.boot.deviceId = s.boot.deviceId ∧ r.boot.floor = s.boot.floor ∧
    r.boot.revoked = s.boot.revoked ∧ r.boot.record = s.boot.record ∧ r.boot.identity = s.boot.identity ∧ r.boot.staging = none ∧
    r.boot.running = []

/-! ## Reporting -/

/-- The registers of a function's window that reporting writes: MSI-X pending bits, EQ status and lost count, QP status. -/
def isReportReg (a : Nat) : Bool :=
  decide (0x01000000 ≤ a) && [0x3000, 0x190, 0x194, 0x11c, 0x13c, 0x15c, 0x17c].contains (a % 0x10000)

/-- What reporting leaves of a queue pair: all but the CQ's places and STOPPED. -/
def QueuePair.kept (q : QueuePair) : QueuePair := { q with cqTail := 0, phase := true, unread := 0, reserved := 0, stopped := false }

/-- What reporting leaves of a function: all but the places of its queues and the interrupt moderation. -/
def Function.kept (f : Function) : Function :=
  { f with
    qp0 := f.qp0.kept, qp1 := f.qp1.kept, qp2 := f.qp2.kept, qp3 := f.qp3.kept
    eqTail := 0, eqUnread := 0, eqSeq := 0, eqPhase := true, eqOwed := 0, eqStopped := false, unsignalled := 0, delayRuns := false }

/-- From `s` to `t` nothing has changed but what events, interrupts and completions change: the transcript grows, the functions'
queues move, coalescing holds open or gather, reporting registers and programmable counters count, and reports wait for the uplink. -/
structure Told (s t : State) : Prop where
  rest : t = { s with
    out := t.out, regs := t.regs, fns := t.fns, counters := t.counters, holds := t.holds, heldEvents := t.heldEvents
    pmc := { s.pmc with counters := t.pmc.counters }, domain := { s.domain with reports := t.domain.reports } }
  regs : ∀ a, isReportReg a = false → reg t a = reg s a
  counters : ∀ off, off ≠ 0xd138 → counter t off = counter s off
  out : ∃ os, t.out = os ++ s.out
  fns : ∀ f, (fnOf t f).kept = (fnOf s f).kept

/-- The completion that a command of a queue pair gets (02 R52): the entry at the CQ's tail. -/
def completionFor (s : State) (c : Cmd) (status detail result : Nat) : Output :=
  let q := qpOf s c.fn c.qp
  .completion c.fn c.qp (busBase s (qpReg c.fn c.qp 8) + 16 * q.cqTail)
    { tag := c.tag, status, detail, sequence := c.seq % 32768, phase := q.phase, result := BitVec.ofNat 64 result }

/-- From `s` on the command has been answered: one completion has been written to its CQ (where host memory takes it), and nothing
else has changed but what reporting changes. -/
structure Answered (c : Cmd) (status detail result : Nat) (s t : State) : Prop where
  told : Told s t
  entry : c.qp < 4 → (qpOf s c.fn c.qp).cqFails = false → ∃ a b, t.out = a ++ completionFor s c status detail result :: (b ++ s.out)

/-- A queue command completes with OK and a RESULT, `base` being the state that its effect leaves. -/
def Answers (c : Cmd) (result : Nat) (base : State) (o : Host.Outcome State Fault Refusal) : Prop :=
  Gives o (Answered c stOk 0 result base)

/-- The same of a command that a pair mirrors as a command (12 R381): it joins the pair's history, and what the active device sends. -/
def Settles (c : Cmd) (result : Nat) (base : State) (o : Host.Outcome State Fault Refusal) : Prop :=
  Gives o (fun t => ∃ u, Answered c stOk 0 result base u ∧ t = mirrorCommand c stOk u)

/-! ## The agreement engine's work -/

/-- From `s` to `t` nothing has changed but what Accord works on (07_accord): its own records, SCs, SAs and their ROLL instants, line direct
entries, messages that leave, the values it draws, what a pair is told, and what reporting changes. -/
def AccordWork (s t : State) : Prop :=
  t = { s with
    accord := t.accord, channels := t.channels, selectors := t.selectors, time := { s.time with rolls := t.time.rolls }
    pair := { s.pair with dirty := t.pair.dirty, excs := t.pair.excs }, fabric := { s.fabric with egress := t.fabric.egress }
    ports := t.ports, entropy := t.entropy, freeIx := t.freeIx, out := t.out, regs := t.regs, fns := t.fns, counters := t.counters
    holds := t.holds, heldEvents := t.heldEvents, pmc := { s.pmc with counters := t.pmc.counters }
    domain := { s.domain with reports := t.domain.reports } }

/-- Accord's work on one peer leaves every other peer as it is. -/
def PeerWork (pi : Nat) (s t : State) : Prop := AccordWork s t ∧ ∀ j, j ≠ pi → peerOf t j = peerOf s j

/-- A peer has been torn down (07 R225): its entry, its SCs and its line direct entry are gone, and its SAs drain. -/
structure PeerGone (pi : Nat) (p : Peer) (s t : State) : Prop where
  work : PeerWork pi s t
  gone : peerOf t pi = none
  scs : ∀ n, p.rxSc = some n ∨ p.txSc = some n → scOf t n = none
  sas : ∀ a x, a ∈ sasOf s p.rxSc ++ sasOf s p.txSc → saOf s a = some x →
    saOf t a = some { x with draining := true, deadline := none, retiring := false }
  line : (lineEntry (selEntry t 1 (lineIndex p)).data).accord = false

/-- CPU_ACC opens an exchange with a peer as initiator where it may, and keeps the wish where it may not (07 R226, R235, R236). -/
def Opens (pi : Nat) (p : Peer) (rekey : Bool) (s t : State) : Prop :=
  PeerWork pi s t ∧ ∃ q, peerOf t pi = some q ∧ q.state = p.state ∧
    if mayOpen s p rekey then
      q.wish = none ∧ ∃ x, q.exchange = some x ∧ x.initiator = true ∧ x.stage = .offered ∧ x.rekey = rekey ∧ x.resends = 0
    else q.wish = some rekey ∧ q.exchange = p.exchange

/-- An exchange with a peer has ended without success (07 R228). -/
def Ended (pi : Nat) (p : Peer) (x : Exchange) (reason : Nat) (s t : State) : Prop :=
  PeerWork pi s t ∧ ∃ q, peerOf t pi = some q ∧ q.exchange = none ∧ q.lastFail = reason ∧
    q.backoff = (if x.initiator then some x.rekey else p.backoff) ∧ q.agreements = p.agreements

/-- No peer waits for an opening. -/
def State.noWishes (s : State) : Bool := s.accord.peers.cells.all (fun c => c.2.wish.isNone)

/-- Every community's key slot is as Accord has found it: usable, or known to be lost (07 R237). -/
def State.keysSettled (s : State) : Bool := s.accord.communities.cells.all (fun c => keySlotUsable s c.2.keySlot == !c.2.keyLost)

/-! ## The reservoir -/

/-- A channel without bad lines and without quarantine, whose majors are not at their end (10 R320, R321, R326). -/
def Channel.sound (c : Channel) : Bool :=
  c.latent.isEmpty && decide (c.capacity ≤ 2) && decide (c.statsMajor + 4 < 2 ^ 56) &&
    c.blocks.cells.all (fun b => b.2.quarantine.isNone && decide (b.2.major + 4 < 2 ^ 56))

/-- No leaf spills. -/
abbrev State.onDie (s : State) : Prop := s.sched.leaves.keysIf (fun _ l => l.spilling) = []

/-! ## The pair -/

/-- Nothing waits that a change of the pair's state would settle: no held head, tail, item or ORDER, no frame in transmission, no command
of the pair, no exchange, no wish for one, and nothing that one has left. -/
def State.pairQuiet (s : State) : Bool :=
  s.pair.held.isEmpty && s.pair.tails.isEmpty && s.pair.items.isEmpty && s.pair.orders.isEmpty && s.pair.waitRuns.isEmpty &&
    s.channels.rekeyDue.isEmpty && s.noWishes && s.accord.peers.cells.all (fun c => c.2.exchange.isNone && (strayExchange s c.2).isNone) &&
    s.fabric.egress.cells.all (fun c => c.2.tx.isNone) && s.running.all (fun r => !r.isOp 0x0903 && !r.isOp 0x0904)

/-- From `s` to `t` nothing has changed but the pair, the SEQs of CLAIMs and the frames that carry them, what the entropy unit delivers, and
what reporting changes. -/
def PairWork (s t : State) : Prop :=
  t = { s with
    pair := t.pair, accord := { s.accord with communities := t.accord.communities }, fabric := { s.fabric with egress := t.fabric.egress }
    ports := t.ports, entropy := t.entropy, freeIx := t.freeIx, out := t.out, regs := t.regs, fns := t.fns, counters := t.counters
    holds := t.holds, heldEvents := t.heldEvents, pmc := { s.pmc with counters := t.pmc.counters }
    domain := { s.domain with reports := t.domain.reports } }

/-- A message of the pair link is whole, of a type, and the next in order (12 R379, R384). -/
def State.pairNext (s : State) (type : Nat) (b : Bytes) : Bool :=
  s.pair.mode != .off && s.power.rootLock && b.length == beAt b 2 2 && b.length % 8 == 0 && decide (16 ≤ b.length) &&
    decide (b.length ≤ 4096) && byteAt b 0 == type && beAt b 4 4 == s.pair.seqRx

/-- A STATUS message has left: its SEQ, sender, state and claim, and whether it asks for messages again (12 R380, R384). -/
def Stated (s t : State) (nack : Bool) : Prop :=
  ∃ m, t.out = .message 0 m :: s.out ∧ m.length = 64 ∧ byteAt m 0 = 3 ∧ beAt m 4 4 = s.pair.seqTx % 2 ^ 32 ∧
    beAt m 8 8 = s.boot.deviceId % 2 ^ 64 ∧ byteAt m 16 % 8 = t.pair.mode.code ∧ bitOf (byteAt m 16) 5 = nack ∧
    beAt m 18 2 = t.pair.claim % 2 ^ 16 ∧ t.pair.seqTx = (s.pair.seqTx + 1) % 2 ^ 32

/-! ## The domain -/

/-- From `s` to `t` nothing has changed but the domain's own records, links and messages, values drawn, and what reporting changes. -/
def DomainWork (s t : State) : Prop :=
  t = { s with
    domain := t.domain, entropy := t.entropy, freeIx := t.freeIx, out := t.out, regs := t.regs, fns := t.fns, counters := t.counters
    holds := t.holds, heldEvents := t.heldEvents, pmc := { s.pmc with counters := t.pmc.counters } }

/-- A message of a domain link in use is whole, of a type and length, and of this domain (13 R404, R406, R408). -/
def State.domWhole (s : State) (n type : Nat) (b : Bytes) : Bool :=
  (domLinks s).contains n && (dxOf s n).epochOwn.isSome && b.length == domLength type && beAt b 2 2 == b.length && byteAt b 0 == type &&
    decide (1 ≤ type) && decide (type ≤ 8) && beAt b 8 4 == s.domain.domainId

/-- It belongs to the session that stands, and is the next in order. -/
def State.domNext (s : State) (n type : Nat) (b : Bytes) : Bool :=
  s.domWhole n type b && (dxOf s n).up && (dxOf s n).epochTheirs == some (beAt b 12 4) && beAt b 4 4 == (dxOf s n).seqRx

/-- The state once it has been taken from the link. -/
def State.domTaken (s : State) (n : Nat) : State :=
  State.plus 0xd108 1 (setDx n { dxOf s n with seqRx := ((dxOf s n).seqRx + 1) % 2 ^ 32, discarding := false } s)

/-- Whether a message's TAG is that of its text. -/
def State.domAuthentic (s : State) (b : Bytes) : Prop := b.drop (b.length - 16) = domTag s.domain.linkKey (b.take (b.length - 16))

/-- A message is taken, with the effect that `p` says, or where its TAG is another it is counted as refused and told (13 R406). -/
def State.Takes (s : State) (n : Nat) (b : Bytes) (i : Instr) (p : State → State → Prop) : Prop :=
  Gives (exec i s) (fun t => (s.domAuthentic b → p (s.domTaken n) t) ∧ (¬s.domAuthentic b → Told (State.plus 0xd120 1 s) t))

/-- A worker in its domain with no joined child, of a device without communities and peers. -/
def State.leafWorker (s : State) : Prop :=
  s.domain.role = 2 ∧ inDomain s = true ∧ childLinks s = [] ∧ s.accord.communities = .empty ∧ s.accord.peers = .empty

/-! ## Time -/

/-- From `s` to `u` nothing has changed but a tracked domain, which is now `d`, output time, and what reporting changes. -/
def TimeMoves (b : Bool) (d : TimeDomain) (s u : State) : Prop :=
  domainOf u b = d ∧ domainOf u (!b) = domainOf s (!b) ∧ Told { s with time := u.time } u ∧
    u.time = { s.time with ta := u.time.ta, tb := u.time.tb, state := u.time.state, selected := u.time.selected, rate := u.time.rate
                           clock := u.time.clock }

/-- What output time does when a domain has become LOCKED (14 R432, R433): UNSET takes its value, HOLDOVER of this domain slews. -/
def TimeGains (b : Bool) (d : TimeDomain) (s u : State) : Prop :=
  TimeMoves b d s u ∧
    if s.time.state = .unset then
      u.time.state = .tracking ∧ u.time.selected = b ∧ u.time.clock = d.clock ∧ u.time.rate = d.rate
    else
      u.time.selected = s.time.selected ∧ u.time.clock = s.time.clock ∧ u.time.rate = s.time.rate ∧
        u.time.state = if s.time.state = .holdover ∧ s.time.selected = b then .slewing else s.time.state

/-- What output time does when a domain that was LOCKED no longer is (14 R433): where it follows that domain, it slews to the other one
with FAILOVER, or goes to HOLDOVER at the domain's last rate. -/
def TimeLoses (b : Bool) (d : TimeDomain) (s u : State) : Prop :=
  TimeMoves b d s u ∧ u.time.clock = s.time.clock ∧
    if s.time.selected = b ∧ (s.time.state = .tracking ∨ s.time.state = .slewing) then
      if s.time.failover = true ∧ (domainOf s (!b)).state = .locked then
        u.time.state = .slewing ∧ u.time.selected = !b ∧ u.time.rate = s.time.rate
      else u.time.state = .holdover ∧ u.time.selected = b ∧ u.time.rate = d.rate
    else u.time.state = s.time.state ∧ u.time.selected = s.time.selected ∧ u.time.rate = s.time.rate

/-! ## The entropy unit -/

/-- From `s` to `t` nothing has changed but the entropy unit, Accord's pause, values drawn, and what reporting changes. -/
def EntWork (s t : State) : Prop :=
  t = { s with
    entropy := t.entropy, accord := { s.accord with paused := t.accord.paused }, freeIx := t.freeIx, out := t.out, regs := t.regs
    fns := t.fns, counters := t.counters, holds := t.holds, heldEvents := t.heldEvents, pmc := { s.pmc with counters := t.pmc.counters }
    domain := { s.domain with reports := t.domain.reports } }

/-- The unit has gone to RETEST (15 R456): nothing is kept, and every source needs two passes. -/
def Retests (s t : State) : Prop :=
  EntWork s t ∧ t.entropy.state = .retest ∧ t.entropy.seeds = 0 ∧ t.entropy.bits = 0 ∧ t.entropy.requests = 0 ∧
    (∀ n, n < 4 → (esOf t n).passes = 0 ∧ (esOf t n).needs = 2 ∧ (esOf t n).excluded = (esOf s n).excluded) ∧
    counter t 0xf128 = counter s 0xf128 + 1

end Sys2Proof.Machine
end

