-- ==== Sys2Proof/Certificates/Slice0/Obligations.lean ====
section
/-!
DEFINITION. The statements for the provers, chapter by chapter. `Gives o p`: the outcome is a next state with a property. `Told s t`:
nothing but what reporting changes has changed. `Answered c st d r s t`: the command got its completion, and nothing else changed.
`Passes op spec c s`: a well-formed queue command passes every check of 02 R61 on a device that serves commands.
-/
open Sys2Proof Sys2Proof.Machine

/-! ## The machine as a whole -/

/-- For every command and state, a step with the command at the front of the queue is that command's effect on the state with the
queue's rest. -/
def Obligations.StepRunsFrontCommand : Prop :=
  ∀ (c : Instr) (rest : List Instr) (s : State), step { s with pending := c :: rest } = exec c { s with pending := rest }

/-- On an empty queue the block lives through one CK_TS cycle (the model's choice, notes/assumptions/8): the tick count rises by one
on a device with main power, and nothing moves without it. A halted device, or one whose root PLL is not locked, keeps everything else. -/
def Obligations.EmptyQueueTicks : Prop :=
  ∀ s : State, s.pending = [] →
    Gives (step s) (fun t =>
      (s.powered = true → t.tick = s.tick + 1) ∧ (s.powered = false → t = s) ∧
      (s.powered = true → (s.halted = true ∨ s.power.rootLock = false) → t = { s with tick := s.tick + 1 }))

/-- The machine right after reset, before its boot: nothing waits, no command is served, no queue, port, channel, key, peer, member or
rule exists, memory and registers hold only their reset values, the pair is OFF, no domain is configured, TO and both tracked domains are
UNSET, the entropy unit is STARTING, Accord's policy and the buffer quotas stand at their stated defaults, and every table is in
canonical form. -/
def Obligations.ResetState : Prop :=
  let s := State.reset
  s.pending = [] ∧ s.out = [] ∧ s.halted = false ∧ s.powered = true ∧ s.cmdReady = false ∧ s.tablesOk = true ∧
  (∀ a, reg s a = regReset a) ∧ (∀ off, counter s off = 0) ∧ (∀ f, fnOf s f = {}) ∧ s.running = [] ∧ s.holds = [] ∧
  (∀ p, portOf s p = none) ∧ (∀ n, scOf s n = none ∧ saOf s n = none) ∧ (∀ n, (slotOf s n).type = 0) ∧ s.attar.rootGen = 0 ∧
  s.accord.communities = .empty ∧ s.accord.peers = .empty ∧ s.accord.etherType = 0x88b5 ∧ s.accord.helloMs = 250 ∧
  s.accord.mtu = 1500 ∧ s.accord.enable = false ∧ s.accord.suppressS = 60 ∧ s.accord.maxExchanges = 1024 ∧
  [s.fabric.quota0, s.fabric.quota1, s.fabric.quota2, s.fabric.quota3, s.fabric.quota4] = [16384, 80896, 16384, 8192, 3072] ∧
  s.sched.leaves = .empty ∧ s.sched.services = .empty ∧ s.sched.meters = .empty ∧ s.pair.mode = .off ∧ s.domain.role = 0 ∧
  s.time.state = .unset ∧ s.time.ta.state = .unset ∧ s.time.tb.state = .unset ∧ s.entropy.state = .starting ∧
  s.gate.rules = .empty ∧ s.gate.epoch = 0 ∧ s.pmc.windowUs = 1000 ∧ (∀ f, (s.dma.xlt.get {} f).enabled = false)

/-- A halted device takes part in nothing (16 R474): as long as no waiting command takes VDD_CORE away, every step leaves it halted, and
its ports, channels, keys, frames, peers, registers, counters, queues and gate as they are; nothing leaves it but the zeros of register
reads and what the I2C target returns. -/
def Obligations.HaltedDeviceStaysHalted : Prop :=
  ∀ s t : State, s.staysHalted = true → step s = .next t →
    t.staysHalted = true ∧ t.ports = s.ports ∧ t.selectors = s.selectors ∧ t.channels = s.channels ∧ t.fabric = s.fabric ∧
    t.accord = s.accord ∧ t.sched = s.sched ∧ t.reservoir = s.reservoir ∧ t.pair = s.pair ∧ t.domain = s.domain ∧ t.time = s.time ∧
    t.entropy = s.entropy ∧ t.regs = s.regs ∧ t.counters = s.counters ∧ t.fns = s.fns ∧ t.running = s.running ∧ t.gate = s.gate ∧
    t.dma = s.dma ∧ t.pmc = s.pmc ∧ t.watchdog = s.watchdog ∧ t.cmdReady = s.cmdReady ∧ t.attar.slots = s.attar.slots ∧
    ∃ os, t.out = os ++ s.out ∧ ∀ o ∈ os, (∃ fn, o = .readData fn 0) ∨ ∃ bs, o = .i2c bs

/-- A stored register reads back what was written and every other register keeps its value; the same holds of a function's record, and of a
queue pair's, and of the counters. -/
def Obligations.RegisterFileLaws : Prop :=
  (∀ (a b : Nat) (w : Word) (s : State), reg (setReg a w s) b = if b = a then w else reg s b) ∧
  (∀ (f g : Nat) (v : Function) (s : State), fnOf (setFn f v s) g = if g = f then v else fnOf s g) ∧
  (∀ (f g n m : Nat) (q : QueuePair) (s : State), n < 4 → m < 4 →
    qpOf (setQp f n q s) g m = if g = f ∧ m = n then q else qpOf s g m) ∧
  (∀ (off o n : Nat) (s : State), pmcOfCounter off = none →
    counter (countBy off n s) o = if o = off then counter s off + BitVec.ofNat 64 n else counter s o)

/-- Writes and removals keep a table in canonical form (indices strictly rising), a written entry reads back, an entry equal to the default
is not kept, and every other index keeps its entry. -/
def Obligations.TableCanonicalForm : Prop :=
  ∀ (t : Table Word) (d v : Word) (k : Nat), t.wf = true →
    (t.put d k v).wf = true ∧ (t.erase k).wf = true ∧ (t.put d k v).get d k = v ∧ ((t.put d k d).find k = none) ∧
    ∀ j, j ≠ k → (t.put d k v).find j = t.find j ∧ (t.erase k).find j = t.find j

/-! ## The command channel (02_command_channel) -/

/-- CMD_QP_ENABLE. When ENABLE changes from 0 to 1 with valid sizes, SQ_HEAD, TAIL, HEAD, the internal CQ tail and the sequence count are
0 and the expected phase is 1; only the pair and its three registers change. A write with an invalid size sets CFG_ERR and leaves ENABLE
at 0. -/
def Obligations.QueuePairEnable : Prop :=
  ∀ (fn qp : Nat) (w : Word) (writable : Bool) (s : State), s.live = true → qp < 4 → qpEnabled s fn qp = false →
    (qpSizesValid w = true →
      Gives (exec (.cmdQpEnable fn qp w writable) s) (fun t =>
        (qpOf t fn qp).sqHead = 0 ∧ reg t (qpReg fn qp 0x14) = 0 ∧ reg t (qpReg fn qp 0x18) = 0 ∧ (qpOf t fn qp).cqTail = 0 ∧
        (qpOf t fn qp).seq = 0 ∧ (qpOf t fn qp).phase = true ∧ (qpOf t fn qp).unread = 0 ∧
        reg t (qpReg fn qp 0x10) = (w &&& 0xff00) ||| 1 ∧ t = { s with regs := t.regs, fns := t.fns } ∧
        (∀ a, a ≠ qpReg fn qp 0x10 → a ≠ qpReg fn qp 0x14 → a ≠ qpReg fn qp 0x18 → reg t a = reg s a) ∧
        (∀ g m, m < 4 → ¬(g = fn ∧ m = qp) → qpOf t g m = qpOf s g m))) ∧
    (qpSizesValid w = false →
      Gives (exec (.cmdQpEnable fn qp w writable) s) (fun t =>
        reg t (qpReg fn qp 0x10) = w &&& 0xff00 ∧ reg t (qpReg fn qp 0x1c) = reg s (qpReg fn qp 0x1c) ||| 2 ∧
        t = { s with regs := t.regs } ∧ ∀ a, a ≠ qpReg fn qp 0x10 → a ≠ qpReg fn qp 0x1c → reg t a = reg s a))

/-- The other registers of a queue pair. CMD_QP_DISABLE clears ENABLE; with no command of the pair waiting on a DMA fault nothing else
changes, so fetched commands still run. CMD_QP_SQ_TAIL_WRITE and CMD_QP_CQ_HEAD_WRITE inside an enabled ring set TAIL, or set HEAD and free the
slots it passes; outside the ring or on a disabled pair they only set DB_ERR. COMMAND_FETCH of a fetchable pair reserves a CQ slot, advances
SQ_HEAD and the sequence count and queues the command behind those fetched before. -/
def Obligations.QueuePairWork : Prop :=
  ∀ (fn qp : Nat) (w : Word) (s : State), s.live = true → qp < 4 →
    ((s.running.all (fun r => !(r.cmd.fn == fn && r.cmd.qp == qp))) = true →
      exec (.cmdQpDisable fn qp w) s = .next (setReg (qpReg fn qp 0x10) (w &&& 0xff00) s)) ∧
    (qpEnabled s fn qp = true → bitsOf w.toNat 0 12 < sqSize s fn qp →
      exec (.cmdQpSqTailWrite fn qp w) s = .next (setReg (qpReg fn qp 0x14) (BitVec.ofNat 32 (bitsOf w.toNat 0 12)) s)) ∧
    (qpEnabled s fn qp = false ∨ sqSize s fn qp ≤ bitsOf w.toNat 0 12 →
      exec (.cmdQpSqTailWrite fn qp w) s = .next (setReg (qpReg fn qp 0x1c) (reg s (qpReg fn qp 0x1c) ||| 4) s)) ∧
    (qpEnabled s fn qp = true → bitsOf w.toNat 0 12 < cqSize s fn qp →
      Gives (exec (.cmdQpCqHeadWrite fn qp w) s) (fun t =>
        reg t (qpReg fn qp 0x18) = BitVec.ofNat 32 (bitsOf w.toNat 0 12) ∧
        (qpOf t fn qp) = { qpOf s fn qp with unread := (qpOf s fn qp).unread -
          (bitsOf w.toNat 0 12 + cqSize s fn qp - regField s (qpReg fn qp 0x18) 0 12) % cqSize s fn qp } ∧
        t = { s with regs := t.regs, fns := t.fns } ∧ (∀ a, a ≠ qpReg fn qp 0x18 → reg t a = reg s a) ∧
        ∀ g m, m < 4 → ¬(g = fn ∧ m = qp) → qpOf t g m = qpOf s g m)) ∧
    (∀ packet : BitVec 512, fetchable s fn qp = true →
      Gives (exec (.commandFetch fn qp packet true) s) (fun t =>
        qpOf t fn qp = { qpOf s fn qp with
          sqHead := ((qpOf s fn qp).sqHead + 1) % sqSize s fn qp, seq := ((qpOf s fn qp).seq + 1) % 32768
          reserved := (qpOf s fn qp).reserved + 1
          fetched := (qpOf s fn qp).fetched ++ [{ packet, seq := (qpOf s fn qp).seq }] } ∧
        t = { s with fns := t.fns } ∧ ∀ g m, m < 4 → ¬(g = fn ∧ m = qp) → qpOf t g m = qpOf s g m))

/-- A CQ never overflows: where the slots written and unread, with those reserved, do not exceed a pair's CQ, they do not after a fetch
either, whatever the fetch brings. -/
def Obligations.CompletionQueueNeverOverflows : Prop :=
  ∀ (fn qp : Nat) (packet : BitVec 512) (ok : Bool) (s : State), s.live = true → qp < 4 → cqBusy s fn qp ≤ cqSize s fn qp →
    Gives (exec (.commandFetch fn qp packet ok) s) (fun t => cqBusy t fn qp ≤ cqSize t fn qp)

/-- COMMAND_BEGIN. CPU_CTL takes the SQ that is next in turn, removes its oldest fetched command, and runs a command without payload or
data at once: a passing command has its effect and its completion, a failing one its completion only, and an opcode that is not listed
completes with BAD_OPCODE. The turn goes on to the next function and pair. -/
def Obligations.CommandBegins : Prop :=
  ∀ (fn qp : Nat) (h : Fetched) (rest : List Fetched) (s : State), s.serving = true → s.domain.broadcast = [] →
    nextSq s = some (fn, qp) → (qpOf s fn qp).fetched = h :: rest →
    ∃ u : State, u = setFn fn (({ fnOf s fn with nextQp := (qp + 1) % 4 } : Function).setQp qp
        { qpOf s fn qp with fetched := rest, cqFails := false }) { s with nextFn := (fn + 1) % 32 } ∧
      ∀ c : Cmd, c = { fn, qp, seq := h.seq, packet := h.packet, payload := [] } →
        (specOf c.opcode = none → exec (.commandBegin true) s = .next (postCompletion c stBadOpcode 0 0 u)) ∧
        (∀ x : OpSpec, specOf c.opcode = some x → x.payloadLength c = 0 →
          (∀ st d, checks x c u = some (st, d) → exec (.commandBegin true) s = .next (postCompletion c st d (x.failResult c u st d) u)) ∧
          (∀ (t : State) (r : Reply), checks x c u = none → x.effect c u = (t, .done r) → r.data = [] →
            exec (.commandBegin true) s = .next (mirrorCommand c r.status (finish c r t))))

/-- The event queue. CMD_EQ_ENABLE with a valid size on a disabled queue starts it afresh (a VF's, or the PF's once it has been enabled
before; nothing owed): TAIL, HEAD and the event count 0, phase 1. CMD_EQ_HEAD_WRITE frees the slots it passes and, with no event owed,
nothing else changes. CMD_EQ_LOST_READ returns the count and clears it. CQ_DELAY_EXPIRY signals vector 0 for what is not signalled.
An event for a function is written to its EQ at the tail with the queue's phase and count, or discarded and counted in CMD_EQ_LOST where
the queue is disabled or full, and a masked event does neither; a CRITICAL event is never masked. -/
def Obligations.EventQueue : Prop :=
  (∀ (fn : Nat) (w : Word) (s : State), s.live = true →
    (∀ writable, eqEnabled s fn = false → 4 ≤ bitsOf w.toNat 8 4 → bitsOf w.toNat 8 4 ≤ 12 → (fn ≠ 0 ∨ s.eqSeen = true) →
      (fnOf s fn).eqOwed = 0 →
      Gives (exec (.cmdEqEnable fn w writable) s) (fun t =>
        fnOf t fn = { fnOf s fn with eqTail := 0, eqUnread := 0, eqSeq := 0, eqPhase := true, eqStopped := false, eqFails := !writable } ∧
        reg t (bar0 fn 0x188) = w &&& 0xf01 ∧ reg t (bar0 fn 0x18c) = 0 ∧ t = { s with regs := t.regs, fns := t.fns } ∧
        (∀ a, a ≠ bar0 fn 0x188 → a ≠ bar0 fn 0x18c → reg t a = reg s a) ∧ ∀ g, g ≠ fn → fnOf t g = fnOf s g)) ∧
    ((fnOf s fn).eqOwed = 0 →
      Gives (exec (.cmdEqHeadWrite fn w) s) (fun t =>
        reg t (bar0 fn 0x18c) = w &&& 0xfff ∧
        fnOf t fn = { fnOf s fn with eqUnread := (fnOf s fn).eqUnread -
          (bitsOf w.toNat 0 12 + eqSize s fn - regField s (bar0 fn 0x18c) 0 12 % eqSize s fn) % eqSize s fn } ∧
        t = { s with regs := t.regs, fns := t.fns } ∧ (∀ a, a ≠ bar0 fn 0x18c → reg t a = reg s a) ∧
        ∀ g, g ≠ fn → fnOf t g = fnOf s g)) ∧
    exec (.cmdEqLostRead fn) s = .next (setReg (bar0 fn 0x194) 0 (emit (.readData fn (reg s (bar0 fn 0x194))) s)) ∧
    ((fnOf s fn).delayRuns = true →
      exec (.cqDelayExpiry fn) s = .next (msix fn 0 (setFn fn { fnOf s fn with unsignalled := 0, delayRuns := false } s)))) ∧
  (∀ (f : Nat) (e : Event) (s : State),
    (eventMasked (fnOf s f) e = true → postTo f e s = s ∧ e.severity < 3) ∧
    (eventMasked (fnOf s f) e = false → (eqEnabled s f = false ∨ eqSize s f ≤ (fnOf s f).eqUnread) →
      postTo f e s = loseEvent f s ∧ (reg (postTo f e s) (bar0 f 0x194)).toNat = min 0xffff ((reg s (bar0 f 0x194)).toNat + 1) ∧
      (fnOf (postTo f e s) f).eqOwed = (fnOf s f).eqOwed + 1) ∧
    (eventMasked (fnOf s f) e = false → eqEnabled s f = true → (fnOf s f).eqUnread < eqSize s f → (fnOf s f).eqStopped = false →
      (fnOf s f).eqFails = false →
      Told s (postTo f e s) ∧ (fnOf (postTo f e s) f).eqSeq = (fnOf s f).eqSeq + 1 ∧
      (fnOf (postTo f e s) f).eqUnread = (fnOf s f).eqUnread + 1 ∧
      ∃ os, (postTo f e s).out = os ++ .event f (busBase s (bar0 f 0x180) + 32 * (fnOf s f).eqTail)
        { event := e, phase := (fnOf s f).eqPhase, sequence := (fnOf s f).eqSeq % 2 ^ 32 } :: s.out))

/-- EVENT_HOLD_EXPIRY while CPU_HK runs. A hold with nothing gathered ends and its key is free; one that gathered occurrences posts one entry
for them and opens a new hold with nothing gathered. The end of a 10 ms period of peers (codes 0601h to 0603h) writes the peers to the next
bitmap page under a new page generation and posts one entry that counts them.
The first occurrence of a coalesced event is posted at once and opens a hold; an occurrence during the hold posts nothing and is
gathered. -/
def Obligations.Coalescing : Prop :=
  (∀ (code scope : Nat) (s : State), s.live = true → s.watchdog.hk.up = true →
    (∀ h, (code < 0x0601 ∨ 0x0603 < code) → s.holds.find? (fun h => h.code == code && h.scope == scope) = some h →
      (h.first = none →
        exec (.eventHoldExpiry code scope) s =
          .next { s with holds := s.holds.filter (fun h => !(h.code == code && h.scope == scope)) }) ∧
      (∀ e, h.first = some e →
        Gives (exec (.eventHoldExpiry code scope) s) (fun t => ∃ u, t = post e.subject (heldEntry h e) u ∧
          u = { s with holds := s.holds.map (fun h =>
            if h.code = code ∧ h.scope = scope then { h with gathered := 0, first := none } else h) }))) ∧
    (∀ p : PeerPeriod, 0x0601 ≤ code → code ≤ 0x0603 →
      s.accord.periods.find? (fun p => p.code == code && p.port + 64 * p.owner == scope) = some p →
      Gives (exec (.eventHoldExpiry code scope) s) (fun t =>
        t.accord.pages.find s.accord.nextPage = some { gen := s.accord.pageGen + 1, owner := p.owner, peers := p.peers } ∧
        t.accord.pageGen = s.accord.pageGen + 1 ∧ t.accord.nextPage = (s.accord.nextPage + 1) % 16 ∧
        Told { s with accord := t.accord } t))) ∧
  (∀ (owner scope : Nat) (e : Event) (s : State),
    (holdOpen s e.code scope = false →
      postHeld owner scope e s =
        post owner e { s with holds := s.holds ++ [{ code := e.code, scope, gathered := 0, first := none }] }) ∧
    (holdOpen s e.code scope = true → postHeld owner scope e s = { s with holds := (postHeld owner scope e s).holds } ∧
      ∀ h ∈ (postHeld owner scope e s).holds, h.code = e.code → h.scope = scope →
        h.first.isSome = true ∧ ∃ g ∈ s.holds, g.code = e.code ∧ g.scope = scope ∧ h.gathered = g.gathered + e.count))

/-! ## Registers (00_scope, 04, 05, 14, 18, 20) -/

/-- A write changes a register's writable bits and nothing else: of a plain register of BAR2, which the PF writes through the gate, of a
function's CQ moderation, and, where 1 clears a bit, of CMD_EQ_STATUS; a write of the read-only GEN_IDENT is ignored, and one that the
gate denies is dropped. An access that is not a naturally aligned 32-bit one counts in GEN_BAD_ACCESS, and a read of that kind returns 0. -/
def Obligations.RegisterWrites : Prop :=
  ∀ (fn off m : Nat) (w : Word) (s : State), s.live = true → fn < 32 →
    (plainMask off = some m → off % 4 = 0 → GateAllows s 0 off true →
      exec (.registerWrite 0 true off w) s = .next (setReg off (w &&& BitVec.ofNat 32 m) s)) ∧
    (∀ u r, off % 4 = 0 → off < 0x01000000 → gateCheck 0 off true false [] s = (u, some r) →
      exec (.registerWrite 0 true off w) s = .next (gateDeny 0 off true false r u)) ∧
    exec (.registerWrite fn false 0x1a0 w) s = .next (setReg (bar0 fn 0x1a0) (w &&& 0x00ffffff) s) ∧
    exec (.registerWrite fn false 0x190 w) s = .next (setReg (bar0 fn 0x190) (reg s (bar0 fn 0x190) &&& ~~~(w &&& 0xa)) s) ∧
    exec (.registerWrite fn false 0 w) s = .next s ∧
    exec (.badRegisterAccess fn false) s =
      .next (setReg (bar0 fn 8) (BitVec.ofNat 32 (min 0xffff ((reg s (bar0 fn 8)).toNat + 1))) s) ∧
    exec (.badRegisterAccess fn true) s =
      .next (emit (.readData fn 0) (setReg (bar0 fn 8) (BitVec.ofNat 32 (min 0xffff ((reg s (bar0 fn 8)).toNat + 1))) s))

/-- Reads that change what they read. GEN_BAD_ACCESS, GATE_VIOL_COUNT and the parity count of a selector table return their value and are
then 0; a read of SA_FLUSH_STATUS clears SATURATED; the low word of a 64-bit counter latches the high word, and that of a PMC slot the high
word, or 96 bits of a chained pair, for the requester alone, and the low word of the pair's upper slot then returns the latched value;
TIM_SNAP_NS latches TO's seconds for the function. Nothing else changes. -/
def Obligations.ReadsThatChange : Prop :=
  ∀ (fn : Nat) (s : State), s.live = true → fn < 32 →
    exec (.genBadAccessRead fn) s = .next (setReg (bar0 fn 8) 0 (emit (.readData fn (reg s (bar0 fn 8))) s)) ∧
    (∀ table, table < 6 → GateAllows s 0 (0x40 + 4 * table) false →
      exec (.selParityCountRead table) s = .next (setReg (0x40 + 4 * table) 0 (emit (.readData 0 (reg s (0x40 + 4 * table))) s))) ∧
    (GateAllows s 0 0x10210 false →
      exec .gateViolCountRead s = .next (setReg 0x10210 0 (emit (.readData 0 (reg s 0x10210)) s))) ∧
    (GateAllows s 0 0x1808 false →
      exec .saFlushStatusRead s = .next
        { s with channels := { s.channels with saturated := 0 }, out := .readData 0 (BitVec.ofNat 32 (flushStatus s)) :: s.out }) ∧
    (∀ off, GateAllows s 0 off false →
      exec (.counterLowRead off) s = .next
        { s with latch := some (off + 4, (counter s off).toNat / 2 ^ 32)
                 out := .readData 0 (BitVec.ofNat 32 (counter s off).toNat) :: s.out }) ∧
    (∀ n, n < 128 → pmcUpper s n = false → GateAllows s fn (bar0 fn (0x8000 + 8 * n)) false →
      Gives (exec (.pmcSlotLowRead fn false (0x8000 + 8 * n)) s) (fun t =>
        t.out = .readData fn (BitVec.ofNat 32 (slotSeen s false fn n)) :: s.out ∧
        latchedWord t fn (bar0 fn (0x8000 + 8 * n) + 4) = slotSeen s false fn n / 2 ^ 32 ∧
        ((pmcOf s n).chain = true → latchedWord t fn (bar0 fn (0x8000 + 8 * n) + 8) = slotSeen s false fn (n + 1) % 2 ^ 32 ∧
          latchedWord t fn (bar0 fn (0x8000 + 8 * n) + 12) = slotSeen s false fn (n + 1) / 2 ^ 32) ∧
        (∀ g a, g ≠ fn → latchedWord t g a = latchedWord s g a) ∧
        t = { s with out := t.out, pmc := { s.pmc with latched := t.pmc.latched } })) ∧
    (∀ n, n < 128 → pmcUpper s n = true → isLatched s fn (bar0 fn (0x8000 + 8 * n)) = true → windowLive s fn = true →
      bitOf (pmcOf s n).readers fn = true → GateAllows s fn (bar0 fn (0x8000 + 8 * n)) false →
      exec (.pmcSlotLowRead fn false (0x8000 + 8 * n)) s =
        .next (emit (.readData fn (BitVec.ofNat 32 (latchedWord s fn (bar0 fn (0x8000 + 8 * n))))) s)) ∧
    (s.time.state ≠ .unset →
      exec (.timSnapNsRead fn) s = .next
        { s with time := { s.time with snaps := s.time.snaps.put 0 fn s.time.clock.sec }
                 out := .readData fn (BitVec.ofNat 32 s.time.clock.ns) :: s.out }) ∧
    (s.time.state = .unset →
      exec (.timSnapNsRead fn) s = .next
        { s with time := { s.time with snaps := s.time.snaps.put 0 fn 0 }, out := .readData fn 0 :: s.out })

/-- The management bus. A target whose root PLL has locked takes its register pointer from an I2C write's first byte and returns the
bytes from the pointer on, which wraps from FFh to 00h; it answers on a halted device too, and before lock it does not acknowledge.
A debug access in BLANK or FACTORY. Through the gate a read of a counter's or a plain register's value returns it and a write has the
register's effect; a denied read returns 0 and a denied write is dropped, each told as a denial by requester 36; in recovery a write
reaches firmware SRAM; a write that the gate lets through to another memory whose layout the spec does not give is refused by name. -/
def Obligations.OutsideAccess : Prop :=
  (∀ s : State,
    (s.powered = true → s.power.rootLock = true →
      (∀ b bs, exec (.i2cPointerWrite (b :: bs)) s = .next { s with power := { s.power with pointer := b.toNat } }) ∧
      (∀ n, Gives (exec (.i2cRead n) s) (fun t => ∃ bs, t.out = .i2c bs :: s.out ∧ bs.length = n ∧
        (∀ k, k < n → bs[k]? = some (mgmtByte s ((s.power.pointer + k) % 256))) ∧
        t = { s with out := t.out, power := { s.power with pointer := (s.power.pointer + n) % 256 } }))) ∧
    (s.power.rootLock = false → ∀ bs n, exec (.i2cPointerWrite bs) s = .next s ∧ exec (.i2cRead n) s = .next s)) ∧
  (∀ (addr : Nat) (w : Word) (bad : List Nat) (s : State), s.live = true → s.boot.lifecycle ≤ 1 → addr % 4 = 0 →
    (∀ u r, gateCheck 36 addr true false bad s = (u, some r) →
      exec (.debugAccess addr true w bad) s = .next (gateDeny 36 addr true false r u)) ∧
    (∀ u r, gateCheck 36 addr false false bad s = (u, some r) →
      exec (.debugAccess addr false w bad) s = .next (emit (.readData 36 0) (gateDeny 36 addr false false r u))) ∧
    (∀ m, plainMask addr = some m → gateCheck 36 addr true false bad s = (s, none) →
      exec (.debugAccess addr true w bad) s = .next (setReg addr (w &&& BitVec.ofNat 32 m) s)) ∧
    (addr = 0x34 → gateCheck 36 addr false false bad s = (s, none) →
      exec (.debugAccess addr false w bad) s = .next (emit (.readData 36 (reg s addr)) s)) ∧
    (isCounter addr = true → gateCheck 36 addr false false bad s = (s, none) →
      exec (.debugAccess addr false w bad) s = .next (counterLowRead 36 addr s)) ∧
    (0x02000000 ≤ addr → addr < 0x02800000 → s.boot.stage = 7 → gateCheck 36 addr true false bad s = (s, none) →
      exec (.debugAccess addr true w bad) s =
        .next { s with boot := { s.boot with window := s.boot.window.put 0 ((addr - 0x02000000) / 4) w } }) ∧
    (0x01200000 ≤ addr → (s.boot.stage ≠ 7 ∨ 0x02800000 ≤ addr) → ∀ u, gateCheck 36 addr true false bad s = (u, none) →
      exec (.debugAccess addr true w bad) s = .refused .unstatedMemory))

/-! ## Commands: their checks, the device group and the class timers (02_command_channel, 16_tamper, 19_timeouts_and_recovery) -/

/-- Every opcode's row. On a device that serves, a well-formed command that fails a check of R61 gets its completion with the first failing
check's status, DETAIL and RESULT, and nothing else changes but what reporting changes; while CMD_READY is 0 no command begins. -/
def Obligations.RejectedCommandsOnlyComplete : Prop :=
  ∀ (i : Instr) (c : Cmd) (x : OpSpec) (s : State), i.wellFormed = true → commandOf i = some c → specOf c.opcode = some x →
    (∀ st d, s.serving = true → checks x c s = some (st, d) →
      Gives (exec i s) (fun t => Answered c st d (x.failResult c s st d) s t)) ∧
    (s.cmdReady = false → exec i s = .next s)

/-- TAMPER_LOCK. CMD_FN_STATUS shows it; while it stands, a PF command of any opcode that is not marked L completes with TAMPER_LOCK and the
rank as DETAIL and has no effect, and an opcode marked L is never refused for it. -/
def Obligations.TamperLockBlocks : Prop :=
  ∀ (i : Instr) (c : Cmd) (s : State), i.wellFormed = true → commandOf i = some c → s.serving = true → tamperLock s = true →
    bitOf (fnStatus s c.fn) 8 = true ∧
    let L := [0x0101, 0x0102, 0x0103, 0x0202, 0x0405, 0x0503, 0x0711, 0x0902, 0x0a03, 0x0c02, 0x0d02, 0x0d03, 0x0e03, 0x0e04, 0x0f11, 0x1002]
    (c.opcode ∉ L → c.fn = 0 → Gives (exec i s) (fun t => Answered c 0x0b (tamperRank s) 0 s t)) ∧
    (c.opcode ∈ L → ∀ x, specOf c.opcode = some x → ∀ d, checks x c s ≠ some (0x0b, d))

/-- The device group. DEV_INFO reports the running image's version, the function, the lifecycle, the bank and the enabled pairs; DEV_RESET
sets the reset that DEV_RESET_START begins; DEV_EVENTS_MASK sets the function's mask and returns the old one; DEV_TENANT_SET sets a VF's
rights and quotas and posts TENANT_CHANGED's event; DEV_CONFIG_SAVE, the storage key there and the flash sound, writes a new Flacon
generation whose configuration is the payload, or none with CLEAR. -/
def Obligations.DeviceCommands : Prop :=
  ∀ (c : Cmd) (s : State),
    (Passes 0x0101 specDevInfo c s → ∃ q, q < 16 ∧ (∀ n, n < 4 → bitOf q n = qpEnabled s c.fn n) ∧
      Answers c (imgVersion s.boot.running + 2 ^ 32 * c.fn + 2 ^ 40 * s.boot.lifecycle + 2 ^ 48 * b2n s.boot.bank + 2 ^ 56 * q) s
        (exec (.devInfo c) s)) ∧
    (Passes 0x0102 specDevReset c s → Answers c (c.u8 8)
      { s with power := { s.power with wish := some { full := decide (c.u8 8 = 0), byDomain := false } } } (exec (.devReset c) s)) ∧
    (Passes 0x0103 specDevEventsMask c s → Answers c ((fnOf s c.fn).groupMask + 2 ^ 16 * (fnOf s c.fn).minSeverity)
      (setFn c.fn { fnOf s c.fn with groupMask := c.u16 8, minSeverity := c.get ⟨10, 0, 2⟩ } s) (exec (.devEventsMask c) s)) ∧
    (Passes 0x0105 specDevTenantSet c s → ∃ f T, f = c.get ⟨8, 0, 5⟩ ∧
      T = ({ enable := c.flag 9 0, keyOwner := c.flag 9 1, scQuota := c.u32 12, saQuota := c.u32 16, keyQuota := c.u32 20 } : Tenant) ∧
      Answers c 0 (raiseFor f 0x0104 0 f (c.u32 12 + 2 ^ 32 * c.u32 16 + 2 ^ 64 * c.u32 20) (setFn f { fnOf s f with tenant := T } s))
        (exec (.devTenantSet c) s)) ∧
    (Passes 0x0104 specDevConfigSave c s → s.attar.storageKey.isSome = true → s.attar.flashFailures = 0 → s.attar.active = none →
      ∃ u : State, Told (State.plus 0x3128 1 { s with attar := { s.attar with
          active := some false, floor := s.attar.floor + 1, tombstones := .empty, erasing := none
          copyA := { status := 1, generation := s.attar.floor + 1, config := if c.flag 12 0 then [] else c.payload
                     storageKey := s.attar.storageKey.getD 0, keeperKey := s.attar.keeper.getD 0 } } }) u ∧
        Answers c (s.attar.floor + 1) u (exec (.devConfigSave c) s))

/-- The class timers. CLASS_TIMEOUT while CPU_CTL runs ends the running command with TIMEOUT and counts it, or with ABORTED, DETAIL 01h,
where it waits on a DMA fault; the work it has done stands. L3_EXPIRY stops a transfer with a DMA fault of KIND 6. L5_EXPIRY ends all running
commands of the function with ABORTED, DETAIL 03h, disables its queue pairs and posts WD_FUNCTION_RECOVERED; other functions' commands run on. -/
def Obligations.ClassTimers : Prop :=
  ∀ (s : State) (index : Nat) (r : Running), s.live = true → s.running[index]? = some r →
    (s.watchdog.ctl.up = true → (r.xfer = none ∨ ∃ x, r.xfer = some x ∧ x.fault = none) →
      Gives (exec (.classTimeout index) s) (fun t => Answered r.cmd stTimeout 0 (stopResult r)
        (State.plus 0x10498 1
          { s with running := s.running.eraseIdx index, watchdog := { s.watchdog with lastLevel := 4 } }) t)) ∧
    (∀ x f, s.watchdog.ctl.up = true → r.xfer = some x → x.fault = some f →
      Gives (exec (.classTimeout index) s) (fun t => Answered r.cmd stAborted 1 (stopResult r)
        { s with running := s.running.eraseIdx index, watchdog := { s.watchdog with lastLevel := 4 } } t)) ∧
    (∀ x y, r.wait = .transfer → r.xfer = some x → x.fault = none →
      y = { r with xfer := some { x with fault := some (lowestFree (faultsOf s r.cmd.fn) 0 16) } } →
      Gives (exec (.l3Expiry index) s) (Told (State.plus 0x10388 1
        { s with running := s.running.set index y, watchdog := { s.watchdog with lastLevel := 3 } }))) ∧
    (r.cmd.qp < 4 → Gives (exec (.l5Expiry r.cmd.fn) s) (fun t =>
      Told (disablePairs r.cmd.fn (State.plus 0x104a0 1
        { s with running := s.running.filter (fun q => !(q.cmd.fn == r.cmd.fn && q.cmd.qp < 4))
                 watchdog := { s.watchdog with lastLevel := 5 } })) t ∧
      (∀ n, n < 4 → qpEnabled t r.cmd.fn n = false) ∧ ∀ g n, g ≠ r.cmd.fn → n < 4 → qpEnabled t g n = qpEnabled s g n))

/-! ## Resets, clocks and power (21_clocks_reset_power, 17_boot_and_identity, 16_tamper) -/

/-- A power-on reset (which ends a halt only where VDD_CORE was gone) and a full reset, by a command or by the domain, start the device
afresh from its ROM: what the battery, the fuses, the flash and the board hold stays, a full reset keeps SEL_LINE_SPLIT.SPLIT, and every other
part of the state is at its reset value when the boot begins. DEV_RESET_START does the reset that was asked for, and nothing without one. -/
def Obligations.FreshStarts : Prop :=
  ∀ (cause off : Nat) (removed vpp refclk byDomain : Bool) (board : Board) (s : State),
    ((s.halted = false ∨ removed = true) → ∃ r, FreshStart s r ∧ regField r 0x30 0 12 = 0x100 ∧ r.power.cause = cause % 4 ∧
      r.power.refclkOk = refclk ∧ r.tamper.vppOtp = vpp ∧ r.power.rootLock = false ∧ r.boot.bankA = s.boot.bankA ∧
      r.boot.bankB = s.boot.bankB ∧ exec (.powerOnReset cause removed off vpp refclk [] board) s = .next (boot board r)) ∧
    (s.halted = true → exec (.powerOnReset cause false off vpp refclk [] board) s = .next s) ∧
    (∀ b bytes, (s.halted = false ∨ removed = true) → ∃ r, FreshStart s r ∧ bankOf r b = bytes ∧ bankOf r (!b) = bankOf s (!b) ∧
      exec (.powerOnReset cause removed off vpp refclk [(b, bytes)] board) s = .next (boot board r)) ∧
    (s.live = true → s.pair.mode ≠ .active →
      (∃ r, FreshStart s r ∧ regField r 0x30 0 12 = regField s 0x30 0 12 ∧ r.power.cause = (if byDomain then 5 else 4) ∧
        r.power.rootLock = false ∧ r.boot.bankA = s.boot.bankA ∧ r.boot.bankB = s.boot.bankB ∧
        exec (.fullReset byDomain board) s = .next (boot board r)) ∧
      (s.power.wish = none → exec (.devResetStart board) s = .next s) ∧
      (s.power.wish = some { full := true, byDomain } →
        exec (.devResetStart board) s = exec (.fullReset byDomain board) { s with power := { s.power with wish := none } }) ∧
      (s.power.wish = some { full := false, byDomain } →
        exec (.devResetStart board) s = exec .firmwareReset { s with power := { s.power with wish := none } }))

/-- Where a boot ends. With readable OTP, REFCLK, no channel and no alarm pending, and no bank control record and no keeper key, the ROM tries
bank A, then bank B: the first that passes the checks runs (SOURCE 0, or 1 for the fallback) and the device reaches CMD_READY with all cores
running; with none it waits in recovery, STAGE 7, with an error code for each bank. An OTP without a majority stops the boot at STAGE 1. -/
def Obligations.BootEnds : Prop :=
  ∀ (off : Nat) (board : Board) (s : State), s.halted = false →
    (board.otpBad = true → (∀ n, (sourceOf s n).pending = false) →
      Gives (exec (.powerOnReset 0 true off false true [] board) s) (fun t =>
        t.boot.otpBad = true ∧ t.boot.stage = 1 ∧ t.boot.errorA = 1 ∧ t.cmdReady = false ∧ t.power.rootLock = false)) ∧
    (board.otpBad = false → board.kat = true → board.dimms = [] → board.badBanks = [] → (∀ n, (sourceOf s n).pending = false) →
      s.boot.record = none → s.attar.keeper = none →
      ∀ a b, a = checkImage s s.boot.bankA true → b = checkImage s s.boot.bankB true →
      Gives (exec (.powerOnReset 0 true off false true [] board) s) (fun t =>
        t.power.rootLock = true ∧ t.boot.stage = (if a = 0 ∨ b = 0 then 6 else 7) ∧ (t.cmdReady = true ↔ a = 0 ∨ b = 0) ∧
        (t.watchdog.ctl.up = true ↔ a = 0 ∨ b = 0) ∧ (t.watchdog.acc.up = true ↔ a = 0 ∨ b = 0) ∧
        (t.watchdog.hk.up = true ↔ a = 0 ∨ b = 0) ∧ t.boot.errorA = (if a = 0 then 2 else a) ∧ (a ≠ 0 → t.boot.errorB = b) ∧
        (a = 0 → t.boot.bank = false ∧ t.boot.source = 0 ∧ t.boot.running = s.boot.bankA.take (24576 + imgBytes s.boot.bankA)) ∧
        (a ≠ 0 → b = 0 → t.boot.bank = true ∧ t.boot.source = 1 ∧
          t.boot.running = s.boot.bankB.take (24576 + imgBytes s.boot.bankB)) ∧
        t.ports = {} ∧ t.channels = {} ∧ t.fabric = {} ∧ t.gate = {} ∧ t.attar.slots = .empty ∧ t.running = []))

/-- The resets that keep the data path. A function reset removes the function's queues, running commands, translation and cached
translations, and leaves its mask, rights and every other function alone; a host reset does so for every function, disables the host rings
and counts; a firmware reset ends running commands and a staging session and starts the cores from a bank, or stops them where none is valid. -/
def Obligations.ResetsThatKeepTheDataPath : Prop :=
  ∀ (fn : Nat) (s : State), s.live = true → fn < 32 →
    Gives (exec (.functionReset fn) s) (fun t => ∃ u : State, Told u t ∧
      u = { s with regs := u.regs, fns := u.fns, running := s.running.filter (fun r => r.cmd.fn != fn || decide (4 ≤ r.cmd.qp))
                   dma := u.dma, time := u.time } ∧
      (∀ a, reg u a = if inBar0 fn a then regReset a else reg s a) ∧
      fnOf u fn = { groupMask := (fnOf s fn).groupMask, minSeverity := (fnOf s fn).minSeverity, tenant := (fnOf s fn).tenant } ∧
      (∀ g, g ≠ fn → fnOf u g = fnOf s g ∧ u.dma.xlt.get {} g = s.dma.xlt.get {} g) ∧ u.dma.xlt.get {} fn = {} ∧
      u.dma.cache = s.dma.cache.filter (fun x => x.fn != fn) ∧ u.time.clock = s.time.clock ∧ u.time.rolls = s.time.rolls) ∧
    ((∀ n, n < 4 → ringEnabled s n = false) →
      Gives (exec .hostReset s) (fun t =>
        t = { s with regs := t.regs, fns := t.fns, running := s.running.filter (fun r => decide (32 ≤ r.cmd.fn) || decide (4 ≤ r.cmd.qp))
                     dma := t.dma, time := t.time
                     power := { s.power with hostResets := min 0xffff (s.power.hostResets + 1) } } ∧
        (∀ f a, f < 32 → inBar0 f a → reg t a = regReset a) ∧
        (∀ a, (∀ f, f < 32 → inBar0 f a = false) → (∀ n, n < 4 → a ≠ ringCtrl n) → reg t a = reg s a) ∧ (∀ n, n < 4 → ringEnabled t n = false) ∧
        (∀ f, f < 32 → fnOf t f =
          { groupMask := (fnOf s f).groupMask, minSeverity := (fnOf s f).minSeverity, tenant := (fnOf s f).tenant }) ∧
        (∀ f, f < 32 → t.dma.xlt.get {} f = {}) ∧ t.dma.cache = s.dma.cache.filter (fun x => decide (32 ≤ x.fn)))) ∧
    (s.accord.peers = .empty → s.accord.communities = .empty → s.channels.rekeyDue = [] →
      Gives (exec .firmwareReset s) (fun t =>
        Told { s with running := [], cmdReady := t.cmdReady, boot := t.boot, watchdog := t.watchdog } t ∧ t.boot.staging = none ∧
        t.cmdReady = t.watchdog.ctl.up ∧ t.watchdog.acc.up = t.watchdog.ctl.up ∧ t.watchdog.hk.up = t.watchdog.ctl.up ∧
        (t.cmdReady = true → t.boot.stage = 6 ∧ checkImage s (bankOf s t.boot.bank) true = 0) ∧
        (t.cmdReady = false → t.watchdog.stopped = true)))

/-- The battery, the clock and the sensors. BATTERY_LOSS clears the keeper key, the tombstones, the floor, DOMAIN_GEN and the policy and keeps
the fuses; REFCLK's loss puts a locked PLL in holdover and TS5 alarms; its return ends the holdover; the loss of the PLL's lock declares FAULT
to a pair partner and TS5 alarms (both shown where TS5 is already active and no pair is formed); TEMP_SAMPLE records what is measured. -/
def Obligations.BatteryClockTemperature : Prop :=
  ∀ s : State,
    Gives (exec .batteryLoss s) (fun t =>
      t = { s with powered := false, attar := t.attar, tamper := t.tamper } ∧ t.attar.keeper = none ∧ t.attar.tombstones = .empty ∧
      t.attar.floor = 0 ∧ t.attar.domainGen = 0 ∧ t.attar.slots = s.attar.slots ∧ t.attar.copyA = s.attar.copyA ∧
      t.attar.copyB = s.attar.copyB ∧ t.tamper.lostPower = true ∧ t.tamper.zeroisePending = 0 ∧ t.tamper.otpCount = s.tamper.otpCount ∧
      t.tamper.pins = .empty ∧ batSeconds t = 0 ∧ (s.tamper.sources.wf = true → ∀ n, sourceOf t n =
        { sourceDefault n with fused := (sourceOf s n).fused || (sourceDefault n).fused })) ∧
    (s.live = true →
      ((sourceOf s 5).active = true →
        exec .refclkLoss s = .next { s with power := { s.power with
          refclkOk := false, holdover := s.power.holdover || s.power.rootLock, holdoverSeen := s.power.holdoverSeen || s.power.rootLock } }) ∧
      ((sourceOf s 5).armed = true → (sourceOf s 5).active = false → (sourceOf s 5).rank ≤ 1 → s.noKeyOps = true →
        Gives (exec .refclkLoss s) (Told (State.plus 0x10088 1 (recordOnset 5 { s with power := { s.power with
          refclkOk := false, holdover := s.power.holdover || s.power.rootLock
          holdoverSeen := s.power.holdoverSeen || s.power.rootLock } })))) ∧
      (∀ offset, (s.power.rootLock = true ∨ s.power.refclkOk = true) →
        exec (.refclkReturn offset) s = .next { s with power := { s.power with refclkOk := true, holdover := false, offset := offset % 65536 } }) ∧
      ((sourceOf s 5).active = true → s.pair.mode = .off →
        exec .rootPllLockLoss s = .next { s with power := { s.power with rootLock := false } }) ∧
      (∀ (tj : Int) (current power : Nat), -25 ≤ tj → tj ≤ 125 →
        exec (.tempSample tj current power) s = .next { s with power := { s.power with
          tj, tjPeak := max s.power.tjPeak tj, overTemp := s.power.overTemp || decide (105 < tj), current := current % 65536
          power := power % 65536 } }))

/-! ## The gate table and DMA (18_access_and_dma) -/

/-- GATE_LOAD writes all 64 rules of the inactive set from its payload, marks the set loaded and names it in RESULT; the active set and
everything else stay. No access reads the inactive set: whatever one of its rules is, the verdict of every access is the same. -/
def Obligations.GateLoad : Prop :=
  (∀ (c : Cmd) (s : State), Passes 0x0f01 specGateLoad c s →
    ∃ u : State, Answers c (b2n (!s.gate.activeB)) u (exec (.gateLoad c) s) ∧
      u = { s with gate := { s.gate with rules := u.gate.rules, loaded := true } } ∧
      (∀ r, r < 64 → gateRule u (!s.gate.activeB) r = ruleOf (leAt c.payload (16 * r) 16)) ∧
      ∀ r, r < 64 → gateRule u s.gate.activeB r = gateRule s s.gate.activeB r) ∧
  ∀ (req addr r : Nat) (write dma : Bool) (bad : List Nat) (v : GateRule) (s : State), r < 64 →
    (gateCheck req addr write dma bad (setGateRule (!s.gate.activeB) r v s)).2 = (gateCheck req addr write dma bad s).2

/-- GATE_BARRIER takes no parameters, and completes, once every access that had entered before it has completed, with GATE_EPOCH in bytes 8
to 11 of RESULT; until then it is running and holds the gate table's lock. -/
def Obligations.GateBarrier : Prop :=
  (∀ (c : Cmd) (s : State), cmdOk 0x0f04 c = true → c.fn = 0 → s.serving = true → tamperLock s = false →
    bitsOf c.bits 64 384 ≠ 0 → ∃ d, checks specGateBarrier c s = some (stBadParam, d)) ∧
  (∀ (c : Cmd) (s : State), Passes 0x0f04 specGateBarrier c s →
    exec (.gateBarrier c) s = .next { s with running := s.running ++ [{ cmd := c, cls := .a, locks := [.gate 0], wait := .work }] }) ∧
  ∀ (r : Running) (s : State), s.live = true → s.running = [r] → r.cmd.opcode = 0x0f04 → r.wait = .work → r.xfer = none →
    Gives (exec .barrierDrainEnd s) (Answered r.cmd stOk 0 s.gate.epoch { s with running := [] })

/-- The other work on the gate's sets. GATE_SWAP exchanges the sets at once, marks the old one not loaded, raises GATE_EPOCH and GATE_SWAPS,
and completes at GATE_SWAP_DRAIN_END with the epoch and the active set, after GATE_SWAPPED is posted. GATE_EDIT writes one rule of the set
named. GATE_RULE_RESTORE rewrites a failed rule and counts it. Writing VALID to GATE_VIOL_INFO clears the captured denial.
A denied access. A write of the PF that the gate denies has none of its effect: GATE_DENIED and GATE_VIOL_COUNT count it, and unless a
denial is already captured the address, the reason, the direction and the requester are. -/
def Obligations.GateSetsAndDenials : Prop :=
  (∀ (c : Cmd) (s : State),
    (Passes 0x0f02 specGateSwap c s → exec (.gateSwap c) s = .next (State.plus 0x10288 1 { s with
      gate := { s.gate with activeB := !s.gate.activeB, loaded := false, epoch := (s.gate.epoch + 1) % 2 ^ 32 }
      running := s.running ++ [{ cmd := c, cls := .b, locks := [.gate 0], wait := .work }] })) ∧
    (∀ r, s.live = true → s.running = [r] → r.cmd.opcode = 0x0f02 → r.wait = .work → r.xfer = none →
      Gives (exec .gateSwapDrainEnd s) (Answered r.cmd stOk 0 (s.gate.epoch + 2 ^ 32 * b2n s.gate.activeB)
        { raiseHeld 0 0x0f04 0 0 (s.gate.epoch + 2 ^ 32 * b2n s.gate.activeB) s with running := [] })) ∧
    (Passes 0x0f03 specGateEdit c s → Answers c 0
      (setGateRule (s.gate.activeB != c.flag 8 6) (c.get ⟨8, 0, 6⟩) (ruleOf (bitsOf c.bits 128 128)) s) (exec (.gateEdit c) s)) ∧
    (∀ b r, s.live = true → s.watchdog.hk.up = true → r < 64 → (gateRule s b r).parityFailed = true →
      exec (.gateRuleRestore b r) s =
        .next (State.plus 0x10290 1 (setGateRule b r { gateRule s b r with parityFailed := false } s))) ∧
    (s.live = true → GateAllows s 0 0x1020c true →
      exec .gateViolInfoClear s = .next (setReg 0x10208 0 (setReg 0x1020c 0 s)))) ∧
  (∀ (off reason : Nat) (w : Word) (s : State), s.live = true → off % 4 = 0 → off < 0x01000000 →
    gateCheck 0 off true false [] s = (s, some reason) →
    (regBit s 0x1020c 31 = true → Gives (exec (.registerWrite 0 true off w) s)
      (Told (setReg 0x10210 (BitVec.ofNat 32 (min 0xffff ((reg s 0x10210).toNat + 1))) (State.plus 0x10280 1 s)))) ∧
    (regBit s 0x1020c 31 = false → Gives (exec (.registerWrite 0 true off w) s)
      (Told (setReg 0x1020c (BitVec.ofNat 32 (2 ^ 31 + reason * 2 ^ 16 + 2 ^ 15)) (setReg 0x10208 (BitVec.ofNat 32 off)
        (setReg 0x10210 (BitVec.ofNat 32 (min 0xffff ((reg s 0x10210).toNat + 1))) (State.plus 0x10280 1 s)))))))

/-- Translation settings and faults. DMA_XLT_SET sets or disables the issuing function's root, or invalidates the function's cached
translations of a range or all; DMA_RESUME lets the command that waits on the fault go on from the faulting page, whose cached translation is
dropped. A page of an enabled, cached translation that the gate lets through moves: the last page of a payload runs the command with its whole
payload, the last page of a partial result completes it; a transfer without translation enabled stops with a fault of the function. -/
def Obligations.DmaCommandsAndTurns : Prop :=
  ∀ (c : Cmd) (s : State),
    (Passes 0x0f10 specDmaXltSet c s →
      (c.get ⟨8, 0, 2⟩ = 0 → Answers c 0 { s with dma := { s.dma with
        xlt := s.dma.xlt.put {} c.fn { enabled := true, root := c.u64 16, l1 := c.get ⟨9, 0, 5⟩ }
        cache := s.dma.cache.filter (fun x => x.fn != c.fn) } } (exec (.dmaXltSet c) s)) ∧
      (c.get ⟨8, 0, 2⟩ = 1 → Answers c 0 { s with dma := { s.dma with cache := s.dma.cache.filter (fun x =>
        x.fn != c.fn || decide (x.va + x.size ≤ c.u64 24) || decide (c.u64 24 + c.u64 32 ≤ x.va)) } } (exec (.dmaXltSet c) s)) ∧
      (c.get ⟨8, 0, 2⟩ = 2 → Answers c 0 { s with dma := { s.dma with cache := s.dma.cache.filter (fun x => x.fn != c.fn) } }
        (exec (.dmaXltSet c) s)) ∧
      (c.get ⟨8, 0, 2⟩ = 3 → Answers c 0 { s with dma := { s.dma with
        xlt := s.dma.xlt.put {} c.fn { s.dma.xlt.get {} c.fn with enabled := false } } } (exec (.dmaXltSet c) s))) ∧
    (∀ r x p, Passes 0x0f11 specDmaResume c s → s.running = [r] → r.cmd.fn = c.fn → r.xfer = some x →
      x.fault = some (c.get ⟨8, 0, 4⟩) → p = Xfer.at r x / 4096 * 4096 →
      Answers c 0 { s with
        running := [{ r with xfer := some { x with fault := none } }]
        dma := { s.dma with cache := s.dma.cache.filter (fun y =>
          y.fn != c.fn || decide (y.va + y.size ≤ p) || decide (p + 4096 ≤ y.va)) } } (exec (.dmaResume c) s)) ∧
    ∀ (r : Running) (x : Xfer) (m : Translation) (answer : Bytes) (buffer n : Nat) (d : Dma), s.live = true → s.running = [r] →
      r.cmd.fn < 32 → r.wait = .transfer → r.xfer = some x → x.fault = none →
      d = { s.dma with turns := s.dma.turns + 1, nextFn := (r.cmd.fn + 1) % 32 } →
      ((s.dma.xlt.get {} r.cmd.fn).enabled = false →
        Gives (exec (.dmaTurn [] [some answer] false buffer []) s) (Told (State.plus 0x10388 1 { s with
          dma := d, running := [{ r with xfer := some { x with turn := d.turns, fault := some 0 } }] }))) ∧
      ((s.dma.xlt.get {} r.cmd.fn).enabled = true → Xfer.at r x / 0x200000 < 2 ^ (s.dma.xlt.get {} r.cmd.fn).l1 →
        s.dma.cache.find? (fun y => y.covers r.cmd.fn (Xfer.at r x)) = some m → (x.toHost = true → m.write = true) →
        gateCheck r.cmd.fn (buffer + x.moved) (!x.toHost) true [] s = (s, none) →
        n = x.length - x.moved → 0 < n → Xfer.at r x % 4096 + n ≤ 4096 → r.cmd.opcode ≠ 0x0301 → r.cmd.opcode ≠ 0x0302 →
        ∃ u : State, Told (State.plus 0x10380 n { s with running := [], dma := { d with
            cache := dropFirst (fun y => y.covers r.cmd.fn (Xfer.at r x)) s.dma.cache ++ [m] } }) u ∧
          (∀ spec, x.toHost = false → specOf r.cmd.opcode = some spec →
            exec (.dmaTurn [] [some answer] false buffer []) s =
              .next (runOp spec { r.cmd with payload := x.data ++ (answer ++ List.replicate n 0).take n } u)) ∧
          (∀ reply, x.toHost = true → r.reply = some reply → partialOp r.cmd.opcode = true →
            Gives (exec (.dmaTurn [] [some answer] false buffer []) s) (Answered r.cmd reply.status reply.detail reply.result
              (emit (.hostWrite r.cmd.fn (Xfer.at r x) (slice x.data x.moved n)) u))))

/-! ## Programmable counters and statistics (20_counters) -/

/-- PMC_CONFIG. SET writes the counter's selection, value and readers whole, and with CHAIN clears the upper counter; QUERY returns the
counter; GRANT sets a function's two rights; WINDOW sets the window that applies from the next boundary; SNAPSHOT latches every counter and TO
in the buffer not written last. Nothing else changes.
Reading and wrapping. STATS_READ writes COUNT records from START at DATA_PTR and returns the count and the next index; a run of block
counters holds their values in order. A counter at its maximum that counts once more wraps to 0, sets OVERFLOW and posts PMC_OVERFLOW, alone or
as a chained pair. The end of a bandwidth window moves the running bytes to the totals and counts the window. -/
def Obligations.CountersAndStatistics : Prop :=
  (∀ (c : Cmd) (s : State) (n : Nat), Passes 0x1001 specPmcConfig c s → n = c.get ⟨9, 0, 7⟩ →
    (c.get ⟨8, 0, 3⟩ = 0 → ∃ (u : State) (v : PmcCounter),
      v = { value := bitsOf c.bits 160 48, enable := c.flag 14 0, chain := c.flag 14 1, filterAll := c.flag 14 2
            filter := c.get ⟨16, 0, 17⟩, event := c.get ⟨12, 0, 10⟩, readers := c.u32 28 } ∧
      Answers c (pmcSel v) u (exec (.pmcConfig c) s) ∧ pmcOf u n = v ∧
      u = { s with pmc := { s.pmc with counters := u.pmc.counters } } ∧
      (v.chain = true → pmcOf u (n + 1) = { pmcOf s (n + 1) with value := 0, overflow := false, readers := v.readers }) ∧
      ∀ m, m ≠ n → (m = n + 1 → v.chain = false) → pmcOf u m = pmcOf s m) ∧
    (c.get ⟨8, 0, 3⟩ = 1 → Answers c (pmcSlot (pmcOf s n)) s (exec (.pmcConfig c) s)) ∧
    (c.get ⟨8, 0, 3⟩ = 2 → ∃ u : State, Answers c 0 u (exec (.pmcConfig c) s) ∧
      u = { s with pmc := { s.pmc with userRead := u.pmc.userRead, bwRead := u.pmc.bwRead } } ∧
      ∀ f, f < 32 → bitOf u.pmc.userRead f = (if f = c.get ⟨10, 0, 5⟩ then c.flag 14 3 else bitOf s.pmc.userRead f) ∧
        bitOf u.pmc.bwRead f = (if f = c.get ⟨10, 0, 5⟩ then c.flag 14 4 else bitOf s.pmc.bwRead f)) ∧
    (c.get ⟨8, 0, 3⟩ = 3 → Answers c 0 { s with pmc := { s.pmc with nextUs := c.get ⟨32, 0, 20⟩ } } (exec (.pmcConfig c) s)) ∧
    (c.get ⟨8, 0, 3⟩ = 4 → s.running = [] → ∃ u : State, Answers c ((s.pmc.snapSeq + 1) % 2 ^ 32) u (exec (.pmcConfig c) s) ∧
      Told { s with pmc := u.pmc } u ∧ u.pmc.lastB = !s.pmc.lastB ∧ u.pmc.snapSeq = (s.pmc.snapSeq + 1) % 2 ^ 32 ∧
      (if s.pmc.lastB then u.pmc.bufB = s.pmc.bufB else u.pmc.bufA = s.pmc.bufA) ∧
      lastSnapshot u = { sec := s.time.clock.sec, ns := s.time.clock.ns, slots := (List.range 128).map (fun k => pmcSlot (pmcOf s k)) })) ∧
  (∀ (c : Cmd) (s : State),
    (Passes 0x1002 specStatsRead c s → (c.get ⟨8, 0, 3⟩ ≤ 1 → s.reservoir.fatal = false ∧ statsRetrains s = false) →
      Answers c (c.u32 16 + 2 ^ 32 * (c.u32 12 + (if c.get ⟨8, 0, 3⟩ = 2 then 8 else 1) * c.u32 16))
        (emit (.hostWrite c.fn c.dataPtr (statsData c s)) s) (exec (.statsRead c) s) ∧
      (statsData c s).length = statsHeader c + statsRecord c * c.u32 16 ∧
      (c.get ⟨8, 0, 3⟩ = 2 → ∀ i, i < c.u32 16 → leAt (statsData c s) (8 * i) 8 = (counter s (c.u32 12 + 8 * i)).toNat)) ∧
    (∀ n, s.live = true → n < 128 → pmcUpper s n = false → (pmcOf s n).enable = true → (pmcOf s n).value = 2 ^ 48 - 1 →
      ((pmcOf s n).chain = false → ∃ u : State, exec (.pmcWrap n) s = .next u ∧ (pmcOf u n).value = 0 ∧ (pmcOf u n).overflow = true ∧
        u = raiseHeld 0 0x1006 1 n 0 (setPmc n { pmcOf s n with value := 0, overflow := true } s)) ∧
      ((pmcOf s n).chain = true → (pmcOf s (n + 1)).value = 2 ^ 48 - 1 → ∃ v w : State, exec (.pmcWrap n) s = .next w ∧
        v = setPmc (n + 1) { pmcOf s (n + 1) with value := 0, overflow := true } (setPmc n { pmcOf s n with value := 0 } s) ∧
        (∀ m, pmcOf w m = pmcOf v m) ∧ Told v w)) ∧
    (s.live = true → exec .bwWindowEnd s = .next { s with pmc := { s.pmc with
      totals := s.pmc.running, running := .empty, bwSeq := (s.pmc.bwSeq + 1) % 2 ^ 32, windowUs := s.pmc.nextUs } }))

/-! ## Watchdogs (19_timeouts_and_recovery) -/

/-- The hardware's watchdogs. L0: a flush without frames is counted and told, and of a plane the cells named are gone. L1: a selector or
multicast operation ends with its status register saying so and its entry parity-failed, a command that wrote an entry with FAULT. L2: the
channel retrains. L7: a silent partner firmware is counted and told. Nothing else changes.
The firmware's watchdog. A core that gives no kick is held in reset, counted, its restart remembered, and CMD_READY falls with CPU_CTL;
under DEBUG_HOLD it is only told. A restart with the image sound, no trial and the limit not reached starts the core again: CPU_CTL's running
commands are then gone and CMD_READY returns. WD_CONFIG sets the parameters, 0 standing for a default, or reports them. -/
def Obligations.Watchdogs : Prop :=
  (∀ (s : State), s.live = true →
    (∀ unit stage cells, s.pair.mode = .off →
      Gives (exec (.l0Flush unit stage [] cells) s) (Told (State.plus 0x10480 1 { s with
        watchdog := { s.watchdog with lastLevel := 0 }
        fabric := { s.fabric with cells := s.fabric.cells.filter (fun k => !((unit == 32 || unit == 33) && k.plane == unit - 32 &&
          cells.contains (k.input, k.output, k.seq))) } }))) ∧
    (∀ table pipe entry, table < 5 → (selEntry s table entry).parityFailed = false →
      Gives (exec (.l1Expiry 0 table pipe entry 0) s) (Told
        (selDone 4 entry false (putEntry table entry { selEntry s table entry with parityFailed := true }
          (setReg (0x40 + 4 * table) (BitVec.ofNat 32 (min 0xffff ((reg s (0x40 + 4 * table)).toNat + 1)))
            (State.plus 0x10490 1 { s with freeIx := s.freeIx + 1, watchdog := { s.watchdog with lastLevel := 1 } })))))) ∧
    (∀ entry, (groupOf s entry).parityFailed = false →
      Gives (exec (.l1Expiry 1 0 0 entry 0) s) (fun t => t.fabric.mcResult = 3 ∧ (groupOf t entry).parityFailed = true ∧
        (∀ m, m ≠ entry → groupOf t m = groupOf s m) ∧
        Told (State.plus 0x10490 1 { s with freeIx := s.freeIx + 1, watchdog := { s.watchdog with lastLevel := 1 }
                                            fabric := { s.fabric with groups := t.fabric.groups, mcResult := 3 } }) t)) ∧
    (∀ table pipe entry index r, s.running[index]? = some r →
      Gives (exec (.l1Expiry 2 table pipe entry index) s) (fun t => ∃ u : State,
        Told (State.plus 0x10490 1 { s with watchdog := { s.watchdog with lastLevel := 1 } }) u ∧
        Answered r.cmd stFault 0 (stopResult r) { u with running := s.running.eraseIdx index } t)) ∧
    (∀ channel, channel < 4 → (chOf s channel).state = .online →
      Gives (exec (.l2Expiry channel none) s) (Told (setCh channel { chOf s channel with state := .retraining, retrain := 1 }
        (State.plus (0x7100 + 8 * 9) 1 { s with watchdog := { s.watchdog with lastLevel := 2 } })))) ∧
    (s.pair.mode ≠ .off → s.pair.partnerFw = false →
      Gives (exec .l7FwAliveTimeout s) (Told (State.plus 0x104b0 1 { s with watchdog := { s.watchdog with lastLevel := 7 } })))) ∧
  ((∀ (core : Nat) (s : State), s.live = true → 32 ≤ core → core ≤ 34 →
    ((coreOf s core).up = true → s.watchdog.debugHold = true → Gives (exec (.l6Expiry core) s) (Told s)) ∧
    ((coreOf s core).up = true → s.watchdog.debugHold = false →
      Gives (exec (.l6Expiry core) s) (fun t => ∃ w, t.watchdog = w ∧
        Told (State.plus 0x104a8 1 { s with cmdReady := if core = 32 then false else s.cmdReady, watchdog := w }) t ∧
        w.restarts = min 0xffff (s.watchdog.restarts + 1) ∧ w.lastLevel = 6 ∧ (coreOf t core).up = false ∧ (coreOf t core).downMs = msNow s ∧
        (coreOf t core).restarts = msNow s :: (coreOf s core).restarts.take 10 ∧
        ∀ k, 32 ≤ k → k ≤ 34 → k ≠ core → coreOf t k = coreOf s k)) ∧
    (∀ bad, (coreOf s core).up = false → s.watchdog.stopped = false → s.boot.trial = false →
      limitReached s.watchdog.restartLimit (coreOf s core).restarts = false → s.accord.peers = .empty → s.accord.communities = .empty →
      s.channels.rekeyDue = [] →
      Gives (exec (.coreRestartComplete core true bad) s) (Told (setCore core { coreOf s core with up := true }
        { s with running := if core = 32 then [] else s.running, cmdReady := if core = 32 then true else s.cmdReady })))) ∧
  ∀ (c : Cmd) (s : State), Passes 0x1003 specWdConfig c s →
    (c.flag 8 0 = true → Answers c (1 + 2 * b2n s.watchdog.debugHold + 2 ^ 8 * s.watchdog.restartLimit + 2 ^ 16 * s.watchdog.l6Ms +
      2 ^ 32 * s.watchdog.graceMs) s (exec (.wdConfig c) s)) ∧
    (c.flag 8 0 = false → ∃ limit l6 grace, limit = (if c.get ⟨9, 0, 4⟩ = 0 then 3 else c.get ⟨9, 0, 4⟩) ∧
      l6 = (if c.u16 10 = 0 then 500 else c.u16 10) ∧ grace = (if c.u16 12 = 0 then 2000 else c.u16 12) ∧
      Answers c (2 * b2n (c.flag 8 1) + 2 ^ 8 * limit + 2 ^ 16 * l6 + 2 ^ 32 * grace)
        { s with watchdog := { s.watchdog with debugHold := c.flag 8 1, restartLimit := limit, l6Ms := l6, graceMs := grace } }
        (exec (.wdConfig c) s)))

/-! ## Lanes and ports (03_lanes_and_ports; 20 DIAG_LOOPBACK) -/

/-- Link bring-up and faults. Each row moves a configured port from its step of bring-up to the next: AN and training complete, locks, the
link's declaration, a training failure counted and told, its retry, a loss of signal in bring-up or of an up link with no frame in flight
(counted and told); local and remote faults set, count and clear their state, and one end of a tie that stays down makes the other send local
fault. No other port and nothing else changes. -/
def Obligations.LinkBringup : Prop :=
  ∀ (p : Nat) (v : Port) (s : State), s.live = true → p < 128 → portOf s p = some v →
    (v.bringup = .negotiating → exec (.portAnComplete p) s =
      .next (setPort p { v with signal := true, bringup := if v.train then .training else .locking } s)) ∧
    (v.bringup = .training → exec (.portTrainingComplete p) s = .next (setPort p { v with signal := true, bringup := .locking } s)) ∧
    (v.bringup = .locking → exec (.portLockAchieved p) s =
      .next (setPort p { v with signal := true, locked := true, bringup := if v.localFault then .locking else .settling } s)) ∧
    (v.bringup = .settling → v.path ≠ .express →
      Gives (exec (.portLinkUpTimer p) s) (Told (setPort p { v with bringup := .up, sinceTick := s.tick } s))) ∧
    (∀ lane, v.bringup = .negotiating ∨ v.bringup = .training → Gives (exec (.trainingTimeout p lane) s)
      (Told (setPort p { v with bringup := .retryWait, counters := v.counters.put 0 16 (v.counters.get 0 16 + 1) } s))) ∧
    (v.bringup = .retryWait → exec (.trainingRetry p) s = .next (setPort p { v with bringup := firstStep v, locked := false } s)) ∧
    (∀ lock, v.nearLoop = false → v.rising = true → exec (.portSignalLoss p lock) s =
      .next (setPort p { v with signal := v.signal && lock, bringup := firstStep v, locked := false } s)) ∧
    (∀ lock, v.nearLoop = false → v.bringup = .up → busyRx s p = false → (egressOf s p).tx = none →
      Gives (exec (.portSignalLoss p lock) s) (Told (setPort p { v with
        signal := v.signal && lock, looped := [], sinceTick := s.tick, bringup := firstStep v, locked := false
        counters := v.counters.put 0 13 (v.counters.get 0 13 + 1) } s))) ∧
    (v.bringup = .settling → v.localFault = false → exec (.portLocalFaultDetect p) s = .next (setPort p { v with
      localFault := true, bringup := .locking, counters := v.counters.put 0 14 (v.counters.get 0 14 + 1) } s)) ∧
    exec (.localFaultClear p) s = .next (setPort p { v with
      localFault := false, bringup := if v.bringup = .locking ∧ v.locked = true then .settling else v.bringup } s) ∧
    (v.remoteFault = false → Gives (exec (.portRemoteFaultDetect p) s) (Told (setPort p { v with
      remoteFault := true, idleForRemote := true, counters := v.counters.put 0 15 (v.counters.get 0 15 + 1) } s))) ∧
    (v.remoteFault = true → Gives (exec (.portRemoteFaultClear p) s)
      (Told (setPort p { v with remoteFault := false, idleForRemote := false } s))) ∧
    (∀ w, v.path = .express → v.faultPropagate = true → v.linkUp = false → portOf s v.partner = some w →
      exec (.faultPropagateHoldoff p) s = .next (setPort v.partner { w with propagating := true } s)) ∧
    (∀ corrected uncorrectable blocks symbols errors, Gives (exec (.fecWindowEnd p corrected uncorrectable blocks symbols errors) s)
      (fun t => ∃ x : Port, Told (setPort p x s) t ∧ portOf t p = some x ∧
        x = { v with counters := x.counters, fecDegraded := decide (0 < uncorrectable) ||
          (decide (symbols < (errors.take (rateLanes v.rate)).sum * 10000) && (prbsLanes s p v).isEmpty) } ∧
        x.counters.get 0 6 = v.counters.get 0 6 + BitVec.ofNat 64 corrected ∧
        x.counters.get 0 7 = v.counters.get 0 7 + BitVec.ofNat 64 uncorrectable ∧
        x.counters.get 0 8 = v.counters.get 0 8 + BitVec.ofNat 64 blocks ∧
        (∀ k e, (errors.take (rateLanes v.rate))[k]? = some e → x.counters.get 0 (24 + k) = v.counters.get 0 (24 + k) + BitVec.ofNat 64 e) ∧
        ∀ i, i < 6 → x.counters.get 0 i = v.counters.get 0 i))

/-- The port group's commands. PORT_CONFIG on an octet without ports creates the ports of its modes; PORT_STATUS reports one port and
writes its counters where DATA_PTR is given; LANE_TUNE with WRITE sets the lane's settings, and reads back (adapted and measured values are
free); PORT_MAP ties two ports, sets a port to buffered mode, or takes ports out of their path; DIAG_LOOPBACK sets the loopback of an auxiliary
lane or of a port that is not up. -/
def Obligations.PortCommands : Prop :=
  ∀ (c : Cmd) (s : State),
    (Passes 0x0201 specPortConfig c s → (∀ i, i < 8 → portOf s (configBase c + i) = none) →
      ∃ u : State, Settles c 0 u (exec (.portConfig c) s) ∧ u = { s with ports := { s.ports with ports := u.ports.ports, octets := u.ports.octets } } ∧
        octetOf u (configBase c / 8) = configOctet c ∧ (∀ i, i ≠ configBase c / 8 → octetOf u i = octetOf s i) ∧
        (∀ i, i < 8 → portOf u (configBase c + i) =
          if slotRate (configOctet c) i = 0 then none else some (newPort (slotRate (configOctet c) i) (configSlot c i) s)) ∧
        ∀ q, q < configBase c ∨ configBase c + 8 ≤ q → portOf u q = portOf s q) ∧
    (∀ v, Passes 0x0202 specPortStatus c s → portOf s (statusPort c) = some v →
      Answers c (portStatus s (statusPort c) v)
        (if c.dataPtr = 0 then s else emit (.hostWrite c.fn c.dataPtr (portCounters v)) s) (exec (.portStatus c) s)) ∧
    (Passes 0x0203 specLaneTune c s →
      (c.flag 10 0 = false → ∃ n result, Answers c result { s with freeIx := n } (exec (.laneTune c) s)) ∧
      (c.flag 10 0 = true → ∃ n result, Answers c result { s with
        freeIx := n
        ports := { s.ports with
          lanes := s.ports.lanes.put {} (64 * tuneSet c + tuneLane c) (tuneApply c (laneOf s (tuneSet c) (tuneLane c))) } }
        (exec (.laneTune c) s))) ∧
    (Passes 0x0204 specPortMap c s →
      (∀ v w, mapOp c = 0 → portOf s (mapClient c) = some v → portOf s (64 + mapLine c) = some w →
        Settles c 0 (setPort (64 + mapLine c) { w with
            path := .express, partner := mapClient c, faultPropagate := c.flag 8 3, holdoff := c.u16 12, propagating := false }
          (setPort (mapClient c) { v with
            path := .express, partner := 64 + mapLine c, faultPropagate := c.flag 8 3, holdoff := c.u16 12, propagating := false } s))
          (exec (.portMap c) s)) ∧
      (∀ v, mapOp c = 2 → portOf s (mapPort c) = some v →
        Settles c 0 (setPort (mapPort c) { v with
          path := .buffered, partner := 0, faultPropagate := false, holdoff := 0, propagating := false } s) (exec (.portMap c) s)) ∧
      (∀ v, mapOp c = 3 → portOf s (mapPort c) = some v →
        Settles c 0 (setPort (mapPort c) { v with
          path := .unassigned, partner := 0, faultPropagate := false, holdoff := 0, propagating := false } s) (exec (.portMap c) s)) ∧
      (∀ v w, mapOp c = 1 → portOf s (mapClient c) = some v → portOf s (64 + mapLine c) = some w →
        Settles c 0 (setPort (64 + mapLine c) { w with
            path := .unassigned, partner := 0, faultPropagate := false, holdoff := 0, propagating := false }
          (setPort (mapClient c) { v with
            path := .unassigned, partner := 0, faultPropagate := false, holdoff := 0, propagating := false } s))
          (exec (.portMap c) s))) ∧
    (Passes 0x1004 specDiagLoopback c s → (loopNow c s).1 ≠ loopMode c →
      (c.get ⟨8, 0, 2⟩ = 2 → Answers c (loopMode c + 4 * b2n (c.flag 8 4)) { s with ports := { s.ports with
        auxLoops := s.ports.auxLoops.put (0, false) (c.get ⟨9, 0, 6⟩) (loopMode c, c.flag 8 4) } } (exec (.diagLoopback c) s)) ∧
      (∀ v x, c.get ⟨8, 0, 2⟩ < 2 → portOf s (loopPort c) = some v → v.linkUp = false →
        x = { v with loopback := loopMode c, loopTxOn := c.flag 8 4, looped := [] } →
        Answers c (loopMode c + 4 * b2n (c.flag 8 4)) (setPort (loopPort c) { x with bringup := firstStep x, locked := false } s)
          (exec (.diagLoopback c) s)))

/-! ## Selectors (04_selectors) -/

/-- SEL_CMD by the PF, its fields in range. READ and FIND return in SEL_DATA the entry at the index, or of the key, and say in SEL_STATUS 0,
1 not found, 3 bad index or 4 a failed parity, SEL_DATA being 0 then. CLEAR makes one entry invalid. WRITE stores SEL_DATA at the index
of a direct table, in place of the key's entry in a keyed one, or with no entry of the key at a free place among the key's own. Nothing else
changes but what fill reports tell. -/
def Obligations.SelectorRegisters : Prop :=
  ∀ (w : Word) (t i d : Nat) (s u : State), s.live = true → GateAllows s 0 0 true → cmdRefused w = false → t = cmdTable w → t ≤ 4 →
    i = cmdIndex w → d = bitsOf (selData s) 0 (8 * entryBytes t) → u = setReg 0 (w &&& 0x3ffff773) s →
    let rest := fun (j : Nat) (v : State) => (∀ t' j', t' ≤ 4 → (t' ≠ t ∨ j' ≠ j) → selEntry v t' j' = selEntry s t' j') ∧
      v.selectors.learned = s.selectors.learned ∧ Told { u with selectors := v.selectors, freeIx := v.freeIx
                                                                pair := (markDirty 1 (t * 2 ^ 24 + j) s).pair } v
    let said := fun (r j : Nat) (v : State) =>
      v.selectors.statusResult = r ∧ v.selectors.statusIndex = j ∧ v.selectors.statusEvicted = false
    (exec (.selCmdRead w false) s = .next (
      if tableSize t ≤ i then selDone 3 i false u
      else if (selEntry s t i).parityFailed then selDone 4 i false (setSelData 0 u)
      else selDone 0 i false (setSelData (selEntry s t i).data u))) ∧
    (exec (.selCmdFind w false) s = .next (
      if t ≤ 1 then selDone 3 i false u
      else match findKey s t (selData s) with
        | none => selDone 1 i false u
        | some j => if (selEntry s t j).parityFailed then selDone 4 j false (setSelData 0 u)
          else selDone 0 j false (setSelData (selEntry s t j).data u))) ∧
    (i < tableSize t → (t = 1 → accordOwns s i = false) → bulkHolds s t i = false →
      Gives (exec (.selCmdClear w) s) (fun v => selEntry v t i = { data := 0 } ∧ said 0 i v ∧ rest i v ∧
        (3 ≤ t → entryValid t (selEntry s t i).data = true → ∀ len, len = (lpmEntry (t - 3) (selEntry s t i).data).length →
          (lengthOf v (t - 3) len).clears = (lengthOf s (t - 3) len).clears + 1))) ∧
    (entryRefused t i d = false → entryValid t d = true → bulkHolds s t i = false →
      (t ≤ 1 → i < tableSize t → (t = 1 → accordOwns s i = false) → Gives (exec (.selCmdWrite w) s) (fun v =>
        selEntry v t i = { data := d, order := s.selectors.nextOrder } ∧ said 0 i v ∧ rest i v)) ∧
      (∀ j, 2 ≤ t → findKey s t d = some j → Gives (exec (.selCmdWrite w) s) (fun v =>
        selEntry v t j = { data := d, order := s.selectors.nextOrder } ∧ said 0 j v ∧ rest j v)) ∧
      (∀ k, 2 ≤ t → findKey s t d = none → k ∈ candidates t d → (s.selectors.table t).has k = false →
        Gives (exec (.selCmdWrite w) s) (fun v => ∃ j, j ∈ candidates t d ∧ (s.selectors.table t).has j = false ∧
          selEntry v t j = { data := d, order := s.selectors.nextOrder } ∧ said 0 j v ∧ rest j v)))

/-- The selector commands. SEL_LPM_MODE sets a port's mode and space. SEL_BULK_LOAD of a direct table, every entry of its payload
acceptable, stores each at its index, a VALID = 0 one as a clear, and returns their number. SEL_SHADOW_COMPARE of a direct table returns the
number compared with no record where all agree, and one record with the index and the kind of mismatch where one entry differs. -/
def Obligations.SelectorCommands : Prop :=
  ∀ (c : Cmd) (s : State) (t start n : Nat), t = c.get ⟨8, 0, 3⟩ → start = c.get ⟨12, 0, 18⟩ → n = c.u32 16 →
    (Passes 0x0303 specSelLpmMode c s → Settles c 0 { s with selectors := { s.selectors with
      modes := s.selectors.modes.put {} (c.get ⟨8, 0, 6⟩) { mode := c.get ⟨9, 0, 2⟩, space := c.u8 10 } } } (exec (.selLpmMode c) s)) ∧
    (Passes 0x0301 specSelBulkLoad c s → t ≤ 1 →
      (∀ k, k < n → entryRefused t (start + k) (leAt c.payload (16 * k) 16) = false ∧ (t = 1 → accordOwns s (start + k) = false)) →
      ∃ u : State, Answers c n u (exec (.selBulkLoad c) s) ∧ u = { s with selectors := u.selectors, pair := u.pair } ∧
        (∀ k d, k < n → d = leAt c.payload (16 * k) 16 → (selEntry u t (start + k)).parityFailed = false ∧
          (selEntry u t (start + k)).data = if entryValid t d then d else 0) ∧
        ∀ t' j, t' ≤ 4 → (t' ≠ t ∨ j < start ∨ start + n ≤ j) → selEntry u t' j = selEntry s t' j) ∧
    (Passes 0x0302 specSelShadowCompare c s → t ≤ 1 → (t = 1 → ∀ k, k < n → accordOwns s (start + k) = false) →
      ((∀ k, k < n → (selEntry s t (start + k)).parityFailed = false ∧
          (selEntry s t (start + k)).data = leAt c.payload (16 * k) 16) →
        Answers c n s (exec (.selShadowCompare c) s)) ∧
      ∀ m kind, m < n → (∀ k, k < n → k ≠ m → (selEntry s t (start + k)).parityFailed = false ∧
          (selEntry s t (start + k)).data = leAt c.payload (16 * k) 16) →
        ((selEntry s t (start + m)).parityFailed = true ∨ (selEntry s t (start + m)).data ≠ leAt c.payload (16 * m) 16) →
        kind = (if (selEntry s t (start + m)).parityFailed then 2
          else if entryValid t (selEntry s t (start + m)).data then 0 else 1) →
        Answers c (n + 2 ^ 32) (emit (.hostWrite c.fn (c.u64 24) (leBytes 4 (start + m) ++ leBytes 4 kind)) s)
          (exec (.selShadowCompare c) s))

/-- The selector's upkeep. AGE_TICK ages every learned entry of a pipe by one, up to 127, removes those that reach the limit and counts them;
other pipes' entries stay. The scrub counts and tells an entry that fails its parity, and marks it, or of a learning table removes it. A
length with 1,024 clears has its filter rebuilt, and a failed filter or bitmap is rebuilt. -/
def Obligations.SelectorUpkeep : Prop :=
  ∀ (s : State), s.live = true →
    (∀ pipe limit, pipe < 8 → s.selectors.learned.wf = true → limit = regField s 0x34 8 7 →
      Gives (exec (.ageTick pipe) s) (fun v => ∃ n,
        Told (State.plus (0x200 + 0x80 * (8 + pipe) + 96) n { s with selectors := { s.selectors with learned := v.selectors.learned } }) v ∧
        n = s.selectors.learned.countIf (fun k e => k / 4096 == pipe && limit != 0 && decide (limit ≤ min 127 (e.age + 1))) ∧
        ∀ k, v.selectors.learned.find k = (match s.selectors.learned.find k with
          | none => none
          | some e => if k / 4096 ≠ pipe then some e
            else if limit ≠ 0 ∧ limit ≤ min 127 (e.age + 1) then none else some { e with age := min 127 (e.age + 1) }))) ∧
    (∀ t pipe i, t ≤ 4 → i < tableSize t → (selEntry s t i).parityFailed = false →
      Gives (exec (.selectorScrub [(t, pipe, i)]) s) (Told (putEntry t i { selEntry s t i with parityFailed := true }
        (setReg (0x40 + 4 * t) (BitVec.ofNat 32 (min 0xffff ((reg s (0x40 + 4 * t)).toNat + 1))) s)))) ∧
    (∀ pipe i, i < 4096 → Gives (exec (.selectorScrub [(5, pipe, i)]) s) (Told
      (setReg 0x54 (BitVec.ofNat 32 (min 0xffff ((reg s 0x54).toNat + 1))) { s with selectors := { s.selectors with
        learned := s.selectors.learned.erase (4096 * pipe + i) } }))) ∧
    ∀ fam len l, l = lengthOf s fam len →
      (1024 ≤ l.clears → Gives (exec (.bloomRebuild fam len) s) (fun v =>
        lengthOf v fam len = { l with clears := l.clears - 1024, build := l.build + 1 } ∧
        v = { s with selectors := { s.selectors with lengths := v.selectors.lengths } } ∧
        ∀ g m, 256 * g + m ≠ 256 * fam + len → lengthOf v g m = lengthOf s g m)) ∧
      (l.parityFailed = true → Gives (exec (.filterParityRebuild fam len) s) (fun v =>
        lengthOf v fam len = { l with parityFailed := false, build := l.build + 1 } ∧
        v = { s with selectors := { s.selectors with lengths := v.selectors.lengths } } ∧
        ∀ g m, 256 * g + m ≠ 256 * fam + len → lengthOf v g m = lengthOf s g m))

/-! ## Secure channels (05_secure_channels, 06_key_rollover) -/

/-- The SC commands. SC_CREATE writes the entry that its fields give at the lowest free number and returns the number. SC_DELETE of an SC
without SAs removes the entry and its ROLL instant; with SAs it also makes their slots invalid, and stays running, with the SC and the SAs
locked, until they drain. SC_TENANT_ASSIGN changes the SC's owner, and both functions are told. -/
def Obligations.ScCommands : Prop :=
  ∀ (c : Cmd) (s : State), (∀ r ∈ s.running, r.cmd ≠ c) →
    (Passes 0x0401 specScCreate c s → ∃ (n : Nat) (e : Sc), n < 131072 ∧ scOf s n = none ∧ (∀ m, m < n → scOf s m ≠ none) ∧
      e = { sci := c.u64 8, receive := c.flag 16 0, suite := c.get ⟨16, 1, 2⟩, co := c.get ⟨16, 3, 2⟩, replayProtect := c.flag 17 2
            accord := false, includeSci := c.flag 16 5, es := c.flag 16 6, scb := c.flag 16 7, tagsInClear := c.get ⟨17, 0, 2⟩
            tenant := c.fn, port := c.get ⟨18, 0, 6⟩, replayWindow := c.u32 20
            overlap := if c.flag 16 0 then (if c.u16 24 = 0 then 20 else c.u16 24) else 0 } ∧
      Answers c n (markDirty 2 n (setSc n e s)) (exec (.scCreate c) s)) ∧
    (∀ n e, Passes 0x0402 specScDelete c s → n = c.get ⟨8, 0, 17⟩ → scOf s n = some e →
      (e.sas = [] → Answers c 0 (markDirty 2 n { s with
        channels := { s.channels with scs := s.channels.scs.erase n }, time := { s.time with rolls := s.time.rolls.erase n } })
        (exec (.scDelete c) s)) ∧
      (e.sas ≠ [] → (∀ a ∈ e.sas, ∃ x, saOf s a = some x ∧ x.sc = n) → ∃ t : State, exec (.scDelete c) s = .next t ∧
        t = { s with channels := { s.channels with scs := t.channels.scs, sas := t.channels.sas }, pair := t.pair
                     time := { s.time with rolls := s.time.rolls.erase n }
                     running := s.running ++ [{ cmd := c, cls := .a, locks := Lock.sc n :: e.sas.map Lock.sa, wait := .work }] } ∧
        scOf t n = none ∧ (∀ m, m ≠ n → scOf t m = scOf s m) ∧ (∀ a, a ∉ e.sas → saOf t a = saOf s a) ∧
        ∀ a x, a ∈ e.sas → saOf s a = some x →
          saOf t a = some { x with draining := true, deadline := none, retiring := false })) ∧
    (∀ n e, Passes 0x0407 specScTenantAssign c s → n = c.get ⟨8, 0, 17⟩ → scOf s n = some e → ∃ u : State,
      Told (markDirty 2 n (setSc n { e with tenant := c.get ⟨12, 0, 5⟩ } s)) u ∧ Answers c 0 u (exec (.scTenantAssign c) s))

/-- SA_INSTALL writes the SA that its fields and key block give at the lowest free number, in the AN slot named: of a receive SC it becomes
NEXT_AN, of a transmit SC the encoding SA where asked or where there is none, the old one superseded and the arming cleared. A wrapped key that
does not unwrap ends with INTEGRITY. SA_RETIRE starts the overlap window, or empties the slot and waits for the drain. SA_STATUS reports the slot
and changes nothing. -/
def Obligations.SaCommands : Prop :=
  ∀ (c : Cmd) (e : Sc) (an sc : Nat) (s : State), sc = c.get ⟨8, 0, 17⟩ → an = c.get ⟨12, 0, 2⟩ → scOf s sc = some e →
    (∀ r ∈ s.running, r.cmd ≠ c) →
    (∀ root key bytes p activate, Passes 0x0403 specSaInstall c s → root = decide (c.u16 14 = 0xffff) → p = slotOf s (c.u16 14) →
      activate = (!e.receive && (c.flag 12 3 || (e.slot e.encAn).isNone)) →
      bytes = c.payload.take (if suite128 e.suite then (if c.flag 12 2 then 24 else 16) else (if c.flag 12 2 then 40 else 32)) →
      (∀ m, e.slot e.encAn = some m → saOf s m ≠ none) → (root = true ∨ (p.corrupt = false ∧ p.latent = false)) →
      key = (if c.flag 12 2 then Config.unwrap p.key bytes else some (leNat bytes)) →
      match key with
      | none => Gives (exec (.saInstall c) s) (Answered c stIntegrity 0 0 (State.plus 0x3100 1 s))
      | some k => ∃ n u, saOf s n = none ∧ (∀ m, m < n → saOf s m ≠ none) ∧ Answers c n u (exec (.saInstall c) s) ∧
        Told { (if c.flag 12 2 then State.plus 0x3100 1 s else s) with
          channels := { s.channels with scs := u.channels.scs, sas := u.channels.sas }, pair := u.pair } u ∧
        saOf u n = some { key := k, nextPn := c.u64 16
                          low := if e.receive then c.u64 16 else if c.u64 24 = 0 then defaultThreshold e.suite else c.u64 24
                          salt := bitsOf c.bits 256 96, ssci := c.u32 44, receive := e.receive, key128 := suite128 e.suite
                          accord := false, parentSlot := if root then 0 else c.u16 14, parentIsRoot := root
                          parentGen := if root then s.attar.rootGen else p.gen + s.attar.rootGen, an := an, sc := sc } ∧
        scOf u sc = some { e.setSlot an (some n) with
          nextAn := if e.receive then an else e.nextAn, encAn := if activate then an else e.encAn
          armedPn := if !e.receive && c.flag 12 3 then false else e.armedPn
          armedTime := if !e.receive && c.flag 12 3 then false else e.armedTime
          rollFired := if !e.receive && c.flag 12 3 then false else e.rollFired } ∧
        (∀ m, m ≠ sc → scOf u m = scOf s m) ∧
        ∀ m, m ≠ n → saOf u m = if !e.receive ∧ c.flag 12 3 ∧ e.slot e.encAn = some m then
          (saOf s m).map (fun x => { x with superseded := true }) else saOf s m) ∧
    (∀ n a, Passes 0x0404 specSaRetire c s → e.slot an = some n → saOf s n = some a → a.sc = sc → a.an = an →
      (c.flag 12 2 = true → Answers c 0 (setSa n { a with retiring := true, deadline := some (msNow s + 100 * e.overlap) } s)
        (exec (.saRetire c) s)) ∧
      (c.flag 12 2 = false → ∃ e', exec (.saRetire c) s = .next (setSc sc e'
        (markDirty 3 n (markDirty 2 sc (setSa n { a with draining := true, deadline := none, retiring := false } { s with
          running := s.running ++ [{ cmd := c, cls := .a, locks := [.sc sc, .sa n], wait := .work }] })))) ∧
        e' = if e.nextAn = an ∧ (e.armedPn ∨ e.armedTime) then
          { e.setSlot an none with armedPn := false, armedTime := false, rollFired := false } else e.setSlot an none)) ∧
    (∀ enc, Passes 0x0405 specSaStatus c s → enc = (!e.receive && e.encAn == an) →
      (e.slot an = none → Answers c (16 * b2n enc + 2 ^ 8 * (if e.receive then 0 else e.encAn % 4))
        (if c.dataPtr = 0 then s else emit (.hostWrite c.fn c.dataPtr (List.replicate 64 0)) s) (exec (.saStatus c) s)) ∧
      ∀ n a, e.slot an = some n → saOf s n = some a →
        Answers c (saState a enc + 16 * b2n enc + 32 * b2n a.statsIncomplete +
          64 * b2n ((e.armedPn || e.armedTime) && e.nextAn == an) + 2 ^ 8 * (if e.receive then 0 else e.encAn % 4) + 2 ^ 32 * n)
          (if c.dataPtr = 0 then s else emit (.hostWrite c.fn c.dataPtr (saBlock s n)) s) (exec (.saStatus c) s))

/-- Rolling over. SA_ROLL disarms (0), arms for the threshold (2), the scheduled time (3) or both (4), and sets the threshold where one is
given; with MODE 1 it switches at once: the named slot becomes the encoding slot, the arming is cleared and the old SA is superseded, or with an
unusable target it ends with INTEGRITY. RESULT gives ENC_AN and the arming. At the scheduled time an SC armed for it latches the fire flag, and
another SC is only told. -/
def Obligations.SaRoll : Prop :=
  ∀ (s : State) (sc : Nat) (e : Sc), scOf s sc = some e →
    (∀ (c : Cmd) (an mode : Nat), Passes 0x0406 specSaRoll c s → sc = c.get ⟨8, 0, 17⟩ → an = c.get ⟨12, 0, 2⟩ → mode = c.get ⟨12, 2, 3⟩ →
      (mode = 1 → (switchRefused s e an).isSome = true → Gives (exec (.saRoll c) s) (Answered c stIntegrity 0 0 s)) ∧
      ((mode = 1 → switchRefused s e an = none) → ∃ (u : State) (e' : Sc),
        Answers c (e'.encAn % 4 + 4 * b2n e'.armedPn + 8 * b2n e'.armedTime) u (exec (.saRoll c) s) ∧
        Told { s with channels := { s.channels with scs := u.channels.scs, sas := u.channels.sas }, pair := u.pair } u ∧
        e' = (if mode = 0 then { e with armedPn := false, armedTime := false, rollFired := false }
          else if mode = 1 then { e with encAn := an, nextAn := an, armedPn := false, armedTime := false, rollFired := false }
          else { e with nextAn := an, armedPn := mode != 3, armedTime := mode != 2, rollFired := false }) ∧
        scOf u sc = some e' ∧ (∀ m, m ≠ sc → scOf u m = scOf s m) ∧
        ∀ n, saOf u n = if e.slot e.encAn = some n then (saOf s n).map (fun a => { a with
          low := if c.u64 16 = 0 then a.low else c.u64 16, superseded := a.superseded || decide (mode = 1) }) else saOf s n)) ∧
    (∀ sec ns, s.live = true → s.time.rolls.find sc = some (sec, ns) → sec * 1000000000 + ns ≤ toTotal s →
      Gives (exec (.rollFire sc) s) (Told { s with
        time := { s.time with rolls := s.time.rolls.erase sc }
        channels := if e.armedTime then { s.channels with scs := s.channels.scs.set sc { e with rollFired := true } } else s.channels }))

/-- Upkeep of SCs and SAs. SC_PARITY_RESTORE rewrites a failed entry from its copy where the statistics store is available, and tells. SA_FLUSH
moves an SA's deltas to the merge buffer. At a retirement deadline the slot is invalid and the SA drains. A drained SA's final counters join its
SC's totals, its entry is free, and the command that waited for it completes. -/
def Obligations.SaUpkeep : Prop :=
  ∀ (s : State), s.live = true →
    (∀ sc e, scOf s sc = some e → e.parityFailed = true → Gives (exec (.scParityRestore sc) s) (Told (
      if s.reservoir.statsChannel.isSome ∧ s.reservoir.statsMoving = false then setSc sc { e with parityFailed := false } s else s))) ∧
    ∀ n a, saOf s n = some a →
      (s.reservoir.statsChannel.isSome = true → s.reservoir.statsMoving = false → s.watchdog.hk.up = true → mergeFull s = false →
        Gives (exec (.saFlush n) s) (fun t =>
          t = { s with channels := { s.channels with sas := t.channels.sas, merge := t.channels.merge } } ∧
          saOf t n = some { a with deltas := {} } ∧ (∀ m, m ≠ n → saOf t m = saOf s m) ∧
          (∀ m, m ≠ n → t.channels.merge.get {} m = s.channels.merge.get {} m) ∧
          t.channels.merge.get {} n = Counts.add (s.channels.merge.get {} n) { a.deltas with incomplete := a.statsIncomplete })) ∧
      (∀ d e, a.deadline = some d → s.pair.mode ≠ .standby → scOf s a.sc = some e → Gives (exec (.retirementDeadline n) s) (fun t =>
        Told { s with channels := { s.channels with scs := t.channels.scs, sas := t.channels.sas }, pair := t.pair } t ∧
        saOf t n = some { a with draining := true, deadline := none, retiring := false } ∧ (∀ m, m ≠ n → saOf t m = saOf s m) ∧
        (∀ m, m ≠ a.sc → scOf t m = scOf s m) ∧ (e.slot a.an = some n → (scOf t a.sc).bind (fun x => x.slot a.an) = none))) ∧
      (a.draining = true → saBusy s n = false → ∀ base, base = { s with
          channels := { s.channels with
            scTotals := s.channels.scTotals.put {} a.sc (Counts.add (s.channels.scTotals.get {} a.sc) (saCounts s n))
            saTotals := s.channels.saTotals.erase n, merge := s.channels.merge.erase n, sas := s.channels.sas.erase n }
          running := [], accord := { s.accord with heldPis := (s.accord.heldPis.map (fun h => { h with
            sas := h.sas.filter (· != n) })).filter (fun h => h.sas != []) } } →
        (s.running = [] → exec (.saDrainComplete n) s = .next base) ∧
        (∀ r, s.running = [r] → (r.cmd.opcode = 0x0404 ∨ r.cmd.opcode = 0x0402) → r.locks = [.sc a.sc, .sa n] → r.wait = .work →
          r.xfer = none → Gives (exec (.saDrainComplete n) s) (Answered r.cmd stOk 0 0 base)))

/-! ## Accord (07_accord) -/

/-- Accord's commands. ACC_COMMUNITY_SET writes a community with the fields given, an existing one keeping its owner and sequence numbers, or
with DELETE marks it for teardown. ACC_PEER_LIST writes a page of 2,048 bytes, or the records from an index on with the next index in RESULT.
ACC_PEER_DROP tears the peer down, or leaves it SUPPRESSED without keys. ACC_POLICY sets the parameters, 0 standing for a default, and
reports the old ones. Nothing else changes. -/
def Obligations.AccordCommands : Prop :=
  ∀ (c : Cmd) (s : State), s.noWishes = true → s.keysSettled = true →
    (∀ ci new, Passes 0x0601 specAccCommunitySet c s → ci = c.get ⟨8, 0, 6⟩ →
      new = ({ id := c.u32 12, suite := c.get ⟨9, 0, 2⟩, co := c.get ⟨9, 2, 2⟩, atTime := c.flag 9 4, keySlot := c.u16 10
               portMask := c.u64 16, replayWindow := c.u32 24, overlap := if c.u16 28 = 0 then 20 else c.u16 28
               hold := if c.u16 30 = 0 then 20 else c.u16 30, rekey := c.u32 32, rxQueue := c.get ⟨36, 0, 17⟩
               rxBuffered := c.get ⟨36, 17, 1⟩ == 1, rxMeterEn := c.get ⟨36, 18, 1⟩ == 1, rxMeter := c.get ⟨40, 0, 18⟩
               rollLead := if c.u16 44 = 0 then 100 else c.u16 44, owner := c.fn } : Community) →
      (c.flag 8 6 = false → commOf s ci = none → keySlotUsable s (c.u16 10) = true →
        Settles c 0 (setComm ci new s) (exec (.accCommunitySet c) s)) ∧
      (∀ old, commOf s ci = some old → c.flag 8 6 = false → keySlotUsable s (c.u16 10) = true → old.keyLost = false →
        s.accord.peers.cells.all (fun p => p.2.community != ci) = true →
        Settles c 0 (setComm ci { new with owner := old.owner, seqs := old.seqs } s) (exec (.accCommunitySet c) s)) ∧
      (∀ old, commOf s ci = some old → c.flag 8 6 = true →
        Settles c 0 (setComm ci { old with tearing := true } s) (exec (.accCommunitySet c) s))) ∧
    (Passes 0x0602 specAccPeerList c s →
      (c.flag 8 0 = true → Answers c 2048 (emit (.hostWrite c.fn c.dataPtr (pageBytes (s.accord.pages.get {} (c.get ⟨11, 0, 4⟩)).peers)) s)
        (exec (.accPeerList c) s)) ∧
      (∀ all, c.flag 8 0 = false → all = s.accord.peers.keysIf (fun pi p => decide (c.u32 12 ≤ pi) &&
          (!c.flag 9 6 || p.community == c.get ⟨9, 0, 6⟩) && (!c.flag 10 6 || p.port == c.get ⟨10, 0, 6⟩) &&
          (c.fn == 0 || peerOwner s p == c.fn)) →
        Answers c (min (c.u32 16) all.length + 2 ^ 32 * (all[c.u32 16]?).getD 16384)
          (if all = [] then s else emit (.hostWrite c.fn c.dataPtr ((all.take (c.u32 16)).map (fun pi =>
            match peerOf s pi with | some p => peerRecord s pi p | none => [])).flatten) s) (exec (.accPeerList c) s))) ∧
    (∀ pi p, Passes 0x0603 specAccPeerDrop c s → pi = c.get ⟨8, 0, 14⟩ → peerOf s pi = some p →
      ∃ u : State, Answers c 0 u (exec (.accPeerDrop c) s) ∧
        (c.flag 10 1 = false → PeerGone pi p s u) ∧
        (c.flag 10 1 = true → PeerWork pi s u ∧ (∀ n, p.rxSc = some n ∨ p.txSc = some n → scOf u n = none) ∧
          ∃ q, peerOf u pi = some q ∧ q.state = .suppressed ∧ q.rxSc = none ∧ q.txSc = none ∧ q.exchange = none)) ∧
    (Passes 0x0604 specAccPolicy c s → Settles c 0 (markDirty 7 0
      { (if c.dataPtr = 0 then s else emit (.hostWrite c.fn c.dataPtr (policyBlock s)) s) with
        accord := { s.accord with
          etherType := c.u16 8, helloMs := if c.u16 10 = 0 then 250 else c.u16 10
          groupMac := beNat (leBytes 6 (bitsOf c.bits 96 48)), baseMac := some (beNat (leBytes 6 (bitsOf c.bits 144 48)))
          mtu := if c.u16 24 = 0 then 1500 else c.u16 24, enable := c.flag 26 0, discovery := c.flag 26 1
          suppressS := if c.u16 28 = 0 then 60 else c.u16 28, maxExchanges := if c.u16 30 = 0 then 1024 else c.u16 30 }
        pair := { s.pair with sharedMac := s.pair.sharedMac.map (fun _ => beNat (leBytes 6 (bitsOf c.bits 144 48))) } })
      (exec (.accPolicy c) s))

/-- What arrives. A whole message that is well formed, usable, authentic where its MAC covers it alone, and no replay, joins the engine's queue
and is counted. A fragment's time runs out. A HELLO of a known peer renews it, and one of an unknown peer makes it DISCOVERED: the higher
DEVICE_ID opens, the other waits. A FAREWELL ends a peer that holds keys. The oldest discovery record is used, a second one within HELLO_MS
is not. -/
def Obligations.AccordArrivals : Prop :=
  ∀ (s : State), s.live = true →
    (∀ port frame rest ci c pay whole m, s.accord.arrived = (port, frame) :: rest → pay = frame.drop 14 → s.accord.enable = true →
      (s.accord.messages.filter (fun m => m.port == lookPort s port)).length < 64 → s.accord.messages.length < 1024 →
      16 ≤ pay.length → byteAt pay 0 / 16 = 1 → bitOf (byteAt pay 1) 7 = false → commById s (beAt pay 4 4) (lookPort s port) = some ci →
      commOf s ci = some c → 48 ≤ beAt pay 2 2 → 16 + beAt pay 2 2 ≤ pay.length →
      whole = pay.take 1 ++ beBytes 1 0 ++ slice pay 2 (14 + beAt pay 2 2) →
      m = ({ port := lookPort s port, wire := port, src := beAt frame 6 6, community := ci, text := textOf whole
             mac := whole.drop (whole.length - 48) } : Message) →
      malformed m.text = false → c.keyLost = false → keySlotUsable s c.keySlot = true →
      (textType m.text = 4 ∨ (textType m.text = 3 ∧ byteAt m.text 32 = 0) ∨ m.mac = authMac (slotOf s c.keySlot).key c.id m.text) →
      replayed s ci m.port m.src whole = false →
      Gives (exec (.accFrameRx port) s) (Told (State.plus 0x2108 1 { s with accord := { s.accord with
        arrived := rest, messages := s.accord.messages ++ [m] } }))) ∧
    (∀ f rest, s.accord.fragments = f :: rest →
      Gives (exec (.accFragTimeout f.port) s) (Told (State.plus 0x2138 1 { s with accord := { s.accord with fragments := rest } }))) ∧
    (∀ m rest b, s.accord.messages = m :: rest → textType m.text = 1 → b = textBody m.text → beAt b 0 8 ≠ accordId s →
      bitOf (byteAt b 14) 0 = false → accordLeads s = true → s.accord.epoch.isSome = true → stillEnabled s m = true →
      s.noWishes = true →
      (∀ pi p, peerAt s m.community m.port m.src = some pi → peerOf s pi = some p → p.state ≠ .suppressed → p.epoch = beAt b 8 4 →
        Gives (exec (.accHelloRx m.port) s) (fun t => PeerWork pi s t ∧ t.accord.messages = rest ∧
          peerOf t pi = some { p with seenMs := msNow s, helloMs := beAt b 12 2, seq := max p.seq (textSeq m.text)
                                      state := if p.state = .lost then .active else p.state })) ∧
      (∀ pi l q, s.watchdog.acc.up = true → peerAt s m.community m.port m.src = none → s.accord.peers.firstFree 0 16384 = some pi →
        freePi s m.port = some l →
        q = ({ community := m.community, port := m.port, mac := m.src, state := .discovered, deviceId := beAt b 0 8
               epoch := beAt b 8 4, seq := textSeq m.text, helloMs := beAt b 12 2, localPi := l, seenMs := msNow s } : Peer) →
        Gives (exec (.accHelloRx m.port) s) (fun t => t.accord.messages = rest ∧
          if beAt b 0 8 < accordId s then Opens pi q false s t
          else PeerWork pi s t ∧ peerOf t pi = some { q with waiting := true }))) ∧
    (∀ m rest pi p, s.accord.messages = m :: rest → textType m.text = 7 → accUp s = true → engineRuns s = true →
      stillEnabled s m = true → beAt (textBody m.text) 0 8 ≠ accordId s → s.noWishes = true →
      peerAt s m.community m.port m.src = some pi → peerOf s pi = some p → p.state = .active ∨ p.state = .lost →
      Gives (exec (.accFarewellRx m.port) s) (fun t => t.accord.messages = rest ∧ PeerGone pi p s t)) ∧
    (∀ port mac rest fresh, s.accord.records = (port, mac) :: rest → engineRuns s = true →
      fresh = s.accord.solicited.filter (fun r => decide (msNow s < r.2.2 + s.accord.helloMs)) →
      (fresh.any (fun r => r.1 == port && r.2.1 == mac) = true →
        exec .discoveryRecord s = .next { s with accord := { s.accord with records := rest, solicited := fresh } }) ∧
      (∀ ci c, fresh.any (fun r => r.1 == port && r.2.1 == mac) = false → s.accord.communities.keys = [ci] → commOf s ci = some c →
        bitOf c.portMask port = true → c.tearing = false → c.keyLost = false → peerAt s ci port mac = none →
        mayTransmit s (64 + port) = true →
        exec .discoveryRecord s = .next (sendHello ci port mac true { s with accord := { s.accord with
          records := rest, solicited := fresh ++ [(port, mac, msNow s)] } })))

/-- The exchange. An OFFER of a known peer with no exchange open is refused with the first reason that holds, waits for the entropy unit, or
is answered: the peer's exchange is then ACCEPTED, or ends at a zero shared secret. A refusing ACCEPT ends the exchange with its reason; an
authentic one leads to CONFIRMED where its values hold. A CONFIRM completes the agreement at either end. A ROLL and its acknowledgement
arm the transmit SC. -/
def Obligations.AccordExchange : Prop :=
  ∀ (s u : State) (m : Message) (rest : List Message) (pi : Nat) (p q : Peer) (c : Community), s.live = true → s.noWishes = true →
    accUp s = true → engineRuns s = true → stillEnabled s m = true → beAt (textBody m.text) 0 8 ≠ accordId s → s.accord.messages = m :: rest → peerAt s m.community m.port m.src = some pi →
    peerOf s pi = some p → commOf s m.community = some c → p.community = m.community → p.state ≠ .suppressed →
    q = { p with seq := max p.seq (textSeq m.text), waiting := if textType m.text = 2 then false else p.waiting } → u = setPeer pi q { s with accord := { s.accord with messages := rest } } →
    (∀ b, b = textBody m.text → textType m.text = 2 → beAt b 12 4 = p.epoch → p.exchange = none →
      (∀ r, offerRefusal u c q m = some r → exec (.accOfferRx m.port) s = .next (refuseOffer m r (if r = 6 then accDrop 3 m.frames u else u))) ∧
      (offerRefusal u c q m = none → entServes u 3 = false → Gives (exec (.accOfferRx m.port) s) (fun t => PeerWork pi s t ∧
        ∃ x, peerOf t pi = some { q with exchange := some x } ∧ x.waits = true ∧ x.stage = .done ∧ x.offer = m.text)) ∧
      (offerRefusal u c q m = none → entServes u 3 = true → Gives (exec (.accOfferRx m.port) s) (fun t => PeerWork pi s t ∧
        t.accord.messages = rest ∧ ∃ v, peerOf t pi = some v ∧ v.peerPi = beAt b 8 2 ∧ v.wish = none ∧
          ((v.exchange = none ∧ v.lastFail = 9) ∨ ∃ x, v.exchange = some x ∧ x.stage = .accepted ∧ x.initiator = false ∧
            x.number = textExchange m.text ∧ x.rxAn = byteAt b 11 % 4 ∧ x.offer = m.text)))) ∧
    (∀ x b, p.exchange = some x → b = textBody m.text → textType m.text = 3 → x.initiator = true → x.stage = .offered →
      x.number = textExchange m.text →
      (byteAt b 16 ≠ 0 → Gives (exec (.accAcceptRx m.port) s) (Ended pi p x (byteAt b 16) s)) ∧
      (byteAt b 16 = 0 → m.mac = authMac (slotOf s c.keySlot).key c.id (x.offer ++ m.text) → beAt b 12 4 = p.epoch →
        x.keyGen = issuedGen s false c.keySlot → roomFor s c p = true →
        (p.hasKeys = true → ∀ n e, p.rxSc = some n → scOf s n = some e → e.slot (byteAt b 11 % 4) = none) →
        let ssX := x25519Shared x.x25519 (slice b 52 32)
        let prk := exchangePrk (slice (textBody x.offer) 16 32) (slice b 20 32) ssX (kemOpen x.kem (slice b 84 1568))
        Gives (exec (.accAcceptRx m.port) s) (fun t =>
          if ssX = 0 ∨ slice b 1652 48 ≠ keyConfirm prk 0x52 (transcript x.offer m.text) c.id then Ended pi p x 9 s t
          else PeerWork pi s t ∧ ∃ v y, peerOf t pi = some v ∧ v.peerPi = beAt b 8 2 ∧ v.exchange = some y ∧ y.stage = .confirmed ∧
            y.prk = prk ∧ y.rxAn = byteAt b 11 % 4 ∧ y.accept = m.text))) ∧
    (∀ x b final, p.exchange = some x → b = textBody m.text → textType m.text = 4 → x.number = textExchange m.text →
      final = bitOf (byteAt b 8) 0 → (if final then x.initiator = true ∧ x.stage = .confirmed else x.initiator = false ∧ x.stage = .accepted) →
      m.mac = authMac (slotOf s c.keySlot).key c.id (x.offer ++ x.accept ++ m.text) →
      slice b 16 48 = keyConfirm x.prk (if final then 0x46 else 0x49) (transcript x.offer x.accept) c.id →
      Gives (exec (.accConfirmRx m.port) s) (fun t => PeerWork pi s t ∧ ∃ v y, peerOf t pi = some v ∧
        v.state = (if p.state = .discovered then .active else p.state) ∧ v.agreements = (p.agreements + 1) % 2 ^ 32 ∧
        v.agreedMs = msNow s ∧ v.backoff = none ∧ v.timeouts = 0 ∧ v.exchange = some y ∧ y.stage = .done)) ∧
    (∀ x b n e, p.exchange = some x → b = textBody m.text → textType m.text = 5 → x.number = textExchange m.text → x.stage = .done →
      x.initiator = bitOf (byteAt b 8) 2 → x.last ≠ m.text ++ m.mac → x.rollWait = true → p.txSc = some n → scOf s n = some e →
      Gives (exec (.accRollRx m.port) s) (fun t => PeerWork pi s t ∧
        (∃ w, (x.initiator = true → w = x.sent) ∧
          peerOf t pi = some { q with exchange := some { x with rollWait := false, last := m.text ++ m.mac, sent := w } }) ∧
        scOf t n = some { e with nextAn := x.txAn, armedPn := true, armedTime := true, rollFired := false } ∧
        t.time.rolls.find n = some (if x.initiator then (x.rollSec, x.rollNs) else (beAt b 16 6, beAt b 22 4))))

/-- Timers of peers. HELLO_INTERVAL sends a HELLO for each community and port. A peer missed for three intervals is LOST, or gone if only
DISCOVERED; HOLD takes a LOST peer's keys; suppression ends; a wait or a backoff or a rekey interval opens an exchange; old, superseded
and failed SAs are retired; a deleted community's peers go, then its index; a failed line direct entry is rewritten. -/
def Obligations.AccordPeerTimers : Prop :=
  ∀ (s : State), s.live = true → accUp s = true → s.noWishes = true →
    (engineRuns s = true → s.keysSettled = true →
      Gives (exec .helloInterval s) (fun t => AccordWork s t ∧ ∀ j, peerOf t j = peerOf s j) ∧
      ∀ ci c port, s.accord.communities.keys = [ci] → commOf s ci = some c → c.tearing = false → c.keyLost = false → port < 64 →
        (∀ n, n < 64 → bitOf c.portMask n = decide (n = port)) → mayTransmit s (64 + port) = true →
        exec .helloInterval s = .next (sendHello ci port s.accord.groupMac false s)) ∧
    (engineRuns s = true → Gives (exec .peerMissCheck s) (fun t => AccordWork s t ∧ ∀ j p, peerOf s j = some p → peerOf t j =
      if msNow s < p.seenMs + 3 * p.helloMs ∨ p.state = .lost ∨ p.state = .suppressed then some p
      else if p.state = .active then some { p with state := .lost } else none)) ∧
    (∀ ci c, s.accord.peers.wf = true → commOf s ci = some c → c.tearing = true →
      Gives (exec (.communityTeardown ci) s) (fun t => AccordWork s t ∧ commOf t ci = none ∧
        (∀ j p, peerOf s j = some p → p.community = ci → peerOf t j = none) ∧
        ∀ j p, peerOf s j = some p → p.community ≠ ci → peerOf t j = some p)) ∧
    (∀ n a, saOf s n = some a → a.accord = true → a.superseded = true → a.draining = false →
      Gives (exec (.supersededRetire n) s) (fun t => AccordWork s t ∧ (∀ m, m ≠ n → saOf t m = saOf s m) ∧
        saOf t n = some { a with draining := true, deadline := none, retiring := false })) ∧
    ∀ pi p, peerOf s pi = some p →
      (p.state = .lost → Gives (exec (.peerHoldExpiry pi) s) (PeerGone pi p s)) ∧
      (p.state = .suppressed → exec (.peerSuppressEnd pi) s =
        .next (markDirty 5 pi { s with accord := { s.accord with peers := s.accord.peers.erase pi } })) ∧
      (p.state = .discovered → p.waiting = true →
        Gives (exec (.discoveredWaitExpiry pi) s) (Opens pi { p with waiting := false } false s)) ∧
      (∀ rekey, p.backoff = some rekey → p.state ≠ .suppressed →
        Gives (exec (.exchangeBackoffExpiry pi) s) (Opens pi { p with backoff := none } rekey s)) ∧
      (∀ c, commOf s p.community = some c → c.rekey ≠ 0 → p.state = .active ∨ p.state = .lost →
        Gives (exec (.rekeyIntervalExpiry pi) s) (Opens pi p true s)) ∧
      Gives (exec (.reappearanceHoldExpiry pi) s) (fun t => PeerWork pi s t ∧ peerOf t pi = some { p with oldRx := [] } ∧
        ∀ n, saOf t n = (saOf s n).map (fun a => if n ∈ p.oldRx ∧ a.receive ∧ p.rxSc = some a.sc ∧ a.draining = false then
          { a with draining := true, deadline := none, retiring := false } else a)) ∧
      (∀ c rx, (selEntry s 1 (lineIndex p)).parityFailed = true → commOf s p.community = some c → p.rxSc = some rx →
        exec (.lineEntryRewrite pi) s =
          .next (markDirty 1 (2 ^ 24 + lineIndex p) (putEntry 1 (lineIndex p) { data := accordEntry c p rx } s)))

/-- Timers of exchanges. OFFER and CONFIRM are resent up to three times; then, or with no CONFIRM for an ACCEPT, the exchange ends with
reason 8 and its SAs are retired: an initiator's transmit SA, both of a responder. An unanswered ROLL is resent and after the third arms the
SC; a responder without ROLL switches at once. SAs of an exchange that a restart ended go unless a frame has verified. An OFFER that
waited too long for entropy is refused with 5. -/
def Obligations.AccordExchangeTimers : Prop :=
  ∀ (s : State) (pi : Nat) (p : Peer), s.live = true → accUp s = true → s.noWishes = true → peerOf s pi = some p →
    let out := fun (n : Option Nat) (t : State) => ∀ k a, n = some k → saOf s k = some a →
      saOf t k = some { a with draining := true, deadline := none, retiring := false }
    (∀ x, p.exchange = some x →
      (∀ again, again = Host.Outcome.next (sendText p.port p.mac x.sent
          (setPeer pi { p with exchange := some { x with resends := x.resends + 1 } } s)) → x.initiator = true → x.resends < 3 →
        (x.stage = .offered → exec (.offerRetransmit pi) s = again) ∧ (x.stage = .confirmed → exec (.confirmRetransmit pi) s = again)) ∧
      (x.initiator = true → x.stage = .offered → Gives (exec (.offerGiveUp pi) s) (Ended pi p x 8 s)) ∧
      (x.initiator = true → x.stage = .confirmed → Gives (exec (.confirmGiveUp pi) s) (fun t => Ended pi p x 8 s t ∧ out x.txSa t)) ∧
      (x.initiator = false → x.stage = .accepted → Gives (exec (.acceptTimeout pi) s) (fun t => Ended pi p x 8 s t ∧
        (x.created = false → out x.rxSa t ∧ out x.txSa t) ∧
        (x.created = true → ∀ n, p.rxSc = some n ∨ p.txSc = some n → scOf t n = none))) ∧
      (x.initiator = true → x.rollWait = true → x.resends < 3 → Gives (exec (.rollResend pi) s) (fun t => PeerWork pi s t ∧
        peerOf t pi = some { p with exchange := some { x with resends := x.resends + 1, rollWait := decide (x.resends < 2) } } ∧
        ∀ n e, x.resends = 2 → p.txSc = some n → scOf s n = some e →
          scOf t n = some { e with nextAn := x.txAn, armedPn := true, armedTime := true, rollFired := false } ∧
          t.time.rolls.find n = some (x.rollSec, x.rollNs))) ∧
      (∀ n e, x.initiator = false → x.rollWait = true → p.newSci = false → p.txSc = some n → scOf s n = some e →
        switchRefused s e x.txAn = none → Gives (exec (.rollWaitExpiry pi) s) (fun t => PeerWork pi s t ∧
          peerOf t pi = some { p with exchange := some { x with rollWait := false } } ∧
          ∃ v, scOf t n = some v ∧ v.encAn = x.txAn ∧ v.nextAn = x.txAn ∧
            (e.encAn ≠ 4 → v.armedPn = false ∧ v.armedTime = false ∧ ∀ k a, e.slot e.encAn = some k → saOf s k = some a →
              saOf t k = some { a with superseded := true }))) ∧
      (x.waits = true → exec (.responderEntropyTimeout pi) s = .next (refuseOffer
        { wire := p.port, port := p.port, src := p.mac, community := p.community, text := x.offer, mac := [] } 5
        (setPeer pi { p with exchange := none } s)))) ∧
    (∀ x, p.leftover = some x → Gives (exec (.endedExchangeRetire pi) s) (fun t => PeerWork pi s t ∧
      peerOf t pi = some { p with leftover := none } ∧
      if x.verified then (x.txSa = none → t.channels = s.channels) ∧ (∀ n e, p.txSc = some n → scOf s n = some e → x.txSa.isSome = true →
          e.slot x.txAn = x.txSa → switchRefused s e x.txAn = none → ∃ v, scOf t n = some v ∧ v.encAn = x.txAn)
      else out x.rxSa t ∧ out x.txSa t))

/-! ## The Attar key store (08_attar_key_store) -/

/-- The key commands, of a device without communities. KEY_WRITE stores the key its block gives, in the clear or unwrapped under the parent, with
the slot's fields; replacing raises GEN by one; a block that does not unwrap ends with INTEGRITY. KEY_INVALIDATE empties the slot and raises GEN,
or raises the session root's generation; a committed slot leaves a tombstone. KEY_STATUS reports and changes nothing. Other slots stay. -/
def Obligations.KeyCommands : Prop :=
  ∀ (c : Cmd) (s : State) (n : Nat), s.accord.communities = .empty → n = c.u16 8 →
    let frame := fun (u : State) => (∀ m, m ≠ n → slotOf u m = slotOf s m) ∧
      Told { s with attar := { s.attar with slots := u.attar.slots, tombstones := u.attar.tombstones, floor := u.attar.floor }
                    pair := { s.pair with dirty := u.pair.dirty }, counters := u.counters } u
    let buried := fun (g : Nat) (u : State) => committed s n = true → s.attar.tombstones.cells.length < 16 →
      u.attar.tombstones.find n = some g
    (∀ p q g key occ, Passes 0x0501 specKeyWrite c s → p = c.u16 14 → q = slotOf s p → occ = occupied s n →
      g = (if occ then (slotOf s n).gen + 1 else (slotOf s n).gen) →
      (p = 0xfff1 ∨ (slotUsable s p = .ok ∧ q.latent = false)) →
      key = (if c.flag 12 0 then Config.unwrap q.key (c.payload.take 40) else some (leNat (c.payload.take 32))) →
      match key with
      | none => Gives (exec (.keyWrite c) s) (Answered c stIntegrity 0 0 (State.plus 0x3100 1 s))
      | some k => ∃ u : State, Answers c g u (exec (.keyWrite c) s) ∧ frame u ∧ (occ = true → buried g u) ∧
        slotOf u n = { key := k % 2 ^ 256, type := c.get ⟨10, 0, 4⟩, persist := c.flag 12 1, usage := c.get ⟨11, 0, 4⟩
                       tenant := c.get ⟨13, 0, 5⟩, parent := p
                       parentGen := if p = 0xfff1 then 0 else if p = n then g else q.gen, gen := g, label := c.u64 16 }) ∧
    (Passes 0x0502 specKeyInvalidate c s → n ≠ 0xffff → ∃ (u : State) (g : Nat), g = (slotOf s n).gen + 1 ∧
      Answers c g u (exec (.keyInvalidate c) s) ∧ frame u ∧ buried g u ∧ slotOf u n = { gen := g }) ∧
    (Passes 0x0502 specKeyInvalidate c s → n = 0xffff → ∃ u : State, Answers c (s.attar.rootGen + 1) u (exec (.keyInvalidate c) s) ∧
      u.attar = { s.attar with rootGen := s.attar.rootGen + 1, sessionRoot := u.attar.sessionRoot, sessionReady := entServes s 1 } ∧
      Told { s with attar := u.attar, freeIx := u.freeIx, entropy := u.entropy, counters := u.counters
                    pair := { s.pair with dirty := u.pair.dirty } } u) ∧
    (∀ v, Passes 0x0503 specKeyStatus c s → v = slotOf s n →
      (n ≤ 16383 → Answers c (slotState s n + 4 * b2n v.persist + 8 * b2n (committed s n) + 16 * v.type + 2 ^ 8 * v.usage +
        2 ^ 12 * b2n (slotState s n == 2 && !v.corrupt) + 2 ^ 16 * v.tenant + 2 ^ 32 * v.gen)
        (if c.dataPtr = 0 then s else emit (.hostWrite c.fn c.dataPtr (keyBlock s n)) s) (exec (.keyStatus c) s)) ∧
      (16383 < n → ∀ valid gen, (valid, gen) = (if n = 0xfff1 then (s.attar.storageKey.isSome, 0)
          else if n = 0xfff2 then (s.attar.domainKey.isSome, s.attar.domainGen) else (s.attar.sessionReady, s.attar.rootGen)) →
        Answers c (b2n valid + 2 ^ 32 * gen) (if c.dataPtr = 0 then s else
          emit (.hostWrite c.fn c.dataPtr (leBytes 8 0 ++ leBytes 4 gen ++ leBytes 20 0)) s) (exec (.keyStatus c) s)))

/-- The Flacon image and upkeep, of a device without communities. FLACON_COMMIT, every PERSIST slot usable, writes the slots as a new generation
into the copy not active, keeps the configuration, and has the old copy erased. FLACON_LOAD reports the copies, or restores a failed committed slot.
The scrub finds a changed slot, AUTO_REPAIR restores it, and an erase ends. -/
def Obligations.FlaconAndUpkeep : Prop :=
  ∀ (s : State), s.accord.communities = .empty →
    (∀ (c : Cmd) b g keeper storage new, Passes 0x0504 specFlaconCommit c s → s.attar.keeper = some keeper →
      s.attar.storageKey = some storage → s.attar.flashFailures = 0 →
      s.attar.slots.cells.all (fun k => !k.2.persist || (slotUsable s k.1 == .ok && !(slotOf s k.1).latent)) = true →
      b = (match s.attar.active with | some x => !x | none => false) →
      g = (match activeCopy s with | some x => max (x.generation + 1) s.attar.floor | none => s.attar.floor + 1) →
      new = ({ status := 1, generation := g, records := persistRecords s, config := (match activeCopy s with | some x => x.config | none => [])
               storageKey := storage, keeperKey := keeper } : FlaconCopy) →
      ∃ u : State, Answers c g u (exec (.flaconCommit c) s) ∧
        Told (State.plus 0x3100 (s.attar.slots.countIf (fun _ v => v.persist)) (State.plus 0x3128 1 { s with attar := { s.attar with
          active := some b, floor := g, erasing := s.attar.active
          copyA := if b then s.attar.copyA else new, copyB := if b then new else s.attar.copyB
          tombstones := ⟨s.attar.tombstones.cells.filter (fun k => match new.records.find k.1 with
            | some r => decide (r.gen < k.2)
            | none => false)⟩ } })) u) ∧
    (∀ (c : Cmd) g codes, Passes 0x0505 specFlaconLoad c s → g = (match activeCopy s with | some x => x.generation | none => 0) →
      codes = copyCode s false + 16 * copyCode s true →
      (c.get ⟨8, 0, 2⟩ = 0 → Answers c (g + 2 ^ 32 * codes) s (exec (.flaconLoad c) s)) ∧
      (∀ n x r, c.get ⟨8, 0, 2⟩ = 1 → s.attar.slots.keysIf (fun _ v => v.corrupt) = [n] → activeCopy s = some x →
        x.records.find n = some r → (slotOf s n).corrupt = true → r.gen = (slotOf s n).gen →
        ∃ u : State, Answers c (g + 2 ^ 32 * codes + 2 ^ 40) u (exec (.flaconLoad c) s) ∧
          Told (State.plus 0x3110 1 (setSlot n { r with corrupt := false, latent := false } s)) u)) ∧
    (s.live = true →
      (∀ n, n < 16384 → s.watchdog.hk.up = true → (slotOf s n).corrupt = false → s.attar.slots.keysIf (fun _ v => v.latent) = [] →
        Gives (exec (.attScrubPeriod [n]) s) (Told (State.plus 0x3108 1 (setSlot n { slotOf s n with corrupt := true, latent := false } s)))) ∧
      (∀ n x r, s.watchdog.hk.up = true → regBit s 0x3014 16 = true → activeCopy s = some x → x.records.find n = some r →
        (slotOf s n).corrupt = true → r.gen = (slotOf s n).gen →
        Gives (exec (.attAutoRepair n) s) (Told (State.plus 0x3110 1 (setSlot n { r with corrupt := false, latent := false } s)))) ∧
      ∀ b, s.attar.erasing = some b → exec .flaconEraseDone s = .next { s with attar := { s.attar with
        copyA := if b then s.attar.copyA else {}, copyB := if b then {} else s.attar.copyB, erasing := none } })

/-! ## Frames and the fabric (01_architecture, 04_selectors, 05_secure_channels, 09_fabric_and_buffers) -/

/-- Frames come in, outside a pair. A client head that hits an unbuffered entry on a tied port becomes an express frame to the partner, under the
entry's SC or bypassing, and its whole words join its stream; so does a line head without SecTAG by the bypass entry, and one with a SecTAG by its
SCI's entry, keeping the SA, PN, key and IV that it found; Accord's go to the engine. A good tail completes the frame in its stream. -/
def Obligations.FramesReceived : Prop :=
  ∀ (port p no fid k : Nat) (v : Port) (head : Bytes) (s : State), s.live = true → s.pair.mode = .off → s.pair.held = [] →
    s.pair.merges = .empty → s.channels.rekeyDue = [] → port < 64 → fid = s.fabric.nextFrame → frameOf s fid = none → p = v.partner →
    v.linkUp = true → v.loopback = 0 → v.path = .express → regBit s 0xe010 0 = false →
    let came := fun (g : Nat) (f : Frame) (t : State) => frameOf t fid = some f ∧ (∀ n, n ≠ fid → frameOf t n = frameOf s n) ∧
      Told { s with fabric := { s.fabric with frames := t.fabric.frames, nextFrame := fid + 1, rx := s.fabric.rx.set g fid
                                              streams := t.fabric.streams }
                    pair := { s.pair with inNo := s.pair.inNo.put 0 g (no + 1) }, counters := t.counters } t
    let room := classFull s 0 = false ∧ expressCells s p < s.fabric.expressLimit
    (∀ i e, portOf s port = some v → s.fabric.rx.has port = false → 128 ≤ head.length → isMacControl head = false → parseFails head = false →
      lookupFamily (s.selectors.modes.get {} port).mode head = none → i = port * 4096 + frameVid head → (selEntry s 0 i).parityFailed = false →
      entryValid 0 (selEntry s 0 i).data = true → e = clientEntry (selEntry s 0 i).data → e.action ≤ 1 → e.buffered = false →
      e.meterEn = false → room → no = s.pair.inNo.get 0 port → k = streamKey (port / 8) (outputOf p) →
      Gives (exec (.clientFrameHead port head false 0 []) s) (fun t =>
        came port { ingress := port, raw := head, time := stamp s, inNo := no, selector := i, bypass := e.action == 1, txSc := e.txSc
                    express := true, cls := 0, output := outputOf p, egress := p, number := (streamOf s k).nextNumber
                    wordsSent := head.length / 64 } t ∧
        streamOf t k = { streamOf s k with
          nextNumber := (streamOf s k).nextNumber + 1
          waiting := (streamOf s k).waiting ++
            [{ fid, words := head.length / 64, number := (streamOf s k).nextNumber, first := true, last := false }] })) ∧
    (portOf s (64 + port) = some v → s.fabric.rx.has (64 + port) = false → 128 ≤ head.length → head.length ≤ 252 →
      isMacControl head = false → no = s.pair.inNo.get 0 (64 + port) → k = streamKey (8 + port / 8) (outputOf p) →
      (beAt head 12 2 = s.accord.etherType → Gives (exec (.lineFrameHead port head false []) s)
        (came (64 + port) { ingress := 64 + port, raw := head, time := stamp s, inNo := no, engine := true, dropped := true })) ∧
      (∀ e, beAt head 12 2 ≠ s.accord.etherType → parseFails head = false → frameTag s port head = none →
        (selEntry s 1 (port * 4096)).parityFailed = false → e = lineEntry (selEntry s 1 (port * 4096)).data → e.valid = true →
        e.bypass = true → e.drop = false → e.buffered = false → e.meterEn = false → room →
        Gives (exec (.lineFrameHead port head false []) s)
          (came (64 + port) { ingress := 64 + port, raw := head, time := stamp s, inNo := no, selector := port * 4096, bypass := true
                              express := true, cls := 0, output := outputOf p, egress := p, number := (streamOf s k).nextNumber })) ∧
      (∀ tg i e c n a pn u, beAt head 12 2 ≠ s.accord.etherType → parseFails head = false → regBit s 0x34 0 = false →
        frameTag s port head = some tg → secTagBad head false tg.off = false → findRxSc s port tg = .entry i e → e.drop = false →
        e.buffered = false → e.meterEn = false → u = (newFrame (64 + port) head s).2 →
        rxChecks port e.rxSc tg u = (.go c n a pn 0 false, u) → room →
        Gives (exec (.lineFrameHead port head false []) s)
          (came (64 + port) { ingress := 64 + port, raw := head, time := stamp s, inNo := no, selector := i, rxSc := e.rxSc, rxSa := some n
                              rxPn := pn, rxKey := a.key, rxIv := cipherIv c a pn, rxCo := coBytes c.co, tagAt := tg.off, tagLen := tg.len
                              express := true, cls := 0, output := outputOf p, egress := p, number := (streamOf s k).nextNumber }))) ∧
    ∀ (q x : Nat) (f : Frame) (rest raw : Bytes), (q = port ∨ q = 64 + port) → portOf s q = some v → s.fabric.rx.find q = some x →
      frameOf s x = some f → f.ingress = q → f.meter = none → f.rxSa = none → f.raw.length + rest.length ≤ maxRaw q → raw = f.raw ++ rest →
      k = streamKey (ingressPipe q) f.output →
      let row := if q < 64 then Instr.clientFrameTail port rest true else Instr.lineFrameTail port rest true
      (f.engine = true → 64 ≤ q → Gives (exec row s) (fun t => frameOf t x = none ∧ t.fabric.rx.find q = none ∧
        t.accord = { s.accord with arrived := s.accord.arrived ++ [(port, raw)] })) ∧
      (f.engine = false → f.dropped = false → Gives (exec row s) (fun t =>
        frameOf t x = some { f with raw := raw, opened := if q < 64 then f.opened else true, tailSeen := true, fault := .none
                                    wordsSent := frameWords raw } ∧
        t.fabric.rx.find q = none ∧ (∀ n, n ≠ x → frameOf t n = frameOf s n) ∧
        streamOf t k = { streamOf s k with waiting := (streamOf s k).waiting ++
          [{ fid := x, words := frameWords raw - f.wordsSent, number := f.number, first := f.wordsSent == 0, last := true }] }))

/-- Frames cross. A plane's only request is granted: the pair's next cell is on its way, numbered, the pointers step past the pair. A cell that
fails its CRC waits to be resent; one in its turn moves words to the frame at its output. A gap that lasts fails the frame whose bytes are
missing, and the cells behind it go on. An express head joins its port's queue. A multicast head makes one copy for its member. -/
def Obligations.FramesCross : Prop :=
  ∀ (s : State), s.live = true →
    (∀ p, p < 2 → (planeOf s p).up = false → exec (.fabricMatch p) s = .next s) ∧
    (∀ p i o v w, p < 2 → i < 16 → o < 17 → w = planeOf s p → w.up = true → v = streamOf s (streamKey i o) → resendOf s i o p = none →
      (∀ i' o', i' < 16 → o' < 18 → requests s p i' o' = decide (i' = i ∧ o' = o)) →
      Gives (exec (.fabricMatch p) s) (fun t => streamOf t (streamKey i o) =
          { v with nextSeq := (v.nextSeq + 1) % 65536, nextPlane := 1 - p, waiting := (cutCell 4 v.waiting).2 } ∧
        planeOf t p = { w with hpPhase := (w.hpPhase + 1) % 8, grant := w.grant.put 0 o ((i + 1) % 16)
                               accept := w.accept.put 0 i ((o + 1) % 18) } ∧
        t = State.plus (0x4800 + 0x40 * i) 1 { s with fabric := { s.fabric with
          streams := t.fabric.streams, plane0 := if p = 0 then planeOf t 0 else s.fabric.plane0
          plane1 := if p = 1 then planeOf t 1 else s.fabric.plane1
          cells := s.fabric.cells ++ [{ input := i, output := o, seq := v.nextSeq, plane := p, parts := (cutCell 4 v.waiting).1 }] } })) ∧
    (∀ c, s.fabric.cells.find? (fun x => x.input == c.input && x.output == c.output && x.plane == c.plane && x.flying) = some c →
      (∀ fails, c.plane < 2 → (planeOf s c.plane).up = true → fails = (planeOf s c.plane).crcFails.filter (fun t => decide (s.tick < t + 625000000)) ++ [s.tick] →
        fails.length < 16 → exec (.cellArrival c.input c.output c.plane false) s = .next (setPlane c.plane
          { planeOf s c.plane with crcFails := fails } (State.plus (0x4210 + 8 * c.plane) 1 { s with fabric := { s.fabric with
            cells := s.fabric.cells.map (fun x => if x = c then { x with resend := true, flying := false } else x) } }))) ∧
      (∀ k v part f, k = streamKey c.input c.output → v = reseqOf s k → v.held = [] → c.seq = v.expected → c.parts = [part] →
        part.last = false → frameOf s part.fid = some f → f.dropped = false →
        Gives (exec (.cellArrival c.input c.output c.plane true) s) (fun t =>
          frameOf t part.fid = some { f with wordsHeld := f.wordsHeld + part.words, wordsIn := f.wordsIn + part.words } ∧
          (∀ n, n ≠ part.fid → frameOf t n = frameOf s n) ∧ classWords t f.cls = classWords s f.cls + part.words ∧
          reseqOf t k = { v with expected := (v.expected + 1) % 65536, deadlineRuns := false, inProgress := part.number } ∧
          t.fabric.cells = s.fabric.cells.filter (fun x => x != c)))) ∧
    (∀ i o k v c part f fid, s.pair.mode = .off → k = streamKey i o → v = reseqOf s k → v.deadlineRuns = true → v.held = [c] →
      c.parts = [part] → part.fid = fid → part.first = false → part.last = false → part.number = f.number → s.fabric.frames.cells = [(fid, f)] →
      s.fabric.rx.find f.ingress ≠ some fid → f.source = none → f.dropped = false → f.express = false → f.mcast = false → f.wordsSent ≠ 0 →
      ingressPipe f.ingress = i → f.output = o → v.inProgress ≤ f.number →
      Gives (exec (.reseqTimeout i o) s) (fun t => frameOf t fid = none ∧
        reseqOf t k = { v with expected := (c.seq + 1) % 65536, held := [], deadlineRuns := false, inProgress := part.number })) ∧
    (∀ fid f e, frameOf s fid = some f → e = egressOf s f.egress → f.express = true → f.dropped = false → f.headLeft = false →
      f.wordsIn ≠ 0 → f.mergeWait = 0 → (f.storeWhole = true → f.stored = true) → fid ∉ e.express →
      Gives (exec (.expressFrameAssembled fid) s) (fun t => egressOf t f.egress = { e with express := e.express ++ [fid] } ∧
        Told { s with fabric := { s.fabric with egress := t.fabric.egress }, counters := t.counters } t ∧
        (e.express = [] → e.tx = none → e.generated = [] → counter t (0x5400 + 0x20 * f.egress + 8) =
          counter s (0x5400 + 0x20 * f.egress + 8) + 1))) ∧
    (∀ fid f m e l leaf n, s.pair.mode = .off → frameOf s fid = some f → f.mcast = true → f.source = none → f.dropped = false →
      f.headLeft = false → f.wordsIn ≠ 0 → f.stored = false → groupMembers (groupOf s f.queue).data = [m] → e = memberOf s m →
      e.parityFailed = false → leaf = memberQueue e.data → leafOf s leaf = some l → nodeEnabled s (64 + memberPort e.data) = true →
      queueCheck s leaf f.ingress f.colour true = none → n = s.fabric.nextFrame → frameOf s n = none →
      Gives (exec (.mpFrameHead fid []) s) (fun t => leafOf t leaf = some { l with onDie := l.onDie ++ [n] } ∧
        frameOf t fid = some { f with headLeft := true, refs := f.refs + 1 } ∧
        ∃ c, frameOf t n = some c ∧ c.source = some fid ∧ c.txSc = memberSc e.data ∧ c.queue = leaf ∧ c.wordsHeld = 0 ∧
          c.headLeft = false ∧ c.stored = false))

/-- Frames go out, outside a pair. A whole frame at the head of a port's express queue leaves as it is on the bypass path and from a client port,
or sealed under its SC's encoding SA, which takes the next PN; then its record is gone. A missing word stomps the frame in transmission. A ring's
frame is written with its descriptor and the ring moves on, or dropped with no descriptor ready; its window tells the frames gathered. -/
def Obligations.FramesSent : Prop :=
  ∀ (s : State), s.live = true → s.pair.mode = .off → regBit s 0xe010 2 = false → s.channels.rekeyDue = [] →
    (∀ P v e fid f rest u, portOf s P = some v → v.loopback = 0 → mayTransmit s P = true → e = egressOf s P → e.express = fid :: rest →
      e.tx = none → e.generated = [] → frameOf s fid = some f → f.stored = true → f.source = none → f.early = false →
      s.fabric.rx.find f.ingress ≠ some fid → u = takeOut P true s →
      let left := fun (data : Bytes) (t : State) => frameOf t fid = none ∧ (egressOf t P).tx = none ∧
        ∃ a b, t.out = a ++ .frame P data f.stomp false :: (b ++ s.out)
      (P < 64 → tamperLock s = false → Gives (exec (.ceFrameHead P false) s) (left f.raw)) ∧
      (64 ≤ P → P < 128 → f.bypass = true → Gives (exec (.leFrameHead (P - 64) [] false) s) (left f.raw)) ∧
      (∀ c n a clear, 64 ≤ P → P < 128 → f.bypass = false → txChecks (P - 64) f.txSc u = (.go c n a, u) → a.nextPn ≠ a.low →
        clear = clearTags c f.raw → Gives (exec (.leFrameHead (P - 64) [] false) s) (fun t =>
          left (sealFrame a.key (cipherIv c a a.nextPn) (coBytes c.co) (makeSecTag c a.an a.nextPn (f.raw.length - 12 - 4 * clear)) clear
            f.raw) t ∧ ∃ b, saOf t n = some b ∧ b.nextPn = a.nextPn + 1))) ∧
    (∀ P v x f, portOf s P = some v → v.loopback = 0 → (egressOf s P).tx = some x → (egressOf s P).generated = [] → x.sa = none →
      frameOf s x.fid = some f → f.source = none → s.fabric.rx.find f.ingress ≠ some x.fid →
      Gives (exec (.expressUnderrun P) s) (fun t => frameOf t x.fid = none ∧ (egressOf t P).tx = none ∧
        ∃ a b, t.out = a ++ .frame P f.raw true false :: (b ++ s.out))) ∧
    ∀ ring r, ring < 4 → r = hostRing s ring →
      (∀ leaf l fid f rest buf, leaf = regField s (ringCtrl ring) 12 17 → ringEnabled s ring = true → r.stopped = false →
        leafReady s leaf = true → leafOf s leaf = some l → l.onDie = fid :: rest → frameOf s fid = some f → f.source = none →
        s.fabric.rx.find f.ingress ≠ some fid → tamperLock s = false →
        (r.tail = r.limit → Gives (exec (.hostFrameDeliver ring buf true) s) (fun t => frameOf t fid = none ∧ hostRing t ring = r ∧
          counter t 0x5068 = counter s 0x5068 + 1)) ∧
        (r.tail ≠ r.limit → f.raw.length + 4 ≤ 2 ^ regField s (ringCtrl ring) 8 4 →
          Gives (exec (.hostFrameDeliver ring buf true) s) (fun t => frameOf t fid = none ∧
            (∃ q, hostRing t ring = q ∧ q.tail = (r.tail + 1) % 2 ^ regField s (ringCtrl ring) 4 4 ∧ q.limit = r.limit ∧
              q.phase = (if q.tail = 0 then !r.phase else r.phase) ∧ q.windowRuns = true) ∧
            ∃ a b, t.out = a ++ .busWrite (busBase s (0x4100 + 0x20 * ring) + 32 * r.tail + 8) (descriptor f r.phase) ::
              .busWrite buf (f.raw ++ fcsBytes f.raw) :: (b ++ s.out)))) ∧
      (r.windowRuns = true → r.windowCount = 0 →
        exec (.fabHostFramesWindow ring) s = .next (setHostRing ring { r with windowRuns := false } s)) ∧
      (r.windowRuns = true → r.windowCount ≠ 0 →
        Gives (exec (.fabHostFramesWindow ring) s) (Told (setHostRing ring { r with windowCount := 0 } s)))

/-- The fabric's registers and commands. FAB_MC_CMD reads and writes group and member entries; a member in use is not written. A failed entry is
told, and restored from its copy. A ring is enabled afresh, disabled and given descriptors. FAB_BUFFER_PARTITION sets the quotas and returns the free
cells. FAB_AUDIT and the periodic audit count, and sweep where cells are lost; a sweep's end returns the lost cells. -/
def Obligations.FabricControl : Prop :=
  ∀ (s : State), s.live = true →
    (∀ w i d, GateAllows s 0 0x4050 true → i = mcIndex w → d = (reg s 0x4054).toNat + 2 ^ 32 * (reg s 0x4058).toNat →
      (mcTable w = true → (memberOf s i).parityFailed = false → exec (.fabMcRead w false) s =
        .next (mcDone w 0 (setMcData ((memberOf s i).data + b2n (memberInUse s i) * 2 ^ 55) s))) ∧
      (mcTable w = false → i < 8192 → (groupOf s i).parityFailed = false → exec (.fabMcRead w false) s =
        .next (mcDone w 0 (setReg 0x4054 (BitVec.ofNat 32 (groupOf s i).data) s))) ∧
      (mcTable w = true → exec (.fabMcWrite w) s = .next (if memberInUse s i then mcDone w 2 s else
        mcDone w 0 (markDirty 1 (7 * 2 ^ 24 + i) (setMember i { data := d &&& memberMask } s)))) ∧
      (mcTable w = false → i < 8192 → groupValid (groupOf s i).data = false → groupValid d = true → 1 ≤ groupCount d → groupCount d ≤ 64 →
        groupFirst d + groupCount d ≤ 65536 → exec (.fabMcWrite w) s =
          .next (mcDone w 0 (markDirty 1 (6 * 2 ^ 24 + i) (setGroup i { data := d % 2 ^ 24 } s))))) ∧
    (∀ m, exec (.memberInUseClear m) s = .next { s with fabric := { s.fabric with clearing := s.fabric.clearing.filter (· != m) } }) ∧
    (∀ m, s.watchdog.hk.up = true →
      ((memberOf s m).parityFailed = false → Gives (exec (.mcScrub [(true, m)]) s)
        (Told (setMember m { memberOf s m with parityFailed := true } s))) ∧
      (m < 8192 → (groupOf s m).parityFailed = false → Gives (exec (.mcScrub [(false, m)]) s)
        (Told (setGroup m { groupOf s m with parityFailed := true } s))) ∧
      ((memberOf s m).parityFailed = true → ∀ copy, Gives (exec (.mcParityRestore true m copy) s) (Told (
        if copy then setMember m { memberOf s m with parityFailed := false } s else s))) ∧
      ((groupOf s m).parityFailed = true → ∀ copy, Gives (exec (.mcParityRestore false m copy) s) (Told (
        if copy then setGroup m { groupOf s m with parityFailed := false } s else s)))) ∧
    (∀ n w kept, n < 4 → kept = ((w &&& 0x1ffffff2) ||| (reg s (0x4108 + 0x20 * n) &&& ~~~w &&& 0xc)) →
      (GateAllows s 0 (0x4108 + 0x20 * n) true →
        (ringEnabled s n = false → exec (.fabHrEnable n w) s = .next (
          if ringValid s n w then setHostRing n { hostRing s n with tail := 0, limit := 0, phase := true, stopped := false }
            (setReg (0x4108 + 0x20 * n) (kept ||| 1) s)
          else setReg (0x4108 + 0x20 * n) (kept ||| 8) s)) ∧
        (∀ l, leafOf s (regField s (0x4108 + 0x20 * n) 12 17) = some l → l.onDie = [] →
          exec (.fabHrDisable n w) s = .next (setReg (0x4108 + 0x20 * n) kept s))) ∧
      (GateAllows s 0 (0x410c + 0x20 * n) true → exec (.fabHrLimitWrite n w) s =
        .next (setHostRing n { hostRing s n with limit := w.toNat % 4096 } s))) ∧
    (∀ c, Passes 0x0701 specFabBufferPartition c s → Settles c (freeCells s) { s with fabric := { s.fabric with
        quota0 := c.u32 8, quota1 := c.u32 12, quota2 := c.u32 16, quota3 := c.u32 20, quota4 := c.u32 24
        expressLimit := if c.u16 28 = 0 then 1024 else c.u16 28 } } (exec (.fabBufferPartition c) s)) ∧
    (∀ c, Passes 0x0702 specFabAudit c s → (∀ r ∈ s.running, r.cmd ≠ c) → s.fabric.sweep = none →
      (c.flag 8 0 = false → s.fabric.leaked = 0 → Answers c (heldCells s) (State.plus 0x4208 1 s) (exec (.fabAudit c) s)) ∧
      (c.flag 8 0 = true ∨ s.fabric.leaked ≠ 0 → exec (.fabAudit c) s = .next (State.plus 0x4208 1 { s with
        fabric := { s.fabric with sweep := some 2 }
        running := s.running ++ [{ cmd := c, cls := .b, locks := [], wait := .work
                                   reply := some { status := stOk, result := heldCells s } }] }))) ∧
    (s.watchdog.hk.up = true →
      (regBit s 0x4004 16 = true → s.fabric.sweep = none → exec .fabAuditPeriod s = .next (State.plus 0x4208 1
        { s with fabric := { s.fabric with sweep := if s.fabric.leaked = 0 then none else some 0 } })) ∧
      ∀ cause n base, s.fabric.sweep = some cause → n = s.fabric.leaked → n ≠ 0 →
        base = setReg 0x4008 (reg s 0x4008 ||| 0x80000000) (State.plus 0x4200 n { s with
          fabric := { s.fabric with sweep := none, leaked := 0, lastReturned := n }, running := [] }) →
        (s.running = [] → Gives (exec .fabSweepEnd s) (Told base)) ∧
        (∀ r p, s.running = [r] → r.cmd.opcode = 0x0702 → r.reply = some p → r.xfer = none →
          Gives (exec .fabSweepEnd s) (fun t => ∃ u, Told base u ∧ Answered r.cmd stOk 0 (p.result + 2 ^ 32 * n) u t)))

/-! ## The reservoir (10_reservoir) -/

/-- The reservoir. RSV_CONFIG sets its four parameters; RSV_STATUS reports and changes nothing; RSV_SCRUB and the patrol correct a bad line that
the code corrects and count it. SPILL_PAGE_WRITE and PAGE_FILL_TIMEOUT put a leaf's next page at the next place of the channel whose turn it is,
with the leaf's next page number, and raise the place's counters; PAGE_WRITE_COMPLETE confirms the page and frees its frame's cells;
PAGE_READ_COMPLETE frees the place, and the frame that ends in the page joins the leaf. A rest ends in a new lap. The key brings the trained
channels ONLINE, the lowest with the statistics region. A retrain resumes the channel, goes on, or after three attempts the channel and its
frames are lost. A sweep adds the flushed SA counts to the totals. -/
def Obligations.Reservoir : Prop :=
  ∀ (s : State),
    let fixed := fun (n : Nat) (e : DramError) => State.plus 0x7110 1 (setCh n { chOf s n with
      latent := [], ce := (chOf s n).ce + 1
      corrected := (chOf s n).corrected.put [] ((2 * e.sub + e.rank) * 10 + (e.bad.headD (0, 0)).1) [(s.tick, 1)] } s)
    let mild := fun (n : Nat) (e : DramError) => (∃ d, e.bad = [(d, 1)] ∧ (chOf s n).corrected.get [] ((2 * e.sub + e.rank) * 10 + d) = []) ∧
      (chOf s n).latent = [e] ∧ e.tag = false ∧ e.kind ≤ 3 ∧ (chOf s n).failedDev.find (2 * e.sub + e.rank) = none ∧
      1 < s.reservoir.failThreshold ∧ patrolled s n e = true
    (∀ c : Cmd,
      (Passes 0x0710 specRsvConfig c s → s.onDie →
        Settles c 0 { s with reservoir := { s.reservoir with
          spillEnable := c.flag 8 0, drainMask := c.get ⟨9, 0, 4⟩, failThreshold := if c.u16 10 = 0 then 256 else c.u16 10
          pageFillUs := if c.get ⟨12, 0, 7⟩ = 0 then 2 else c.get ⟨12, 0, 7⟩ } } (exec (.rsvConfig c) s)) ∧
      (Passes 0x0711 specRsvStatus c s →
        Answers c (rsvStatus s + 2 ^ 32 * (chFree s 0 + chFree s 1 + chFree s 2 + chFree s 3))
          (if c.dataPtr = 0 then s else emit (.hostWrite c.fn c.dataPtr (chRecord s 0 ++ chRecord s 1 ++ chRecord s 2 ++ chRecord s 3)) s)
          (exec (.rsvStatus c) s)) ∧
      ∀ n lo frames, Passes 0x0712 specRsvScrub c s → n = c.get ⟨8, 0, 2⟩ → lo = c.get ⟨12, 0, 25⟩ →
        frames = (if c.get ⟨16, 0, 25⟩ = 0 then chFrames (chOf s n) - lo else c.get ⟨16, 0, 25⟩) →
        ((chOf s n).latent = [] → Answers c frames s (exec (.rsvScrub c) s)) ∧
        ∀ e f, mild n e → errorFrame (chOf s n) e = some f → lo ≤ f → f < lo + frames →
          Answers c (frames + 2 ^ 32) (fixed n e) (exec (.rsvScrub c) s)) ∧
    (s.live = true →
      (∀ leaf l n place parts staging stagedOut misses (partial_ : Bool), leafOf s leaf = some l → l.spilling = true → rsvSpilling s = true →
        s.reservoir.nextChannel = n → n < 4 → mayTake s n = true → takePlace s n = some place → (chOf s n).sound = true →
        (if partial_ then
          0 < ((gathered s l).map (·.2)).foldl (· + ·) 0 ∧ ((gathered s l).map (·.2)).foldl (· + ·) 0 < 4080 ∧ parts = gathered s l ∧
            staging = l.staging.filter (fun f => !((gathered s l).map (·.1)).contains f) ∧ stagedOut = 0
        else ∃ f b more, gathered s l = (f, b) :: more ∧ 4080 < b ∧ parts = [(f, 4080)] ∧ staging = l.staging ∧
          stagedOut = 4080 + l.stagedOut) →
        Gives (exec (if partial_ then .pageFillTimeout leaf misses [] else .spillPageWrite leaf misses []) s) (fun t =>
          leafOf t leaf = some { l with staging, stagedOut, pageSeq := (l.pageSeq + 1) % 2 ^ 32 } ∧
          (∀ m, m ≠ leaf → leafOf t m = leafOf s m) ∧
          chOf t n = { chOf s n with
            pages := (chOf s n).pages ++ [{ queue := leaf, pageSeq := l.pageSeq, parts, place }], pointer := place + 1
            blocks := (chOf t n).blocks, highMajor := (chOf t n).highMajor } ∧
          (∀ m, m < 4 → m ≠ n → chOf t m = chOf s m) ∧
          (let b := blockOf (chOf s n) 0 place
           let b' := blockOf (chOf t n) 0 place
           if (List.range 64).any (fun i => b.minors.get 0 i == 127) then b' = { major := b.major + 1 }
           else b'.major = b.major ∧ ∀ i, i < 64 → b'.minors.get 0 i = b.minors.get 0 i + 1) ∧
          Told { State.plus 0x7150 misses s with
            sched := { s.sched with leaves := t.sched.leaves }, counters := t.counters, reservoir := t.reservoir } t ∧
          t.reservoir = (setCh n (chOf t n) { s with reservoir := { s.reservoir with nextChannel := (n + 1) % 4 } }).reservoir ∧
          ∀ off, off ≠ 0x7150 → off ≠ 0x7158 → off ≠ 0xd138 → counter t off = counter s off)) ∧
      (∀ leaf n p f v l, n < 4 → (chOf s n).state = .online → leafOf s leaf = some l → p.parts.map (·.1) = [f] → p.writing = true →
        p.queue = leaf → (pagesOf s leaf).filter (·.writing) = [p] → p ∈ (chOf s n).pages → frameOf s f = some v →
        Gives (exec (.pageWriteComplete leaf p.pageSeq) s) (fun t =>
          let u := setCh n { chOf s n with pages := (chOf s n).pages.map (fun q => if q = p then { q with writing := false } else q) } s
          Told (State.plus 0x7100 1 (requestPages leaf 4 (if l.staging.contains f then u else freeWords f u))) t)) ∧
      (∀ leaf n p f v l misses, n < 4 → requestedPage s leaf = some (n, p) → (chOf s n).state = .online → (chOf s n).latent = [] →
        leafOf s leaf = some l → l.staging.contains f = false → p.parts.map (·.1) = [f] → frameOf s f = some v →
        ∀ u, u = setCh n { chOf s n with pages := (chOf s n).pages.erase p } s →
          (pagesOf u leaf).all (fun q => !(q.parts.map (·.1)).contains f) = true →
          Gives (exec (.pageReadComplete leaf misses []) s) (Told (State.plus 0x7108 1 (State.plus 0x7150 misses
            (settleLeaf leaf (requestPages leaf 4 (setLeaf leaf { l with onDie := l.onDie ++ [f] }
              (holdWords f (ceilDiv (storedLength s v) 64) (modFrame f (fun v => { v with spilled := false }) u))))))))) ∧
      (∀ n, n < 4 → exec (.rsvLapRestEnd n) s = .next (if (chOf s n).resting then setCh n { chOf s n with
        pointer := if holdsStats s n then 16384 else 0, laps := (chOf s n).laps + 1, lapTick := s.tick, resting := false } s else s)) ∧
      (∀ first, s.reservoir.keyReady = false → entServes s 1 = true →
        (∀ n, n < 4 → (chOf s n).state = .absent ∨ (chOf s n).state = .trained) →
        first = [0, 1, 2, 3].find? (fun n => (chOf s n).state == .trained) →
        Gives (exec .rsvKeyDrawn s) (fun t =>
          (∀ n, n < 4 → chOf t n = if (chOf s n).state = .trained then { chOf s n with
            state := .online, lapTick := s.tick, pointer := if first = some n then 16384 else (chOf s n).pointer } else chOf s n) ∧
          (let r := t.reservoir
           r = { s.reservoir with ch0 := r.ch0, ch1 := r.ch1, ch2 := r.ch2, ch3 := r.ch3, keyReady := true, key := r.key, statsChannel := first }) ∧
          t.entropy = { s.entropy with requests := t.entropy.requests, seeds := t.entropy.seeds } ∧
          Told { s with reservoir := t.reservoir, freeIx := s.freeIx + 1, entropy := t.entropy, counters := t.counters } t)) ∧
      (∀ n ok, n < 4 → (chOf s n).state = .retraining → s.onDie →
        (ok = true → Gives (exec (.rsvRetrainAttemptEnd n ok) s) (Told (setCh n { chOf s n with state := .online, retrain := 0 } s))) ∧
        (ok = false → (chOf s n).retrain < 3 →
          Gives (exec (.rsvRetrainAttemptEnd n ok) s) (Told (State.plus 0x7148 1 (setCh n { chOf s n with retrain := (chOf s n).retrain + 1 } s)))) ∧
        (ok = false → 3 ≤ (chOf s n).retrain → holdsStats s n = false → Gives (exec (.rsvRetrainAttemptEnd n ok) s) (fun t =>
          chOf t n = { chOf s n with state := .failed, pages := [], latent := [], resting := false, retrain := 0 } ∧
          t.reservoir.degraded = true ∧ (∀ m, m < 4 → m ≠ n → chOf t m = chOf s m) ∧
          ∀ f, f ∈ framesIn s n (fun _ => true) → receiving s f = false → frameOf t f = none))) ∧
      (s.watchdog.hk.up = true → regField s 0x7004 0 8 ≠ 0 →
        ((∀ n, n < 4 → (chOf s n).latent = []) → exec (.rsvPatrol []) s = .next s) ∧
        ∀ n e, n < 4 → s.reservoir.fatal = false → (chOf s n).state = .online → mild n e → (∀ m, m < 4 → m ≠ n → (chOf s m).latent = []) →
          Gives (exec (.rsvPatrol []) s) (Told (fixed n e))) ∧
      (∀ n, s.watchdog.hk.up = true → s.reservoir.statsChannel = some n → n < 4 → (chOf s n).state = .online → (chOf s n).sound = true →
        s.channels.merge.wf = true → s.channels.merge.cells.all (fun k => decide (k.1 < 262144)) = true →
        Gives (exec (.statsSweep []) s) (fun t =>
          (∀ a, t.channels.saTotals.get {} a = match s.channels.merge.find a with
            | some m => (s.channels.saTotals.get {} a).add m
            | none => s.channels.saTotals.get {} a) ∧
          t.channels = { s.channels with saTotals := t.channels.saTotals, merge := .empty } ∧
          chOf t n = { chOf s n with blocks := (chOf t n).blocks, highMajor := (chOf t n).highMajor } ∧
          t.reservoir = (setCh n (chOf t n) { s with reservoir := { s.reservoir with statsMoving := false } }).reservoir ∧
          Told { s with channels := t.channels, reservoir := t.reservoir, counters := t.counters } t ∧
          ∀ off, off ≠ 0x7158 → off ≠ 0xd138 → counter t off = counter s off)))

/-! ## Scheduling, shaping and policing (11_scheduling_and_policing) -/

/-- Scheduling and policing. SCH_NODE_SET and SCH_QUEUE_SET write a new node with full credit and one quantum, keep an unmoved node's debt and
frames, report, and delete; MTR_SET writes a meter with full buckets, or with KEEP_TOKENS the old levels capped, reports and deletes. A port
whose egress holds under 512 bytes releases a frame of the ready leaf that strict priority and deficit round robin choose, no ready leaf having a
lower PRIO: the frame leaves its leaf, the leaf's and the service node's shapers are charged its length and OVERHEAD, and the release is counted.
A fine slot makes the nodes whose time has come eligible, a coarse boundary files its nodes again, and a held object is restored with credit and
deficit 0 or full buckets, or without a copy stays held. -/
def Obligations.Scheduling : Prop :=
  ∀ (s : State),
    (∀ (c : Cmd) n op, Passes 0x0801 specSchNodeSet c s → n = c.get ⟨12, 0, 13⟩ → op = c.get ⟨8, 0, 2⟩ →
      (op = 0 → c.flag 8 2 = true →
        Settles c 0 (setPortNode n { overhead := c.get ⟨16, 0, 6⟩, held := false } s) (exec (.schNodeSet c) s)) ∧
      (op = 0 → c.flag 8 2 = false →
        (serviceOf s n = none → Settles c 0 (setService n {
          parent := c.get ⟨14, 0, 7⟩, weight := c.u8 15, deficit := 1024 * (c.u8 15 : Int)
          shaper := { rate := c.get ⟨20, 0, 26⟩, burst := c.get ⟨24, 0, 25⟩, credit := 4096 * (c.get ⟨24, 0, 25⟩ : Int), tLast := nsNow s } } s)
          (exec (.schNodeSet c) s)) ∧
        ∀ v, serviceOf s n = some v → v.parent = c.get ⟨14, 0, 7⟩ → v.held = false →
          Settles c 0 (refile (serviceNode n) (setService n { v with
            weight := c.u8 15, shaper := v.shaper.set (c.get ⟨20, 0, 26⟩) (c.get ⟨24, 0, 25⟩) (nsNow s)
            deficit := min v.deficit (1024 * (c.u8 15 : Int)) } s)) (exec (.schNodeSet c) s)) ∧
      (op = 1 → c.flag 8 2 = true → ∃ (e : Nat) (u : State), e < 2 ∧
        Answers c ((if (portNodeOf s n).held then 2 else b2n (nodeEnabled s n)) + 2 ^ 8 * e +
          2 ^ 32 * (servicesOf s n).countP (fun v => decide (propagated s v < 8))) u (exec (.schNodeSet c) s) ∧
        u = { s with freeIx := u.freeIx, out := u.out }) ∧
      (op = 1 → c.flag 8 2 = false → ∀ v, serviceOf s n = some v → ∃ u : State,
        Answers c ((if v.held then 2 else 1) + 2 ^ 8 * b2n v.shaper.eligible + 2 ^ 32 * (readyLeaves s n).length) u (exec (.schNodeSet c) s) ∧
        u = { s with freeIx := u.freeIx, out := u.out }) ∧
      (op = 2 → ∃ u : State, Settles c 0 u (exec (.schNodeSet c) s) ∧ serviceOf u n = none ∧ (∀ m, m ≠ n → serviceOf u m = serviceOf s m) ∧
        u = { s with sched := { s.sched with services := u.sched.services, orders := u.sched.orders, wheels := u.sched.wheels } })) ∧
    (∀ (c : Cmd) n op, Passes 0x0802 specSchQueueSet c s → n = c.get ⟨12, 0, 17⟩ → op = c.get ⟨8, 0, 2⟩ →
      (op = 0 → leafOf s n = none → Settles c 0 (setLeaf n {
        state := if c.flag 18 5 then .host else .attached (c.get ⟨16, 0, 13⟩)
        prio := c.get ⟨18, 0, 3⟩, spillable := c.flag 18 3, disable := c.flag 18 4, weight := c.u8 19, limit := c.get ⟨28, 0, 24⟩
        yellowLimit := if c.get ⟨32, 0, 24⟩ = 0 then c.get ⟨28, 0, 24⟩ else c.get ⟨32, 0, 24⟩, spillAt := c.get ⟨36, 0, 18⟩
        deficit := 1024 * (c.u8 19 : Int)
        shaper := { rate := c.get ⟨20, 0, 26⟩, burst := c.get ⟨24, 0, 25⟩, credit := 4096 * (c.get ⟨24, 0, 25⟩ : Int), tLast := nsNow s } } s)
        (exec (.schQueueSet c) s)) ∧
      (∀ l, op = 0 → leafOf s n = some l → l.held = false → l.spilling = false → l.staging = [] →
        l.state = (if c.flag 18 5 then .host else .attached (c.get ⟨16, 0, 13⟩)) → ∃ (u : State) (x : Leaf),
          Settles c 0 u (exec (.schQueueSet c) s) ∧ u = refile (leafNode n) (setLeaf n x s) ∧ x.onDie = l.onDie ∧ x.pageSeq = l.pageSeq ∧
          x.limit = c.get ⟨28, 0, 24⟩ ∧ x.weight = c.u8 19 ∧ x.deficit = min l.deficit (1024 * (c.u8 19 : Int)) ∧
          x.shaper = l.shaper.set (c.get ⟨20, 0, 26⟩) (c.get ⟨24, 0, 25⟩) (nsNow s)) ∧
      (∀ l, op = 1 → leafOf s n = some l → ∃ u : State,
        Answers c ((if l.held then 2 else 1) + 4 * b2n l.spilling + 2 ^ 8 * b2n l.shaper.eligible + 2 ^ 32 * ceilDiv (depthOf s n) 256) u
          (exec (.schQueueSet c) s) ∧ u = { s with freeIx := u.freeIx, out := u.out }) ∧
      (op = 2 → ∃ u : State, Settles c 0 u (exec (.schQueueSet c) s) ∧ leafOf u n = none ∧ (∀ m, m ≠ n → leafOf u m = leafOf s m) ∧
        u = { s with sched := { s.sched with leaves := u.sched.leaves, orders := u.sched.orders, wheels := u.sched.wheels } })) ∧
    (∀ (c : Cmd) n op, Passes 0x0803 specMtrSet c s → n = c.get ⟨12, 0, 17⟩ + 131072 * b2n (c.flag 8 2) → op = c.get ⟨8, 0, 2⟩ →
      (op = 0 → ∃ (u : State) (m : Meter), Settles c 0 u (exec (.mtrSet c) s) ∧ u = setMeter n m { s with freeIx := u.freeIx } ∧
        m = { mode := c.get ⟨8, 3, 2⟩, keepTokens := c.flag 8 5, colourAware := c.flag 8 6, cir := c.get ⟨16, 0, 26⟩, cbs := c.get ⟨20, 0, 25⟩
              eir := c.get ⟨24, 0, 26⟩, ebs := c.get ⟨28, 0, 25⟩, pcpMap := c.u16 32, deiYellow := c.flag 34 0, untagged := c.get ⟨34, 1, 2⟩
              bucketC := m.bucketC, bucketE := m.bucketE, tLast := nsNow s } ∧
        (c.flag 8 5 = false → m.bucketC = 1000000 * (m.cbs : Int) ∧ m.bucketE = 1000000 * (m.ebs : Int)) ∧
        m.bucketC ≤ 1000000 * (m.cbs : Int) ∧ m.bucketE ≤ 1000000 * (m.ebs : Int) ∧
        ∀ o, c.flag 8 5 = true → meterOf s n = some o → o.held = false →
          m.bucketC = min (o.fill (nsNow s)).bucketC (1000000 * (m.cbs : Int)) ∧
          m.bucketE = min (o.fill (nsNow s)).bucketE (1000000 * (m.ebs : Int))) ∧
      (∀ m, op = 1 → meterOf s n = some m →
        Answers c ((if m.held then 2 else 1) + 2 ^ 32 * bucketBytes (m.fill (nsNow s)).bucketC) (if c.dataPtr = 0 then s else
          emit (.hostWrite c.fn c.dataPtr (meterBytes m n ++ leBytes 4 (bucketBytes (m.fill (nsNow s)).bucketC) ++
            leBytes 4 (bucketBytes (m.fill (nsNow s)).bucketE) ++ leBytes 24 0)) s) (exec (.mtrSet c) s)) ∧
      (op = 1 → meterOf s n = none → ∃ u : State, Answers c 0 u (exec (.mtrSet c) s) ∧ u = { s with freeIx := u.freeIx, out := u.out }) ∧
      (op = 2 → Settles c 0 { s with sched := { s.sched with meters := s.sched.meters.erase n } } (exec (.mtrSet c) s))) ∧
    (s.live = true →
      (∀ q, q < 128 → egressBytes s q < 512 → s.onDie → s.pair.mode ≠ .standby → nodeEnabled s q = true → (portNodeOf s q).held = false →
        (∀ v leaf level u l e fid rest f n, choose q s = (some (v, leaf, level), u) → leafOf s leaf = some l → serviceOf s v = some e →
          l.onDie = fid :: rest → frameOf s fid = some f → n = frameLength s f + (portNodeOf s q).overhead →
          prioOf s leaf = level ∧
          (∀ v' e' m, serviceOf s v' = some e' → e'.parent = q → e'.held = false → e'.shaper.eligible = true → m ∈ readyLeaves s v' →
            level ≤ prioOf s m) ∧
          Gives (exec (.schedulerRelease q [] false) s) (fun t =>
            egressOf t q = { egressOf s q with released := (egressOf s q).released ++ [fid] } ∧
            (∀ p, p ≠ q → egressOf t p = egressOf s p) ∧
            (∃ x y, leafOf t leaf = some x ∧ x.onDie = l.onDie.filter (· != fid) ∧ x.shaper = l.shaper.charge n (nsNow s) ∧
              serviceOf t v = some y ∧ y.shaper = e.shaper.charge n (nsNow s)) ∧
            counter t (0x8400 + 0x40 * q + 32) = counter s (0x8400 + 0x40 * q + 32) + 1 ∧
            (∀ off, off ≠ 0x8400 + 0x40 * q + 32 → counter t off = counter s off) ∧
            t = { s with counters := t.counters, pmc := t.pmc, fabric := { s.fabric with egress := t.fabric.egress }
                         pair := { s.pair with runs := t.pair.runs }
                         sched := { s.sched with leaves := t.sched.leaves, services := t.sched.services, orders := t.sched.orders
                                                 wheels := t.sched.wheels } })) ∧
        (s.sched.services.keysIf (fun n v => v.parent == q && decide (propagated s n < 8)) = [] →
          Gives (exec (.schedulerRelease q [] false) s) (fun t => t = { s with sched := { s.sched with orders := t.sched.orders } }))) ∧
      (∀ inst slot w, slot < 1024 → w = wheelsOf s inst → w.carried = [] → (w.fine.get [] slot).length ≤ 200 →
        Gives (exec (.fineSlot inst slot) s) (fun t =>
          (∀ node h, shaperOf s node = some h → shaperOf t node =
            some (if (w.fine.get [] slot).contains node && decide (h.eligibleAt ≤ nsNow s) then { h with eligible := true } else h)) ∧
          (wheelsOf t inst).carried = [] ∧
          (∀ node, node ∈ (wheelsOf t inst).fine.get [] slot ↔
            node ∈ w.fine.get [] slot ∧ ∃ h, shaperOf s node = some h ∧ nsNow s < h.eligibleAt) ∧
          (∀ k, k ≠ slot → (wheelsOf t inst).fine.get [] k = w.fine.get [] k) ∧
          t = { s with sched := { s.sched with leaves := t.sched.leaves, services := t.sched.services, wheels := t.sched.wheels } })) ∧
      (∀ inst slot w, slot < 64 → w = wheelsOf s inst →
        (w.coarse.get [] slot = [] → exec (.coarseBoundary inst slot) s =
          .next (setWheels inst { w with coarse := w.coarse.erase slot } s)) ∧
        ∀ node h, w.coarse.get [] slot = [node] → shaperOf s node = some h → exec (.coarseBoundary inst slot) s =
          .next (setWheels inst (Wheels.file { w with coarse := w.coarse.erase slot } node h.eligibleAt (nsNow s)) s)) ∧
      (s.watchdog.hk.up = true →
        (∀ n l, leafOf s n = some l → l.held = true →
          Gives (exec (.schParityRestore 0 n true) s) (Told (refile (leafNode n) (modLeaf n (fun l => { l with
            held := false, deficit := 0, shaper := { l.shaper with credit := 0, tLast := nsNow s, eligible := true } }) s)))) ∧
        (∀ n v, serviceOf s n = some v → v.held = true →
          Gives (exec (.schParityRestore 1 n true) s) (Told (refile (serviceNode n) (modService n (fun v => { v with
            held := false, deficit := 0, shaper := { v.shaper with credit := 0, tLast := nsNow s, eligible := true } }) s)))) ∧
        (∀ n, (portNodeOf s n).held = true →
          Gives (exec (.schParityRestore 2 n true) s) (Told (setPortNode n { portNodeOf s n with held := false } s))) ∧
        (∀ n m, meterOf s n = some m → m.held = true →
          Gives (exec (.schParityRestore 3 n true) s) (Told (setMeter n { m with
            held := false, bucketC := 1000000 * (m.cbs : Int), bucketE := 1000000 * (m.ebs : Int), tLast := nsNow s } s))) ∧
        ∀ kind n, schHeld s kind n = true → Gives (exec (.schParityRestore kind n false) s) (Told s)))

/-! ## The redundant pair (12_redundant_pair) -/

/-- The pair's commands and clocks, with nothing waiting that a change of state would settle. PAIR_SET takes the parameters and the device is
ALONE with claim 1, or in SYNC; PAIR_CLEAR leaves only the merges; MERGE_SET takes the lowest free merge and MERGE_CLEAR frees one. PAIR_STATUS
reports. PAIR_EXERCISE announces a slot two ahead and PAIR_RESYNC starts over or becomes the source; both wait. STATUS goes out each interval, the
ALIVE pin toggles, a failed resynchronisation is tried again, the end of the dwell asks for the role back, and a CLAIM leaves on every line port
that may transmit. -/
def Obligations.PairCommands : Prop :=
  (∀ (c : Cmd) (s : State) (op : Nat), op = c.get ⟨8, 0, 2⟩ → Passes 0x0901 specPairConfig c s →
    (op = 0 → s.pairQuiet = true → ∃ u : State, Answers c 0 u (exec (.pairConfig c) s) ∧ PairWork s u ∧
      u.pair.mode = (if c.flag 8 2 then .alone else .sync) ∧ (c.flag 8 2 = true → u.pair.claim = 1) ∧ u.pair.link28 = c.flag 8 3 ∧
      u.pair.community = c.get ⟨9, 0, 6⟩ ∧ u.pair.keySlot = c.u16 10 ∧ u.pair.partnerId = c.u64 12 ∧ u.pair.gateMask = c.u64 20 ∧
      u.pair.pnLead = (if c.u32 28 = 0 then 1048576 else c.u32 28) ∧ u.pair.merges = s.pair.merges) ∧
    (op = 1 → s.pair.mode = .off → Answers c 0 s (exec (.pairConfig c) s)) ∧
    (op = 1 → s.pair.mode ≠ .off → s.pairQuiet = true →
      Answers c 0 { s with pair := { merges := s.pair.merges, history := s.pair.history } } (exec (.pairConfig c) s)) ∧
    (∀ i m, op = 2 → s.pair.merges.firstFree 0 32 = some i →
      m = ({ portA := c.get ⟨9, 0, 6⟩, portB := c.get ⟨10, 0, 6⟩, cutThrough := c.flag 8 2, community := c.get ⟨11, 0, 6⟩
             skew := if c.u16 12 = 0 then 2000 else c.u16 12 } : Merge) →
      Answers c i { s with pair := { s.pair with merges := s.pair.merges.set i m } } (exec (.pairConfig c) s)) ∧
    (∀ i, op = 3 → mergeAt s (c.get ⟨9, 0, 6⟩) = some i →
      Answers c i { s with pair := { s.pair with merges := s.pair.merges.erase i } } (exec (.pairConfig c) s))) ∧
  (∀ (c : Cmd) (s : State),
    (Passes 0x0902 specPairStatus c s →
      Answers c (s.pair.mode.code + 8 * b2n s.pair.prePending + 16 * b2n s.pair.linkUp + 32 * b2n s.pair.aliveIn + 2 ^ 16 * s.pair.claim +
        2 ^ 32 * s.pair.partnerClaim + 2 ^ 48 * s.pair.lag)
        (if c.dataPtr = 0 then s else emit (.hostWrite c.fn c.dataPtr ((List.range 32).map (mergeRecord s)).flatten) s)
        (exec (.pairStatus c) s)) ∧
    (Passes 0x0903 specPairExercise c s → (s.pair.nonceOwn = [] ∨ s.pair.nonceOwn.length = 32) →
      Gives (exec (.pairExercise c) s) (fun t =>
        PairWork { s with running := s.running ++ [{ cmd := c, cls := .c, locks := [.pair], wait := .work }] } t ∧ Stated s t s.pair.discarding ∧
        t.pair = { s.pair with handover := some ((s.pair.slot + 2) % 2 ^ 32), roundTrip := c.flag 8 0, startedTick := s.tick
                               dwell := if c.u32 12 = 0 then 100 else c.u32 12, seqTx := t.pair.seqTx, sent := t.pair.sent })) ∧
    (Passes 0x0904 specPairResync c s → (s.pair.mode = .standby → s.pairQuiet = true) →
      Gives (exec (.pairResync c) s) (fun t =>
        PairWork { s with running := s.running ++ [{ cmd := c, cls := .c, locks := [.pair], wait := .work }] } t ∧
        t.pair.startedMs = msNow s ∧
        t.pair.mode = (if s.pair.mode = .standby then .sync else s.pair.mode) ∧
        (if s.pair.mode = .alone ∨ s.pair.mode = .active then t.pair.source = true ∧ t.pair.stage = .nonces ∧ t.pair.faultSent = false
         else t.pair.source = false ∧ t.pair.stage = .none ∧ t.pair.session = none)))) ∧
  ∀ (s : State), s.live = true →
    (s.pair.mode = .off → exec .pairStatusInterval s = .next s ∧ exec .claimInterval s = .next s) ∧
    (s.pair.mode ≠ .off → (s.pair.nonceOwn = [] ∨ s.pair.nonceOwn.length = 32) →
      Gives (exec .pairStatusInterval s) (fun t => PairWork s t ∧ Stated s t s.pair.discarding ∧
        t.pair = { s.pair with faultSent := s.pair.faultSent && faultLasts s, nonceOwn := t.pair.nonceOwn, seqTx := t.pair.seqTx
                               sent := t.pair.sent })) ∧
    (s.pair.mode ≠ .off → Gives (exec .claimInterval s) (fun t => PairWork s t ∧ t.pair = s.pair ∧
      ∀ p v, p < 64 → commOf s s.pair.community = some v → ∃ w, commOf t s.pair.community = some w ∧
        w.seqs.get 0 p = if mayTransmit s (64 + p) then (v.seqs.get 0 p + 1) % 2 ^ 32 else v.seqs.get 0 p)) ∧
    (∀ partner p, p = { s.pair with aliveIn := s.pair.aliveIn || (partner && s.pair.mode != .off) } →
      (s.power.rootLock = true → Gives (exec (.pairAliveToggle partner) s) (Told { s with pair := { p with aliveOut := !s.pair.aliveOut } })) ∧
      (s.power.rootLock = false → exec (.pairAliveToggle partner) s = .next { s with pair := p })) ∧
    (if s.pair.mode = .sync ∧ s.pair.retry = true then Gives (exec .pairResyncRetry s) (fun t => PairWork s t ∧ t.pair.retry = false ∧
        t.pair = { s.pair with retry := false, nonceOwn := t.pair.nonceOwn, seqTx := t.pair.seqTx, sent := t.pair.sent })
     else exec .pairResyncRetry s = .next s) ∧
    (if s.pair.mode = .standby ∧ s.pair.roundTrip = true then Gives (exec .pairDwellExpiry s) (fun t => PairWork s t ∧
        t.pair = { s.pair with handBack := true, roundTrip := false, handover := some ((s.pair.slot + 2) % 2 ^ 32), seqTx := t.pair.seqTx
                               sent := t.pair.sent })
     else exec .pairDwellExpiry s = .next s)

/-- What arrives on the pair link, with nothing waiting. A message that fails its CRC is counted and asked for again once; one out of order is
asked for again, a repeated one ignored. A STATUS with FAULT makes a standby take over with claim + 1 and an active device ALONE; of two ALONE
devices the one whose partner's DEVICE_ID is lower goes to SYNC. An ORDER without heads moves the slot on, one whose heads have not come waits, one
whose CHECKS differ ends lockstep. A MIRROR in sequence with a good tag is taken, another ends lockstep or the resynchronisation. The end of an
active device's slot sends ORDER. At the cut-in the source is ACTIVE with every lead applied and the other device STANDBY. A head held too long ends
lockstep, or is dropped; a release that waits too long ends lockstep. -/
def Obligations.PairMessages : Prop :=
  ∀ (s : State), s.live = true →
    (∀ b, s.pair.mode ≠ .off → s.power.rootLock = true → (s.pair.nonceOwn = [] ∨ s.pair.nonceOwn.length = 32) →
      ∀ i, i = .pairStatusRx b false ∨ i = .pairOrderRx b false ∨ i = .pairMirrorRx b false →
        Gives (exec i s) (fun t => if s.pair.discarding then Told (State.plus 0xc110 1 s) t
          else PairWork s t ∧ Stated s t true ∧ t.pair = { s.pair with discarding := true, seqTx := t.pair.seqTx, sent := t.pair.sent })) ∧
    (∀ b type i, (type = 1 ∧ i = .pairOrderRx b true ∨ type = 2 ∧ i = .pairMirrorRx b true) → s.pair.seqFresh = false →
      State.pairNext { s with pair := { s.pair with seqRx := beAt b 4 4 } } type b = true → beAt b 4 4 ≠ s.pair.seqRx →
      (s.pair.nonceOwn = [] ∨ s.pair.nonceOwn.length = 32) →
      (reached (beAt b 4 4) s.pair.seqRx = true ∨ s.pair.discarding = true → exec i s = .next s) ∧
      (reached (beAt b 4 4) s.pair.seqRx = false → s.pair.discarding = false → Gives (exec i s) (fun t => PairWork s t ∧ Stated s t true))) ∧
    (s.pairQuiet = true → ∀ b flags p, s.pairNext 3 b = true → b.length = 64 → beAt b 8 8 = s.pair.partnerId → flags = byteAt b 16 →
      bitOf flags 5 = false → allZero (slice b 32 32) = true →
      p = { s.pair with
        seqFresh := false, discarding := false, seqRx := (s.pair.seqRx + 1) % 2 ^ 32, linkUp := true, partnerMode := some (flags % 8)
        partnerFault := bitOf flags 3, partnerFw := bitOf flags 4, partnerClaim := beAt b 18 2
        handover := if bitOf flags 6 then some (beAt b 24 4) else s.pair.handover } →
      (s.pair.mode = .standby → bitOf flags 3 = true → Gives (exec (.pairStatusRx b true) s) (fun t => PairWork s t ∧
        t.pair.mode = .alone ∧ t.pair.claim = (beAt b 18 2 + 1) % 65536 ∧ counter t 0xc128 = counter s 0xc128 + 1)) ∧
      (s.pair.mode = .standby → bitOf flags 3 = false → (beAt b 18 2 + 65535) % 65536 = s.pair.claim →
        Gives (exec (.pairStatusRx b true) s) (Told (State.plus 0xc108 1 { s with pair := p }))) ∧
      (s.pair.mode = .active → bitOf flags 3 = true → Gives (exec (.pairStatusRx b true) s) (fun t => PairWork s t ∧
        t.pair.mode = .alone ∧ t.pair.claim = s.pair.claim ∧ t.pair.partnerMode = none)) ∧
      (s.pair.mode = .active → bitOf flags 3 = false → flags % 8 = 2 →
        Gives (exec (.pairStatusRx b true) s) (Told (State.plus 0xc108 1 { s with pair := p }))) ∧
      (s.pair.mode = .alone → flags % 8 = 4 → Gives (exec (.pairStatusRx b true) s) (fun t => PairWork s t ∧
        t.pair.mode = if s.pair.partnerId < s.boot.deviceId then .sync else .alone))) ∧
    (∀ b o, s.pairQuiet = true → s.pair.mode = .standby → s.pair.told = [] → s.pair.unfollowed = none → s.pairNext 1 b = true →
      o = parseOrder b → o.runs = [] → o.excs = [] →
      Gives (exec (.pairOrderRx b true) s) (fun t => PairWork s t ∧
        if o.counts.all (· == 0) then
          (if o.checks = checksOf [] then t.pair.mode = .standby ∧ t.pair.slot = o.slot ∧ t.pair.orders = [] else t.pair.mode = .sync)
        else t.pair.mode = .standby ∧ t.pair.slot = s.pair.slot ∧ t.pair.orders = [b])) ∧
    (∀ b k n aad cipher, s.pairQuiet = true → s.pair.session = some k → s.pairNext 2 b = true → 32 ≤ b.length → n = beAt b 8 8 →
      (s.pair.mode = .standby ∨ s.pair.mode = .sync) → s.accord.communities = .empty → aad = b.take 1 ++ 0 :: (b.take 16).drop 2 →
      cipher = (b.drop 16).take (b.length - 32) →
      Gives (exec (.pairMirrorRx b true) s) (fun t =>
        if n = s.pair.mirrorRx + 1 ∧ Config.gcmTag k n aad cipher = b.drop (b.length - 16) then
          ∀ items, items = parseItems 256 (Config.gcmOpen k n aad cipher) → items.all (fun i => i.kind != 8 && i.apply.isSome) = true →
            s.pair.mode = .standby → PairWork s t ∧ t.pair.mirrorRx = n ∧ t.pair.items = items ∧ t.pair.mode = .standby
        else PairWork s t ∧ t.pair.mode = .sync ∧ t.pair.session = none ∧ (s.pair.mode = .sync → t.pair.retry = true))) ∧
    (s.pair.mode = .off ∨ s.pair.mode = .standby → exec .pairSlotEnd s = .next s) ∧
    (s.pair.mode = .alone ∨ s.pair.mode = .sync ∨ s.pair.mode = .isolated →
      exec .pairSlotEnd s = .next { s with pair := { s.pair with slot := (s.pair.slot + 1) % 2 ^ 32 } }) ∧
    (s.pair.mode = .active → s.pairQuiet = true → s.pair.dirty = [] → s.pair.commands = [] → s.pair.cutIn = none → s.pair.prePending = false →
      Gives (exec .pairSlotEnd s) (fun t => PairWork s t ∧
        t.pair = { s.pair with slot := (s.pair.slot + 1) % 2 ^ 32, heads := [], runs := [], excs := [], sent := t.pair.sent
                               seqTx := (s.pair.seqTx + 1) % 2 ^ 32 } ∧
        ∃ m, t.out = .message 0 m :: s.out ∧ byteAt m 0 = 1 ∧ beAt m 4 4 = s.pair.seqTx % 2 ^ 32 ∧ beAt m 8 4 = s.pair.slot % 2 ^ 32)) ∧
    (s.pair.cutIn = none → exec .pairCutIn s = .next s) ∧
    (∀ at_ n lead a, s.pair.cutIn = some at_ → s.pair.stage = .cutIn → (s.pair.mode = .alone ∨ s.pair.mode = .active) → s.pairQuiet = true →
      s.pair.dirty = [] → s.pair.commands = [] → s.pair.leads = [(n, lead)] → saOf s n = some a →
      Gives (exec .pairCutIn s) (fun t => t.pair.mode = .active ∧ t.pair.slot = at_ ∧ t.pair.stage = .none ∧ t.pair.source = false ∧
        t.pair.leads = [] ∧ saOf t n = some { a with nextPn := max a.nextPn lead } ∧ (∀ m, m ≠ n → saOf t m = saOf s m) ∧
        (∀ fid f, frameOf s fid = some f → frameOf t fid = some { f with early := true }) ∧
        ∃ u, u = { s with channels := { s.channels with sas := t.channels.sas }, fabric := { s.fabric with frames := t.fabric.frames } } ∧
          PairWork u t)) ∧
    (∀ at_, s.pair.cutIn = some at_ → s.pair.stage = .cutIn → s.pair.mode = .sync → s.pairQuiet = true → s.fabric.frames = .empty →
      s.pair.records.all (fun r => r.2.2.2 == 0) = true →
      (if (List.range 128).all (fun p => s.pair.records.any (fun r => r.1 == p)) then Gives (exec .pairCutIn s) (fun t => PairWork s t ∧
        t.pair.mode = .standby ∧ t.pair.slot = (at_ + 2 ^ 32 - 1) % 2 ^ 32 ∧ t.pair.claim = (s.pair.partnerClaim + 65535) % 65536 ∧
        t.pair.stage = .none ∧ t.pair.cutIn = none)
       else exec .pairCutIn s = .next s)) ∧
    (∀ port h rest, State.pairQuiet { s with pair := { s.pair with held := [] } } = true → s.pair.held = h :: rest →
      h.port = port →
      (s.pair.mode = .standby → Gives (exec (.standbyHoldExpiry port) s) (fun t => PairWork s t ∧ t.pair.mode = .sync ∧
        t.pair.held = s.pair.held ∧ counter t 0xc130 = counter s 0xc130 + 1)) ∧
      (s.pair.mode = .isolated → Gives (exec (.standbyHoldExpiry port) s) (Told (State.plus 0xc120 1 { s with pair := { s.pair with held := rest } })))) ∧
    (s.pair.held = [] → ∀ port, exec (.standbyHoldExpiry port) s = .next s) ∧
    (s.pair.waitRuns = [] ∨ s.pair.mode ≠ .standby → exec .releaseFrameWaitExpiry s = .next s) ∧
    (s.pair.waitRuns ≠ [] → s.pair.mode = .standby → State.pairQuiet { s with pair := { s.pair with waitRuns := [] } } = true →
      Gives (exec .releaseFrameWaitExpiry s) (fun t => PairWork s t ∧ t.pair.mode = .sync ∧ t.pair.waitRuns = []))

/-- Takeover, handover and merges, with nothing waiting. A silent PAIR_ALIVE_IN only tells while the link speaks; a standby or isolated device
whose partner is silent on pin and link is ALONE with claim + 1, a standby with a silent link and a toggling pin is ISOLATED, and an active device
carries on ALONE. At the slot of a handover the active device is STANDBY and the standby ACTIVE with claim + 1. A CLAIM under a merge's community is
recorded for its port, and the claimed port is the one whose live claim beats the other. A held frame whose PN is still due joins its path, counted
as filled; another is a duplicate. -/
def Obligations.PairTakeover : Prop :=
  ∀ (s : State), s.live = true →
    let taken := fun (t : State) => PairWork s t ∧ t.pair.mode = .alone ∧ t.pair.claim = (s.pair.partnerClaim + 1) % 65536 ∧
      t.pair.session = none ∧ t.pair.handover = none ∧ counter t 0xc128 = counter s 0xc128 + 1
    (s.pairQuiet = true →
      (s.pair.mode = .standby → s.pair.linkUp = true →
        Gives (exec (.pairSilenceTimeout true) s) (Told { s with pair := { s.pair with aliveIn := false } })) ∧
      (s.pair.mode = .standby → s.pair.linkUp = false → Gives (exec (.pairSilenceTimeout true) s) taken) ∧
      (s.pair.mode = .isolated → Gives (exec (.pairSilenceTimeout true) s) taken) ∧
      (s.pair.mode = .sync ∨ s.pair.mode = .active ∨ s.pair.mode = .alone →
        exec (.pairSilenceTimeout true) s = .next { s with pair := { s.pair with aliveIn := false } }) ∧
      (s.pair.mode = .standby → s.pair.aliveIn = false → Gives (exec (.pairSilenceTimeout false) s) taken) ∧
      (s.pair.mode = .standby → s.pair.aliveIn = true → Gives (exec (.pairSilenceTimeout false) s) (fun t =>
        PairWork s t ∧ t.pair.mode = .isolated ∧ t.pair.linkUp = false ∧ t.pair.session = none ∧ t.pair.claim = s.pair.claim)) ∧
      (s.pair.mode = .active → Gives (exec (.pairSilenceTimeout false) s) (fun t =>
        PairWork s t ∧ t.pair.mode = .alone ∧ t.pair.linkUp = false ∧ t.pair.partnerMode = none ∧ t.pair.claim = s.pair.claim)) ∧
      (s.pair.mode = .sync → s.pair.stage ≠ .none → Gives (exec (.pairSilenceTimeout false) s) (fun t =>
        t = { s with pair := t.pair } ∧ t.pair.mode = .sync ∧ t.pair.linkUp = false ∧ t.pair.stage = .none ∧ t.pair.retry = true)) ∧
      (s.pair.mode = .off → ∀ pin, exec (.pairSilenceTimeout pin) s = .next s) ∧
      (∀ h, s.pair.handover = some h → s.pair.mode = .active → Gives (exec .pairHandoverSlot s) (fun t => PairWork s t ∧
        t.pair.mode = .standby ∧ t.pair.slot = (h + 2 ^ 32 - 1) % 2 ^ 32 ∧ t.pair.mirrorRx = s.pair.mirrorTx ∧ t.pair.handover = none)) ∧
      (∀ h, s.pair.handover = some h → s.pair.mode = .standby → Gives (exec .pairHandoverSlot s) (fun t => PairWork s t ∧
        t.pair.mode = .active ∧ t.pair.slot = h ∧ t.pair.claim = (s.pair.partnerClaim + 1) % 65536 ∧ t.pair.mirrorTx = s.pair.mirrorRx ∧
        t.pair.handover = none ∧ counter t 0xc128 = counter s 0xc128 + 1))) ∧
    (s.pair.handover = none → exec .pairHandoverSlot s = .next s) ∧
    (∀ port m rest u, s.accord.messages = m :: rest → m.port = port → textType m.text = 6 → peerAt s m.community m.port m.src = none →
      u = { s with accord := { s.accord with messages := rest } } →
      (mergeOf s m.wire = none → exec (.accClaimRx port) s = .next u) ∧
      ∀ i g, mergeOf s m.wire = some (i, g) →
        (m.community ≠ g.community → exec (.accClaimRx port) s = .next u) ∧
        ∀ v, v = (if m.wire = g.portA then { g with
            claimA := beAt (textBody m.text) 16 2, idA := beAt (textBody m.text) 0 8, timeA := some (msNow s) } else { g with
            claimB := beAt (textBody m.text) 16 2, idB := beAt (textBody m.text) 0 8, timeB := some (msNow s) }) →
          m.community = g.community → s.pair.merges.wf = true → s.fabric.frames = .empty →
          Gives (exec (.accClaimRx port) s) (Told { u with pair := { s.pair with
            merges := s.pair.merges.set i { v with claimedB := claimedPort s v } } })) ∧
    ((∀ i g, s.pair.merges.find i = some g → claimedPort s g = g.claimedB) → exec .mergeClaimUpdate s = .next s) ∧
    (∀ i g, s.pair.merges.wf = true → s.pair.merges.keys = [i] → s.pair.merges.find i = some g → claimedPort s g ≠ g.claimedB → s.fabric.frames = .empty →
      Gives (exec .mergeClaimUpdate s) (Told { s with pair := { s.pair with
        merges := s.pair.merges.set i { g with claimedB := !g.claimedB } } })) ∧
    (∀ g, claimLive s g.timeA = true → claimLive s g.timeB = true → g.idA ≠ g.idB → g.claimA < 65536 → g.claimB < 65536 →
      claimedPort s g = beats g.claimB g.idB g.claimA g.idA) ∧
    ∀ fid f n a, frameOf s fid = some f → f.rxSa = some n → saOf s n = some a →
      (f.mergeWait ≠ 1 ∨ f.stored = false ∨ f.dropped = true → exec (.mergeHoldEnd fid) s = .next s) ∧
      (f.mergeWait = 1 → f.stored = true → f.dropped = false → s.fabric.frames.cells.all (fun k => k.2.mergeWait != 2) = true →
        (f.rxPn < a.nextPn → receiving s fid = false → f.source = none → Gives (exec (.mergeHoldEnd fid) s) (fun t =>
          frameOf t fid = none ∧ (∀ k, k ≠ fid → frameOf t k = frameOf s k) ∧ saOf t n = some a ∧
          counter t 0xc138 = counter s 0xc138 + 1)) ∧
        (∀ c, a.nextPn ≤ f.rxPn → f.express = false → scOf s f.rxSc = some c → Gives (exec (.mergeHoldEnd fid) s) (fun t =>
          frameOf t fid = some { f with mergeWait := 0 } ∧ (∀ k, k ≠ fid → frameOf t k = frameOf s k) ∧
          saOf t n = some (rxUpdate c true f.rxPn a) ∧
          (∀ i g, mergeOf s (f.ingress - 64) = some (i, g) → t.pair.merges = s.pair.merges.modify i (fun m => { m with filled := m.filled + 1 })) ∧
          Told (State.plus 0xc140 1 { s with
            fabric := { s.fabric with frames := t.fabric.frames }, sched := { s.sched with leaves := t.sched.leaves }
            channels := { s.channels with sas := t.channels.sas }, pair := { s.pair with merges := t.pair.merges } }) t)))

/-! ## Manager and workers (13_domain) -/

/-- The domain's commands and clocks. DOM_CONFIG makes the device manager, member 0 of a new domain, or a worker that asks to join, or ends the
domain. DOM_GLOBAL of a manager without children does its own part and completes; with children it waits for them. DOM_MEMBERS reports. KEEPALIVEs
leave each interval on every link and carry reports up; a refused worker asks again each second; TIME leaves each millisecond; an operation's
missing children fail with their subtrees; gathered REPORTs become one event; a lost link takes its members, or a worker out of the domain; a
schedule acts at its instant and not before, and so does a latch. -/
def Obligations.DomainCommands : Prop :=
  (∀ (c : Cmd) (s : State) (d : Domain), Passes 0x0a01 specDomConfig c s → d = { s.domain with
      role := c.get ⟨8, 0, 2⟩, link28 := c.flag 8 2, timeB := c.flag 8 3, timeEnable := c.flag 8 4, community := c.get ⟨9, 0, 6⟩
      minSeverity := c.get ⟨10, 0, 2⟩, domainId := c.u32 12, slotBase := c.u16 16, slotCount := c.u16 18, cak := (domSettings c s).cak
      linkKey := dlinkKey (domSettings c s).cak (c.u32 12) } →
    (∀ m, commOf s (c.get ⟨9, 0, 6⟩) = some m → (domSettings c s).cak = (slotOf s m.keySlot).key) ∧
    (∀ x, x = setDomain (c.flag 8 3) { domainOf s (c.flag 8 3) with agent := true } s →
      (c.get ⟨8, 0, 2⟩ = 2 → Answers c 0 (if c.flag 8 4 then { x with domain := d } else { s with domain := d }) (exec (.domConfig c) s)) ∧
      (c.get ⟨8, 0, 2⟩ = 1 → (∀ k, State.keysSettled { s with attar := { s.attar with domainKey := some k } } = true) →
        ∃ u : State, Answers c 0 u (exec (.domConfig c) s) ∧
          u.domain = { d with joined := true, member := some 0, stepped := false, reports := u.domain.reports
                              members := s.domain.members.set 0 { deviceId := s.boot.deviceId, sinceMs := msNow s } } ∧
          u.attar = { s.attar with domainKey := some (domKey d.cak (c.u32 12) s.attar.domainGen) } ∧
          Told { s with domain := u.domain, attar := u.attar, pair := { s.pair with dirty := u.pair.dirty } } u)) ∧
    (c.get ⟨8, 0, 2⟩ = 0 → s.domain.ops = [] → s.domain.barrier = none → s.accord.communities = .empty →
      ∃ u : State, Answers c 0 u (exec (.domConfig c) s) ∧ u.domain.role = 0 ∧ u.domain.joined = false ∧ u.domain.member = none ∧
        u.attar = { s.attar with domainKey := none
                                 domainGen := if s.domain.role = 2 then min genLimit (s.attar.domainGen + 1) else s.attar.domainGen } ∧
        u.time = (if s.domain.timeEnable then setDomain s.domain.timeB { domainOf s s.domain.timeB with agent := false } s else s).time ∧
        DomainWork { s with attar := u.attar, time := u.time, pair := { s.pair with dirty := u.pair.dirty } } u)) ∧
  (∀ (c : Cmd) (s : State) (op : Nat) (d : Domain) (sec ns : Nat), Passes 0x0a02 specDomGlobal c s → op = c.get ⟨8, 0, 4⟩ →
    s.domain.role = 1 → s.accord.communities = .empty → s.accord.peers = .empty →
    d = { s.domain with nextOpid := max 1 ((s.domain.nextOpid + 1) % 2 ^ 32) } → sec = latchAt s / 10 ^ 9 → ns = latchAt s % 10 ^ 9 →
    (childLinks s = [] →
      (op = 1 → s.domain.barrier = none → s.running.all (fun r => !r.isOp 0x0a02) = true → Answers c 0 s (exec (.domGlobal c) s)) ∧
      (op = 2 → Answers c 0 { s with domain := d } (exec (.domGlobal c) s)) ∧
      (op = 3 → Answers c 0 { s with domain := { d with latches := d.latches ++ [{ sec, ns, snapshot := true, resetKind := none }] } }
        (exec (.domGlobal c) s)) ∧
      (op = 4 → Answers c 0 { s with
        domain := { d with latches := d.latches ++ [{ sec, ns, snapshot := false, resetKind := none }] }
        power := { s.power with wish := if c.flag 8 4 then some { full := c.u8 9 == 0, byDomain := true } else s.power.wish } }
        (exec (.domGlobal c) s)) ∧
      (op = 5 → entServes s 1 = true → occupied s (c.u16 10) = false → ∃ u : State, Answers c 0 u (exec (.domGlobal c) s) ∧
        (∃ k, k < 2 ^ 256 ∧ slotOf u (c.u16 10) = {
          key := k, type := 1, usage := 1, persist := c.flag 8 5, parent := 0xfff2
          parentGen := s.attar.domainGen, gen := (slotOf s (c.u16 10)).gen }) ∧
        (∀ m, m ≠ c.u16 10 → slotOf u m = slotOf s m) ∧ DomainWork { s with
          attar := { s.attar with slots := u.attar.slots }, domain := d, pair := { s.pair with dirty := u.pair.dirty } } u) ∧
      (op = 6 → distributed s (c.u16 10) = true → ∃ u : State, Answers c 0 u (exec (.domGlobal c) s) ∧
        slotOf u (c.u16 10) = { gen := min genLimit ((slotOf s (c.u16 10)).gen + 1) } ∧ (∀ m, m ≠ c.u16 10 → slotOf u m = slotOf s m) ∧
        DomainWork { s with attar := u.attar, pair := { s.pair with dirty := u.pair.dirty } } u) ∧
      (op = 7 → ∃ u : State, Answers c 0 u (exec (.domGlobal c) s) ∧ u.attar = { s.attar with
          domainGen := s.attar.domainGen + 1, domainKey := some (domKey s.domain.cak s.domain.domainId (s.attar.domainGen + 1)) } ∧
        DomainWork { s with attar := u.attar, pair := { s.pair with dirty := u.pair.dirty } } u) ∧
      (op = 8 ∨ op = 9 → Answers c (if op = 9 ∧ s.gate.loaded = false then 1 else 0) { s with domain := { d with
        schedules := d.schedules.filter (fun x => !(x.op == op && x.id == c.u32 12)) ++
          [{ op, id := c.u32 12, sec := c.get ⟨16, 0, 48⟩, ns := c.u32 22 }] } } (exec (.domGlobal c) s))) ∧
    (childLinks s ≠ [] → op = 2 ∨ op = 3 ∨ op = 4 → Gives (exec (.domGlobal c) s) (fun t =>
      DomainWork { s with running := s.running ++ [{ cmd := c, cls := .b, locks := [.domain], wait := .work }] } t ∧
      t.domain.ops = s.domain.ops ++ [{ op, opid := s.domain.nextOpid, waiting := childLinks s, failed := 0 }] ∧
      ∀ n v, n ∈ childLinks s → (dxOf s n).epochOwn = some v → (dxOf t n).seqTx = ((dxOf s n).seqTx + 1) % 2 ^ 32))) ∧
  (∀ (c : Cmd) (s : State), Passes 0x0a03 specDomMembers c s → ∃ (u : State) (n : Nat),
    (s.domain.role ≠ 2 → n = s.domain.members.countIf (fun _ v => v.joined)) ∧ u = { s with freeIx := u.freeIx, out := u.out } ∧
    Answers c (s.domain.role + 4 * b2n (inDomain s) + 8 * b2n s.domain.stepped + 2 ^ 8 * s.domain.member.getD 255 + 2 ^ 16 * s.domain.depth +
      2 ^ 24 * n + 2 ^ 32 * s.attar.domainGen) u (exec (.domMembers c) s)) ∧
  ∀ (s : State), s.live = true →
    (s.domain.role = 0 → exec .domKeepaliveInterval s = .next s) ∧
    (s.domain.role = 1 → Gives (exec .domKeepaliveInterval s) (fun t => DomainWork s t ∧
      ∀ n e, n = 1 ∨ n = 2 → (dxOf s n).epochOwn = some e → (dxOf t n).seqTx = ((dxOf s n).seqTx + 1) % 2 ^ 32)) ∧
    (s.domain.role = 2 → Gives (exec .domKeepaliveInterval s) (fun t => DomainWork s t ∧ t.domain.role = 2 ∧
      (inDomain s = true → s.domain.dx0.up = true → t.domain.reports = []))) ∧
    (if s.domain.role = 2 ∧ s.domain.retry = true ∧ s.domain.joined = false ∧ s.domain.dx0.up = true then
      Gives (exec .domJoinRetry s) (fun t => DomainWork s t ∧
        ∀ e, s.domain.dx0.epochOwn = some e → t.domain.dx0.seqTx = (s.domain.dx0.seqTx + 1) % 2 ^ 32)
     else exec .domJoinRetry s = .next s) ∧
    (if s.domain.role = 1 ∧ s.time.state ≠ .unset then Gives (exec .domTimeInterval s) (fun t => DomainWork s t ∧
        ∀ n e, n ∈ childLinks s → (dxOf s n).epochOwn = some e → (dxOf t n).seqTx = ((dxOf s n).seqTx + 1) % 2 ^ 32)
     else exec .domTimeInterval s = .next s) ∧
    (∀ opid, s.domain.ops = [] → exec (.domAckTimeout opid) s = .next s) ∧
    (∀ o r n, s.domain.ops = [o] → s.domain.role = 1 → o.waiting = [n] → s.running = [r] → r.isOp 0x0a02 = true → r.wait = .work → r.xfer = none →
      r.cmd.get ⟨8, 0, 4⟩ ≠ 1 → r.cmd.get ⟨8, 0, 4⟩ ≠ 4 →
      Gives (exec (.domAckTimeout o.opid) s) (Answered r.cmd stOk 0 (knownMask s (o.failed ||| bitmap (below s n)))
        { s with running := [], domain := { s.domain with ops := [] } })) ∧
    (∀ code object, s.domain.merging.any (fun g => g.1 == code && g.2.1 == object) = false →
      exec (.domReportMerge code object) s = .next s) ∧
    (∀ code object severity mask k rest, s.domain.merging = (code, object, severity, mask, k) :: rest →
      rest.any (fun g => g.1 == code && g.2.1 == object) = false →
      Gives (exec (.domReportMerge code object) s) (Told { s with domain := { s.domain with merging := rest } })) ∧
    (∀ n, (domLinks s).contains n = false ∨ (dxOf s n).epochTheirs = none → exec (.domLinkLoss n) s = .next s) ∧
    (∀ n, s.domain.role = 1 → s.domain.member = some 0 → n = 1 ∨ n = 2 → (dxOf s n).epochTheirs.isSome = true → s.domain.ops = [] →
      s.domain.barrier = none → Gives (exec (.domLinkLoss n) s) (fun t =>
        dxOf t n = {} ∧ (∀ m v, m ∈ subtree n → t.domain.members.find m = some v → v.joined = false) ∧
        (∀ m, m ∉ subtree n → t.domain.members.find m = s.domain.members.find m) ∧ counter t 0x104b0 = counter s 0x104b0 + 1 ∧
        DomainWork { s with watchdog := { s.watchdog with lastLevel := 7 } } t)) ∧
    (s.domain.role = 2 → s.domain.joined = true → s.domain.dx0.epochTheirs.isSome = true → (domainOf s s.domain.timeB).agent = false →
      Gives (exec (.domLinkLoss 0) s) (fun t =>
        t.domain.dx0 = {} ∧ t.domain.joined = false ∧ t.domain.member = none ∧ t.domain.retry = true ∧
        DomainWork { s with watchdog := { s.watchdog with lastLevel := 7 } } t)) ∧
    (∀ op id, s.domain.schedules = [] → exec (.domScheduledInstant op id) s = .next s) ∧
    (∀ x, s.domain.schedules = [x] →
      (toTotal s < instantNs x.sec x.ns → exec (.domScheduledInstant x.op x.id) s = .next s) ∧
      (instantNs x.sec x.ns ≤ toTotal s →
        (x.op ≠ 9 → exec (.domScheduledInstant x.op x.id) s = .next { s with domain := { s.domain with schedules := [] } }) ∧
        (x.op = 9 → s.gate.loaded = true → Gives (exec (.domScheduledInstant x.op x.id) s) (fun t => t.running.length = s.running.length + 1 ∧
          Told (State.plus 0x10288 1 { s with
            domain := { s.domain with schedules := [] }, running := t.running
            gate := { s.gate with activeB := !s.gate.activeB, loaded := false, epoch := (s.gate.epoch + 1) % 2 ^ 32 } }) t)) ∧
        (x.op = 9 → s.gate.loaded = false →
          Gives (exec (.domScheduledInstant x.op x.id) s) (Told { s with domain := { s.domain with schedules := [] } })))) ∧
    (∀ board l, s.domain.latches = [l] →
      (toTotal s < instantNs l.sec l.ns → exec (.domLatchInstant board) s = .next s) ∧
      (instantNs l.sec l.ns ≤ toTotal s → l.resetKind = none →
        (l.snapshot = false → Gives (exec (.domLatchInstant board) s) (Told { s with domain := { s.domain with latches := [] } })) ∧
        (l.snapshot = true → Gives (exec (.domLatchInstant board) s) (fun t => t.pmc.snapSeq = (s.pmc.snapSeq + 1) % 2 ^ 32 ∧
          Told { s with pmc := t.pmc, domain := { s.domain with latches := [] } } t))))

/-- What arrives on domain links. A message that fails its CRC is counted and asked for again; one of another session, or whose TAG is wrong, is
refused, counted and told. A KEEPALIVE tells of its sender, starts a session, or takes a worker out whose parent has left. A manager answers a JOIN
by recording the child, or refuses a number that another device holds. WELCOME makes a worker a member, or it asks again. KEYS writes or deletes a
distributed key, TIME steps the tracked domain once and then sets its rate within the bound, GLOBAL does this member's part, each with an answer up;
GLOBAL_ACK completes the manager's command; a REPORT is gathered, or passed up. -/
def Obligations.DomainMessages : Prop :=
  ∀ (s : State) (n : Nat) (b body : Bytes), s.live = true → body = (b.drop 24).take (b.length - 40) →
    (∀ i ∈ [Instr.domKeepaliveRx n b false, .domJoinRx n b false, .domWelcomeRx n b false, .domKeysRx n b false, .domTimeRx n b false
            , .domGlobalRx n b false, .domGlobalAckRx n b false, .domReportRx n b false],
      ((domLinks s).contains n = false ∨ (dxOf s n).epochOwn = none → exec i s = .next s) ∧
      ((domLinks s).contains n = true → (dxOf s n).epochOwn.isSome = true →
        Gives (exec i s) (Told (State.plus 0xd110 1 (setDx n { dxOf s n with discarding := (dxOf s n).up } s))))) ∧
    (s.domWhole n 1 b = true → (dxOf s n).epochTheirs ≠ some (beAt b 12 4) →
      (beAt body 4 4 ≠ 0 → (dxOf s n).epochOwn ≠ some (beAt body 4 4) →
        Gives (exec (.domKeepaliveRx n b true) s) (Told (State.plus 0xd120 1 s))) ∧
      (beAt body 4 4 = 0 ∨ (dxOf s n).epochOwn = some (beAt body 4 4) → s.domain.role = 1 → bitOf (byteAt body 8) 0 = false →
        Gives (exec (.domKeepaliveRx n b true) s) (fun t =>
          (s.domAuthentic b → DomainWork s t ∧ (dxOf t n).epochTheirs = some (beAt b 12 4) ∧ (dxOf t n).seqTx = 0 ∧ (dxOf t n).sent = [] ∧
            (dxOf t n).up = decide ((dxOf s n).epochOwn = some (beAt body 4 4)) ∧ ∀ m, m ≠ n → dxOf t m = dxOf s m ∨ 2 < m ∧ n = 2) ∧
          (¬s.domAuthentic b → Told (State.plus 0xd120 1 s) t)))) ∧
    (s.domNext n 1 b = true → bitOf (byteAt body 8) 0 = false →
      let told := fun (t : State) => ∃ delays, dxOf t n = { dxOf (s.domTaken n) n with
        joined := bitOf (byteAt body 8) 1, timeLocked := bitOf (byteAt body 8) 2, member := byteAt body 9, txNs := beAt body 12 4
        rxNs := stamp s, delays } ∧ (beAt body 16 4 = 0 → delays = (dxOf s n).delays) ∧
        (beAt body 16 4 ≠ 0 → ∃ d, delays = d :: (dxOf s n).delays.take 63)
      (s.domain.role = 1 → s.Takes n b (.domKeepaliveRx n b true) (fun u t => DomainWork u t ∧ told t)) ∧
      (s.domain.role = 2 → n = 0 → bitOf (byteAt body 8) 1 = true → s.Takes n b (.domKeepaliveRx n b true) (fun u t =>
        DomainWork u t ∧ told t ∧ t.domain.depth = byteAt body 10 % 8 ∧ t.domain.joined = s.domain.joined)) ∧
      (s.domain.role = 2 → n = 0 → bitOf (byteAt body 8) 1 = false → s.domain.joined = true → (domainOf s s.domain.timeB).agent = false →
        s.Takes n b (.domKeepaliveRx n b true) (fun u t => DomainWork u t ∧ t.domain.joined = false ∧ t.domain.member = none ∧
          t.domain.retry = true))) ∧
    (s.domNext n 2 b = true → n = 1 ∨ n = 2 →
      (inDomain s = false → s.Takes n b (.domJoinRx n b true) (fun u t => DomainWork u t ∧ t.domain.members = s.domain.members)) ∧
      (s.domain.role = 1 → s.domain.joined = true → s.domain.member = some 0 → byteAt b 16 = 255 →
        (∀ v, s.domain.members.find n = some v → v.joined = true → v.deviceId ≠ beAt body 0 8 →
          s.Takes n b (.domJoinRx n b true) (fun u t => DomainWork u t ∧ t.domain.members = s.domain.members)) ∧
        ((∀ v, s.domain.members.find n = some v → v.joined = true → v.deviceId = beAt body 0 8) →
          s.Takes n b (.domJoinRx n b true) (fun u t => DomainWork u t ∧ (dxOf t n).joined = true ∧ t.domain.depth = domainDepth t ∧
            (∀ m, m ≠ n → t.domain.members.find m = s.domain.members.find m) ∧
            ∃ v, t.domain.members.find n = some v ∧ v.deviceId = beAt body 0 8 ∧ v.joined = true ∧ v.sinceMs = msNow s)))) ∧
    (s.domNext 0 3 b = true → s.domain.role = 2 → s.domain.joined = false → beAt body 0 8 = s.boot.deviceId →
      s.accord.communities = .empty → (domainOf s s.domain.timeB).agent = false →
      (byteAt body 8 ≠ 0 → s.Takes 0 b (.domWelcomeRx 0 b true) (fun u t =>
        Told (State.plus 0xd128 1 { u with domain := { u.domain with retry := true } }) t)) ∧
      (byteAt body 8 = 0 → s.Takes 0 b (.domWelcomeRx 0 b true) (fun u t =>
        t.domain.joined = true ∧ t.domain.member = some (byteAt body 9) ∧ t.domain.depth = byteAt body 10 % 8 ∧ t.domain.retry = false ∧
        t.attar = { s.attar with
          domainGen := beAt body 12 4, domainKey := some (domKey s.domain.cak s.domain.domainId (beAt body 12 4)) } ∧
        DomainWork { u with attar := t.attar, pair := { s.pair with dirty := t.pair.dirty } } t))) ∧
    (∀ slot, s.domNext 0 4 b = true → s.leafWorker → byteAt b 17 = 255 → slot = beAt body 0 2 → inRange s slot = true →
      s.domain.dx0.epochOwn.isSome = true →
      let acks := fun (t : State) => t.domain.dx0.seqTx = (s.domain.dx0.seqTx + 1) % 2 ^ 32
      (bitOf (byteAt body 2) 0 = false → occupied s slot = false → s.Takes 0 b (.domKeysRx 0 b true) (fun u t => acks t ∧
        match Config.unwrap (s.attar.domainKey.getD 0) (slice body 16 40) with
        | none => DomainWork u t
        | some k => (∀ m, m ≠ slot → slotOf t m = slotOf s m) ∧
          slotOf t slot = { key := k % 2 ^ 256, type := 1, usage := 1, parent := 0xfff2, parentGen := s.attar.domainGen
                            gen := (slotOf s slot).gen } ∧
          DomainWork { u with attar := { s.attar with slots := t.attar.slots }, pair := { s.pair with dirty := t.pair.dirty } } t)) ∧
      (bitOf (byteAt body 2) 0 = true → distributed s slot = true → s.Takes 0 b (.domKeysRx 0 b true) (fun u t => acks t ∧
        slotOf t slot = { gen := min genLimit ((slotOf s slot).gen + 1) } ∧ (∀ m, m ≠ slot → slotOf t m = slotOf s m) ∧
        DomainWork { u with attar := t.attar, pair := { s.pair with dirty := t.pair.dirty } } t))) ∧
    (∀ total, s.domNext 0 5 b = true → s.leafWorker → byteAt b 17 = 255 →
      total = instantNs (beAt body 0 6) (beAt body 6 4) + linkDelay s.domain.dx0 →
      let d := fun (t : State) => domainOf t s.domain.timeB
      ((d s).agent = false → s.Takes 0 b (.domTimeRx 0 b true) (fun u t => DomainWork u t)) ∧
      ((d s).agent = true → s.domain.stepped = false → s.Takes 0 b (.domTimeRx 0 b true) (fun u t => t.domain.stepped = true ∧
        (d t).clock = { sec := total / 10 ^ 9, ns := total % 10 ^ 9 } ∧ (d t).state = .locked ∧ DomainWork { u with time := t.time } t)) ∧
      ((d s).agent = true → s.domain.stepped = true → s.Takes 0 b (.domTimeRx 0 b true) (fun u t =>
        (∃ r : Int, -3435973 ≤ r ∧ r ≤ 3435973 ∧ (d t).rate = toSigned 32 (0x9999999a + r)) ∧ (d t).clock = (d s).clock ∧
        (d t).state = .locked ∧ DomainWork { u with time := t.time } t))) ∧
    (∀ op id x, s.domNext 0 6 b = true → s.leafWorker → byteAt b 17 = 255 → op = byteAt body 0 → id = beAt body 8 4 →
      x = ({ op, id, sec := beAt body 16 6, ns := beAt body 22 4 } : Schedule) →
      let does := fun (p : State → State → Prop) => s.Takes 0 b (.domGlobalRx 0 b true) (fun u t => p u t ∧
        t.domain.dx0.seqTx = (s.domain.dx0.seqTx + 1) % 2 ^ 32)
      (op = 2 → does (fun u t => DomainWork u t ∧
        t.domain.broadcast = s.domain.broadcast ++ [BitVec.ofNat 512 (leNat (slice body 32 64))])) ∧
      (op = 3 → does (fun u t => DomainWork u t ∧
        t.domain.latches = s.domain.latches ++ [{ sec := x.sec, ns := x.ns, snapshot := true, resetKind := none }])) ∧
      (op = 4 → does (fun u t => DomainWork u t ∧
        t.domain.latches = s.domain.latches ++ [{ sec := x.sec, ns := x.ns, snapshot := false, resetKind := some (byteAt body 2) }])) ∧
      (op = 7 → does (fun u t => t.attar.domainGen = min genLimit (s.attar.domainGen + 1) ∧
        DomainWork { u with attar := t.attar, pair := { s.pair with dirty := t.pair.dirty } } t)) ∧
      (op = 8 ∨ op = 9 → does (fun u t => DomainWork u t ∧
        t.domain.schedules = s.domain.schedules.filter (fun y => !(y.op == op && y.id == id)) ++ [x])) ∧
      (∀ h r, op = 1 → s.domain.barrier = some h → h.id = id → s.running = [r] → r.isOp 0x0a02 = true → r.wait = .work → r.xfer = none →
        r.cmd.get ⟨8, 0, 4⟩ = 1 → s.Takes 0 b (.domGlobalRx 0 b true) (fun u t => ∃ v, DomainWork { u with running := [] } v ∧
          v.domain.barrier = none ∧ Answered r.cmd stOk 0 (beAt body 12 4 * 2 ^ 32 + beAt body 28 4) v t))) ∧
    (∀ o, s.domNext n 7 b = true → n = 1 ∨ n = 2 → inDomain s = true → s.domain.ops = [o] → o.opid = beAt body 0 4 →
      (∀ k, o.waiting = [n, k] → k ≠ n → s.Takes n b (.domGlobalAckRx n b true) (fun u t => DomainWork u t ∧
        t.domain.ops = [{ o with waiting := [k], done := o.done + beAt body 4 2, failed := o.failed ||| beAt body 8 8 }])) ∧
      (∀ r, o.waiting = [n] → s.domain.role = 1 → s.running = [r] → r.isOp 0x0a02 = true → r.wait = .work → r.xfer = none →
        r.cmd.get ⟨8, 0, 4⟩ ≠ 1 → r.cmd.get ⟨8, 0, 4⟩ ≠ 4 → s.Takes n b (.domGlobalAckRx n b true) (fun u t =>
          Answered r.cmd stOk 0 (knownMask s (o.failed ||| beAt body 8 8)) { u with
            running := [], domain := { u.domain with ops := [] } } t))) ∧
    (s.domNext n 8 b = true → n = 1 ∨ n = 2 → inDomain s = true →
      (∀ m code object severity, s.domain.role = 1 → s.domain.merging = [] → m = byteAt body 0 → code = leAt (slice body 8 32) 0 2 →
        object = leAt (slice body 8 32) 12 4 → severity = byteAt (slice body 8 32) 2 % 4 →
        s.Takes n b (.domReportRx n b true) (fun u t => DomainWork u t ∧ t.domain.merging = [(code, object, severity, 2 ^ m, 1)] ∧
          ∀ v, s.domain.members.find m = some v → t.domain.members.find m = some { v with lastReport := slice body 8 32 })) ∧
      (s.domain.role = 2 → s.domain.dx0.up = true → s.domain.dx0.epochOwn.isSome = true →
        s.Takes n b (.domReportRx n b true) (fun u t => DomainWork u t ∧ t.domain.merging = s.domain.merging ∧
          t.domain.dx0.seqTx = (s.domain.dx0.seqTx + 1) % 2 ^ 32)))

/-! ## Time (14_time) -/

/-- Time. TIM_STEP sets an UNSET domain's clock and locks it, keeps the step for the next PPS edge, or resets the domain; TIM_RATE sets HOLD and
the rate word and locks it again; TIM_SELECT chooses the domain that TO follows, to which it slews; TIM_SCHEDULE sets or cancels a ROLL instant or
a timer. A domain without a rate within HOLD is LOST, and TO fails over or holds over; a slewing TO within 1.6 ns takes its domain's value. A PPS
edge is captured after pending steps, one within 900 ms of the last ignored, a missing one told once; PPS_OUT rises at the second and falls at its
width. A timer at its instant drives its pin or tells its owner, and is gone. -/
def Obligations.TimeKeeping : Prop :=
  (∀ (c : Cmd) (s : State) (b : Bool), b = c.flag 8 0 →
    (Passes 0x0b01 specTimStep c s →
      (c.flag 8 1 = true → ∃ u : State, Answers c 0 u (exec (.timStep c) s) ∧
        (let d := { domainOf s b with state := .unset, step := none }
         if (domainOf s b).state = .locked then TimeLoses b d s u
         else TimeMoves b d s u ∧ u.time.state = s.time.state ∧ u.time.selected = s.time.selected ∧ u.time.clock = s.time.clock)) ∧
      (c.flag 8 1 = false → c.flag 8 2 = true →
        Answers c 0 (setDomain b { domainOf s b with step := some (c.get ⟨12, 0, 48⟩, c.u32 18) } s) (exec (.timStep c) s)) ∧
      (c.flag 8 1 = false → c.flag 8 2 = false → ∃ u : State, Answers c 0 u (exec (.timStep c) s) ∧
        TimeGains b { domainOf s b with clock := { sec := c.get ⟨12, 0, 48⟩, ns := c.u32 18 }, step := none, state := .locked } s u)) ∧
    (Passes 0x0b02 specTimRate c s → ∃ (u : State) (d : TimeDomain), Answers c 0 u (exec (.timRate c) s) ∧
      d = { domainOf s b with hold := if c.u16 10 = 0 then 20 else c.u16 10, state := .locked
                              rate := toSigned 32 (0x9999999a + signedOf 32 (c.u32 12)) } ∧
      if (domainOf s b).state = .locked then u = setDomain b d s else TimeGains b d s u) ∧
    (Passes 0x0b03 specTimSelect c s → ∃ u : State, Answers c (toCode u.time.state + 2 ^ 32 * offsetNs u b) u (exec (.timSelect c) s) ∧
      u.time = { s.time with
        selected := b, failover := c.flag 8 1, slewPpm := if c.u16 10 = 0 then 100 else c.u16 10
        state := if s.time.selected = b ∨ s.time.state = .unset then s.time.state else .slewing } ∧
      Told { s with time := u.time } u) ∧
    (Passes 0x0b04 specTimSchedule c s → ∀ a n e, a = c.get ⟨8, 1, 3⟩ → n = c.get ⟨12, 0, 17⟩ →
      e = ({ owner := c.fn, action := a, pin := c.get ⟨9, 0, 4⟩, sec := c.get ⟨16, 0, 48⟩, ns := c.u32 22 } : TimerAction) →
      (a = 1 → c.flag 8 0 = true → Answers c 0 { s with time := { s.time with rolls := s.time.rolls.erase n } } (exec (.timSchedule c) s)) ∧
      (a = 1 → c.flag 8 0 = false →
        Answers c 0 { s with time := { s.time with rolls := s.time.rolls.set n (e.sec, e.ns) } } (exec (.timSchedule c) s)) ∧
      (a ≠ 1 → c.flag 8 0 = true → Answers c 0 { s with time := { s.time with timers := s.time.timers.erase n } } (exec (.timSchedule c) s)) ∧
      (a ≠ 1 → c.flag 8 0 = false → Answers c 0 { s with time := { s.time with timers := s.time.timers.set n e } } (exec (.timSchedule c) s)))) ∧
  ∀ (s : State), s.live = true →
    (∀ n b, n < 2 → b = (n == 1) →
      (if (domainOf s b).state = .locked then
        Gives (exec (.timeDomainHoldExpiry n) s) (TimeLoses b { domainOf s b with state := .lost } s)
       else exec (.timeDomainHoldExpiry n) s = .next s)) ∧
    (if s.time.state = .slewing ∧ 5 * (offsetUnits s s.time.selected).natAbs < 8 * 2 ^ 32 then
      Gives (exec .toSlewConverged s) (Told { s with time := { s.time with
        state := .tracking, clock := (domainOf s s.time.selected).clock } })
     else exec .toSlewConverged s = .next s) ∧
    (∀ g, ((pinOf s g).function ≠ 2 ∨ ∃ t, s.time.ppsTick = some t ∧ s.tick < t + 562500000) → exec (.ppsInEdge g) s = .next s) ∧
    (∀ g, (pinOf s g).function = 2 → (∀ t, s.time.ppsTick = some t → t + 562500000 ≤ s.tick) →
      Gives (exec (.ppsInEdge g) s) (fun u =>
        (∀ b, domainOf u b = match (domainOf s b).step with
          | none => domainOf s b
          | some (sec, ns) => { domainOf s b with clock := { sec, ns }, step := none, state := .locked }) ∧
        u.time.ppsSeq = (s.time.ppsSeq + 1) % 2 ^ 32 ∧ u.time.ppsTo = stamp u ∧ u.time.ppsTa = domainStamp u false ∧
        u.time.ppsTb = domainStamp u true ∧ u.time.ppsGapRuns = true ∧ u.time.ppsTick = some s.tick ∧ Told { s with time := u.time } u)) ∧
    (if pinsOf s 2 ≠ [] ∧ s.time.ppsGapRuns = true then
      Gives (exec .ppsMissing s) (Told { s with time := { s.time with ppsGapRuns := false } })
     else exec .ppsMissing s = .next s) ∧
    (if s.time.state ≠ .unset ∧ pinsOf s 1 ≠ [] then
      Gives (exec .ppsOutSecond s) (fun t => Told { s with time := { s.time with ppsOut := true } } t ∧ ∃ o, t.out = o ++ s.out ∧ o ≠ [])
     else exec .ppsOutSecond s = .next s) ∧
    (if s.time.ppsOut = true then Gives (exec .ppsOutWidthEnd s) (Told { s with time := { s.time with ppsOut := false } })
     else exec .ppsOutWidthEnd s = .next s) ∧
    (∀ n, s.time.timers.find n = none → exec (.timerFire n) s = .next s) ∧
    ∀ n t, s.time.timers.find n = some t →
      (toTotal s < instantNs t.sec t.ns → exec (.timerFire n) s = .next s) ∧
      (instantNs t.sec t.ns ≤ toTotal s → Gives (exec (.timerFire n) s) (fun u =>
        if t.action = 2 then Told { s with time := { s.time with timers := s.time.timers.erase n } } u
        else (pinOf u t.pin).level = decide (t.action = 3) ∧ (∀ g, g ≠ t.pin → pinOf u g = pinOf s g) ∧
          u = { s with time := { s.time with timers := s.time.timers.erase n }, tamper := u.tamper, out := u.out }))

/-! ## The entropy unit (15_entropy) -/

/-- The entropy unit, of a device without Accord peers. ENT_READ returns as many bytes as asked for where the unit serves it, else waits; ENT_STATUS
reports; ENT_TEST_PATTERN enters a test mode with nothing kept, or leaves it through RETEST. A window that passes is counted and its bits released;
one that fails a test sends a READY unit to RETEST; start-up passed by every source leads to READY; a retest that takes too long fails the unit and
the reads that wait. A FAILED unit with two good sources is READY again, an excluded source that passes is readmitted. Output serves a waiting read
whole; one that has waited 10 ms ends with NOT_READY at start-up, else with ENTROPY_FAIL. -/
def Obligations.EntropyUnit : Prop :=
  (∀ (c : Cmd) (s : State),
    (∀ n, Passes 0x0c01 specEntRead c s → n = c.get ⟨8, 0, 13⟩ →
      (readServes s c = true → ∃ (bs : Bytes) (v : State), bs.length = n ∧ EntWork s v ∧
        Answers c (n + 2 ^ 16 * b2n (s.entropy.state == .test)) (emit (.hostWrite c.fn c.dataPtr bs) v) (exec (.entRead c) s)) ∧
      (readServes s c = false → exec (.entRead c) s =
        .next { s with running := s.running ++ [{ cmd := c, cls := .b, locks := [], wait := .entropy }] })) ∧
    (Passes 0x0c02 specEntStatus c s →
      Answers c (entState s + 2 ^ 32 * min (2 ^ 32 - 1) (msNow s - s.entropy.changedMs)) s (exec (.entStatus c) s)) ∧
    (∀ m, Passes 0x0c03 specEntTestPattern c s → m = c.get ⟨8, 0, 2⟩ → s.accord.peers = .empty →
      (m = 0 → s.entropy.state ≠ .test →
        Answers c 0 { s with entropy := { s.entropy with mode := 0, testSource := 0, pattern := [] } } (exec (.entTestPattern c) s)) ∧
      (m = 0 → s.entropy.state = .test → ∃ u : State, Answers c 0 u (exec (.entTestPattern c) s) ∧ Retests s u ∧ u.entropy.mode = 0) ∧
      (m ≠ 0 → ∃ u : State, Answers c 0 u (exec (.entTestPattern c) s) ∧ EntWork s u ∧ u.entropy.state = .test ∧ u.entropy.mode = m ∧
        u.entropy.seeds = 0 ∧ u.entropy.bits = 0 ∧ u.entropy.pattern = (if m = 1 then c.payload else []) ∧
        u.entropy.testSource = (if m = 1 then 0 else c.get ⟨8, 2, 2⟩)))) ∧
  ∀ (s : State), s.live = true → s.accord.peers = .empty →
    (∀ n apt run, n < 4 → s.entropy.state = .ready → apt < 792 → run < 41 →
      Gives (exec (.entWindowEnd [(n, apt, run)]) s) (fun t => t = { s with entropy := t.entropy } ∧
        esOf t n = { esOf s n with
          healthy := !(esOf s n).excluded, passes := (esOf s n).passes + 1, aptMax := max (esOf s n).aptMax apt
          rctMax := max (esOf s n).rctMax run } ∧
        (∀ m, m < 4 → m ≠ n → esOf t m = esOf s m) ∧
        t.entropy.seeds = s.entropy.seeds + min (4 - s.entropy.seeds)
          ((s.entropy.bits + (if (esOf s n).excluded then 0 else 1024)) / 2048))) ∧
    (∀ n apt run, n < 4 → s.entropy.state = .ready → (esOf s n).excluded = false → 792 ≤ apt ∨ 41 ≤ run →
      Gives (exec (.entWindowEnd [(n, apt, run)]) s) (fun t => Retests s t ∧ (esOf t n).healthy = false)) ∧
    (∀ a b c d : Nat × Nat, s.entropy.state = .starting → s.entropy.katFailed = false → s.entropy.bits = 0 → s.entropy.seeds = 0 →
      (∀ n, n < 4 → (esOf s n).excluded = false ∧ (esOf s n).needs ≤ (esOf s n).passes + 1) →
      (∀ x, x = a ∨ x = b ∨ x = c ∨ x = d → x.1 < 792 ∧ x.2 < 41) →
      Gives (exec (.entWindowEnd [(0, a.1, a.2), (1, b.1, b.2), (2, c.1, c.2), (3, d.1, d.2)]) s) (fun t => EntWork s t ∧
        t.entropy.state = .ready ∧ t.entropy.seeds = 0 ∧ t.entropy.requests = 0 ∧ ∀ n, n < 4 → (esOf t n).healthy = true)) ∧
    (∀ n rct, n < 4 →
      (s.entropy.state = .test → s.entropy.mode = 1 → exec (.entHealthFail n rct) s = .next s) ∧
      (s.entropy.state = .ready → (esOf s n).excluded = false → Gives (exec (.entHealthFail n rct) s) (fun t => Retests s t ∧
        (esOf t n).healthy = false ∧ counter t (if rct then 0xf118 else 0xf120) = counter s (if rct then 0xf118 else 0xf120) + 1))) ∧
    (s.entropy.state ≠ .retest → exec .entRetestTimeout s = .next s) ∧
    (s.entropy.state = .retest → s.running.all (fun r => r.wait != .entropy) = true →
      Gives (exec .entRetestTimeout s) (fun t => EntWork s t ∧ t.entropy.state = .failed ∧ t.entropy.seeds = 0)) ∧
    (∀ r, s.entropy.state = .retest → s.running = [r] → r.wait = .entropy → r.isOp 0x0c01 = true → r.xfer = none →
      Gives (exec .entRetestTimeout s) (fun t => ∃ v, EntWork { s with running := [] } v ∧ v.entropy.state = .failed ∧
        counter v 0xf130 = counter s 0xf130 + 1 ∧ Answered r.cmd stEntropyFail 0 0 v t)) ∧
    (∀ passed good, good = [0, 1, 2, 3].filter (fun n => !(esOf s n).excluded && passed.contains n) →
      (if s.entropy.state = .failed ∧ s.entropy.katFailed = false ∧ 2 ≤ good.length then
        Gives (exec (.entFailedRetest passed) s) (fun t => EntWork s t ∧ t.entropy.state = .ready ∧
          ∀ n, n < 4 → (esOf t n).healthy = good.contains n)
       else exec (.entFailedRetest passed) s = .next s)) ∧
    (∀ n passed, n < 4 →
      (if (esOf s n).excluded = true ∧ passed = true then
        Gives (exec (.entSourceRetest n passed) s) (Told (setEs n { esOf s n with excluded := false, healthy := true } s))
       else exec (.entSourceRetest n passed) s = .next s)) ∧
    (s.entropy.state = .ready → s.attar.sessionReady = true → s.attar.keeper.isSome = true → s.attar.storageKey.isSome = true →
      s.accord.epoch.isSome = true →
      (s.running = [] → exec .entRequestServe s = .next s) ∧
      ∀ r n, s.running = [r] → r.wait = .entropy → r.isOp 0x0c01 = true → r.xfer = none → r.cmd.fn < 32 → readServes s r.cmd = true →
        n = r.cmd.get ⟨8, 0, 13⟩ → 0 < n → Gives (exec .entRequestServe s) (fun t => ∃ bs v, bs.length = n ∧
          EntWork { s with running := [] } v ∧ v.entropy.nextFn = (r.cmd.fn + 1) % 32 ∧
          Answered r.cmd stOk 0 n (emit (.hostWrite r.cmd.fn r.cmd.dataPtr bs) v) t)) ∧
    (∀ i, s.running[i]? = none → exec (.entropyWaitExpiry i) s = .next s) ∧
    (∀ i r, s.running[i]? = some r → r.wait = .entropy → r.isOp 0x0c01 = true →
      (s.entropy.state = .ready ∨ s.entropy.state = .test → exec (.entropyWaitExpiry i) s = .next s) ∧
      (s.entropy.state = .starting ∨ s.entropy.state = .retest ∨ s.entropy.state = .failed →
        Gives (exec (.entropyWaitExpiry i) s) (Answered r.cmd (if s.entropy.state = .starting then stNotReady else stEntropyFail) 0 0
          (State.plus 0xf130 1 { s with running := s.running.eraseIdx i }))))

/-! ## Tamper (16_tamper) -/

/-- Tamper. TMP_CONFIG sets FAREWELL, fuses a source off, or sets its rank, enable and pin mode, and a condition that stands alarms anew.
TMP_EVIDENCE reports and with CLEAR forgets; TMP_ACK clears PENDING where the condition is absent; TMP_SELFTEST tests the armed sources asked for;
PIN_ASSIGN gives a GPIO its function or frees it. An onset of an armed source is recorded, counted and told; LOG to SQUELCH change nothing else, ERASE
SESSION raises ROOT_GEN, and ERASE_ALL destroys every key, counts the zeroisation and halts the device. On the cell alone a pin alarm is recorded and
takes the keeper key. A condition ends, and so does the window of FAREWELL. -/
def Obligations.Tampering : Prop :=
  (∀ (c : Cmd) (s : State) (n : Nat) (v : TamperSource), n = c.get ⟨8, 0, 4⟩ → v = sourceOf s n →
    (Passes 0x0d01 specTmpConfig c s →
      (c.flag 8 4 = true → Answers c 0 { s with tamper := { s.tamper with farewell := c.flag 12 0 } } (exec (.tmpConfig c) s)) ∧
      (c.flag 8 4 = false → c.flag 9 4 = true → Answers c 0 (setSource n { v with fused := true, enabled := false } s) (exec (.tmpConfig c) s)) ∧
      (∀ w, c.flag 8 4 = false → c.flag 9 4 = false → w = { v with
          rank := c.get ⟨9, 0, 3⟩, enabled := c.flag 9 3, mode := if 6 ≤ n ∧ n ≤ 9 then c.get ⟨10, 0, 2⟩ else v.mode
          debounce := if 6 ≤ n ∧ n ≤ 9 then (if c.u8 11 = 0 then 10 else c.u8 11) else v.debounce } →
        (v.active = false ∨ w.enabled = false ∨ v.enabled = true ∧ w.rank ≤ v.rank →
          Answers c 0 (setSource n w s) (exec (.tmpConfig c) s)) ∧
        (v.active = true → w.enabled = true → v.enabled = false ∨ v.rank < w.rank → w.rank ≤ 1 → s.noKeyOps = true →
          Answers c 0 (State.plus 0x10088 1 (recordOnset n (setSource n w s))) (exec (.tmpConfig c) s)))) ∧
    (Passes 0x0d02 specTmpEvidence c s → ∃ u : State,
      Answers c (evidenceResult s) (if c.dataPtr = 0 then u else emit (.hostWrite c.fn c.dataPtr (evidenceBlock s)) u) (exec (.tmpEvidence c) s) ∧
      u = { s with tamper := { s.tamper with sources := u.tamper.sources } } ∧
      ∀ k, k < 16 → sourceOf u k = if c.flag 8 0 then { sourceOf s k with seen := false, count := 0, firstS := 0, lastS := 0 }
        else sourceOf s k) ∧
    (Passes 0x0d03 specTmpAck c s → ∃ u : State,
      Answers c (sourceMask u (·.pending) + 2 ^ 16 * b2n (tamperLock u)) u (exec (.tmpAck c) s) ∧
      (∀ k, sourceOf u k = if k < 11 ∧ bitOf (c.u16 8) k = true ∧ (sourceOf s k).pending = true ∧ (sourceOf s k).active = false then
        { sourceOf s k with pending := false, applied := 0 } else sourceOf s k) ∧
      Told { s with tamper := { s.tamper with
        sources := u.tamper.sources, farewellRuns := s.tamper.farewellRuns && !(tamperLock s && !tamperLock u) } } u) ∧
    (Passes 0x0d05 specTmpSelftest c s → ∃ (u : State) (good bad : Nat), good < 2 ^ 11 ∧ bad < 2 ^ 11 ∧
      Answers c (good + 2 ^ 16 * bad) u (exec (.tmpSelftest c) s) ∧
      (∀ k, k < 11 → if bitOf (c.u16 8) k = true ∧ (sourceOf s k).armed = true then
          bitOf good k = !bitOf bad k ∧ sourceOf u k = { sourceOf s k with selftestFail := bitOf bad k }
        else bitOf good k = false ∧ bitOf bad k = false ∧ sourceOf u k = sourceOf s k) ∧
      Told { s with tamper := { s.tamper with sources := u.tamper.sources }, freeIx := u.freeIx, counters := u.counters } u)) ∧
  (∀ (c : Cmd) (s : State) (g : Nat) (old new : Pin), Passes 0x0d06 specPinAssign c s → g = c.get ⟨8, 0, 4⟩ → old = pinOf s g →
    (c.flag 8 7 = true ∨ c.get ⟨9, 0, 4⟩ = 0 → Answers c 0 (setPin g {} s) (exec (.pinAssign c) s)) ∧
    (c.flag 8 7 = false → c.get ⟨9, 0, 4⟩ ≠ 0 → new = ({
        function := c.get ⟨9, 0, 4⟩, inst := c.get ⟨10, 0, 2⟩, invert := c.flag 11 0, battery := old.battery
        level := old.function == 3 && c.get ⟨9, 0, 4⟩ == 3 && old.level } : Pin) →
      Answers c 0 (if isOutput new.function then emit (.pin g (functionLevel (setPin g new s) new != new.invert)) (setPin g new s)
        else setPin g new s) (exec (.pinAssign c) s))) ∧
  (∀ (s : State) (n : Nat) (v w : TamperSource) (u : State), s.live = true → n < 11 → v = sourceOf s n → w = { v with
      active := true, pending := true, seen := true, applied := if v.pending then max v.applied v.rank else v.rank
      count := satAdd 0xffff v.count 1, firstS := if v.seen then v.firstS else batSeconds s, lastS := batSeconds s } →
    u = setSource n w s →
    (v.active = true ∨ v.fused = true → exec (.tamperOnset [n]) s = .next s) ∧
    (v.active = false → v.fused = false → v.enabled = false → exec (.tamperOnset [n]) s = .next (setSource n { v with active := true } s)) ∧
    (v.active = false → v.fused = false → v.enabled = true → s.noKeyOps = true → s.tamper.farewell = false → s.pair.mode = .off →
      s.fabric.egress.cells.all (fun e => e.2.tx.isNone) = true →
      (v.rank ≤ 2 → Gives (exec (.tamperOnset [n]) s) (fun t => Told (State.plus 0x10088 1 u) t ∧ (v.rank = 2 → tamperLock t = true))) ∧
      (v.rank = 3 → s.attar.rootGen < genLimit → Gives (exec (.tamperOnset [n]) s) (fun t =>
        t.attar = { s.attar with rootGen := s.attar.rootGen + 1, sessionRoot := t.attar.sessionRoot, sessionReady := entServes s 1 } ∧
        tamperLock t = true ∧
        Told { u with attar := t.attar, freeIx := t.freeIx, entropy := t.entropy, counters := t.counters } t)) ∧
      (v.rank = 4 → s.attar.rootGen < genLimit → Gives (exec (.tamperOnset [n]) s) (fun t =>
        t.halted = true ∧ t.cmdReady = false ∧ t.watchdog.ctl.up = false ∧ t.watchdog.acc.up = false ∧ t.watchdog.hk.up = false ∧
        t.attar.keeper = none ∧ t.attar.storageKey = none ∧ t.attar.domainKey = none ∧ t.attar.sessionReady = false ∧
        t.attar.slots = .empty ∧ (∀ a x, saOf s a = some x → saOf t a = some { x with key := 0, nextPn := 0, low := 0 }) ∧
        sourceOf t n = w ∧ (∀ k, k ≠ n → sourceOf t k = sourceOf s k) ∧
        (if s.boot.lifecycle ≤ 1 then t.tamper = u.tamper
         else if s.tamper.vppOtp then t.tamper = { u.tamper with otpCount := min 32 (s.tamper.otpCount + 1) }
         else t.tamper = { u.tamper with zeroisePending := min 15 (s.tamper.zeroisePending + 1)
                                         pendingLost := s.tamper.pendingLost || s.tamper.zeroisePending == 15 })))) ∧
    (v.active = false → v.fused = false → v.enabled = true →
      (n < 6 → exec (.tamperPinOnCell [n]) s = .next { s with powered := false }) ∧
      (n = 10 ∨ 6 ≤ n ∧ v.rank = 0 → exec (.tamperPinOnCell [n]) s = .next { u with powered := false }) ∧
      (6 ≤ n → n < 10 → 1 ≤ v.rank → exec (.tamperPinOnCell [n]) s = .next { u with
        powered := false, attar := { s.attar with keeper := none }
        tamper := if s.boot.lifecycle ≤ 1 then u.tamper else { u.tamper with
          zeroisePending := min 15 (s.tamper.zeroisePending + 1)
          pendingLost := s.tamper.pendingLost || s.tamper.zeroisePending == 15 } })) ∧
    exec (.tamperConditionEnd n) s = .next (setSource n { v with active := false } s) ∧
    exec .farewellWindowEnd s = .next { s with tamper := { s.tamper with farewellRuns := false } })

/-! ## Boot, identity and attestation (17_boot_and_identity) -/

/-- Boot, identity and attestation. A well-signed BEGIN erases the idle bank and writes all but MAGIC, WRITE programs in order, FINISH writes
MAGIC where the hash holds, ABORT erases the header; a bad signature or hash and a flash failure end with SIG_FAIL and FAULT. FW_ACTIVATE writes the
record, or raises the floor; with RESTART the cores start again on the other bank, all else kept. LC_ADVANCE draws the identity or the keeper key,
advances, or destroys every key and the identity. ID_CERTS stores or returns a chain, ATTEST signs its report. GO runs a valid recovery image. -/
def Obligations.BootAndIdentity : Prop :=
  (∀ (c : Cmd) (s : State) (op off n : Nat) (b : Bool) (bank : Bytes), Passes 0x0e01 specFwStage c s → op = c.get ⟨8, 0, 2⟩ → off = c.u32 12 →
    n = off + c.u32 16 → b = !s.boot.bank → bank = bankOf s b →
    let step := fun (next : Option Nat) (bytes : Bytes) =>
      { setBank b bytes s with boot := { (setBank b bytes s).boot with staging := next } }
    let broken := step none (List.replicate 4096 0xff ++ bank.drop 4096)
    let rsa := keyKnown s 0 c.payload && sigGood 0 c.payload
    let slh := keyKnown s 1 c.payload && sigGood 1 c.payload
    (op = 0 → (rsa && slh) = false → Gives (exec (.fwStage c) s) (Answered c stSigFail (b2n (!rsa) + 2 * b2n (!slh)) 0 s)) ∧
    (s.attar.flashFailures = 0 →
      (op = 0 → (rsa && slh) = true → Answers c 24576 (step (some 24576) (List.replicate 4 0xff ++ (c.payload.drop 4).take 24572 ++
        List.replicate (leAt c.payload 16 4) 0xff)) (exec (.fwStage c) s)) ∧
      (op = 1 → Answers c n (step (some n) (bank.take off ++ c.payload ++ bank.drop (off + c.payload.length))) (exec (.fwStage c) s)) ∧
      (op = 2 → hashGood bank = true → Answers c (imgVersion (leBytes 4 0x474e5746 ++ bank.drop 4))
        (step none (leBytes 4 0x474e5746 ++ bank.drop 4)) (exec (.fwStage c) s)) ∧
      (op = 2 → hashGood bank = false → Gives (exec (.fwStage c) s) (Answered c stSigFail 4 0 broken))) ∧
    (1 ≤ s.attar.flashFailures → op = 1 ∨ op = 2 ∨ op = 0 ∧ (rsa && slh) = true →
      Gives (exec (.fwStage c) s) (Answered c stFault 0 0 broken)) ∧
    (op = 3 → ∃ r, Answers c r { broken with freeIx := s.freeIx + 1 } (exec (.fwStage c) s))) ∧
  (∀ (c : Cmd) (s : State) (m floor result : Nat) (run : Bool) (r : BankRecord), Passes 0x0e02 specFwActivate c s → m = c.get ⟨8, 0, 2⟩ →
    run = s.boot.bank → floor = (if m = 3 then max s.boot.floor (imgSvn s.boot.running) else s.boot.floor) →
    r = (if m = 0 then { active := !run } else if m = 1 then { active := run, trialSet := true } else if m = 2 then { active := run }
      else s.boot.record.getD {}) →
    result = b2n r.active + 2 ^ 8 * (b2n r.trialSet + 2 * b2n r.trialUsed) + 2 ^ 16 * floor →
    (c.flag 8 2 = false → Answers c result { s with boot := { s.boot with
      record := if m = 3 then s.boot.record else some r, trial := s.boot.trial && m != 2, floor } } (exec (.fwActivate c) s)) ∧
    (c.flag 8 2 = true → s.accord.communities = .empty → s.accord.peers = .empty → s.channels.rekeyDue = [] → ∃ u : State,
      Answered c stOk 0 result { s with boot := { s.boot with record := some r } } u ∧
      Gives (exec (.fwActivate c) s) (Told { u with
        cmdReady := true, running := []
        boot := { s.boot with
          record := some (if m = 0 then r else { r with trialUsed := true }), bank := !run, trial := m == 1, source := 0, stage := 6
          running := (bankOf s (!run)).take (24576 + imgBytes (bankOf s (!run))) }
        watchdog := { s.watchdog with
          ctl := { s.watchdog.ctl with up := true }, acc := { s.watchdog.acc with up := true }, hk := { s.watchdog.hk with up := true }
          stopped := false } }))) ∧
  (∀ (c : Cmd) (s : State) (g : Nat), Passes 0x0d04 specLcAdvance c s → g = c.get ⟨8, 0, 3⟩ →
    let told := fun (b : Boot) (u : State) => Told { s with
      boot := { b with lifecycle := g }, watchdog := { s.watchdog with debugHold := false }, attar := u.attar, channels := u.channels
      tamper := u.tamper, ports := u.ports, entropy := u.entropy, freeIx := u.freeIx, counters := u.counters } u
    (g = 1 ∨ g = 2 → entServes s 2 = false → exec (.lcAdvance c) s = .next { s with
      running := s.running ++ [{ cmd := c, cls := .c, locks := [.flash, .identity], wait := .entropy }] }) ∧
    (g = 1 → entServes s 2 = true → ∃ (u : State) (k l : Nat), Answers c 0 u (exec (.lcAdvance c) s) ∧ k < 2 ^ 3072 ∧ l < 2 ^ 768 ∧
      told { s.boot with identity := some { rsa := k, slh := l }, idValid := true } u ∧
      (u.attar, u.channels, u.tamper, u.ports) = (s.attar, s.channels, s.tamper, s.ports)) ∧
    (g = 2 → entServes s 2 = true → ∃ u : State, Answers c 0 u (exec (.lcAdvance c) s) ∧ told s.boot u ∧
      u.attar = { s.attar with keeper := u.attar.keeper, storageKey := u.attar.storageKey, tombstones := .empty, floor := 0 } ∧
      u.attar.keeper.isSome = true ∧ u.attar.storageKey.isSome = true ∧ u.entropy.mode = 0 ∧
      (u.channels, u.tamper, u.ports) = (s.channels, s.tamper, s.ports)) ∧
    (g = 3 → Answers c 0 { s with boot := { s.boot with lifecycle := 3 }, watchdog := { s.watchdog with debugHold := false } }
      (exec (.lcAdvance c) s)) ∧
    (g = 4 → Gives (exec (.lcAdvance c) s) (fun t => t.boot.lifecycle = 4)) ∧
    (g = 4 → s.fabric.egress.cells.all (fun e => e.2.tx.isNone) = true → (∀ p, busyRx s p = false) → ∃ u : State,
      Answers c 0 u (exec (.lcAdvance c) s) ∧ told { s.boot with identity := none, idValid := false } u ∧ u.entropy = s.entropy ∧
      u.attar = { s.attar with
        keeper := none, storageKey := none, domainKey := none, sessionReady := false, sessionRoot := 0, slots := .empty } ∧
      (∀ a x, saOf s a = some x → saOf u a = some { x with key := 0, nextPn := 0, low := 0 }) ∧
      (∀ p v, portOf u p = some v → v.linkUp = false ∧ v.adminUp = false) ∧
      u.tamper = if s.boot.lifecycle ≤ 1 then s.tamper else { s.tamper with otpCount := min 32 (s.tamper.otpCount + 1) })) ∧
  (∀ (c : Cmd) (s : State),
    (Passes 0x0e04 specIdCerts c s →
      (s.boot.identity.isNone = true ∨ s.boot.idValid = false → Gives (exec (.idCerts c) s) (Answered c stIntegrity 0 0 s)) ∧
      (∀ d slh chain, s.boot.identity = some d → s.boot.idValid = true → slh = c.flag 8 1 →
        chain = (if slh then d.chainSlh else d.chainRsa) →
        (c.flag 8 0 = true → Config.leafMatches (b2n slh) (if slh then d.slh else d.rsa) c.payload = true →
          Answers c 0 { s with boot := { s.boot with
            identity := some (if slh then { d with chainSlh := c.payload } else { d with chainRsa := c.payload }) } } (exec (.idCerts c) s)) ∧
        (c.flag 8 0 = true → Config.leafMatches (b2n slh) (if slh then d.slh else d.rsa) c.payload = false →
          Gives (exec (.idCerts c) s) (Answered c stIntegrity 0 0 s)) ∧
        (c.flag 8 0 = false → c.u32 12 < chain.length → Gives (exec (.idCerts c) s) (Answered c stNoResource 0 chain.length s)) ∧
        (c.flag 8 0 = false → chain.length ≤ c.u32 12 →
          Answers c chain.length (if chain = [] then s else emit (.hostWrite c.fn c.dataPtr chain) s) (exec (.idCerts c) s)))) ∧
    (Passes 0x0e03 specAttest c s →
      (s.boot.identity.isNone = true ∨ s.boot.idValid = false → Gives (exec (.attest c) s) (Answered c stIntegrity 0 0 s)) ∧
      (∀ d, s.boot.identity = some d → s.boot.idValid = true →
        (entServes s 2 = false → exec (.attest c) s = .next { s with
          running := s.running ++ [{ cmd := c, cls := .c, locks := [.identity], wait := .entropy }] }) ∧
        (entServes s 2 = true → ∃ (u : State) (salt rand : Nat) (body : Bytes), body = reportBody c s ∧ body.length = 256 ∧
          leAt body 0 4 = 0x41545354 ∧ leAt body 8 8 = s.boot.deviceId % 2 ^ 64 ∧ leAt body 28 4 = imgVersion s.boot.running ∧
          leAt body 96 4 = s.attar.rootGen % 2 ^ 32 ∧ leAt body 120 32 = bitsOf c.bits 64 256 ∧ salt < 2 ^ 384 ∧ rand < 2 ^ 192 ∧
          Answers c 0 (emit (.hostWrite c.fn c.dataPtr (body ++ beBytes 384 (Config.mac 60 d.rsa (beBytes 48 salt ++ body)) ++
            beBytes 16224 (Config.mac 61 d.slh (beBytes 24 rand ++ body)))) u) (exec (.attest c) s) ∧
          Told { s with entropy := u.entropy, freeIx := u.freeIx, counters := u.counters } u)))) ∧
  (∀ (w : Word) (s : State) (n code : Nat), s.live = true → GateAllows s 0 0x10104 true → n = w.toNat % 2 ^ 23 →
    code = checkImage s (windowBytes n s) true →
    (s.boot.stage ≠ 7 ∨ w.getLsbD 31 = false → exec (.bootRecoveryGo w) s = .next { s with boot := { s.boot with recoveryLength := n } }) ∧
    (s.boot.stage = 7 → w.getLsbD 31 = true → code ≠ 0 →
      exec (.bootRecoveryGo w) s = .next { s with boot := { s.boot with recoveryLength := n, errorA := code } }) ∧
    (s.boot.stage = 7 → w.getLsbD 31 = true → code = 0 → s.attar.keeper = none →
      Gives (exec (.bootRecoveryGo w) s) (fun t =>
        t.cmdReady = true ∧ t.watchdog.ctl.up = true ∧ t.watchdog.acc.up = true ∧ t.watchdog.hk.up = true ∧ t.boot = { s.boot with
          recoveryLength := n, window := .empty, bank := false, trial := false, source := 2, stage := 6, idValid := t.boot.idValid
          running := (windowBytes n s).take (24576 + imgBytes (windowBytes n s)) } ∧
        t.boot.idValid = (s.boot.identity.isSome && decide (s.boot.board.idBad < 2)))))
end

