-- ==== Sys2Proof/Decode.lean ====
section
/-!
DEFINITION. Commands spelled by words. No row of the opcode table has bits: a command reaches the block as a register access, a queue
entry, a frame, a pin or an instant, never as an encoded word.
-/
namespace Sys2Proof

/-- The command that a word spells: none, since the table gives no row any bits. -/
def decodeTableWord (_nbits _w : Nat) : Option Instr := none

end Sys2Proof
end

