-- ==== Sys2Proof/Laws/Table.lean ====
section
/-!
SUPPORT. The laws of tables: a read after a write, and every operation keeps the canonical form.
-/
namespace Sys2Proof.Machine

variable {α : Type}

theorem cellsFind_insert_same (k : Nat) (v : α) (l : List (Nat × α)) : cellsFind k (cellsInsert k v l) = some v := by
  induction l with
  | nil => simp [cellsInsert, cellsFind]
  | cons c rest ih =>
    obtain ⟨j, w⟩ := c
    simp only [cellsInsert]
    split_ifs with h1 h2
    · simp [cellsFind]
    · simp [cellsFind]
    · simp only [cellsFind, if_neg (Ne.symm h2), ih]

theorem cellsFind_insert_ne {k j : Nat} (h : j ≠ k) (v : α) (l : List (Nat × α)) :
    cellsFind j (cellsInsert k v l) = cellsFind j l := by
  induction l with
  | nil => simp [cellsInsert, cellsFind, h.symm]
  | cons c rest ih =>
    obtain ⟨i, w⟩ := c
    simp only [cellsInsert]
    split_ifs with h1 h2
    · simp [cellsFind, h.symm]
    · subst h2; simp [cellsFind, h.symm]
    · simp only [cellsFind, ih]

theorem cellsRise_mono {lo lo' : Nat} (h : lo' ≤ lo) {l : List (Nat × α)} (r : cellsRise lo l = true) : cellsRise lo' l = true := by
  cases l with
  | nil => rfl
  | cons c rest =>
    simp only [cellsRise, Bool.and_eq_true, decide_eq_true_eq] at r ⊢
    exact ⟨le_trans h r.1, r.2⟩

theorem cellsFind_erase_same (k : Nat) (l : List (Nat × α)) : cellsFind k (cellsErase k l) = none := by
  induction l with
  | nil => rfl
  | cons c rest ih =>
    simp only [cellsErase]
    split_ifs with h
    · exact ih
    · simp only [cellsFind, if_neg h]; exact ih

theorem cellsFind_erase_ne {k j : Nat} (h : j ≠ k) (l : List (Nat × α)) : cellsFind j (cellsErase k l) = cellsFind j l := by
  induction l with
  | nil => rfl
  | cons c rest ih =>
    simp only [cellsErase]
    split_ifs with h1
    · subst h1; simp only [cellsFind, if_neg h.symm]; exact ih
    · simp only [cellsFind, ih]

theorem cellsRise_insert {lo k : Nat} (h : lo ≤ k) (v : α) {l : List (Nat × α)} (r : cellsRise lo l = true) :
    cellsRise lo (cellsInsert k v l) = true := by
  induction l generalizing lo with
  | nil => simp [cellsInsert, cellsRise, h]
  | cons c rest ih =>
    obtain ⟨j, w⟩ := c
    simp only [cellsRise, Bool.and_eq_true, decide_eq_true_eq] at r
    simp only [cellsInsert]
    split_ifs with h1 h2
    · simp only [cellsRise, Bool.and_eq_true, decide_eq_true_eq]; exact ⟨h, by omega, r.2⟩
    · subst h2; simp only [cellsRise, Bool.and_eq_true, decide_eq_true_eq]; exact ⟨h, r.2⟩
    · simp only [cellsRise, Bool.and_eq_true, decide_eq_true_eq]; exact ⟨r.1, ih (by omega) r.2⟩

theorem cellsRise_erase {lo : Nat} (k : Nat) {l : List (Nat × α)} (r : cellsRise lo l = true) : cellsRise lo (cellsErase k l) = true := by
  induction l generalizing lo with
  | nil => rfl
  | cons c rest ih =>
    simp only [cellsRise, Bool.and_eq_true, decide_eq_true_eq] at r
    simp only [cellsErase]
    split_ifs with h
    · exact ih (cellsRise_mono (by omega) r.2)
    · simp only [cellsRise, Bool.and_eq_true, decide_eq_true_eq]; exact ⟨r.1, ih r.2⟩

theorem cellsRise_filterMap {lo : Nat} (f : Nat → α → Option α) {l : List (Nat × α)} (r : cellsRise lo l = true) :
    cellsRise lo (l.filterMap (fun c => (f c.1 c.2).map (fun v => (c.1, v)))) = true := by
  induction l generalizing lo with
  | nil => rfl
  | cons c rest ih =>
    simp only [cellsRise, Bool.and_eq_true, decide_eq_true_eq] at r
    cases hf : f c.1 c.2 with
    | none => simp only [List.filterMap_cons, hf, Option.map_none]; exact cellsRise_mono (by omega) (ih r.2)
    | some v =>
      simp only [List.filterMap_cons, hf, Option.map_some, cellsRise, Bool.and_eq_true, decide_eq_true_eq]
      exact ⟨r.1, ih r.2⟩

/-! ## Read after write -/

@[simp] theorem Table.find_set_same (t : Table α) (k : Nat) (v : α) : (t.set k v).find k = some v := cellsFind_insert_same k v t.cells

theorem Table.find_set_ne {j k : Nat} (h : j ≠ k) (t : Table α) (v : α) : (t.set k v).find j = t.find j :=
  cellsFind_insert_ne h v t.cells

@[simp] theorem Table.find_erase_same (t : Table α) (k : Nat) : (t.erase k).find k = none := cellsFind_erase_same k t.cells

theorem Table.find_erase_ne {j k : Nat} (h : j ≠ k) (t : Table α) : (t.erase k).find j = t.find j := cellsFind_erase_ne h t.cells

@[simp] theorem Table.get_put_same [DecidableEq α] (t : Table α) (d : α) (k : Nat) (v : α) : (t.put d k v).get d k = v := by
  unfold Table.put Table.get
  split_ifs with e
  · rw [Table.find_erase_same, e]; rfl
  · rw [Table.find_set_same]; rfl

theorem Table.find_put_ne [DecidableEq α] {j k : Nat} (h : j ≠ k) (t : Table α) (d v : α) : (t.put d k v).find j = t.find j := by
  unfold Table.put
  split_ifs with e
  · rw [Table.find_erase_ne h]
  · rw [Table.find_set_ne h]

theorem Table.get_put_ne [DecidableEq α] {j k : Nat} (h : j ≠ k) (t : Table α) (d d' v : α) :
    (t.put d k v).get d' j = t.get d' j := by
  unfold Table.get
  rw [Table.find_put_ne h]

/-! ## The canonical form -/

@[simp] theorem Table.wf_empty : (Table.empty : Table α).wf = true := rfl

theorem Table.wf_set {t : Table α} (h : t.wf = true) (k : Nat) (v : α) : (t.set k v).wf = true := cellsRise_insert (Nat.zero_le k) v h

theorem Table.wf_erase {t : Table α} (h : t.wf = true) (k : Nat) : (t.erase k).wf = true := cellsRise_erase k h

theorem Table.wf_put [DecidableEq α] {t : Table α} (h : t.wf = true) (d : α) (k : Nat) (v : α) : (t.put d k v).wf = true := by
  unfold Table.put
  split_ifs
  · exact Table.wf_erase h k
  · exact Table.wf_set h k v

theorem Table.wf_modify {t : Table α} (h : t.wf = true) (k : Nat) (f : α → α) : (t.modify k f).wf = true := by
  unfold Table.modify
  split
  · exact Table.wf_set h k _
  · exact h

theorem Table.wf_mapSome {t : Table α} (h : t.wf = true) (f : Nat → α → Option α) : (t.mapSome f).wf = true :=
  cellsRise_filterMap f h

end Sys2Proof.Machine
end

