-- ==== Sys2Proof/Laws/State.lean ====
section
/-!
SUPPORT. The laws of the named updates of the state: what a read gives after a write, and which fields a write leaves alone.
-/
namespace Sys2Proof.Machine

open Sys2Proof

/-! ## Registers -/

@[simp] theorem reg_setReg_same (a : Nat) (w : Word) (s : State) : reg (setReg a w s) a = w := by
  unfold reg setReg
  exact Table.get_put_same s.regs (regReset a) a w

theorem reg_setReg_ne {a b : Nat} (h : b ≠ a) (w : Word) (s : State) : reg (setReg a w s) b = reg s b := by
  unfold reg setReg
  rw [Table.find_put_ne h]

/-! ## Counters -/

theorem counter_put_same (s : State) (off : Nat) (v : Quad) :
    counter { s with counters := s.counters.put 0 off v } off = v := Table.get_put_same s.counters 0 off v

theorem counter_put_ne {a b : Nat} (h : b ≠ a) (s : State) (v : Quad) :
    counter { s with counters := s.counters.put 0 a v } b = counter s b := Table.get_put_ne h s.counters 0 0 v

/-! ## Functions and queue pairs -/

@[simp] theorem fnOf_setFn_same (f : Nat) (v : Function) (s : State) : fnOf (setFn f v s) f = v := Table.get_put_same s.fns {} f v

theorem fnOf_setFn_ne {f g : Nat} (h : g ≠ f) (v : Function) (s : State) : fnOf (setFn f v s) g = fnOf s g :=
  Table.get_put_ne h s.fns {} {} v

@[simp] theorem Function.qp_setQp_same {n : Nat} (h : n < 4) (F : Function) (q : QueuePair) : (F.setQp n q).qp n = q := by
  have : n = 0 ∨ n = 1 ∨ n = 2 ∨ n = 3 := by omega
  rcases this with rfl | rfl | rfl | rfl <;> rfl

@[simp] theorem qpOf_setQp_same {n : Nat} (h : n < 4) (f : Nat) (q : QueuePair) (s : State) : qpOf (setQp f n q s) f n = q := by
  simp [qpOf, setQp, h]

theorem qpOf_setQp_other {f g : Nat} (h : g ≠ f) (n m : Nat) (q : QueuePair) (s : State) : qpOf (setQp f n q s) g m = qpOf s g m := by
  simp [qpOf, setQp, fnOf_setFn_ne h]

/-! ## What the named updates leave alone -/

@[simp] theorem emit_out (o : Output) (s : State) : (emit o s).out = o :: s.out := rfl
@[simp] theorem emit_regs (o : Output) (s : State) : (emit o s).regs = s.regs := rfl
@[simp] theorem emit_fns (o : Output) (s : State) : (emit o s).fns = s.fns := rfl
@[simp] theorem reg_emit (o : Output) (s : State) (a : Nat) : reg (emit o s) a = reg s a := rfl
@[simp] theorem fnOf_emit (o : Output) (s : State) (f : Nat) : fnOf (emit o s) f = fnOf s f := rfl
@[simp] theorem fnOf_setReg (a : Nat) (w : Word) (s : State) (f : Nat) : fnOf (setReg a w s) f = fnOf s f := rfl
@[simp] theorem reg_setFn (f : Nat) (v : Function) (s : State) (a : Nat) : reg (setFn f v s) a = reg s a := rfl
@[simp] theorem setReg_out (a : Nat) (w : Word) (s : State) : (setReg a w s).out = s.out := rfl
@[simp] theorem setFn_out (f : Nat) (v : Function) (s : State) : (setFn f v s).out = s.out := rfl
@[simp] theorem setQp_out (f n : Nat) (q : QueuePair) (s : State) : (setQp f n q s).out = s.out := rfl
@[simp] theorem setQp_regs (f n : Nat) (q : QueuePair) (s : State) : (setQp f n q s).regs = s.regs := rfl

/-! ## When commands act -/

theorem act_live {s : State} (h1 : s.halted = false) (h2 : s.powered = true) (h3 : s.boot.otpBad = false) (f : State → State) :
    act f s = .next (f s) := by simp [act, h1, h2, h3]

theorem act_halted {s : State} (h : s.halted = true) (f : State → State) : act f s = .next s := by simp [act, h]

theorem hostOp_passes {spec : OpSpec} {c : Cmd} {s : State} (h1 : s.halted = false) (h2 : s.powered = true)
    (h3 : s.boot.otpBad = false) (h4 : s.cmdReady = true) : hostOp spec c s = .next (runOp spec c s) := by
  simp [hostOp, act, h1, h2, h3, h4]

end Sys2Proof.Machine
end

