-- ==== Sys2Proof/Laws/Told.lean ====
section
/-!
SUPPORT. The laws of reporting: raising an event, signalling an interrupt and posting a completion change nothing else.
-/
namespace Sys2Proof.Machine

open Sys2Proof

theorem Told.refl (s : State) : Told s s := ⟨rfl, fun _ _ => rfl, fun _ _ => rfl, ⟨[], rfl⟩, fun _ => rfl⟩

theorem Told.trans {s t u : State} (h : Told s t) (k : Told t u) : Told s u := by
  refine ⟨?_, fun a ha => (k.regs a ha).trans (h.regs a ha), fun o ho => (k.counters o ho).trans (h.counters o ho), ?_,
    fun f => (k.fns f).trans (h.fns f)⟩
  · have hk := k.rest
    rw [h.rest] at hk
    exact hk
  · obtain ⟨a, ha⟩ := h.out
    obtain ⟨b, hb⟩ := k.out
    exact ⟨b ++ a, by rw [hb, ha, List.append_assoc]⟩

theorem Told.emit {s t : State} (h : Told s t) (o : Output) : Told s (emit o t) :=
  h.trans ⟨rfl, fun _ _ => rfl, fun _ _ => rfl, ⟨[o], rfl⟩, fun _ => rfl⟩

theorem Told.setReg {s t : State} (h : Told s t) {a : Nat} (k : isReportReg a = true) (w : Word) : Told s (setReg a w t) :=
  h.trans ⟨rfl, fun b hb => reg_setReg_ne (by rintro rfl; rw [k] at hb; exact absurd hb (by decide)) w t, fun _ _ => rfl, ⟨[], rfl⟩,
    fun _ => rfl⟩

theorem Told.setFn {s t : State} (h : Told s t) {f : Nat} {v : Function} (k : v.kept = (fnOf t f).kept) : Told s (setFn f v t) := by
  refine h.trans ⟨rfl, fun _ _ => rfl, fun _ _ => rfl, ⟨[], rfl⟩, fun g => ?_⟩
  by_cases e : g = f
  · subst e; rw [fnOf_setFn_same, k]
  · rw [fnOf_setFn_ne e]

theorem isReportReg_bar0 (f off : Nat) (h : off < 0x10000) (k : [0x3000, 0x190, 0x194, 0x11c, 0x13c, 0x15c, 0x17c].contains off = true) :
    isReportReg (bar0 f off) = true := by
  have e : (0x01000000 + 0x10000 * f + off) % 0x10000 = off := by omega
  have l : 0x01000000 ≤ 0x01000000 + 0x10000 * f + off := by omega
  unfold isReportReg bar0
  rw [e, k, decide_eq_true l]
  rfl

theorem isReportReg_qpStatus (f n : Nat) (h : n < 4) : isReportReg (qpReg f n 0x1c) = true := by
  have : n = 0 ∨ n = 1 ∨ n = 2 ∨ n = 3 := by omega
  rcases this with rfl | rfl | rfl | rfl <;> exact isReportReg_bar0 f _ (by decide) (by decide)

theorem Told.foldl {α : Type} (f : State → α → State) (h : ∀ s x, Told s (f s x)) (xs : List α) (s : State) : Told s (xs.foldl f s) := by
  induction xs generalizing s with
  | nil => exact Told.refl s
  | cons x rest ih => exact (h s x).trans (ih (f s x))

theorem Told.driveAll {s t : State} (h : Told s t) (function : Nat) (level : Bool) : Told s (driveAll function level t) :=
  h.trans (Told.foldl _ (fun u _ => (Told.refl u).emit _) _ t)

theorem Told.driveLed {s t : State} (h : Told s t) (inst : Nat) (level : Bool) : Told s (driveLed inst level t) :=
  h.trans (Told.foldl _ (fun u _ => (Told.refl u).emit _) _ t)

theorem Told.msix {s t : State} (h : Told s t) (f v : Nat) : Told s (msix f v t) := by
  have k := isReportReg_bar0 f 0x3000 (by decide) (by decide)
  unfold Machine.msix regOr
  dsimp only
  split_ifs
  · exact (h.setReg k _).driveAll 9 false
  · exact h.setReg k _
  · exact h.emit _

theorem Told.loseEvent {s t : State} (h : Told s t) (f : Nat) : Told s (loseEvent f t) := by
  unfold Machine.loseEvent regCount16
  dsimp only
  apply Told.setFn
  · exact h.setReg (isReportReg_bar0 f _ (by decide) (by decide)) _
  · rfl

theorem Told.reportEvent {s t : State} (h : Told s t) (e : Event) : Told s (reportEvent e t) := by
  refine h.trans ?_
  unfold Machine.reportEvent
  dsimp only
  split_ifs
  · exact Told.refl t
  · exact ⟨rfl, fun _ _ => rfl, fun _ _ => rfl, ⟨[], rfl⟩, fun _ => rfl⟩
  · exact ⟨rfl, fun _ _ => rfl, fun _ h => counter_put_ne h t _, ⟨[], rfl⟩, fun _ => rfl⟩

theorem Told.writeEvent {s t : State} (h : Told s t) (f : Nat) (e : Event) : Told s (writeEvent f e t) := by
  unfold Machine.writeEvent
  dsimp only
  apply Told.msix
  by_cases hf : f = 0
  · rw [if_pos hf]
    apply Told.reportEvent
    apply Told.setFn (h.emit _)
    rfl
  · rw [if_neg hf]
    apply Told.setFn (h.emit _)
    rfl

theorem Told.postTo {s t : State} (h : Told s t) (f : Nat) (e : Event) : Told s (postTo f e t) := by
  unfold Machine.postTo
  split_ifs
  · exact h
  · exact h.loseEvent f
  · dsimp only
    apply Told.msix
    apply Told.loseEvent
    apply Told.setFn
    · exact h.setReg (isReportReg_bar0 f _ (by decide) (by decide)) _
    · rfl
  · exact h.writeEvent f e

theorem Told.postLost {s t : State} (h : Told s t) (f : Nat) : Told s (postLost f t) := by
  unfold Machine.postLost
  dsimp only
  split_ifs
  · exact h
  · apply Told.postTo
    apply Told.setFn h
    rfl

theorem Told.hold {s t : State} (h : Told s t) (hs : List Hold) : Told s { t with holds := hs } :=
  h.trans ⟨rfl, fun _ _ => rfl, fun _ _ => rfl, ⟨[], rfl⟩, fun _ => rfl⟩

theorem Told.post {s t : State} (h : Told s t) (owner : Nat) (e : Event) : Told s (post owner e t) := by
  have k : Told s (if owner = 0 then t else Machine.postTo owner e t) := by
    split_ifs
    · exact h
    · exact h.postTo owner e
  unfold Machine.post
  generalize (if owner = 0 then t else Machine.postTo owner e t) = u at k
  dsimp only
  split_ifs
  · exact k.postTo 0 e
  · exact k.trans ⟨rfl, fun _ _ => rfl, fun _ _ => rfl, ⟨[], rfl⟩, fun _ => rfl⟩
  · exact k.loseEvent 0

theorem Told.raise {s t : State} (h : Told s t) (code severity object detail : Nat) :
    Told s (raise code severity object detail t) := h.post _ _

theorem Told.raiseFor {s t : State} (h : Told s t) (owner code severity object detail : Nat) :
    Told s (raiseFor owner code severity object detail t) := h.post _ _

theorem Told.postHeld {s t : State} (h : Told s t) (owner scope : Nat) (e : Event) : Told s (postHeld owner scope e t) := by
  unfold Machine.postHeld gather
  split_ifs
  · exact h.hold _
  · exact (h.hold _).post owner e

theorem Told.raiseHeld {s t : State} (h : Told s t) (owner code severity object detail : Nat) :
    Told s (raiseHeld owner code severity object detail t) := h.postHeld _ _ _

theorem Told.raiseScoped {s t : State} (h : Told s t) (owner scope code severity object detail : Nat) :
    Told s (raiseScoped owner scope code severity object detail t) := h.postHeld _ _ _

theorem Told.setPmc {s t : State} (h : Told s t) (n : Nat) (c : PmcCounter) : Told s (setPmc n c t) :=
  h.trans ⟨rfl, fun _ _ => rfl, fun _ _ => rfl, ⟨[], rfl⟩, fun _ => rfl⟩

theorem Told.pmcAdd {s t : State} (h : Told s t) (n k : Nat) : Told s (pmcAdd n k t) := by
  unfold Machine.pmcAdd pmcOverflow
  dsimp only
  split_ifs
  · exact (((h.setPmc _ _).setPmc _ _).setPmc _ _).raiseHeld _ _ _ _ _
  · exact (h.setPmc _ _).setPmc _ _
  · exact ((h.setPmc _ _).setPmc _ _).raiseHeld _ _ _ _ _
  · exact h.setPmc _ _

theorem Told.pmcEvent {s t : State} (h : Told s t) (ev obj k : Nat) : Told s (pmcEvent ev obj k t) :=
  h.trans (Told.foldl _ (fun u n => (Told.refl u).pmcAdd n k) _ t)

theorem Told.signalCompletions {s t : State} (h : Told s t) (f : Nat) : Told s (signalCompletions f t) := by
  unfold Machine.signalCompletions
  apply Told.msix
  apply Told.setFn h
  rfl

theorem Told.moderate {s t : State} (h : Told s t) (f : Nat) : Told s (moderate f t) := by
  have k : Told s (Machine.setFn f { fnOf t f with unsignalled := (fnOf t f).unsignalled + 1, delayRuns := true } t) := h.setFn rfl
  unfold Machine.moderate
  dsimp only
  generalize Machine.setFn f { fnOf t f with unsignalled := (fnOf t f).unsignalled + 1, delayRuns := true } t = u at k
  split_ifs
  · exact k.signalCompletions f
  · exact k

theorem Function.kept_setQp (F : Function) (n : Nat) (q : QueuePair) (h : q.kept = (F.qp n).kept) : (F.setQp n q).kept = F.kept := by
  unfold Function.setQp
  unfold Function.qp at h
  split at h <;> simp_all [Function.kept]

theorem Told.setQp {s t : State} (h : Told s t) {f n : Nat} {q : QueuePair} (k : q.kept = (qpOf t f n).kept) : Told s (setQp f n q t) :=
  h.setFn (Function.kept_setQp _ n q k)

theorem Told.queueError {s t : State} (h : Told s t) {n : Nat} (k : n < 4) (f addr : Nat) : Told s (queueError f n addr t) := by
  unfold Machine.queueError
  dsimp only
  apply Told.msix
  apply Told.raiseFor
  apply Told.setQp
  · exact h.setReg (isReportReg_qpStatus f n k) _
  · rfl

theorem Told.postCompletion {s t : State} (h : Told s t) (c : Cmd) (status detail result : Nat) :
    Told s (postCompletion c status detail result t) := by
  unfold Machine.postCompletion
  dsimp only
  by_cases h1 : 4 ≤ c.qp
  · rw [if_pos h1]; exact h
  · rw [if_neg h1]
    by_cases h2 : (qpOf t c.fn c.qp).cqFails = true
    · rw [if_pos h2]
      apply Told.queueError _ (by omega)
      exact h.setQp rfl
    · rw [if_neg h2]
      by_cases h3 : c.noIntr = true
      · rw [if_pos h3]
        apply Told.pmcEvent
        exact (h.emit _).setQp rfl
      · rw [if_neg h3]
        apply Told.moderate
        apply Told.pmcEvent
        exact (h.emit _).setQp rfl

theorem Told.finish {s t : State} (h : Told s t) (c : Cmd) (r : Reply) : Told s (finish c r t) := by
  unfold Machine.finish
  dsimp only
  by_cases h1 : r.data = []
  · rw [if_pos h1]; exact h.postCompletion _ _ _ _
  · rw [if_neg h1]; exact (h.emit _).postCompletion _ _ _ _

/-- A completion is the answer to a command. -/
theorem answered_postCompletion (c : Cmd) (status detail result : Nat) (s : State) :
    Answered c status detail result s (postCompletion c status detail result s) := by
  refine ⟨(Told.refl s).postCompletion c status detail result, fun h1 h2 => ?_⟩
  have key (q : QueuePair) (t : State)
      (h : Told (Machine.setQp c.fn c.qp q (Machine.emit (completionFor s c status detail result) s)) t) :
      ∃ a b, t.out = a ++ completionFor s c status detail result :: (b ++ s.out) := by
    obtain ⟨os, ho⟩ := h.out
    exact ⟨os, [], ho⟩
  unfold Machine.postCompletion
  dsimp only
  rw [if_neg (by omega), h2, if_neg (by decide)]
  by_cases h3 : c.noIntr = true
  · rw [if_pos h3]
    apply key
    exact (Told.refl _).pmcEvent _ _ _
  · rw [if_neg h3]
    apply key
    apply Told.moderate
    exact (Told.refl _).pmcEvent _ _ _

end Sys2Proof.Machine
end

