-- ==== Sys2Proof/Tests/Slice0.lean ====
section
/-!
SUPPORT. Tests of the model: ill-formed commands that the check refuses, a witness for the hypotheses of every statement that has some,
and small tests of single commands on small states. Expected values are the spec's.
-/
namespace Sys2Proof.Machine

open Sys2Proof

set_option Elab.async false

/-! ## Concrete states and commands -/

/-- A queue command of the PF: opcode, (byte, value) pairs, payload. -/
def cmdOf (op : Nat) (fs : List (Nat × Nat)) (payload : Bytes := []) : Cmd :=
  { fn := 0, qp := 0, seq := 0, payload, packet := BitVec.ofNat 512 (op + (fs.map (fun f => f.2 * 2 ^ (8 * f.1))).foldl (· + ·) 0) }

/-- A queue of bytes. -/
def zeros (n : Nat) : Bytes := List.replicate n 0

/-- The cores run. -/
def coreUp : Core := { up := true }

/-- A port with its link up. -/
def portUp (rate : Nat) (path : PathMode) : Port := { rate, slot := 0x21, bringup := .up, signal := true, locked := true, path }

/-- A served device of FACTORY with nothing configured. -/
def dev : State :=
  { cmdReady := true, power := { rootLock := true }, watchdog := { ctl := coreUp, acc := coreUp, hk := coreUp }
    boot := { lifecycle := 1, stage := 6 }, tamper := { vppOtp := true }, entropy := { state := .ready, seeds := 4 } }

/-- The same in DEPLOYED, with a keeper and a storage key. -/
def field : State :=
  { dev with boot := { lifecycle := 3, stage := 6 }, attar := { keeper := some 5, storageKey := some 7, sessionReady := true } }

/-- A receive SC and a transmit SC of line port 0 (port 64), with an SA each and one more on the transmit SC. -/
def rxSc : Sc :=
  { sci := 9, slot0 := some 0, receive := true, suite := 3, co := 0, replayProtect := true, accord := false, includeSci := true, es := false
    scb := false, tagsInClear := 0, tenant := 0, port := 0, replayWindow := 64, overlap := 10 }
def txSc : Sc := { rxSc with sci := 11, receive := false, slot0 := some 1, slot1 := some 2, replayWindow := 0, overlap := 0 }
def saOn (sc an : Nat) (receive : Bool) : Sa :=
  { key := 77, nextPn := 1, low := if receive then 1 else 2 ^ 40, salt := 3, ssci := 5, receive, key128 := false, accord := false
    parentSlot := 0, parentIsRoot := true, parentGen := 0, an, sc }

/-- A device with ports, SCs and SAs, a master and a connectivity key slot. -/
def busy : State :=
  { field with
    ports := { ports := ⟨[(0, portUp 7 .buffered), (8, portUp 7 .unassigned), (64, portUp 7 .buffered), (72, portUp 7 .unassigned)]⟩ }
    channels := { scs := ⟨[(0, rxSc), (1, txSc)]⟩, sas := ⟨[(0, saOn 0 0 true), (1, saOn 1 0 false), (2, saOn 1 1 false)]⟩ }
    attar := { field.attar with slots := ⟨[
      (4, { key := 9, type := 2, persist := true, usage := 6, parent := 0xfff1 }), (5, { key := 8, type := 1, usage := 1, parent := 4 })]⟩ }
    regs := ⟨[(0x1800, 1)]⟩ }

/-- The Boolean form of `Passes`. -/
def passes (op : Nat) (spec : OpSpec) (c : Cmd) (s : State) : Bool := cmdOk op c && s.serving && checks spec c s == none

theorem passes_of {op : Nat} {spec : OpSpec} {c : Cmd} {s : State} (h : passes op spec c s = true) : Passes op spec c s := by
  simp only [passes, Bool.and_eq_true, beq_iff_eq] at h
  exact ⟨h.1.1, h.1.2, h.2⟩

/-- A device whose community 0 has a peer, joined through line port 0. -/
def group : Community :=
  { id := 1, suite := 3, co := 0, atTime := false, keySlot := 5, portMask := 1, replayWindow := 64, overlap := 10, hold := 0, rekey := 0
    rxQueue := 0, rxBuffered := false, rxMeterEn := false, rxMeter := 0, rollLead := 0, owner := 0 }
def partner : Peer :=
  { community := 0, port := 0, mac := 0x020000000001, state := .active, deviceId := 0x9640000000000001, epoch := 3, seq := 4, localPi := 0
    seenMs := 0 }
def linked : State :=
  { busy with accord := { busy.accord with communities := ⟨[(0, group)]⟩, peers := ⟨[(0, partner)]⟩, enable := true, epoch := some 1 } }

/-- A device with the reservoir's channel 3 online. -/
def stored : State := { busy with reservoir := { ch3 := { state := .online, capacity := 0 }, keyReady := true, statsChannel := some 3 } }

/-- A device with a service and two leaves, the last one of the host. -/
def leafOn (st : LeafState) : Leaf :=
  { state := st, prio := 0, weight := 1, spillable := false, disable := false, limit := 100, yellowLimit := 50, spillAt := 0, shaper := {}
    deficit := 0 }
def queued : State :=
  { busy with sched := {
      leaves := ⟨[(0, leafOn (.attached 0)), (131071, leafOn .host)]⟩
      services := ⟨[(0, { parent := 0, weight := 1, shaper := {}, deficit := 0 })]⟩ } }

/-- An ACTIVE device of a pair with a session. -/
def paired : State :=
  { busy with pair := { mode := .active, partnerMode := some 2, linkUp := true, session := some 3, partnerId := 8, keySlot := 5 } }

/-- A domain's manager, a worker below it on DX1. -/
def managed : State :=
  { busy with
    attar := { busy.attar with domainKey := some 3 }
    domain := { role := 1, timeEnable := false, domainId := 1, slotCount := 16, slotBase := 100, linkKey := 4, joined := true, member := some 0
                dx1 := { up := true, epochOwn := some 5, epochTheirs := some 6, joined := true, member := 1 }
                members := ⟨[(0, { deviceId := 1 }), (1, { deviceId := 2 })]⟩ } }

/-- A device whose domain TA is locked and whose TO tracks it. -/
def timed : State :=
  { busy with time := { ta := { state := .locked, clock := { sec := 50 } }, clock := { sec := 50 }, state := .tracking } }

/-- A staging session stands. -/
def staging : State := { field with boot := { field.boot with staging := some 24576, bankB := zeros 16 ++ [16] ++ zeros 30000 } }

/-- A rule set has been loaded. -/
def loaded : State := { field with gate := { loaded := true } }

/-- A command of the PF waits on a DMA fault with FAULT_ID 15. -/
def stuck : Running :=
  { cmd := cmdOf 0x0503 [(56, 4096)], cls := .a, locks := [], wait := .transfer
    xfer := some { toHost := true, addr := 4096, length := 8, fault := some 15 } }
def faulted : State := { field with running := [stuck] }

/-! ## A command of every opcode that passes its checks -/

def cDevInfo : Cmd := cmdOf 0x0101 []
theorem passes_devInfo : Passes 0x0101 specDevInfo cDevInfo field := passes_of (by decide +kernel)
def cDevReset : Cmd := cmdOf 0x0102 [(12, 0x52534554)]
theorem passes_devReset : Passes 0x0102 specDevReset cDevReset field := passes_of (by decide +kernel)
def cDevEventsMask : Cmd := cmdOf 0x0103 [(8, 65535), (10, 3)]
theorem passes_devEventsMask : Passes 0x0103 specDevEventsMask cDevEventsMask field := passes_of (by decide +kernel)
def cDevConfigSave : Cmd := cmdOf 0x0104 [(12, 1)]
theorem passes_devConfigSave : Passes 0x0104 specDevConfigSave cDevConfigSave field := passes_of (by decide +kernel)
def cDevTenantSet : Cmd := cmdOf 0x0105 [(8, 31), (9, 3), (12, 0x20000), (16, 0x40000), (20, 16384)]
theorem passes_devTenantSet : Passes 0x0105 specDevTenantSet cDevTenantSet field := passes_of (by decide +kernel)
def cPortConfig : Cmd := cmdOf 0x0201 [(8, 15)]
theorem passes_portConfig : Passes 0x0201 specPortConfig cPortConfig field := passes_of (by decide +kernel)
def cPortStatus : Cmd := cmdOf 0x0202 [(8, 1), (9, 8)]
theorem passes_portStatus : Passes 0x0202 specPortStatus cPortStatus busy := passes_of (by decide +kernel)
def cLaneTune : Cmd := cmdOf 0x0203 [(8, 2), (9, 4)]
theorem passes_laneTune : Passes 0x0203 specLaneTune cLaneTune field := passes_of (by decide +kernel)
def cPortMap : Cmd := cmdOf 0x0204 [(8, 0), (9, 8), (10, 8), (12, 1000)]
theorem passes_portMap : Passes 0x0204 specPortMap cPortMap busy := passes_of (by decide +kernel)
def cSelBulkLoad : Cmd := cmdOf 0x0301 [(8, 0), (16, 1)] (zeros 16)
theorem passes_selBulkLoad : Passes 0x0301 specSelBulkLoad cSelBulkLoad field := passes_of (by decide +kernel)
def cSelShadowCompare : Cmd := cmdOf 0x0302 [(8, 0), (16, 1), (20, 0x10000)] (zeros 16)
theorem passes_selShadowCompare : Passes 0x0302 specSelShadowCompare cSelShadowCompare field := passes_of (by decide +kernel)
def cSelLpmMode : Cmd := cmdOf 0x0303 [(8, 0), (9, 3), (10, 255)]
theorem passes_selLpmMode : Passes 0x0303 specSelLpmMode cSelLpmMode busy := passes_of (by decide +kernel)
def cScCreate : Cmd := cmdOf 0x0401 [(16, 1), (20, 64)]
theorem passes_scCreate : Passes 0x0401 specScCreate cScCreate busy := passes_of (by decide +kernel)
def cScDelete : Cmd := cmdOf 0x0402 [(8, 1), (12, 1)]
theorem passes_scDelete : Passes 0x0402 specScDelete cScDelete busy := passes_of (by decide +kernel)
def cSaInstall : Cmd := cmdOf 0x0403 [(8, 0), (12, 3), (14, 65535), (16, 1)] (zeros 48)
theorem passes_saInstall : Passes 0x0403 specSaInstall cSaInstall busy := passes_of (by decide +kernel)
def cSaRetire : Cmd := cmdOf 0x0404 [(8, 0), (12, 4)]
theorem passes_saRetire : Passes 0x0404 specSaRetire cSaRetire busy := passes_of (by decide +kernel)
def cSaStatus : Cmd := cmdOf 0x0405 [(8, 1), (12, 1)]
theorem passes_saStatus : Passes 0x0405 specSaStatus cSaStatus busy := passes_of (by decide +kernel)
def cSaRoll : Cmd := cmdOf 0x0406 [(8, 1), (12, 5)]
theorem passes_saRoll : Passes 0x0406 specSaRoll cSaRoll busy := passes_of (by decide +kernel)
def cScTenantAssign : Cmd := cmdOf 0x0407 [(8, 1)]
theorem passes_scTenantAssign : Passes 0x0407 specScTenantAssign cScTenantAssign busy := passes_of (by decide +kernel)
def cKeyWrite : Cmd := cmdOf 0x0501 [(8, 16383), (10, 1), (11, 1), (14, 4)] (zeros 48)
theorem passes_keyWrite : Passes 0x0501 specKeyWrite cKeyWrite busy := passes_of (by decide +kernel)
def cKeyInvalidate : Cmd := cmdOf 0x0502 [(8, 5)]
theorem passes_keyInvalidate : Passes 0x0502 specKeyInvalidate cKeyInvalidate busy := passes_of (by decide +kernel)
def cKeyStatus : Cmd := cmdOf 0x0503 [(8, 16383)]
theorem passes_keyStatus : Passes 0x0503 specKeyStatus cKeyStatus busy := passes_of (by decide +kernel)
def cFlaconCommit : Cmd := cmdOf 0x0504 []
theorem passes_flaconCommit : Passes 0x0504 specFlaconCommit cFlaconCommit busy := passes_of (by decide +kernel)
def cFlaconLoad : Cmd := cmdOf 0x0505 []
theorem passes_flaconLoad : Passes 0x0505 specFlaconLoad cFlaconLoad busy := passes_of (by decide +kernel)
def cAccCommunitySet : Cmd := cmdOf 0x0601 [(8, 63), (10, 5), (12, 0xffffffff), (16, 1), (28, 600), (30, 600)]
theorem passes_accCommunitySet : Passes 0x0601 specAccCommunitySet cAccCommunitySet busy := passes_of (by decide +kernel)
def cAccPeerList : Cmd := cmdOf 0x0602 [(16, 16384)]
theorem passes_accPeerList : Passes 0x0602 specAccPeerList cAccPeerList busy := passes_of (by decide +kernel)
def cAccPeerDrop : Cmd := cmdOf 0x0603 [(8, 0)]
theorem passes_accPeerDrop : Passes 0x0603 specAccPeerDrop cAccPeerDrop linked := passes_of (by decide +kernel)
def cAccPolicy : Cmd := cmdOf 0x0604 [(8, 34997), (12, 1), (18, 0), (24, 1280)]
theorem passes_accPolicy : Passes 0x0604 specAccPolicy cAccPolicy busy := passes_of (by decide +kernel)
def cFabBufferPartition : Cmd := cmdOf 0x0701 [(8, 16384), (12, 0x13c00), (16, 16384), (20, 8192), (24, 3072)]
theorem passes_fabBufferPartition : Passes 0x0701 specFabBufferPartition cFabBufferPartition busy := passes_of (by decide +kernel)
def cFabAudit : Cmd := cmdOf 0x0702 []
theorem passes_fabAudit : Passes 0x0702 specFabAudit cFabAudit busy := passes_of (by decide +kernel)
def cRsvConfig : Cmd := cmdOf 0x0710 [(10, 16), (12, 100)]
theorem passes_rsvConfig : Passes 0x0710 specRsvConfig cRsvConfig busy := passes_of (by decide +kernel)
def cRsvStatus : Cmd := cmdOf 0x0711 []
theorem passes_rsvStatus : Passes 0x0711 specRsvStatus cRsvStatus busy := passes_of (by decide +kernel)
def cRsvScrub : Cmd := cmdOf 0x0712 [(8, 3)]
theorem passes_rsvScrub : Passes 0x0712 specRsvScrub cRsvScrub stored := passes_of (by decide +kernel)
def cSchNodeSet : Cmd := cmdOf 0x0801 [(12, 8191), (15, 1), (20, 0x2000000), (24, 0x1000000)]
theorem passes_schNodeSet : Passes 0x0801 specSchNodeSet cSchNodeSet busy := passes_of (by decide +kernel)
def cSchQueueSet : Cmd := cmdOf 0x0802 [(8, 2), (12, 0x1ffff)]
theorem passes_schQueueSet : Passes 0x0802 specSchQueueSet cSchQueueSet queued := passes_of (by decide +kernel)
def cMtrSet : Cmd := cmdOf 0x0803 [(12, 0x1ffff), (16, 0x2000000), (20, 0x1000000), (28, 0x1000000)]
theorem passes_mtrSet : Passes 0x0803 specMtrSet cMtrSet busy := passes_of (by decide +kernel)
def cPairConfig : Cmd := cmdOf 0x0901 [(8, 1)]
theorem passes_pairConfig : Passes 0x0901 specPairConfig cPairConfig busy := passes_of (by decide +kernel)
def cPairStatus : Cmd := cmdOf 0x0902 []
theorem passes_pairStatus : Passes 0x0902 specPairStatus cPairStatus busy := passes_of (by decide +kernel)
def cPairExercise : Cmd := cmdOf 0x0903 [(8, 1), (12, 1000)]
theorem passes_pairExercise : Passes 0x0903 specPairExercise cPairExercise paired := passes_of (by decide +kernel)
def cPairResync : Cmd := cmdOf 0x0904 []
theorem passes_pairResync : Passes 0x0904 specPairResync cPairResync paired := passes_of (by decide +kernel)
def cDomConfig : Cmd := cmdOf 0x0a01 [(8, 1), (9, 0), (12, 1), (16, 0), (18, 1024)]
theorem passes_domConfig : Passes 0x0a01 specDomConfig cDomConfig linked := passes_of (by decide +kernel)
def cDomGlobal : Cmd := cmdOf 0x0a02 [(8, 3)]
theorem passes_domGlobal : Passes 0x0a02 specDomGlobal cDomGlobal managed := passes_of (by decide +kernel)
def cDomMembers : Cmd := cmdOf 0x0a03 []
theorem passes_domMembers : Passes 0x0a03 specDomMembers cDomMembers managed := passes_of (by decide +kernel)
def cTimStep : Cmd := cmdOf 0x0b01 [(8, 0), (12, 5), (18, 0x3b9ac9ff)]
theorem passes_timStep : Passes 0x0b01 specTimStep cTimStep busy := passes_of (by decide +kernel)
def cTimRate : Cmd := cmdOf 0x0b02 [(10, 600)]
theorem passes_timRate : Passes 0x0b02 specTimRate cTimRate timed := passes_of (by decide +kernel)
def cTimSelect : Cmd := cmdOf 0x0b03 [(10, 500)]
theorem passes_timSelect : Passes 0x0b03 specTimSelect cTimSelect timed := passes_of (by decide +kernel)
def cTimSchedule : Cmd := cmdOf 0x0b04 [(8, 2), (12, 1), (16, 100)]
theorem passes_timSchedule : Passes 0x0b04 specTimSchedule cTimSchedule timed := passes_of (by decide +kernel)
def cEntRead : Cmd := cmdOf 0x0c01 [(8, 4096), (56, 4096)]
theorem passes_entRead : Passes 0x0c01 specEntRead cEntRead field := passes_of (by decide +kernel)
def cEntStatus : Cmd := cmdOf 0x0c02 []
theorem passes_entStatus : Passes 0x0c02 specEntStatus cEntStatus field := passes_of (by decide +kernel)
def cEntTestPattern : Cmd := cmdOf 0x0c03 [(8, 1), (56, 4096)] (zeros 256)
theorem passes_entTestPattern : Passes 0x0c03 specEntTestPattern cEntTestPattern dev := passes_of (by decide +kernel)
def cTmpConfig : Cmd := cmdOf 0x0d01 [(8, 10), (9, 12)]
theorem passes_tmpConfig : Passes 0x0d01 specTmpConfig cTmpConfig field := passes_of (by decide +kernel)
def cTmpEvidence : Cmd := cmdOf 0x0d02 [(8, 1), (56, 8)]
theorem passes_tmpEvidence : Passes 0x0d02 specTmpEvidence cTmpEvidence dev := passes_of (by decide +kernel)
def cTmpAck : Cmd := cmdOf 0x0d03 [(8, 65535)]
theorem passes_tmpAck : Passes 0x0d03 specTmpAck cTmpAck field := passes_of (by decide +kernel)
def cLcAdvance : Cmd := cmdOf 0x0d04 [(8, 4), (12, 0x4c434144)]
theorem passes_lcAdvance : Passes 0x0d04 specLcAdvance cLcAdvance field := passes_of (by decide +kernel)
def cTmpSelftest : Cmd := cmdOf 0x0d05 [(8, 65535)]
theorem passes_tmpSelftest : Passes 0x0d05 specTmpSelftest cTmpSelftest field := passes_of (by decide +kernel)
def cPinAssign : Cmd := cmdOf 0x0d06 [(8, 15), (9, 10), (11, 1)]
theorem passes_pinAssign : Passes 0x0d06 specPinAssign cPinAssign field := passes_of (by decide +kernel)
def cFwStage : Cmd := cmdOf 0x0e01 [(8, 1), (12, 24576), (16, 8)] (zeros 8)
theorem passes_fwStage : Passes 0x0e01 specFwStage cFwStage staging := passes_of (by decide +kernel)
def cFwActivate : Cmd := cmdOf 0x0e02 [(8, 3)]
theorem passes_fwActivate : Passes 0x0e02 specFwActivate cFwActivate field := passes_of (by decide +kernel)
def cAttest : Cmd := cmdOf 0x0e03 [(8, 7), (56, 4096)]
theorem passes_attest : Passes 0x0e03 specAttest cAttest field := passes_of (by decide +kernel)
def cIdCerts : Cmd := cmdOf 0x0e04 [(8, 3), (12, 16384)] (zeros 16384)
theorem passes_idCerts : Passes 0x0e04 specIdCerts cIdCerts dev := passes_of (by decide +kernel)
def cGateLoad : Cmd := cmdOf 0x0f01 [] (zeros 1024)
theorem passes_gateLoad : Passes 0x0f01 specGateLoad cGateLoad field := passes_of (by decide +kernel)
def cGateSwap : Cmd := cmdOf 0x0f02 []
theorem passes_gateSwap : Passes 0x0f02 specGateSwap cGateSwap loaded := passes_of (by decide +kernel)
def cGateEdit : Cmd := cmdOf 0x0f03 [(8, 63)]
theorem passes_gateEdit : Passes 0x0f03 specGateEdit cGateEdit field := passes_of (by decide +kernel)
def cGateBarrier : Cmd := cmdOf 0x0f04 []
theorem passes_gateBarrier : Passes 0x0f04 specGateBarrier cGateBarrier field := passes_of (by decide +kernel)
def cDmaXltSet : Cmd := cmdOf 0x0f10 [(9, 19), (16, 4096)]
theorem passes_dmaXltSet : Passes 0x0f10 specDmaXltSet cDmaXltSet field := passes_of (by decide +kernel)
def cDmaResume : Cmd := cmdOf 0x0f11 [(8, 15)]
theorem passes_dmaResume : Passes 0x0f11 specDmaResume cDmaResume faulted := passes_of (by decide +kernel)
def cPmcConfig : Cmd := cmdOf 0x1001 [(8, 3), (32, 0xf4240)]
theorem passes_pmcConfig : Passes 0x1001 specPmcConfig cPmcConfig field := passes_of (by decide +kernel)
def cStatsRead : Cmd := cmdOf 0x1002 [(8, 0), (16, 0x10000)]
theorem passes_statsRead : Passes 0x1002 specStatsRead cStatsRead stored := passes_of (by decide +kernel)
def cWdConfig : Cmd := cmdOf 0x1003 [(8, 1), (9, 10), (10, 200), (12, 500)]
theorem passes_wdConfig : Passes 0x1003 specWdConfig cWdConfig field := passes_of (by decide +kernel)
def cDiagLoopback : Cmd := cmdOf 0x1004 [(8, 1), (9, 8)]
theorem passes_diagLoopback : Passes 0x1004 specDiagLoopback cDiagLoopback busy := passes_of (by decide +kernel)

/-! ## Witnesses: the machine and the command channel -/

theorem wit_EmptyQueueTicks : dev.pending = [] ∧ dev.powered = true ∧ ({ dev with powered := false } : State).powered = false ∧
    ({ dev with halted := true } : State).halted = true ∧ State.reset.power.rootLock = false := by decide +kernel

def haltedDev : State := { dev with halted := true, cmdReady := false, pending := [.genBadAccessRead 31] }
theorem wit_HaltedDeviceStaysHalted : haltedDev.staysHalted = true ∧ ∃ t, step haltedDev = .next t := ⟨by decide +kernel, _, rfl⟩

theorem wit_RegisterFileLaws : (3 < 4 ∧ 0 < 4) ∧ pmcOfCounter 0x10088 = none := by decide +kernel

theorem wit_TableCanonicalForm : (⟨[(3, 1#32), (9, 2#32)]⟩ : Table Word).wf = true := by decide +kernel

theorem wit_QueuePairEnable : dev.live = true ∧ 3 < 4 ∧ qpEnabled dev 31 3 = false ∧ qpSizesValid 0x4401#32 = true ∧
    qpSizesValid 0xcc01#32 = true ∧ qpSizesValid 0x0301#32 = false := by decide +kernel

/-- A device whose PF has queue pair 0 (16 slots each) and its EQ enabled. -/
def ringed : State :=
  { dev with eqSeen := true, regs := ⟨[(bar0 0 0x110, 0x4401#32), (bar0 0 0x114, 1#32), (bar0 0 0x188, 0x401#32)]⟩ }

theorem wit_QueuePairWork : ringed.live = true ∧ 0 < 4 ∧ (ringed.running.all (fun r => !(r.cmd.fn == 0 && r.cmd.qp == 0))) = true ∧
    qpEnabled ringed 0 0 = true ∧ bitsOf (15#32).toNat 0 12 < sqSize ringed 0 0 ∧ sqSize ringed 0 0 ≤ bitsOf (16#32).toNat 0 12 ∧
    bitsOf (15#32).toNat 0 12 < cqSize ringed 0 0 ∧ qpEnabled dev 31 3 = false ∧ fetchable ringed 0 0 = true := by decide +kernel

theorem wit_CompletionQueueNeverOverflows : ringed.live = true ∧ 0 < 4 ∧ cqBusy ringed 0 0 ≤ cqSize ringed 0 0 := by decide +kernel

/-- A device that has fetched a command of an opcode. -/
def fetchedDev (op : Nat) : State :=
  setQp 0 0 { qpOf ringed 0 0 with sqHead := 1, seq := 1, reserved := 1, fetched := [{ packet := BitVec.ofNat 512 op, seq := 0 }] } ringed

theorem wit_CommandBegins : (fetchedDev 1).serving = true ∧ (fetchedDev 1).domain.broadcast = [] ∧ nextSq (fetchedDev 1) = some (0, 0) ∧
    (qpOf (fetchedDev 1) 0 0).fetched = [{ packet := 1#512, seq := 0 }] ∧ specOf 1 = none := by decide +kernel

theorem wit_CommandBegins_passes : nextSq (fetchedDev 0x0101) = some (0, 0) ∧ specOf 0x0101 = some specDevInfo ∧
    specDevInfo.payloadLength (cmdOf 0x0101 []) = 0 ∧ checks specDevInfo (cmdOf 0x0101 []) (fetchedDev 0x0101) = none ∧
    ∃ t r, specDevInfo.effect (cmdOf 0x0101 []) (fetchedDev 0x0101) = (t, .done r) ∧ r.data = [] :=
  ⟨by decide +kernel, rfl, rfl, by decide +kernel, _, _, rfl, rfl⟩

theorem wit_CommandBegins_fails : nextSq (fetchedDev 0x0102) = some (0, 0) ∧ specOf 0x0102 = some specDevReset ∧
    checks specDevReset (cmdOf 0x0102 []) (fetchedDev 0x0102) = some (stBadParam, 12) := ⟨by decide +kernel, rfl, by decide +kernel⟩

theorem wit_EventQueue : dev.live = true ∧ eqEnabled dev 31 = false ∧ 4 ≤ bitsOf (0x401#32).toNat 8 4 ∧ bitsOf (0xc01#32).toNat 8 4 ≤ 12 ∧
    (31 ≠ 0 ∨ dev.eqSeen = true) ∧ (fnOf dev 31).eqOwed = 0 ∧ (fnOf (setFn 31 { delayRuns := true } dev) 31).delayRuns = true ∧
    eqEnabled ringed 0 = true ∧ (fnOf ringed 0).eqUnread < eqSize ringed 0 ∧ (fnOf ringed 0).eqStopped = false ∧
    (fnOf ringed 0).eqFails = false := by decide +kernel

/-- An event of a group and severity. -/
def eventOf (code severity : Nat) : Event := { code, severity, subject := 0, time := 0, object := 0, count := 1, detail := 0 }
theorem wit_EventQueue_events : eventMasked { groupMask := 1 } (eventOf 0x0101 2) = true ∧ eventMasked { groupMask := 0xffff } (eventOf 0x0101 3) = false ∧
    eqEnabled dev 0 = false ∧ eqSize ringed 0 ≤ (fnOf (setFn 0 { eqUnread := 16 } ringed) 0).eqUnread := by decide +kernel

/-- A device with two coalescing holds and a period of peers. -/
def holding : State :=
  { dev with
    holds := [{ code := 0x0600, scope := 1, gathered := 0, first := none }, { code := 0x0604, scope := 2, gathered := 3, first := some (eventOf 0x0604 0) }]
    accord := { periods := [{ code := 0x0603, port := 63, owner := 31, cause := 0, peers := [1] }] } }
theorem wit_Coalescing : holding.live = true ∧ holding.watchdog.hk.up = true ∧
    holding.holds.find? (fun h => h.code == 0x0600 && h.scope == 1) = some { code := 0x0600, scope := 1, gathered := 0, first := none } ∧
    holding.holds.find? (fun h => h.code == 0x0604 && h.scope == 2) =
      some { code := 0x0604, scope := 2, gathered := 3, first := some (eventOf 0x0604 0) } ∧
    (holding.accord.periods.find? (fun p => p.code == 0x0603 && p.port + 64 * p.owner == 63 + 64 * 31)).isSome = true ∧
    holdOpen holding 0x0604 2 = true ∧ holdOpen holding 0x0604 1 = false := by decide +kernel

/-! ## Witnesses: registers -/

/-- A device whose gate denies the PF the line of the selectors' registers. -/
def shut : State := { dev with gate := { rules := ⟨[(63, { base := 0, limit := 0, functions := 1, valid := true, action := 0, debug := true, scope := 1 })]⟩ } }

theorem wit_RegisterWrites : dev.live = true ∧ 31 < 32 ∧ plainMask 4 = some 0xffffffff ∧ 4 % 4 = 0 ∧ GateAllows dev 0 4 true :=
  ⟨by decide +kernel, by decide, rfl, rfl, rfl⟩
theorem wit_RegisterWrites_denied : 0xfff % 4 ≠ 0 ∧ gateCheck 0 0xffc true false [] shut = (shut, some 2) := ⟨by decide, rfl⟩

theorem wit_ReadsThatChange : dev.live = true ∧ 31 < 32 ∧ 5 < 6 ∧ GateAllows dev 0 (0x40 + 4 * 5) false ∧ GateAllows dev 0 0x10210 false ∧
    GateAllows dev 0 0x1808 false ∧ GateAllows dev 0 0xd138 false ∧ 127 < 128 ∧ GateAllows dev 31 (bar0 31 (0x8000 + 8 * 127)) false ∧
    (pmcOf { dev with pmc := { counters := ⟨[(126, { chain := true })]⟩ } } 126).chain = true ∧ timed.time.state ≠ .unset ∧
    dev.time.state = .unset :=
  ⟨by decide +kernel, by decide, by decide, rfl, rfl, rfl, rfl, by decide, rfl, by decide +kernel, by decide +kernel, by decide +kernel⟩

/-- Function 31 has read the low word of a chained pair's lower slot. -/
def latchedPair : State := { dev with pmc :=
  { counters := ⟨[(126, { chain := true, readers := 2 ^ 31 }), (127, { readers := 2 ^ 31 })]⟩, userRead := 2 ^ 31,
    latched := [(31, bar0 31 0x83f8, 5)] } }
theorem wit_ReadsThatChange_upper : latchedPair.live = true ∧ pmcUpper latchedPair 127 = true ∧ isLatched latchedPair 31 (bar0 31 0x83f8) = true ∧
    windowLive latchedPair 31 = true ∧ bitOf (pmcOf latchedPair 127).readers 31 = true ∧ GateAllows latchedPair 31 (bar0 31 0x83f8) false ∧
    pmcUpper latchedPair 126 = false :=
  ⟨by decide +kernel, by decide +kernel, by decide +kernel, by decide +kernel, by decide +kernel, rfl, by decide +kernel⟩

/-- A device in FACTORY whose ROM waits for an image. -/
def recovering : State := { dev with boot := { dev.boot with stage := 7, lifecycle := 1 } }
theorem wit_OutsideAccess : dev.powered = true ∧ dev.power.rootLock = true ∧ State.reset.power.rootLock = false ∧ dev.live = true ∧
    dev.boot.lifecycle ≤ 1 ∧ 0x34 % 4 = 0 ∧ gateCheck 36 0x34 false false [] dev = (dev, none) ∧ plainMask 4 = some 0xffffffff ∧
    gateCheck 36 4 true false [] dev = (dev, none) ∧ isCounter 0xd138 = true ∧ gateCheck 36 0xd138 false false [] dev = (dev, none) ∧
    gateCheck 36 0x02000000 true false [] dev = (dev, none) ∧ gateCheck 36 0x34 true false [] shut = (shut, some 2) ∧
    gateCheck 36 0x34 false false [] shut = (shut, some 2) ∧ recovering.boot.stage = 7 ∧ recovering.live = true ∧
    recovering.boot.lifecycle ≤ 1 ∧ gateCheck 36 0x027ffffc true false [] recovering = (recovering, none) :=
  ⟨by decide +kernel, by decide +kernel, by decide +kernel, by decide +kernel, by decide +kernel, by decide, rfl, rfl, rfl, rfl, rfl, rfl, rfl, rfl,
    rfl, by decide +kernel, by decide +kernel, rfl⟩

/-! ## Witnesses: commands, resets, access, counters -/

theorem wit_RejectedCommandsOnlyComplete : (Instr.devReset (cmdOf 0x0102 [])).wellFormed = true ∧
    commandOf (.devReset (cmdOf 0x0102 [])) = some (cmdOf 0x0102 []) ∧ specOf (cmdOf 0x0102 []).opcode = some specDevReset ∧
    dev.serving = true ∧ checks specDevReset (cmdOf 0x0102 []) dev = some (stBadParam, 12) ∧ State.reset.cmdReady = false :=
  ⟨by decide +kernel, rfl, by rw [show (cmdOf 0x0102 []).opcode = 0x0102 from by decide +kernel]; rfl, by decide +kernel, by decide +kernel, rfl⟩

/-- A device under TAMPER_LOCK, and a source of every rank. -/
def sourceAt (rank : Nat) (pending active : Bool) : TamperSource := { enabled := true, rank, pending, active, applied := rank }
def lockedDev : State := { field with tamper := { vppOtp := true, sources := ⟨[(10, sourceAt 2 true false)]⟩ } }
theorem wit_TamperLockBlocks : (Instr.devConfigSave (cmdOf 0x0104 [])).wellFormed = true ∧ lockedDev.serving = true ∧
    tamperLock lockedDev = true ∧ (cmdOf 0x0104 []).fn = 0 ∧ (Instr.wdConfig (cmdOf 0x1003 [])).wellFormed = true ∧
    commandOf (.devInfo cDevInfo) = some cDevInfo ∧ specOf cDevInfo.opcode = some specDevInfo ∧
    commandOf (.wdConfig (cmdOf 0x1003 [])) = some (cmdOf 0x1003 []) :=
  ⟨by decide +kernel, by decide +kernel, by decide +kernel, by decide +kernel, by decide +kernel, rfl,
    by rw [show cDevInfo.opcode = 0x0101 from by decide +kernel]; rfl, rfl⟩

theorem wit_DeviceCommands_save : Passes 0x0104 specDevConfigSave cDevConfigSave field ∧ field.attar.storageKey.isSome = true ∧
    field.attar.flashFailures = 0 ∧ field.attar.active = none := ⟨passes_devConfigSave, by decide +kernel⟩

/-- A DMA transfer of a KEY_STATUS block runs. -/
def moving : Running :=
  { cmd := cmdOf 0x0503 [(56, 4096)], cls := .a, locks := [], wait := .transfer
    xfer := some { toHost := true, addr := 4096, length := 32, data := zeros 32 }, reply := some { status := 0, data := zeros 32 } }
def running1 : State := { field with running := [moving] }
theorem wit_ClassTimers : running1.live = true ∧ running1.running[0]? = some moving ∧ running1.watchdog.ctl.up = true ∧
    (∃ x, moving.xfer = some x ∧ x.fault = none) ∧ moving.wait = .transfer ∧ moving.cmd.qp < 4 ∧
    faulted.live = true ∧ faulted.running[0]? = some stuck ∧ ∃ x, stuck.xfer = some x ∧ x.fault = some 15 :=
  ⟨by decide +kernel, rfl, by decide +kernel, ⟨_, rfl, rfl⟩, rfl, by decide, by decide +kernel, rfl, _, rfl, rfl⟩

theorem no_pending (s : State) (h : s.tamper.sources = .empty) (n : Nat) : (sourceOf s n).pending = false := by
  have : sourceOf s n = sourceDefault n := by simp [sourceOf, h, Table.get, Table.find, Table.empty, cellsFind]
  rw [this]; unfold sourceDefault; split
  · rfl
  · split
    · rfl
    · split <;> rfl

def wishing (full : Bool) : State := { dev with power := { dev.power with wish := some { full, byDomain := true } } }
theorem wit_FreshStarts : dev.halted = false ∧ haltedDev.halted = true ∧ dev.live = true ∧ dev.pair.mode ≠ .active ∧ dev.power.wish = none ∧
    (wishing true).power.wish = some { full := true, byDomain := true } ∧
    (wishing false).power.wish = some { full := false, byDomain := true } := by decide +kernel

theorem wit_BootEnds : State.reset.halted = false ∧ ({ otpBad := true } : Board).otpBad = true ∧ (∀ n, (sourceOf State.reset n).pending = false) ∧
    ({} : Board).otpBad = false ∧ ({} : Board).kat = true ∧ ({} : Board).dimms = [] ∧ ({} : Board).badBanks = [] ∧
    State.reset.boot.record = none ∧ State.reset.attar.keeper = none ∧ checkImage State.reset State.reset.boot.bankA true = 3 :=
  ⟨rfl, rfl, no_pending State.reset rfl, rfl, rfl, rfl, rfl, rfl, rfl, by decide +kernel⟩

theorem wit_ResetsThatKeepTheDataPath : dev.live = true ∧ 31 < 32 ∧ (∀ n, n < 4 → ringEnabled dev n = false) ∧ dev.accord.peers = .empty ∧
    dev.accord.communities = .empty ∧ dev.channels.rekeyDue = [] := by decide +kernel

def hotDev : State := { dev with tamper := { sources := ⟨[(5, sourceAt 2 true true)]⟩ } }
theorem wit_BatteryClockTemperature : hotDev.live = true ∧ (sourceOf hotDev 5).active = true ∧ (sourceOf dev 5).armed = true ∧
    (sourceOf dev 5).active = false ∧ (sourceOf dev 5).rank ≤ 1 ∧ dev.noKeyOps = true ∧ dev.power.rootLock = true ∧ hotDev.pair.mode = .off ∧
    hotDev.tamper.sources.wf = true ∧ (-25 : Int) ≤ -25 ∧ (125 : Int) ≤ 125 := by decide +kernel

theorem wit_GateLoad : Passes 0x0f01 specGateLoad cGateLoad field ∧ 63 < 64 := ⟨passes_gateLoad, by decide⟩

/-- The running command that GATE_BARRIER and GATE_SWAP leave. -/
def waiting (op : Nat) (cls : Class) : Running := { cmd := cmdOf op [], cls, locks := [.gate 0], wait := .work }
theorem wit_GateBarrier : Passes 0x0f04 specGateBarrier cGateBarrier field ∧ cmdOk 0x0f04 (cmdOf 0x0f04 [(55, 128)]) = true ∧
    field.serving = true ∧ tamperLock field = false ∧ bitsOf (cmdOf 0x0f04 [(55, 128)]).bits 64 384 ≠ 0 ∧
    ({ field with running := [waiting 0x0f04 .a] } : State).live = true ∧ (waiting 0x0f04 .a).cmd.opcode = 0x0f04 :=
  ⟨passes_gateBarrier, by decide +kernel⟩

def parityDev : State := { dev with gate := { rules := ⟨[(127, { parityFailed := true })]⟩ } }
def captured : State := { shut with regs := ⟨[(0x1020c, 0x80000000#32)]⟩ }
theorem wit_GateSetsAndDenials : Passes 0x0f02 specGateSwap cGateSwap loaded ∧ Passes 0x0f03 specGateEdit cGateEdit field ∧
    (waiting 0x0f02 .b).cmd.opcode = 0x0f02 ∧ (waiting 0x0f02 .b).xfer = none ∧ parityDev.live = true ∧ parityDev.watchdog.hk.up = true ∧
    63 < 64 ∧ (gateRule parityDev true 63).parityFailed = true ∧ GateAllows dev 0 0x1020c true ∧
    gateCheck 0 0xffc true false [] shut = (shut, some 2) ∧ regBit shut 0x1020c 31 = false ∧
    gateCheck 0 0xffc true false [] captured = (captured, some 2) ∧ regBit captured 0x1020c 31 = true :=
  ⟨passes_gateSwap, passes_gateEdit, by decide +kernel, by decide +kernel, by decide +kernel, rfl, by decide, rfl, rfl, rfl, by decide +kernel, rfl, by decide +kernel⟩

def cXlt (op : Nat) : Cmd := cmdOf 0x0f10 [(8, op)]
def cXltRange : Cmd := cmdOf 0x0f10 [(8, 1), (24, 4096), (32, 1099511623680)]
theorem wit_DmaCommandsAndTurns_set : Passes 0x0f10 specDmaXltSet cDmaXltSet field ∧ cDmaXltSet.get ⟨8, 0, 2⟩ = 0 ∧
    Passes 0x0f10 specDmaXltSet cXltRange field ∧ cXltRange.get ⟨8, 0, 2⟩ = 1 ∧ Passes 0x0f10 specDmaXltSet (cXlt 2) field ∧
    (cXlt 2).get ⟨8, 0, 2⟩ = 2 ∧ Passes 0x0f10 specDmaXltSet (cXlt 3) field ∧ (cXlt 3).get ⟨8, 0, 2⟩ = 3 :=
  ⟨passes_dmaXltSet, by decide +kernel, passes_of (by decide +kernel), by decide +kernel, passes_of (by decide +kernel), by decide +kernel,
    passes_of (by decide +kernel), by decide +kernel⟩
theorem wit_DmaCommandsAndTurns_resume : Passes 0x0f11 specDmaResume cDmaResume faulted ∧ faulted.running = [stuck] ∧
    stuck.cmd.fn = cDmaResume.fn ∧ ∃ x, stuck.xfer = some x ∧ x.fault = some (cDmaResume.get ⟨8, 0, 4⟩) :=
  ⟨passes_dmaResume, rfl, rfl, _, rfl, by decide +kernel⟩

/-- Translation is enabled and the page at 4096 is cached. -/
def page1 : Translation := { fn := 0, va := 4096, large := false, write := true, addr := 0x5000 }
def mapped : State := { running1 with dma := { xlt := ⟨[(0, { enabled := true, root := 0x1000, l1 := 19 })]⟩, cache := [page1] } }
theorem wit_DmaCommandsAndTurns_turn : mapped.live = true ∧ mapped.running = [moving] ∧ moving.cmd.fn < 32 ∧ moving.wait = .transfer ∧
    (running1.dma.xlt.get {} 0).enabled = false ∧ (mapped.dma.xlt.get {} 0).enabled = true ∧
    ∃ x, moving.xfer = some x ∧ x.fault = none ∧ Xfer.at moving x / 0x200000 < 2 ^ (mapped.dma.xlt.get {} 0).l1 ∧
      mapped.dma.cache.find? (fun y => y.covers 0 (Xfer.at moving x)) = some page1 ∧ (x.toHost = true → page1.write = true) ∧
      gateCheck 0 (0x02400000 + x.moved) (!x.toHost) true [] mapped = (mapped, none) ∧ 0 < x.length - x.moved ∧
      Xfer.at moving x % 4096 + (x.length - x.moved) ≤ 4096 ∧ moving.cmd.opcode ≠ 0x0301 ∧ moving.cmd.opcode ≠ 0x0302 ∧
      partialOp moving.cmd.opcode = false :=
  ⟨by decide +kernel, rfl, by decide, rfl, by decide +kernel, by decide +kernel, _, rfl, rfl, by decide +kernel, by decide +kernel,
    by decide +kernel, rfl, by decide +kernel, by decide +kernel, by decide +kernel, by decide +kernel, by decide +kernel⟩

/-- SET of counter 126 with CHAIN, QUERY, GRANT and SNAPSHOT. -/
def cPmcSet : Cmd := cmdOf 0x1001 [(9, 126), (14, 3), (28, 0xffffffff)]
def cPmc (op : Nat) : Cmd := cmdOf 0x1001 [(8, op)]
theorem wit_CountersAndStatistics : Passes 0x1001 specPmcConfig cPmcSet dev ∧ cPmcSet.get ⟨8, 0, 3⟩ = 0 ∧
    Passes 0x1001 specPmcConfig (cPmc 1) dev ∧ (cPmc 1).get ⟨8, 0, 3⟩ = 1 ∧ Passes 0x1001 specPmcConfig (cPmc 2) dev ∧
    (cPmc 2).get ⟨8, 0, 3⟩ = 2 ∧ Passes 0x1001 specPmcConfig cPmcConfig field ∧ cPmcConfig.get ⟨8, 0, 3⟩ = 3 ∧
    Passes 0x1001 specPmcConfig (cPmc 4) dev ∧ (cPmc 4).get ⟨8, 0, 3⟩ = 4 ∧ dev.running = [] :=
  ⟨passes_of (by decide +kernel), by decide +kernel, passes_of (by decide +kernel), by decide +kernel, passes_of (by decide +kernel),
    by decide +kernel, passes_pmcConfig, by decide +kernel, passes_of (by decide +kernel), by decide +kernel, rfl⟩

def cBlock : Cmd := cmdOf 0x1002 [(8, 2), (12, 0xd100), (16, 1)]
def maxed (chain : Bool) : State :=
  { dev with pmc := { counters := ⟨[(126, { enable := true, value := 2 ^ 48 - 1, chain }), (127, { value := 2 ^ 48 - 1 })]⟩ } }
theorem wit_CountersAndStatistics_read : Passes 0x1002 specStatsRead cStatsRead stored ∧ cStatsRead.get ⟨8, 0, 3⟩ ≤ 1 ∧
    stored.reservoir.fatal = false ∧ statsRetrains stored = false ∧ Passes 0x1002 specStatsRead cBlock field ∧ cBlock.get ⟨8, 0, 3⟩ = 2 ∧
    (maxed false).live = true ∧ 126 < 128 ∧ pmcUpper (maxed false) 126 = false ∧ (pmcOf (maxed false) 126).enable = true ∧
    (pmcOf (maxed false) 126).value = 2 ^ 48 - 1 ∧ (pmcOf (maxed false) 126).chain = false ∧ pmcUpper (maxed true) 126 = false ∧
    (pmcOf (maxed true) 126).chain = true ∧ (pmcOf (maxed true) 127).value = 2 ^ 48 - 1 :=
  ⟨passes_statsRead, by decide +kernel, by decide +kernel, by decide +kernel, passes_of (by decide +kernel), by decide +kernel⟩

theorem wit_Watchdogs : stored.live = true ∧ stored.pair.mode = .off ∧ 4 < 5 ∧ (selEntry stored 4 16383).parityFailed = false ∧
    (groupOf stored 4095).parityFailed = false ∧ running1.running[0]? = some moving ∧ 3 < 4 ∧ (chOf stored 3).state = .online ∧
    paired.pair.mode ≠ .off ∧ ({ paired with pair := { paired.pair with partnerFw := false } } : State).pair.partnerFw = false :=
  ⟨by decide +kernel, by decide +kernel, by decide, by decide +kernel, by decide +kernel, rfl, by decide, by decide +kernel, by decide +kernel, rfl⟩

def held6 : State := { dev with watchdog := { dev.watchdog with debugHold := true } }
def downCtl : State := { dev with cmdReady := false, watchdog := { dev.watchdog with ctl := {} } }
def cWdSet : Cmd := cmdOf 0x1003 [(9, 10), (10, 5000), (12, 5200)]
theorem wit_Watchdogs_cores : held6.live = true ∧ 34 ≤ 34 ∧ (coreOf held6 34).up = true ∧ held6.watchdog.debugHold = true ∧
    dev.watchdog.debugHold = false ∧ (coreOf dev 32).up = true ∧ downCtl.live = true ∧ (coreOf downCtl 32).up = false ∧
    downCtl.watchdog.stopped = false ∧ downCtl.boot.trial = false ∧ limitReached downCtl.watchdog.restartLimit (coreOf downCtl 32).restarts = false ∧
    downCtl.accord.peers = .empty ∧ downCtl.accord.communities = .empty ∧ downCtl.channels.rekeyDue = [] ∧
    Passes 0x1003 specWdConfig cWdConfig field ∧ cWdConfig.flag 8 0 = true ∧ Passes 0x1003 specWdConfig cWdSet field ∧
    cWdSet.flag 8 0 = false :=
  ⟨by decide +kernel, by decide, rfl, rfl, rfl, rfl, by decide +kernel, rfl, rfl, rfl, by decide +kernel, rfl, rfl, rfl, passes_wdConfig,
    by decide +kernel, passes_of (by decide +kernel), by decide +kernel⟩

/-! ## Witnesses: ports, selectors, channels -/

/-- A port in a step of bring-up. -/
def portAt (b : Bringup) : Port := { rate := 7, slot := 0x3f, bringup := b, path := .buffered }
def portsDev (v : Port) : State := { dev with ports := { ports := ⟨[(64, portUp 7 .buffered), (127, v)]⟩ } }
def tiedUp : Port := { portAt .off with path := .express, partner := 64, faultPropagate := true }

theorem wit_LinkBringup : (portsDev (portAt .negotiating)).live = true ∧ 127 < 128 ∧
    portOf (portsDev (portAt .negotiating)) 127 = some (portAt .negotiating) ∧ (portAt .settling).path ≠ .express ∧
    (portAt .training).nearLoop = false ∧ (portAt .training).rising = true ∧ (portAt .up).bringup = .up ∧
    busyRx (portsDev (portAt .up)) 127 = false ∧ (egressOf (portsDev (portAt .up)) 127).tx = none ∧ (portAt .settling).localFault = false ∧
    (portAt .up).remoteFault = false ∧ ({ portAt .up with remoteFault := true } : Port).remoteFault = true ∧ tiedUp.path = .express ∧
    tiedUp.faultPropagate = true ∧ tiedUp.linkUp = false ∧ portOf (portsDev tiedUp) tiedUp.partner = some (portUp 7 .buffered) ∧
    (portAt .retryWait).bringup = .retryWait := by decide +kernel

/-- Ports 0 and 64 tied as express, port 8 buffered without a service. -/
def tied : State :=
  { field with ports := { ports := ⟨[(0, { portUp 7 .express with partner := 64 }), (8, portUp 7 .buffered),
      (64, { portUp 7 .express with partner := 0 }), (72, portAt .off)]⟩ } }
def cLaneWrite : Cmd := cmdOf 0x0203 [(8, 2), (9, 4), (10, 1), (14, 32)]
def cUntie : Cmd := cmdOf 0x0204 [(8, 1)]
def cBuffer : Cmd := cmdOf 0x0204 [(8, 2), (9, 8)]
def cUnbuffer : Cmd := cmdOf 0x0204 [(8, 3), (9, 8)]
theorem wit_PortCommands : Passes 0x0201 specPortConfig cPortConfig field ∧ (∀ i, i < 8 → portOf field (configBase cPortConfig + i) = none) ∧
    Passes 0x0202 specPortStatus cPortStatus busy ∧ portOf busy (statusPort cPortStatus) = some (portUp 7 .unassigned) ∧
    Passes 0x0203 specLaneTune cLaneTune field ∧ cLaneTune.flag 10 0 = false ∧ Passes 0x0203 specLaneTune cLaneWrite field ∧
    cLaneWrite.flag 10 0 = true :=
  ⟨passes_portConfig, by decide +kernel, passes_portStatus, by decide +kernel, passes_laneTune, by decide +kernel,
    passes_of (by decide +kernel), by decide +kernel⟩
theorem wit_PortCommands_map : Passes 0x0204 specPortMap cPortMap busy ∧ mapOp cPortMap = 0 ∧
    portOf busy (mapClient cPortMap) = some (portUp 7 .unassigned) ∧ portOf busy (64 + mapLine cPortMap) = some (portUp 7 .unassigned) ∧
    Passes 0x0204 specPortMap cUntie tied ∧ mapOp cUntie = 1 ∧ (portOf tied (mapClient cUntie)).isSome = true ∧
    (portOf tied (64 + mapLine cUntie)).isSome = true ∧ Passes 0x0204 specPortMap cBuffer busy ∧ mapOp cBuffer = 2 ∧
    (portOf busy (mapPort cBuffer)).isSome = true ∧ Passes 0x0204 specPortMap cUnbuffer tied ∧ mapOp cUnbuffer = 3 ∧
    (portOf tied (mapPort cUnbuffer)).isSome = true :=
  ⟨passes_portMap, by decide +kernel, by decide +kernel, by decide +kernel, passes_of (by decide +kernel), by decide +kernel,
    by decide +kernel, by decide +kernel, passes_of (by decide +kernel), by decide +kernel, by decide +kernel,
    passes_of (by decide +kernel), by decide +kernel, by decide +kernel⟩
def cLoopAux : Cmd := cmdOf 0x1004 [(8, 2 + 4), (9, 4)]
def cLoopPort : Cmd := cmdOf 0x1004 [(8, 1 + 4), (9, 8)]
theorem wit_PortCommands_loop : Passes 0x1004 specDiagLoopback cLoopAux field ∧ (loopNow cLoopAux field).1 ≠ loopMode cLoopAux ∧
    cLoopAux.get ⟨8, 0, 2⟩ = 2 ∧ Passes 0x1004 specDiagLoopback cLoopPort tied ∧ (loopNow cLoopPort tied).1 ≠ loopMode cLoopPort ∧
    cLoopPort.get ⟨8, 0, 2⟩ < 2 ∧ portOf tied (loopPort cLoopPort) = some (portAt .off) ∧ (portAt .off).linkUp = false :=
  ⟨passes_of (by decide +kernel), by decide +kernel, by decide +kernel, passes_of (by decide +kernel), by decide +kernel⟩

/-- SEL_DATA holds a number, and a foreign-SCI table whose entry 4095 holds the key of 2 ^ 116. -/
def dataDev (d : Nat) : State := setSelData d field
def keyedDev : State :=
  { dataDev (2 ^ 116) with selectors := {
      foreign := ⟨[(4095, { data := 2 ^ 116 })]⟩, client := ⟨[(262143, { data := 1 })]⟩,
      lpm4 := ⟨[(131071, { data := 2 ^ 48 })]⟩ } }
theorem wit_SelectorRegisters : keyedDev.live = true ∧ GateAllows keyedDev 0 0 true ∧ cmdRefused 0x3ffff000#32 = false ∧
    cmdTable 0x3ffff000#32 = 0 ∧ cmdIndex 0x3ffff000#32 = 262143 ∧ 262143 < tableSize 0 ∧ bulkHolds keyedDev 0 262143 = false ∧
    cmdIndex 0x01000020#32 = 4096 ∧ tableSize 2 ≤ 4096 ∧ cmdTable 0x3ffff040#32 = 4 ∧ cmdTable 0x1ffff030#32 = 3 ∧ 131071 < tableSize 3 ∧
    entryValid 3 (selEntry keyedDev 3 131071).data = true := ⟨by decide +kernel, rfl, by decide +kernel⟩
theorem wit_SelectorRegisters_write : entryRefused 0 262143 (bitsOf (selData (dataDev 1)) 0 128) = false ∧
    entryValid 0 (bitsOf (selData (dataDev 1)) 0 128) = true ∧ cmdTable 0x00000021#32 = 2 ∧
    entryRefused 2 0 (bitsOf (selData keyedDev) 0 128) = false ∧ entryValid 2 (bitsOf (selData keyedDev) 0 128) = true ∧
    bulkHolds keyedDev 2 0 = false ∧ findKey keyedDev 2 (bitsOf (selData keyedDev) 0 128) = some 4095 ∧
    findKey (dataDev (2 ^ 116)) 2 (2 ^ 116) = none ∧ 4095 ∈ candidates 2 (2 ^ 116) ∧
    ((dataDev (2 ^ 116)).selectors.table 2).has 4095 = false := by decide +kernel

def cCompare : Cmd := cmdOf 0x0302 [(12, 262143), (16, 1), (20, 65536)] (leBytes 16 1)
theorem wit_SelectorCommands : Passes 0x0303 specSelLpmMode cSelLpmMode busy ∧ Passes 0x0301 specSelBulkLoad cSelBulkLoad field ∧
    cSelBulkLoad.get ⟨8, 0, 3⟩ ≤ 1 ∧ (∀ k, k < cSelBulkLoad.u32 16 → entryRefused 0 (0 + k) (leAt cSelBulkLoad.payload (16 * k) 16) = false) ∧
    Passes 0x0302 specSelShadowCompare cSelShadowCompare field ∧ cSelShadowCompare.get ⟨8, 0, 3⟩ ≤ 1 ∧
    (∀ k, k < cSelShadowCompare.u32 16 → (selEntry field 0 (0 + k)).parityFailed = false ∧
      (selEntry field 0 (0 + k)).data = leAt cSelShadowCompare.payload (16 * k) 16) ∧
    Passes 0x0302 specSelShadowCompare cCompare field ∧ 0 < cCompare.u32 16 ∧ (selEntry field 0 (262143 + 0)).data ≠ leAt cCompare.payload (16 * 0) 16 :=
  ⟨passes_selLpmMode, passes_selBulkLoad, by decide +kernel, by decide +kernel, passes_selShadowCompare, by decide +kernel, by decide +kernel,
    passes_of (by decide +kernel), by decide +kernel, by decide +kernel⟩

def oldLength : State := { dev with selectors := { lengths := ⟨[(0, { clears := 1024 }), (256 + 128, { parityFailed := true })]⟩ } }
theorem wit_SelectorUpkeep : dev.live = true ∧ 7 < 8 ∧ dev.selectors.learned.wf = true ∧ 4 ≤ 4 ∧ 32767 < tableSize 4 ∧
    (selEntry dev 4 32767).parityFailed = false ∧ 4095 < 4096 ∧ oldLength.live = true ∧ 1024 ≤ (lengthOf oldLength 0 0).clears ∧
    (lengthOf oldLength 1 128).parityFailed = true := by decide +kernel

def cScDrop : Cmd := cmdOf 0x0402 [(8, 2)]
def scDev : State := { busy with channels := { busy.channels with scs := ⟨[(0, rxSc), (1, txSc), (2, { rxSc with slot0 := none })]⟩ } }
theorem wit_ScCommands : (∀ r ∈ busy.running, r.cmd ≠ cScCreate) ∧ Passes 0x0401 specScCreate cScCreate busy ∧
    Passes 0x0402 specScDelete cScDelete busy ∧ scOf busy (cScDelete.get ⟨8, 0, 17⟩) = some txSc ∧ txSc.sas ≠ [] ∧
    (∀ a ∈ txSc.sas, ∃ x, saOf busy a = some x ∧ x.sc = 1) ∧ Passes 0x0402 specScDelete cScDrop scDev ∧
    scOf scDev (cScDrop.get ⟨8, 0, 17⟩) = some { rxSc with slot0 := none } ∧ ({ rxSc with slot0 := none } : Sc).sas = [] ∧
    Passes 0x0407 specScTenantAssign cScTenantAssign busy ∧ scOf busy (cScTenantAssign.get ⟨8, 0, 17⟩) = some txSc :=
  ⟨by decide +kernel, passes_scCreate, passes_scDelete, by decide +kernel, by decide +kernel,
    fun a h => by
      rw [show txSc.sas = [1, 2] from by decide +kernel] at h
      have : a = 1 ∨ a = 2 := by simpa using h
      rcases this with rfl | rfl <;> exact ⟨_, rfl, rfl⟩,
    passes_of (by decide +kernel), by decide +kernel, by decide +kernel, passes_scTenantAssign, by decide +kernel⟩

def cSaWrapped : Cmd := cmdOf 0x0403 [(8, 1), (12, 0xe), (14, 4), (16, 1)] (zeros 48)
def cSaDrain : Cmd := cmdOf 0x0404 [(8, 1), (12, 1)]
def cSaFree : Cmd := cmdOf 0x0405 [(8, 1), (12, 3)]
theorem wit_SaCommands : scOf busy (cSaInstall.get ⟨8, 0, 17⟩) = some rxSc ∧ (∀ r ∈ busy.running, r.cmd ≠ cSaInstall) ∧
    Passes 0x0403 specSaInstall cSaInstall busy ∧ cSaInstall.u16 14 = 0xffff ∧ (∀ m, rxSc.slot rxSc.encAn = some m → saOf busy m ≠ none) ∧
    scOf busy (cSaWrapped.get ⟨8, 0, 17⟩) = some txSc ∧ Passes 0x0403 specSaInstall cSaWrapped busy ∧
    (slotOf busy (cSaWrapped.u16 14)).corrupt = false ∧ (slotOf busy (cSaWrapped.u16 14)).latent = false ∧
    (∀ m, txSc.slot txSc.encAn = some m → saOf busy m ≠ none) :=
  ⟨by decide +kernel, by decide +kernel, passes_saInstall, by decide +kernel,
    fun m h => by simp [rxSc, Sc.slot] at h; subst h; decide +kernel, by decide +kernel, passes_of (by decide +kernel), by decide +kernel,
    by decide +kernel, fun m h => by simp [txSc, rxSc, Sc.slot] at h; subst h; decide +kernel⟩
theorem wit_SaCommands_retire : Passes 0x0404 specSaRetire cSaRetire busy ∧ rxSc.slot (cSaRetire.get ⟨12, 0, 2⟩) = some 0 ∧
    saOf busy 0 = some (saOn 0 0 true) ∧ cSaRetire.flag 12 2 = true ∧ Passes 0x0404 specSaRetire cSaDrain busy ∧
    txSc.slot (cSaDrain.get ⟨12, 0, 2⟩) = some 2 ∧ saOf busy 2 = some (saOn 1 1 false) ∧ cSaDrain.flag 12 2 = false ∧
    Passes 0x0405 specSaStatus cSaStatus busy ∧ txSc.slot (cSaStatus.get ⟨12, 0, 2⟩) = some 2 ∧ Passes 0x0405 specSaStatus cSaFree busy ∧
    txSc.slot (cSaFree.get ⟨12, 0, 2⟩) = none :=
  ⟨passes_saRetire, by decide +kernel, by decide +kernel, by decide +kernel, passes_of (by decide +kernel), by decide +kernel,
    by decide +kernel, by decide +kernel, passes_saStatus, by decide +kernel, passes_of (by decide +kernel), by decide +kernel⟩

def cRollOff : Cmd := cmdOf 0x0406 [(8, 1)]
def cRollBoth : Cmd := cmdOf 0x0406 [(8, 1), (12, 1 + 16), (16, 2 ^ 30)]
def firing : State := { busy with time := { clock := { sec := 50 }, state := .tracking, rolls := ⟨[(1, (50, 0))]⟩ } }
theorem wit_SaRoll : scOf busy 1 = some txSc ∧ Passes 0x0406 specSaRoll cSaRoll busy ∧ cSaRoll.get ⟨8, 0, 17⟩ = 1 ∧
    cSaRoll.get ⟨12, 2, 3⟩ = 1 ∧ switchRefused busy txSc 1 = none ∧ Passes 0x0406 specSaRoll cRollOff busy ∧ cRollOff.get ⟨12, 2, 3⟩ = 0 ∧
    Passes 0x0406 specSaRoll cRollBoth busy ∧ cRollBoth.get ⟨12, 2, 3⟩ = 4 ∧ firing.live = true ∧
    firing.time.rolls.find 1 = some (50, 0) ∧ 50 * 1000000000 + 0 ≤ toTotal firing :=
  ⟨by decide +kernel, passes_saRoll, by decide +kernel, by decide +kernel, by decide +kernel, passes_of (by decide +kernel),
    by decide +kernel, passes_of (by decide +kernel), by decide +kernel⟩
/-- A standby SA whose parent has a newer generation: MODE 1 is refused. -/
def orphanDev : State := { busy with attar := { busy.attar with rootGen := 1 } }
theorem wit_SaRoll_refused : Passes 0x0406 specSaRoll cSaRoll orphanDev ∧ (switchRefused orphanDev txSc 1).isSome = true :=
  ⟨passes_of (by decide +kernel), by decide +kernel⟩

/-- SC 0's entry fails its parity, its SA is past a deadline, SA 2 drains. -/
def upkeep : State :=
  { stored with channels := {
      scs := ⟨[(0, { rxSc with parityFailed := true }), (1, txSc)]⟩
      sas := ⟨[(0, { saOn 0 0 true with deadline := some 0, retiring := true }), (2, { saOn 1 1 false with draining := true })]⟩ } }
def drainRun : Running := { cmd := cSaDrain, cls := .a, locks := [.sc 1, .sa 2], wait := .work }
theorem wit_SaUpkeep : upkeep.live = true ∧ (scOf upkeep 0).isSome = true ∧ saOf upkeep 0 ≠ none ∧
    upkeep.reservoir.statsChannel.isSome = true ∧ upkeep.reservoir.statsMoving = false ∧ upkeep.watchdog.hk.up = true ∧
    upkeep.pair.mode ≠ .standby ∧ ({ saOn 1 1 false with draining := true } : Sa).draining = true ∧ saBusy upkeep 2 = false ∧
    upkeep.running = [] ∧ drainRun.cmd.opcode = 0x0404 ∧ drainRun.locks = [.sc 1, .sa 2] := by decide +kernel

/-! ## Witnesses: Accord -/

/-- The text of a message of community 1 and a message from the peer at line port 0. -/
def accText (type ex seq : Nat) (body : Bytes) : Bytes :=
  [BitVec.ofNat 8 (16 + type), 0] ++ beBytes 2 (body.length + 48) ++ beBytes 4 1 ++ beBytes 4 ex ++ beBytes 4 seq ++ body
def accMsg (text mac : Bytes) : Message := { port := 0, wire := 0, src := 0x020000000001, community := 0, text, mac }
/-- A linked device whose peer is as given and whose engine has one message. -/
def heard (p : Peer) (ms : List Message) : State :=
  { linked with accord := { linked.accord with peers := ⟨[(16383, p)]⟩, messages := ms } }
def exch (initiator : Bool) (stage : Stage) : Exchange := { number := 7, initiator, stage, rekey := false }

def cCommDelete : Cmd := cmdOf 0x0601 [(8, 64)]
def cCommAgain : Cmd := cmdOf 0x0601 [(9, 3), (10, 5), (12, 1), (16, 1)]
def empty1 : State := { linked with accord := { linked.accord with peers := .empty } }
def cPage : Cmd := cmdOf 0x0602 [(8, 1), (11, 15), (56, 4096)]
theorem wit_AccordCommands : busy.noWishes = true ∧ busy.keysSettled = true ∧ Passes 0x0601 specAccCommunitySet cAccCommunitySet busy ∧
    cAccCommunitySet.flag 8 6 = false ∧ commOf busy (cAccCommunitySet.get ⟨8, 0, 6⟩) = none ∧
    keySlotUsable busy (cAccCommunitySet.u16 10) = true ∧ linked.noWishes = true ∧ linked.keysSettled = true ∧
    Passes 0x0601 specAccCommunitySet cCommAgain empty1 ∧ commOf empty1 (cCommAgain.get ⟨8, 0, 6⟩) = some group ∧
    cCommAgain.flag 8 6 = false ∧ keySlotUsable empty1 (cCommAgain.u16 10) = true ∧ group.keyLost = false ∧
    empty1.accord.peers.cells.all (fun p => p.2.community != 0) = true ∧ Passes 0x0601 specAccCommunitySet cCommDelete linked ∧
    cCommDelete.flag 8 6 = true ∧ commOf linked (cCommDelete.get ⟨8, 0, 6⟩) = some group :=
  ⟨by decide +kernel, by decide +kernel, passes_accCommunitySet, by decide +kernel, by decide +kernel, by decide +kernel, by decide +kernel,
    by decide +kernel, passes_of (by decide +kernel), by decide +kernel, by decide +kernel, by decide +kernel, by decide +kernel,
    by decide +kernel, passes_of (by decide +kernel), by decide +kernel⟩
theorem wit_AccordCommands_peers : Passes 0x0602 specAccPeerList cPage linked ∧ cPage.flag 8 0 = true ∧
    Passes 0x0602 specAccPeerList cAccPeerList busy ∧ cAccPeerList.flag 8 0 = false ∧ Passes 0x0603 specAccPeerDrop cAccPeerDrop linked ∧
    peerOf linked (cAccPeerDrop.get ⟨8, 0, 14⟩) = some partner ∧ cAccPeerDrop.flag 10 1 = false ∧
    Passes 0x0603 specAccPeerDrop (cmdOf 0x0603 [(10, 2)]) linked ∧ (cmdOf 0x0603 [(10, 2)]).flag 10 1 = true ∧
    Passes 0x0604 specAccPolicy cAccPolicy busy :=
  ⟨passes_of (by decide +kernel), by decide +kernel, passes_accPeerList, by decide +kernel, passes_accPeerDrop, by decide +kernel,
    by decide +kernel, passes_of (by decide +kernel), by decide +kernel, passes_accPolicy⟩

def confirmText : Bytes := accText 4 7 9 (zeros 64)
def arriving : State := { linked with accord := { linked.accord with arrived := [(0, zeros 14 ++ confirmText ++ zeros 48)] } }
theorem wit_AccordArrivals : arriving.live = true ∧ arriving.accord.enable = true ∧ 16 ≤ (confirmText ++ zeros 48).length ∧
    byteAt (confirmText ++ zeros 48) 0 / 16 = 1 ∧ bitOf (byteAt (confirmText ++ zeros 48) 1) 7 = false ∧
    commById arriving (beAt (confirmText ++ zeros 48) 4 4) (lookPort arriving 0) = some 0 ∧ commOf arriving 0 = some group ∧
    48 ≤ beAt (confirmText ++ zeros 48) 2 2 ∧ 16 + beAt (confirmText ++ zeros 48) 2 2 ≤ (confirmText ++ zeros 48).length ∧
    malformed confirmText = false ∧ keySlotUsable arriving group.keySlot = true ∧ textType confirmText = 4 ∧
    replayed arriving 0 0 0x020000000001 (confirmText ++ zeros 48) = false := by decide +kernel

def helloText (id epoch : Nat) : Bytes := accText 1 0 9 (beBytes 8 id ++ beBytes 4 epoch ++ beBytes 2 250 ++ beBytes 2 0)
def known : State := heard partner [accMsg (helloText 0x9640000000000001 3) []]
def unknown (id : Nat) : State := { heard partner [accMsg (helloText id 3) []] with accord := { linked.accord with
  peers := .empty, messages := [accMsg (helloText id 3) []] } }
theorem wit_AccordArrivals_hello : known.live = true ∧ textType (helloText 0x9640000000000001 3) = 1 ∧
    beAt (textBody (helloText 0x9640000000000001 3)) 0 8 ≠ accordId known ∧
    bitOf (byteAt (textBody (helloText 0x9640000000000001 3)) 14) 0 = false ∧ accordLeads known = true ∧
    known.accord.epoch.isSome = true ∧ stillEnabled known (accMsg (helloText 0x9640000000000001 3) []) = true ∧ known.noWishes = true ∧
    stillEnabled (unknown 1) (accMsg (helloText 1 3) []) = true ∧ (unknown 1).watchdog.acc.up = true ∧
    peerAt known 0 0 0x020000000001 = some 16383 ∧ peerOf known 16383 = some partner ∧ partner.state ≠ .suppressed ∧
    partner.epoch = beAt (textBody (helloText 0x9640000000000001 3)) 8 4 ∧ peerAt (unknown 1) 0 0 0x020000000001 = none ∧
    (unknown 1).accord.peers.firstFree 0 16384 = some 0 ∧ freePi (unknown 1) 0 = some 0 ∧ (unknown 1).noWishes = true ∧
    beAt (textBody (helloText 1 3)) 0 8 < accordId (unknown 1) ∧
    accordId (unknown 0x9640000000000001) < beAt (textBody (helloText 0x9640000000000001 3)) 0 8 := by decide +kernel

def leaving : State := heard { partner with state := .lost } [accMsg (accText 7 0 9 (zeros 16)) []]
def recorded : State := { linked with accord := { linked.accord with
  peers := .empty, records := [(0, 5)], fragments := [{ port := 0, src := 5, header := [], data := [] }] } }
theorem wit_AccordArrivals_rest : textType (accText 7 0 9 (zeros 16)) = 7 ∧ engineRuns leaving = true ∧ accUp leaving = true ∧
    stillEnabled leaving (accMsg (accText 7 0 9 (zeros 16)) []) = true ∧ leaving.noWishes = true ∧
    beAt (textBody (accText 7 0 9 (zeros 16))) 0 8 ≠ accordId leaving ∧
    peerAt leaving 0 0 0x020000000001 = some 16383 ∧ recorded.accord.fragments ≠ [] ∧ engineRuns recorded = true ∧
    recorded.accord.communities.keys = [0] ∧ bitOf group.portMask 0 = true ∧ group.tearing = false ∧ peerAt recorded 0 0 5 = none ∧
    mayTransmit recorded (64 + 0) = true ∧ recorded.accord.solicited.any (fun r => r.1 == 0 && r.2.1 == 5) = false ∧
    ([(0, 5, 0)] : List (Nat × Nat × Nat)).any (fun r => r.1 == 0 && r.2.1 == 5) = true := by decide +kernel

/-- An OFFER of the known peer, with the suite of the community. -/
def offerText : Bytes := accText 2 7 9 (beBytes 8 0x9640000000000001 ++ [0, 0, 3, 0] ++ beBytes 4 3 ++ zeros 1632)
def offered : State := heard partner [accMsg offerText []]
theorem wit_AccordExchange_offer : offered.live = true ∧ accUp offered = true ∧ engineRuns offered = true ∧
    stillEnabled offered (accMsg offerText []) = true ∧ offered.noWishes = true ∧
    peerAt offered 0 0 0x020000000001 = some 16383 ∧ commOf offered 0 = some group ∧ textType offerText = 2 ∧
    beAt (textBody offerText) 0 8 ≠ accordId offered ∧ beAt (textBody offerText) 12 4 = partner.epoch ∧ partner.exchange = none ∧
    entServes offered 3 = true ∧ entServes { offered with entropy := {} } 3 = false := by decide +kernel
theorem wit_AccordExchange_answered (h : Config.ekValid (slice (textBody offerText) 80 1568) = true) :
    offerRefusal offered group partner (accMsg offerText []) = none := by
  dsimp only [offerRefusal, accMsg]; rw [h]; decide +kernel
theorem wit_AccordExchange_refused (h : Config.ekValid (slice (textBody offerText) 80 1568) = false) :
    offerRefusal offered group partner (accMsg offerText []) = some 6 := by
  dsimp only [offerRefusal, accMsg]; rw [h]; rfl

def acceptText (result : Nat) : Bytes := accText 3 7 9 (zeros 12 ++ beBytes 4 3 ++ beBytes 1 result ++ zeros 1683)
def asked (m : Message) : State := heard { partner with exchange := some (exch true .offered) } [m]
theorem wit_AccordExchange_accept : textType (acceptText 1) = 3 ∧ byteAt (textBody (acceptText 1)) 16 ≠ 0 ∧
    byteAt (textBody (acceptText 0)) 16 = 0 ∧ (exch true .offered).number = textExchange (acceptText 0) ∧
    beAt (textBody (acceptText 0)) 12 4 = partner.epoch ∧
    (exch true .offered).keyGen = issuedGen (asked (accMsg (acceptText 0) [])) false group.keySlot ∧
    roomFor (asked (accMsg (acceptText 0) [])) group partner = true ∧ partner.rxSc = none ∧
    (asked (accMsg (acceptText 0) [])).noWishes = true ∧
    beAt (textBody (acceptText 0)) 0 8 ≠ accordId (asked (accMsg (acceptText 0) [])) := by decide +kernel

/-- A CONFIRM with a key confirmation, and a ROLL. -/
def confirming (final : Bool) : Bytes := accText 4 7 9 (zeros 8 ++ beBytes 8 (b2n final * 2 ^ 56) ++
  keyConfirm 0 (if final then 0x46 else 0x49) (transcript [] []) 1)
theorem wit_AccordExchange_confirm : textType (confirming true) = 4 ∧ bitOf (byteAt (textBody (confirming true)) 8) 0 = true ∧
    bitOf (byteAt (textBody (confirming false)) 8) 0 = false ∧ textExchange (confirming true) = 7 ∧ (exch true .confirmed).stage = .confirmed ∧
    slice (textBody (confirming true)) 16 48 = keyConfirm (exch true .confirmed).prk 0x46 (transcript [] []) group.id :=
  ⟨rfl, rfl, rfl, rfl, rfl, rfl⟩
def rollText : Bytes := accText 5 7 9 (zeros 8 ++ [4] ++ zeros 31)
def rolling : State := heard { partner with
  txSc := some 1, exchange := some { exch true .done with rollWait := true, txAn := 1 } } [accMsg rollText []]
theorem wit_AccordExchange_roll : rolling.live = true ∧ engineRuns rolling = true ∧ textType rollText = 5 ∧ textExchange rollText = 7 ∧
    true = bitOf (byteAt (textBody rollText) 8) 2 ∧ (exch true .done).last ≠ rollText ++ [] ∧
    stillEnabled rolling (accMsg rollText []) = true ∧ beAt (textBody rollText) 0 8 ≠ accordId rolling ∧ scOf rolling 1 = some txSc := by decide +kernel

/-- A linked device whose peer 16383 is as given. -/
def peered (p : Peer) : State := heard p []
theorem wit_AccordPeerTimers : (peered partner).live = true ∧ accUp (peered partner) = true ∧
    engineRuns (peered partner) = true ∧ (peered partner).keysSettled = true ∧ (peered partner).accord.communities.keys = [0] ∧
    (∀ n, n < 64 → bitOf group.portMask n = decide (n = 0)) ∧ mayTransmit (peered partner) (64 + 0) = true ∧
    (peered partner).accord.peers.wf = true ∧ ({ group with tearing := true } : Community).tearing = true ∧
    ({ saOn 1 0 false with accord := true, superseded := true } : Sa).superseded = true ∧ (saOn 1 0 false).draining = false ∧
    (peered partner).noWishes = true ∧ peerOf (peered { partner with state := .lost }) 16383 = some { partner with state := .lost } ∧
    ({ partner with state := .discovered, waiting := true } : Peer).waiting = true ∧ ({ group with rekey := 60 } : Community).rekey ≠ 0 ∧
    ({ partner with backoff := some true } : Peer).backoff = some true ∧ partner.state = .active := by decide +kernel
def broken1 : State := { peered { partner with rxSc := some 0 } with selectors := { line := ⟨[(0, { data := 0, parityFailed := true })]⟩ } }
theorem wit_AccordPeerTimers_line : (selEntry broken1 1 (lineIndex { partner with rxSc := some 0 })).parityFailed = true ∧
    commOf broken1 partner.community = some group := by decide +kernel

theorem wit_AccordExchangeTimers : (peered partner).live = true ∧ (peered { partner with exchange := some (exch true .offered) }).noWishes = true ∧
    (exch true .offered).initiator = true ∧ (exch true .offered).resends < 3 ∧ ({ exch true .offered with resends := 2 } : Exchange).resends < 3 ∧
    (exch true .confirmed).stage = .confirmed ∧ (exch false .accepted).initiator = false ∧ (exch false .accepted).created = false ∧
    ({ exch false .accepted with created := true } : Exchange).created = true ∧ rolling.noWishes = true ∧ partner.newSci = false ∧
    switchRefused rolling txSc 1 = none ∧ ({ exch false .done with waits := true } : Exchange).waits = true ∧
    ({ partner with leftover := some (exch true .done) } : Peer).leftover = some (exch true .done) := by decide +kernel

/-! ## Witnesses: keys and frames -/

def cKeyOver : Cmd := cmdOf 0x0501 [(8, 5), (10, 1), (11, 1), (12, 5), (14, 4)] (zeros 48)
def cKeyClear : Cmd := cmdOf 0x0501 [(8, 0), (10, 4), (14, 0xfff1)] (zeros 48)
def cKeyRoot : Cmd := cmdOf 0x0502 [(8, 0xffff)]
def cKeyStore : Cmd := cmdOf 0x0503 [(8, 0xfff1)]
theorem wit_KeyCommands : busy.accord.communities = .empty ∧ Passes 0x0501 specKeyWrite cKeyWrite busy ∧ cKeyWrite.flag 12 0 = false ∧
    slotUsable busy 4 = .ok ∧ (slotOf busy 4).latent = false ∧ occupied busy (cKeyWrite.u16 8) = false ∧
    Passes 0x0501 specKeyWrite cKeyOver busy ∧ cKeyOver.flag 12 0 = true ∧ occupied busy (cKeyOver.u16 8) = true ∧
    Passes 0x0501 specKeyWrite cKeyClear busy ∧ cKeyClear.u16 14 = 0xfff1 ∧ Passes 0x0502 specKeyInvalidate cKeyInvalidate busy ∧ cKeyInvalidate.u16 8 ≠ 0xffff ∧
    Passes 0x0502 specKeyInvalidate cKeyRoot busy ∧ cKeyRoot.u16 8 = 0xffff ∧ Passes 0x0503 specKeyStatus cKeyStatus busy ∧
    cKeyStatus.u16 8 ≤ 16383 ∧ Passes 0x0503 specKeyStatus cKeyStore busy ∧ 16383 < cKeyStore.u16 8 :=
  ⟨rfl, passes_keyWrite, by decide +kernel, by decide +kernel, by decide +kernel, by decide +kernel, passes_of (by decide +kernel),
    by decide +kernel, by decide +kernel, passes_of (by decide +kernel), by decide +kernel, passes_keyInvalidate, by decide +kernel, passes_of (by decide +kernel),
    by decide +kernel, passes_keyStatus, by decide +kernel, passes_of (by decide +kernel), by decide +kernel⟩
/-- Slot 4 committed in copy A, and failed. -/
def imaged : State :=
  { busy with attar := { busy.attar with
      active := some false
      copyA := { status := 1, generation := 5, records := ⟨[(4, slotOf busy 4)]⟩, storageKey := 7, keeperKey := 5 }
      slots := ⟨[(4, { slotOf busy 4 with corrupt := true })]⟩, erasing := some true } }
def cLoadBack : Cmd := cmdOf 0x0505 [(8, 1)]
def repairOn : State := { imaged with regs := ⟨[(0x3014, 2 ^ 16)]⟩ }
theorem wit_FlaconAndUpkeep : Passes 0x0504 specFlaconCommit cFlaconCommit busy ∧ busy.attar.keeper = some 5 ∧
    busy.attar.storageKey = some 7 ∧ busy.attar.flashFailures = 0 ∧
    busy.attar.slots.cells.all (fun k => !k.2.persist || (slotUsable busy k.1 == .ok && !(slotOf busy k.1).latent)) = true ∧
    Passes 0x0505 specFlaconLoad cFlaconLoad busy ∧ cFlaconLoad.get ⟨8, 0, 2⟩ = 0 ∧ Passes 0x0505 specFlaconLoad cLoadBack imaged ∧
    cLoadBack.get ⟨8, 0, 2⟩ = 1 ∧ imaged.attar.slots.keysIf (fun _ v => v.corrupt) = [4] ∧ activeCopy imaged = some imaged.attar.copyA ∧
    imaged.attar.copyA.records.find 4 = some (slotOf busy 4) ∧ (slotOf imaged 4).corrupt = true ∧
    (slotOf busy 4).gen = (slotOf imaged 4).gen ∧ imaged.attar.erasing = some true ∧ busy.live = true ∧ 16383 < 16384 ∧
    (slotOf busy 16383).corrupt = false ∧ busy.attar.slots.keysIf (fun _ v => v.latent) = [] ∧ repairOn.live = true ∧
    repairOn.watchdog.hk.up = true ∧ regBit repairOn 0x3014 16 = true ∧ (slotOf repairOn 4).corrupt = true :=
  ⟨passes_flaconCommit, rfl, rfl, rfl, by decide +kernel, passes_flaconLoad, by decide +kernel, passes_of (by decide +kernel),
    by decide +kernel⟩

/-- An untagged head of 128 bytes, of an EtherType, and one with a SecTAG with SCI. -/
def rawHead (ether : Nat) (rest : Bytes := []) : Bytes :=
  let h := zeros 12 ++ beBytes 2 ether ++ rest
  h ++ zeros (128 - h.length)
def taggedHead128 : Bytes := rawHead 0x88e5 ([0x2c, 0] ++ beBytes 4 1 ++ leBytes 8 9)
/-- Ports 0 and 64 tied as express, their entries in place; SC 0 receives on port 64, SC 1 sends there. -/
def wired : State :=
  { busy with
    ports := tied.ports, regs := ⟨[(0x34, 0), (0x1800, 1), (0xe010, 0)]⟩
    selectors := {
      client := ⟨[(0, { data := 1 + 2 ^ 32 })]⟩, line := ⟨[(0, { data := 2 ^ 116 + 2 ^ 117 })]⟩
      foreign := ⟨[(0, { data := 9 + 2 ^ 116 })]⟩ } }
def wiredPort : Port := { portUp 7 .express with partner := 64 }
theorem wit_FramesReceived_client : wired.live = true ∧ wired.pair.mode = .off ∧ wired.pair.held = [] ∧ wired.pair.merges = .empty ∧
    wired.channels.rekeyDue = [] ∧ frameOf wired wired.fabric.nextFrame = none ∧ portOf wired 0 = some wiredPort ∧
    wiredPort.linkUp = true ∧ wiredPort.loopback = 0 ∧ wiredPort.path = .express ∧ regBit wired 0xe010 0 = false ∧
    wired.fabric.rx.has 0 = false ∧ (rawHead 0x88b5).length = 128 ∧ isMacControl (rawHead 0x88b5) = false ∧
    parseFails (rawHead 0x88b5) = false ∧ lookupFamily (wired.selectors.modes.get {} 0).mode (rawHead 0x88b5) = none ∧
    0 * 4096 + frameVid (rawHead 0x88b5) = 0 ∧ (selEntry wired 0 0).parityFailed = false ∧ entryValid 0 (selEntry wired 0 0).data = true ∧
    (clientEntry (selEntry wired 0 0).data).action ≤ 1 ∧ (clientEntry (selEntry wired 0 0).data).buffered = false ∧
    (clientEntry (selEntry wired 0 0).data).meterEn = false ∧ classFull wired 0 = false ∧
    expressCells wired 64 < wired.fabric.expressLimit := by decide +kernel
theorem wit_FramesReceived_line : portOf wired (64 + 0) = some { portUp 7 .express with partner := 0 } ∧ wired.fabric.rx.has 64 = false ∧
    (rawHead wired.accord.etherType).length ≤ 252 ∧ isMacControl (rawHead wired.accord.etherType) = false ∧
    beAt (rawHead wired.accord.etherType) 12 2 = wired.accord.etherType ∧ beAt (rawHead 0x0800) 12 2 ≠ wired.accord.etherType ∧
    parseFails (rawHead 0x0800) = false ∧ frameTag wired 0 (rawHead 0x0800) = none ∧ (selEntry wired 1 0).parityFailed = false ∧
    (lineEntry (selEntry wired 1 0).data).valid = true ∧ (lineEntry (selEntry wired 1 0).data).bypass = true ∧
    (lineEntry (selEntry wired 1 0).data).drop = false ∧ (lineEntry (selEntry wired 1 0).data).buffered = false ∧
    (lineEntry (selEntry wired 1 0).data).meterEn = false ∧ expressCells wired 0 < wired.fabric.expressLimit := by decide +kernel
theorem wit_FramesReceived_tagged : ∃ tg e c n a pn u, beAt taggedHead128 12 2 ≠ wired.accord.etherType ∧ taggedHead128.length = 128 ∧
    parseFails taggedHead128 = false ∧ regBit wired 0x34 0 = false ∧ frameTag wired 0 taggedHead128 = some tg ∧
    secTagBad taggedHead128 false tg.off = false ∧ findRxSc wired 0 tg = .entry 0 e ∧ e.drop = false ∧ e.buffered = false ∧
    e.meterEn = false ∧ u = (newFrame (64 + 0) taggedHead128 wired).2 ∧ rxChecks 0 e.rxSc tg u = (.go c n a pn 0 false, u) :=
  ⟨_, _, _, _, _, _, _, by decide +kernel, by decide +kernel, by decide +kernel, by decide +kernel, rfl, by decide +kernel, rfl,
    by decide +kernel, by decide +kernel, by decide +kernel, rfl, rfl⟩
/-- Frame 0 on its way in. -/
def coming (f : Frame) : State := { wired with fabric := { frames := ⟨[(0, f)]⟩, nextFrame := 1, rx := ⟨[(f.ingress, 0)]⟩ } }
def fromClient : Frame := { ingress := 0, raw := rawHead 0x88b5, time := 0, express := true, egress := 64, cls := 0, wordsSent := 2 }
def fromLine : Frame := { ingress := 64, raw := rawHead 0x88b5, time := 0, engine := true, dropped := true }
theorem wit_FramesReceived_tail : (coming fromClient).fabric.rx.find 0 = some 0 ∧ frameOf (coming fromClient) 0 = some fromClient ∧
    fromClient.meter = none ∧ fromClient.rxSa = none ∧ fromClient.raw.length + (zeros 10108).length ≤ maxRaw 0 ∧ fromClient.engine = false ∧
    fromClient.dropped = false ∧ (coming fromLine).fabric.rx.find (64 + 0) = some 0 ∧ frameOf (coming fromLine) 0 = some fromLine ∧
    fromLine.engine = true := by decide +kernel

/-- A stream with five words of frame 0, a cell of it in flight, and one held for a gap. -/
def part0 : Part := { fid := 0, words := 5, number := 0, first := false, last := false }
def cell0 (seq : Nat) (flying : Bool) : Cell := { input := 0, output := 8, seq, plane := 0, parts := [{ part0 with words := 4 }], flying }
def crossing : State :=
  { coming fromClient with fabric := { (coming fromClient).fabric with
      streams := ⟨[(streamKey 0 8, { waiting := [part0] })]⟩, cells := [cell0 0 true] } }
def gapped : State :=
  { wired with fabric := {
      frames := ⟨[(0, { fromClient with express := false, egress := 0, cls := 1, output := 8, wordsSent := 8 })]⟩, nextFrame := 1
      reseq := ⟨[(streamKey 0 8, { expected := 3, held := [cell0 4 false], deadlineRuns := true })]⟩ } }
theorem wit_FramesCross_match : crossing.live = true ∧ (planeOf crossing 0).up = true ∧ resendOf crossing 0 8 0 = none ∧
    (∀ i', i' < 16 → ∀ o', o' < 18 → requests crossing 0 i' o' = decide (i' = 0 ∧ o' = 8)) := by decide +kernel
theorem wit_FramesCross_cell : crossing.fabric.cells.find? (fun x => x.input == 0 && x.output == 8 && x.plane == 0 && x.flying) =
      some (cell0 0 true) ∧ (planeOf crossing 0).crcFails.length < 15 ∧ (reseqOf crossing (streamKey 0 8)).held = [] ∧
    (cell0 0 true).seq = (reseqOf crossing (streamKey 0 8)).expected ∧ (cell0 0 true).parts = [{ part0 with words := 4 }] ∧
    part0.last = false ∧ frameOf crossing 0 = some fromClient ∧ fromClient.dropped = false := by decide +kernel
theorem wit_FramesCross_gap : gapped.live = true ∧ gapped.pair.mode = .off ∧ (reseqOf gapped (streamKey 0 8)).deadlineRuns = true ∧
    (reseqOf gapped (streamKey 0 8)).held = [cell0 4 false] ∧ gapped.fabric.rx.find 0 ≠ some 0 ∧ fromClient.source = none ∧
    fromClient.mcast = false ∧ fromClient.wordsSent ≠ 0 ∧ ingressPipe fromClient.ingress = 0 ∧
    (reseqOf gapped (streamKey 0 8)).inProgress ≤ fromClient.number ∧ part0.number = fromClient.number := by decide +kernel
def assembled : State := coming { fromClient with wordsIn := 2, wordsHeld := 2 }
theorem wit_FramesCross_express : assembled.live = true ∧ frameOf assembled 0 = some { fromClient with wordsIn := 2, wordsHeld := 2 } ∧
    fromClient.headLeft = false ∧ fromClient.mergeWait = 0 ∧ fromClient.storeWhole = false ∧ egressOf assembled 64 = {} := by
  decide +kernel
/-- A multicast frame at MP for group 0, whose one member is line port 8's leaf 0. -/
def mcFrame : Frame := { ingress := 0, raw := rawHead 0x88b5, time := 0, mcast := true, cls := 2, output := 16, wordsIn := 2, wordsHeld := 2 }
def fanned : State :=
  { queued with
    ports := { ports := ⟨[(0, portUp 7 .buffered), (72, portUp 7 .buffered)]⟩ }
    sched := { queued.sched with services := ⟨[(0, { parent := 72, weight := 1, shaper := {}, deficit := 0 })]⟩ }
    fabric := { frames := ⟨[(0, mcFrame)]⟩, nextFrame := 1, rx := ⟨[(0, 0)]⟩, groups := ⟨[(0, { data := 2 ^ 23 + 2 ^ 16 + 65535 })]⟩
                members := ⟨[(65535, { data := 8 * 2 ^ 49 + 2 ^ 32 })]⟩ } }
theorem wit_FramesCross_mcast : fanned.live = true ∧ fanned.pair.mode = .off ∧ frameOf fanned 0 = some mcFrame ∧
    groupMembers (groupOf fanned 0).data = [65535] ∧ (memberOf fanned 65535).parityFailed = false ∧
    memberQueue (memberOf fanned 65535).data = 0 ∧ leafOf fanned 0 = some (leafOn (.attached 0)) ∧
    nodeEnabled fanned (64 + memberPort (memberOf fanned 65535).data) = true ∧ queueCheck fanned 0 0 0 true = none ∧
    frameOf fanned fanned.fabric.nextFrame = none := by decide +kernel

/-- Frame 0 stored at the head of port `P`'s express queue. -/
def ready (P : Nat) (bypass : Bool) : State :=
  { wired with fabric := {
      frames := ⟨[(0, { fromClient with egress := P, stored := true, bypass, txSc := 1 })]⟩, nextFrame := 1
      egress := ⟨[(P, { express := [0] })]⟩ } }
theorem wit_FramesSent : (ready 0 false).live = true ∧ regBit (ready 0 false) 0xe010 2 = false ∧ portOf (ready 0 false) 0 = some wiredPort ∧
    mayTransmit (ready 0 false) 0 = true ∧ egressOf (ready 0 false) 0 = { express := [0] } ∧
    frameOf (ready 0 false) 0 = some { fromClient with egress := 0, stored := true, txSc := 1 } ∧ (ready 0 false).fabric.rx.find 0 ≠ some 0 ∧
    tamperLock (ready 0 false) = false ∧ mayTransmit (ready 64 true) 64 = true ∧ egressOf (ready 64 true) 64 = { express := [0] } := by
  decide +kernel
theorem wit_FramesSent_seal : ∃ c n a, mayTransmit (ready 64 false) 64 = true ∧ egressOf (ready 64 false) 64 = { express := [0] } ∧
    txChecks (64 - 64) 1 (takeOut 64 true (ready 64 false)) = (.go c n a, takeOut 64 true (ready 64 false)) ∧ a.nextPn ≠ a.low :=
  ⟨_, _, _, by decide +kernel, by decide +kernel, rfl, by decide +kernel⟩
def inTx : State := { ready 0 false with fabric := { (ready 0 false).fabric with egress := ⟨[(0, { tx := some { fid := 0 } })]⟩ } }
theorem wit_FramesSent_underrun : portOf inTx 0 = some wiredPort ∧ wiredPort.loopback = 0 ∧ (egressOf inTx 0).tx = some { fid := 0 } ∧
    (egressOf inTx 0).generated = [] ∧ inTx.fabric.rx.find 0 ≠ some 0 := by decide +kernel
/-- Ring 3 serves leaf 131071, whose one frame is stored. -/
def ringDev (limit : Nat) : State :=
  { queued with
    regs := ⟨[(0x4168, BitVec.ofNat 32 (1 + 16 * 4 + 2 ^ 8 * 11 + 2 ^ 12 * 131071))]⟩
    sched := { queued.sched with leaves := ⟨[(131071, { leafOn .host with onDie := [0] })]⟩ }
    fabric := { frames := ⟨[(0, { fromClient with express := false, stored := true, queue := 131071, output := 17 })]⟩, nextFrame := 1
                ring3 := { limit, windowRuns := true, windowCount := limit } } }
theorem wit_FramesSent_ring : (ringDev 0).live = true ∧ regField (ringDev 0) (ringCtrl 3) 12 17 = 131071 ∧ ringEnabled (ringDev 0) 3 = true ∧
    (hostRing (ringDev 0) 3).stopped = false ∧ leafReady (ringDev 0) 131071 = true ∧
    leafOf (ringDev 0) 131071 = some { leafOn .host with onDie := [0] } ∧ (ringDev 0).fabric.rx.find 0 ≠ some 0 ∧
    tamperLock (ringDev 0) = false ∧ (hostRing (ringDev 0) 3).tail = (hostRing (ringDev 0) 3).limit ∧
    (hostRing (ringDev 1) 3).tail ≠ (hostRing (ringDev 1) 3).limit ∧
    (rawHead 0x88b5).length + 4 ≤ 2 ^ regField (ringDev 1) (ringCtrl 3) 8 4 ∧ (hostRing (ringDev 0) 3).windowRuns = true ∧
    (hostRing (ringDev 0) 3).windowCount = 0 ∧ (hostRing (ringDev 1) 3).windowCount ≠ 0 := by decide +kernel

def mcDev : State := { fanned with regs := ⟨[(0x4054, 2 ^ 23 + 2 ^ 16)]⟩ }
theorem wit_FabricControl : mcDev.live = true ∧ GateAllows mcDev 0 0x4050 true ∧ mcTable 0xffff0004#32 = true ∧
    mcIndex 0xffff0004#32 = 65535 ∧ memberInUse mcDev 65535 = true ∧ memberInUse mcDev 0 = false ∧
    (memberOf mcDev 65535).parityFailed = false ∧ mcTable 0x1fff0000#32 = false ∧ mcIndex 0x1fff0000#32 = 8191 ∧
    (groupOf mcDev 8191).parityFailed = false ∧ groupValid (groupOf mcDev 8191).data = false ∧
    groupValid ((reg mcDev 0x4054).toNat + 2 ^ 32 * (reg mcDev 0x4058).toNat) = true ∧
    groupCount ((reg mcDev 0x4054).toNat + 2 ^ 32 * (reg mcDev 0x4058).toNat) = 1 ∧ mcDev.watchdog.hk.up = true ∧
    GateAllows mcDev 0 (0x4108 + 0x20 * 3) true ∧ GateAllows mcDev 0 (0x410c + 0x20 * 3) true ∧ ringEnabled mcDev 3 = false ∧
    ringValid mcDev 3 0x00000b41#32 = true ∧ ringValid mcDev 3 0#32 = false ∧ leafOf mcDev 0 = some (leafOn (.attached 0)) ∧
    (leafOn (.attached 0)).onDie = [] :=
  ⟨by decide +kernel, rfl, by decide +kernel, by decide +kernel, by decide +kernel, by decide +kernel, by decide +kernel, by decide +kernel,
    by decide +kernel, by decide +kernel, by decide +kernel, by decide +kernel, by decide +kernel, by decide +kernel, rfl, rfl,
    by decide +kernel⟩
def failedMc : State :=
  { mcDev with fabric := { groups := ⟨[(8191, { data := 0, parityFailed := true })]⟩, members := ⟨[(0, { data := 0, parityFailed := true })]⟩ } }
def cSweep : Cmd := cmdOf 0x0702 [(8, 1)]
def leaking : State := { busy with fabric := { leaked := 3, sweep := some 2 }, regs := ⟨[(0x4004, 2 ^ 16)]⟩ }
def auditRun : Running := { cmd := cFabAudit, cls := .b, locks := [], wait := .work, reply := some { status := stOk, result := 5 } }
theorem wit_FabricControl_rest : (memberOf failedMc 0).parityFailed = true ∧ (groupOf failedMc 8191).parityFailed = true ∧
    Passes 0x0701 specFabBufferPartition cFabBufferPartition busy ∧ Passes 0x0702 specFabAudit cFabAudit busy ∧
    (∀ r ∈ busy.running, r.cmd ≠ cFabAudit) ∧ busy.fabric.sweep = none ∧ cFabAudit.flag 8 0 = false ∧ busy.fabric.leaked = 0 ∧
    Passes 0x0702 specFabAudit cSweep busy ∧ cSweep.flag 8 0 = true ∧ leaking.live = true ∧ leaking.watchdog.hk.up = true ∧
    regBit leaking 0x4004 16 = true ∧ leaking.fabric.sweep = some 2 ∧ leaking.fabric.leaked ≠ 0 ∧ leaking.running = [] ∧
    [auditRun].length = 1 ∧ auditRun.cmd.opcode = 0x0702 ∧ auditRun.reply = some { status := stOk, result := 5 } ∧ auditRun.xfer = none :=
  ⟨by decide +kernel, by decide +kernel, passes_fabBufferPartition, passes_fabAudit, by decide +kernel, rfl, by decide +kernel, rfl,
    passes_of (by decide +kernel), by decide +kernel⟩

/-! ## Witnesses: the reservoir and the schedulers -/

/-- A bad line of channel 3 that the code corrects, at the last statistics frame. -/
def wornLine : DramError := { kind := 0, index := 16383, line := 0, sub := 1, rank := 1, bad := [(9, 1)], tag := false }
def worn : State :=
  { stored with reservoir := { ch3 := { state := .online, latent := [wornLine] }, keyReady := true, statsChannel := some 3 }, regs := ⟨[(0x7004, 1)]⟩ }
def cScrubBad : Cmd := cmdOf 0x0712 [(8, 3), (12, 16383), (16, 1)]
theorem wit_Reservoir_commands : Passes 0x0710 specRsvConfig cRsvConfig busy ∧ busy.onDie ∧ Passes 0x0711 specRsvStatus cRsvStatus busy ∧
    Passes 0x0712 specRsvScrub cRsvScrub stored ∧ cRsvScrub.get ⟨8, 0, 2⟩ = 3 ∧ (chOf stored 3).latent = [] ∧
    Passes 0x0712 specRsvScrub cScrubBad worn ∧ (chOf worn 3).corrected.get [] ((2 * wornLine.sub + wornLine.rank) * 10 + 9) = [] ∧
    (chOf worn 3).latent = [wornLine] ∧ wornLine.kind ≤ 3 ∧ (chOf worn 3).failedDev.find (2 * wornLine.sub + wornLine.rank) = none ∧
    1 < worn.reservoir.failThreshold ∧ patrolled worn 3 wornLine = true ∧ errorFrame (chOf worn 3) wornLine = some 16383 ∧ worn.live = true ∧
    worn.watchdog.hk.up = true ∧ regField worn 0x7004 0 8 ≠ 0 ∧ (∀ m, m < 4 → m ≠ 3 → (chOf worn m).latent = []) :=
  ⟨passes_rsvConfig, by decide +kernel, passes_rsvStatus, passes_rsvScrub, by decide +kernel, by decide +kernel, passes_of (by decide +kernel),
    by decide +kernel⟩
/-- Leaf 0 spills, frame 0 of `n` bytes in its staging tail; channel 3's turn. -/
def spilling (n : Nat) : State :=
  { queued with
    sched := { queued.sched with leaves := ⟨[(0, { leafOn (.attached 0) with spilling := true, staging := [0] })]⟩ }
    fabric := { frames := ⟨[(0, { ingress := 0, raw := zeros n, time := 0, stored := true, spilled := true })]⟩, nextFrame := 1 }
    reservoir := { ch3 := { state := .online }, keyReady := true, nextChannel := 3, spillEnable := true } }
theorem wit_Reservoir_spill : (spilling 64).live = true ∧ rsvSpilling (spilling 64) = true ∧ mayTake (spilling 64) 3 = true ∧
    takePlace (spilling 64) 3 = some 0 ∧ (chOf (spilling 64) 3).sound = true ∧
    leafOf (spilling 64) 0 = some { leafOn (.attached 0) with spilling := true, staging := [0] } ∧
    0 < ((gathered (spilling 64) { leafOn (.attached 0) with spilling := true, staging := [0] }).map (·.2)).foldl (· + ·) 0 ∧
    ((gathered (spilling 64) { leafOn (.attached 0) with spilling := true, staging := [0] }).map (·.2)).foldl (· + ·) 0 < 4080 := by
  decide +kernel
theorem wit_Reservoir_spillWhole : ∃ b, gathered (spilling 4100) { leafOn (.attached 0) with spilling := true, staging := [0] } =
    (0, b) :: [] ∧ 4080 < b := ⟨4128, by decide +kernel, by decide⟩
/-- A page of leaf 0 on channel 3 with frame 0. -/
def pageOf (writing : Bool) : Page := { queue := 0, pageSeq := 7, parts := [(0, 128)], place := 3, writing, reading := !writing }
def paged (writing : Bool) : State :=
  { spilling 64 with
    sched := { queued.sched with leaves := ⟨[(0, { leafOn (.attached 0) with spilling := true })]⟩ }
    reservoir := { (spilling 64).reservoir with ch3 := { state := .online, pages := [pageOf writing], pointer := 4 } } }
theorem wit_Reservoir_page : (chOf (paged true) 3).state = .online ∧ leafOf (paged true) 0 = some { leafOn (.attached 0) with spilling := true } ∧
    (pageOf true).parts.map (·.1) = [0] ∧ (pageOf true).writing = true ∧ (pageOf true).queue = 0 ∧
    (pagesOf (paged true) 0).filter (·.writing) = [pageOf true] ∧ pageOf true ∈ (chOf (paged true) 3).pages ∧
    (frameOf (paged true) 0).isSome = true ∧ requestedPage (paged false) 0 = some (3, pageOf false) ∧ (chOf (paged false) 3).latent = [] ∧
    (pagesOf (setCh 3 { chOf (paged false) 3 with pages := (chOf (paged false) 3).pages.erase (pageOf false) } (paged false)) 0).all
      (fun q => !(q.parts.map (·.1)).contains 0) = true := by decide +kernel
def trained : State := { busy with reservoir := { ch1 := { state := .trained }, ch2 := { state := .trained } } }
def retraining (n : Nat) : State := { stored with reservoir := { ch0 := { state := .retraining, retrain := n } } }
def flushing : State := { stored with channels := { stored.channels with merge := ⟨[(0, {}), (262143, {})]⟩ } }
theorem wit_Reservoir_rest : trained.live = true ∧ trained.reservoir.keyReady = false ∧ entServes trained 1 = true ∧
    (∀ n, n < 4 → (chOf trained n).state = .absent ∨ (chOf trained n).state = .trained) ∧
    [0, 1, 2, 3].find? (fun n => (chOf trained n).state == .trained) = some 1 ∧ (chOf (retraining 2) 0).state = .retraining ∧
    (retraining 2).onDie ∧ (chOf (retraining 2) 0).retrain < 3 ∧ 3 ≤ (chOf (retraining 3) 0).retrain ∧
    holdsStats (retraining 3) 0 = false ∧ regField worn 0x7004 0 8 ≠ 0 ∧ flushing.watchdog.hk.up = true ∧
    flushing.reservoir.statsChannel = some 3 ∧ (chOf flushing 3).state = .online ∧ (chOf flushing 3).sound = true ∧
    flushing.channels.merge.wf = true ∧ flushing.channels.merge.cells.all (fun k => decide (k.1 < 262144)) = true ∧
    (chOf stored 0).latent = [] := by decide +kernel

/-- SCH_NODE_SET, SCH_QUEUE_SET and MTR_SET: a node, a leaf, a meter set, reported and deleted. -/
def cPortNode : Cmd := cmdOf 0x0801 [(8, 4), (12, 127), (16, 63)]
def cNodeAgain : Cmd := cmdOf 0x0801 [(15, 255), (20, 33554432), (24, 16777216)]
def cNodeReport : Cmd := cmdOf 0x0801 [(8, 1)]
def cPortReport : Cmd := cmdOf 0x0801 [(8, 5)]
def cNodeDelete : Cmd := cmdOf 0x0801 [(8, 2)]
def noLeaves : State := { queued with sched := { queued.sched with leaves := .empty } }
theorem wit_Scheduling_nodes : Passes 0x0801 specSchNodeSet cPortNode queued ∧ cPortNode.get ⟨8, 0, 2⟩ = 0 ∧ cPortNode.flag 8 2 = true ∧
    Passes 0x0801 specSchNodeSet cSchNodeSet busy ∧ cSchNodeSet.flag 8 2 = false ∧ serviceOf busy (cSchNodeSet.get ⟨12, 0, 13⟩) = none ∧
    Passes 0x0801 specSchNodeSet cNodeAgain queued ∧
    serviceOf queued 0 = some { parent := cNodeAgain.get ⟨14, 0, 7⟩, weight := 1, shaper := {}, deficit := 0 } ∧
    Passes 0x0801 specSchNodeSet cPortReport queued ∧ cPortReport.get ⟨8, 0, 2⟩ = 1 ∧ cPortReport.flag 8 2 = true ∧
    Passes 0x0801 specSchNodeSet cNodeReport queued ∧ cNodeReport.get ⟨8, 0, 2⟩ = 1 ∧ cNodeReport.flag 8 2 = false ∧
    Passes 0x0801 specSchNodeSet cNodeDelete noLeaves ∧ cNodeDelete.get ⟨8, 0, 2⟩ = 2 :=
  ⟨passes_of (by decide +kernel), by decide +kernel, by decide +kernel, passes_schNodeSet, by decide +kernel, by decide +kernel,
    passes_of (by decide +kernel), by decide +kernel, passes_of (by decide +kernel), by decide +kernel, by decide +kernel,
    passes_of (by decide +kernel), by decide +kernel, by decide +kernel, passes_of (by decide +kernel), by decide +kernel⟩
def cLeaf (n : Nat) : Cmd := cmdOf 0x0802 [(12, n), (18, 7), (19, 255), (28, 100)]
def cLeafReport : Cmd := cmdOf 0x0802 [(8, 1), (12, 131071)]
theorem wit_Scheduling_leaves : Passes 0x0802 specSchQueueSet (cLeaf 131070) queued ∧ (cLeaf 131070).get ⟨8, 0, 2⟩ = 0 ∧
    leafOf queued ((cLeaf 131070).get ⟨12, 0, 17⟩) = none ∧ Passes 0x0802 specSchQueueSet (cLeaf 0) queued ∧ (cLeaf 0).get ⟨12, 0, 17⟩ = 0 ∧
    leafOf queued 0 = some (leafOn (.attached 0)) ∧ (leafOn (.attached 0)).state = .attached ((cLeaf 0).get ⟨16, 0, 13⟩) ∧
    (cLeaf 0).flag 18 5 = false ∧ Passes 0x0802 specSchQueueSet cLeafReport queued ∧ cLeafReport.get ⟨8, 0, 2⟩ = 1 ∧
    leafOf queued (cLeafReport.get ⟨12, 0, 17⟩) = some (leafOn .host) ∧ Passes 0x0802 specSchQueueSet cSchQueueSet queued ∧
    cSchQueueSet.get ⟨8, 0, 2⟩ = 2 :=
  ⟨passes_of (by decide +kernel), by decide +kernel, by decide +kernel, passes_of (by decide +kernel), by decide +kernel, by decide +kernel,
    by decide +kernel, by decide +kernel, passes_of (by decide +kernel), by decide +kernel, by decide +kernel, passes_schQueueSet,
    by decide +kernel⟩
def meter0 : Meter :=
  { mode := 0, keepTokens := true, colourAware := false, cir := 1, cbs := 10240, eir := 0, ebs := 0, pcpMap := 0, deiYellow := false
    untagged := 0, bucketC := 5, bucketE := 0, tLast := 0 }
def metered : State := { queued with sched := { queued.sched with meters := ⟨[(131072, meter0)]⟩ } }
def cMeterKeep : Cmd := cmdOf 0x0803 [(8, 4 + 32), (16, 1), (20, 10240), (28, 10240)]
def cMeterReport (n : Nat) : Cmd := cmdOf 0x0803 [(8, 5), (12, n)]
def cMeterDelete : Cmd := cmdOf 0x0803 [(8, 6)]
theorem wit_Scheduling_meters : Passes 0x0803 specMtrSet cMtrSet busy ∧ cMtrSet.flag 8 5 = false ∧
    Passes 0x0803 specMtrSet cMeterKeep metered ∧ cMeterKeep.flag 8 5 = true ∧ cMeterKeep.get ⟨8, 0, 2⟩ = 0 ∧
    meterOf metered (cMeterKeep.get ⟨12, 0, 17⟩ + 131072 * b2n (cMeterKeep.flag 8 2)) = some meter0 ∧
    Passes 0x0803 specMtrSet (cMeterReport 0) metered ∧ (cMeterReport 0).get ⟨8, 0, 2⟩ = 1 ∧ (cMeterReport 0).flag 8 2 = true ∧
    Passes 0x0803 specMtrSet (cMeterReport 4095) metered ∧ meterOf metered (4095 + 131072) = none ∧
    Passes 0x0803 specMtrSet cMeterDelete metered ∧ cMeterDelete.get ⟨8, 0, 2⟩ = 2 :=
  ⟨passes_mtrSet, by decide +kernel, passes_of (by decide +kernel), by decide +kernel, by decide +kernel, by decide +kernel,
    passes_of (by decide +kernel), by decide +kernel, by decide +kernel, passes_of (by decide +kernel), by decide +kernel,
    passes_of (by decide +kernel), by decide +kernel⟩
/-- Frame 0 stored in leaf 0 below line port 8, the leaf's shaper filed at slot 1023 of its wheel. -/
def leafBusy : Leaf := { leafOn (.attached 0) with onDie := [0] }
def waitingOut : State :=
  { fanned with
    sched := { fanned.sched with
      leaves := ⟨[(0, leafBusy)]⟩, wheels := ⟨[(1, { fine := ⟨[(1023, [0])]⟩, coarse := ⟨[(63, [0])]⟩ })]⟩ }
    fabric := { frames := ⟨[(0, { ingress := 0, raw := zeros 64, time := 0, stored := true })]⟩, nextFrame := 1 } }
theorem wit_Scheduling_release : waitingOut.live = true ∧ egressBytes waitingOut 72 < 512 ∧ waitingOut.onDie ∧
    waitingOut.pair.mode ≠ .standby ∧ nodeEnabled waitingOut 72 = true ∧ (portNodeOf waitingOut 72).held = false ∧
    leafOf waitingOut 0 = some leafBusy ∧ serviceOf waitingOut 0 = some { parent := 72, weight := 1, shaper := {}, deficit := 0 } ∧
    (frameOf waitingOut 0).isSome = true ∧
    fanned.sched.services.keysIf (fun n v => v.parent == 72 && decide (propagated fanned n < 8)) = [] := by decide +kernel
theorem wit_Scheduling_chosen : ∃ u, choose 72 waitingOut = (some (0, 0, 0), u) := ⟨_, rfl⟩
def heldAll : State :=
  { metered with sched := {
      leaves := ⟨[(0, { leafOn (.attached 0) with held := true })]⟩
      services := ⟨[(0, { parent := 0, weight := 1, shaper := {}, deficit := 0, held := true })]⟩
      portNodes := ⟨[(127, { held := true })]⟩, meters := ⟨[(0, { meter0 with held := true })]⟩ } }
theorem wit_Scheduling_wheels : (wheelsOf waitingOut 1).carried = [] ∧ ((wheelsOf waitingOut 1).fine.get [] 1023).length ≤ 200 ∧
    (wheelsOf waitingOut 1).coarse.get [] 63 = [0] ∧ (shaperOf waitingOut 0).isSome = true ∧ (wheelsOf waitingOut 1).coarse.get [] 0 = [] ∧
    heldAll.live = true ∧ heldAll.watchdog.hk.up = true ∧ leafOf heldAll 0 = some { leafOn (.attached 0) with held := true } ∧
    (serviceOf heldAll 0).isSome = true ∧ (portNodeOf heldAll 127).held = true ∧ meterOf heldAll 0 = some { meter0 with held := true } ∧
    schHeld heldAll 0 0 = true := by decide +kernel

/-! ## Witnesses: the pair -/

/-- A device of a pair with a session, in a state. -/
def pairDev (m : PairMode) : State := { busy with pair := { paired.pair with mode := m } }
/-- Merged line ports 0 and 8, still without links. -/
def merge0 : Merge := { portA := 0, portB := 8, cutThrough := true, community := 0, skew := 2000 }
def cPairSet : Cmd := cmdOf 0x0901 [(8, 4), (10, 6), (12, 8)]
def pairable : State :=
  { linked with
    attar := { linked.attar with slots := linked.attar.slots.set 6 { key := 9, type := 4, usage := 8, parent := 0xfff1 } }
    tamper := { linked.tamper with pins := ⟨[(10, { function := 4 }), (15, { function := 5 })]⟩ } }
def cMergeSet : Cmd := cmdOf 0x0901 [(8, 2 + 4), (10, 8), (12, 100)]
def cMergeClear : Cmd := cmdOf 0x0901 [(8, 3)]
def merged : State := { field with pair := { merges := ⟨[(0, merge0)]⟩ } }
theorem wit_PairCommands_config : Passes 0x0901 specPairConfig cPairSet pairable ∧ cPairSet.get ⟨8, 0, 2⟩ = 0 ∧ pairable.pairQuiet = true ∧
    Passes 0x0901 specPairConfig cPairConfig busy ∧ cPairConfig.get ⟨8, 0, 2⟩ = 1 ∧ busy.pair.mode = .off ∧
    Passes 0x0901 specPairConfig cPairConfig paired ∧ paired.pair.mode ≠ .off ∧ paired.pairQuiet = true ∧
    Passes 0x0901 specPairConfig cMergeSet linked ∧ cMergeSet.get ⟨8, 0, 2⟩ = 2 ∧ linked.pair.merges.firstFree 0 32 = some 0 ∧
    Passes 0x0901 specPairConfig cMergeClear merged ∧ cMergeClear.get ⟨8, 0, 2⟩ = 3 ∧
    mergeAt merged (cMergeClear.get ⟨9, 0, 6⟩) = some 0 :=
  ⟨passes_of (by decide +kernel), by decide +kernel, by decide +kernel, passes_pairConfig, by decide +kernel, rfl,
    passes_of (by decide +kernel), by decide +kernel, by decide +kernel, passes_of (by decide +kernel), by decide +kernel, by decide +kernel,
    passes_of (by decide +kernel), by decide +kernel⟩
theorem wit_PairCommands_rest : Passes 0x0902 specPairStatus cPairStatus busy ∧ Passes 0x0903 specPairExercise cPairExercise paired ∧
    paired.pair.nonceOwn = [] ∧ Passes 0x0904 specPairResync cPairResync paired ∧
    Passes 0x0904 specPairResync cPairResync (pairDev .standby) ∧ (pairDev .standby).pairQuiet = true ∧ paired.live = true ∧
    paired.pair.mode ≠ .off ∧ paired.power.rootLock = true ∧ commOf { paired with accord := linked.accord } paired.pair.community = some group ∧
    busy.pair.mode = .off ∧ (pairDev .sync).pair.mode = .sync ∧ (pairDev .standby).pair.mode = .standby :=
  ⟨passes_pairStatus, passes_pairExercise, rfl, passes_pairResync, passes_of (by decide +kernel), by decide +kernel⟩

/-- Messages of the pair link. -/
def orderOf (seq heads : Nat) : Bytes := pairMessage 1 seq (beBytes 4 6 ++ zeros 4 ++ beBytes 96 heads ++ beBytes 32 0)
def statusOf (seq flags claim : Nat) : Bytes :=
  pairMessage 3 seq (beBytes 8 8 ++ beBytes 1 flags ++ [0] ++ beBytes 2 claim ++ zeros 44)
def mirrorOf (n : Nat) (items : Bytes) : Bytes := pairMessage 2 0 (beBytes 8 n ++ items ++ zeros 16)
theorem wit_PairMessages_link : paired.live = true ∧ paired.pair.mode ≠ .off ∧ paired.power.rootLock = true ∧ paired.pair.nonceOwn = [] ∧
    ({ paired with pair := { paired.pair with seqFresh := false } } : State).pair.seqFresh = false ∧
    State.pairNext { paired with pair := { paired.pair with seqFresh := false, seqRx := beAt (orderOf 5 0) 4 4 } } 1 (orderOf 5 0) = true ∧
    beAt (orderOf 5 0) 4 4 ≠ paired.pair.seqRx ∧ reached (beAt (orderOf 5 0) 4 4) paired.pair.seqRx = false ∧
    reached (beAt (orderOf (2 ^ 32 - 1) 0) 4 4) paired.pair.seqRx = true ∧ paired.pair.discarding = false ∧
    State.pairNext { paired with pair := { paired.pair with seqRx := 9 } } 2 (mirrorOf 1 []) = false := by decide +kernel
theorem wit_PairMessages_status : (pairDev .standby).pairQuiet = true ∧ (pairDev .standby).pairNext 3 (statusOf 0 12 7) = true ∧
    (statusOf 0 12 7).length = 64 ∧ beAt (statusOf 0 12 7) 8 8 = paired.pair.partnerId ∧ bitOf (byteAt (statusOf 0 12 7) 16) 5 = false ∧
    allZero (slice (statusOf 0 12 7) 32 32) = true ∧ bitOf (byteAt (statusOf 0 12 7) 16) 3 = true ∧
    bitOf (byteAt (statusOf 0 4 1) 16) 3 = false ∧ (beAt (statusOf 0 4 1) 18 2 + 65535) % 65536 = (pairDev .standby).pair.claim ∧
    byteAt (statusOf 0 2 1) 16 % 8 = 2 ∧ byteAt (statusOf 0 4 1) 16 % 8 = 4 ∧ (pairDev .alone).pairQuiet = true ∧
    (pairDev .active).pairQuiet = true := by decide +kernel
theorem wit_PairMessages_order : (pairDev .standby).pair.told = [] ∧ (pairDev .standby).pair.unfollowed = none ∧
    (pairDev .standby).pairNext 1 (orderOf 0 0) = true ∧ (parseOrder (orderOf 0 0)).runs = [] ∧ (parseOrder (orderOf 0 0)).excs = [] ∧
    (parseOrder (orderOf 0 0)).counts.all (· == 0) = true ∧ (parseOrder (orderOf 0 0)).checks ≠ checksOf [] ∧
    (parseOrder (pairMessage 1 0 (beBytes 4 6 ++ zeros 4 ++ beBytes 96 0 ++ beBytes 32 (packFields 16 (checksOf []))))).checks = checksOf [] ∧
    (parseOrder (orderOf 0 1 ++ zeros 8)).counts.all (· == 0) = false := by decide +kernel
theorem wit_PairMessages_mirror : (pairDev .standby).pair.session = some 3 ∧ (pairDev .standby).pairNext 2 (mirrorOf 1 []) = true ∧
    32 ≤ (mirrorOf 1 []).length ∧ (pairDev .standby).accord.communities = .empty ∧ (pairDev .sync).pairQuiet = true ∧
    beAt (mirrorOf 1 []) 8 8 = (pairDev .standby).pair.mirrorRx + 1 ∧
    (parseItems 256 (beBytes 2 0x0300 ++ beBytes 2 16 ++ beBytes 4 1 ++ beBytes 4 7 ++ zeros 4)).all
      (fun i => i.kind != 8 && i.apply.isSome) = true := by decide +kernel
def cutting (m : PairMode) : State :=
  { pairDev m with pair := { (pairDev m).pair with
      cutIn := some 9, stage := .cutIn, source := true, leads := [(1, 100)], records := (List.range 128).map (fun p => (p, 9, 0, 0)) } }
theorem wit_PairMessages_slots : (pairDev .active).pair.dirty = [] ∧ (pairDev .active).pair.commands = [] ∧
    (pairDev .active).pair.cutIn = none ∧ (pairDev .active).pair.prePending = false ∧ (cutting .active).pairQuiet = true ∧
    saOf (cutting .active) 1 = some (saOn 1 0 false) ∧ (cutting .sync).pairQuiet = true ∧ (cutting .sync).fabric.frames = .empty ∧
    (cutting .sync).pair.records.all (fun r => r.2.2.2 == 0) = true ∧
    (List.range 128).all (fun p => (cutting .sync).pair.records.any (fun r => r.1 == p)) = true := by decide +kernel
def holdingHead (m : PairMode) : State :=
  { pairDev m with pair := { (pairDev m).pair with
      held := [{ port := 127, head := rawHead 0x88b5, whole := false, upsets := [], backlog := 0 }] } }
def waitingRuns : State := { pairDev .standby with pair := { (pairDev .standby).pair with waitRuns := [(64, 0, 1)] } }
theorem wit_PairMessages_held : State.pairQuiet { holdingHead .standby with pair := { (holdingHead .standby).pair with held := [] } } = true ∧
    (holdingHead .standby).pair.held.length = 1 ∧ State.pairQuiet { holdingHead .isolated with pair := { (holdingHead .isolated).pair with held := [] } } = true ∧
    waitingRuns.pair.waitRuns ≠ [] ∧ State.pairQuiet { waitingRuns with pair := { waitingRuns.pair with waitRuns := [] } } = true ∧
    waitingRuns.live = true := by decide +kernel

def silent (m : PairMode) (alive : Bool) : State := { pairDev m with pair := { (pairDev m).pair with linkUp := false, aliveIn := alive } }
def handing (m : PairMode) : State := { pairDev m with pair := { (pairDev m).pair with handover := some 5 } }
theorem wit_PairTakeover : (silent .standby true).live = true ∧ (silent .standby true).pairQuiet = true ∧
    (silent .standby false).pairQuiet = true ∧ (silent .standby true).pair.linkUp = false ∧ (pairDev .standby).pair.linkUp = true ∧
    (silent .isolated true).pairQuiet = true ∧ (pairDev .sync).pairQuiet = true ∧ (cutting .sync).pair.stage ≠ .none ∧
    (handing .active).pair.handover = some 5 ∧ (handing .active).pairQuiet = true ∧ (handing .standby).pairQuiet = true := by decide +kernel
def claimText : Bytes := accText 6 0 9 (beBytes 8 4 ++ beBytes 8 8 ++ beBytes 2 3 ++ zeros 6)
def claiming (comm : Nat) (merges : Table Merge) : State :=
  { busy with
    pair := { merges }
    accord := { messages := [{ port := 0, wire := 8, src := 5, community := comm, text := claimText, mac := [] }] } }
theorem wit_PairTakeover_claims : textType claimText = 6 ∧ peerAt (claiming 0 .empty) 0 0 5 = none ∧ mergeOf (claiming 0 .empty) 8 = none ∧
    mergeOf (claiming 0 ⟨[(31, merge0)]⟩) 8 = some (31, merge0) ∧ (claiming 1 ⟨[(31, merge0)]⟩).live = true ∧ 1 ≠ merge0.community ∧
    (claiming 0 ⟨[(31, merge0)]⟩).pair.merges.wf = true ∧ (claiming 0 ⟨[(31, merge0)]⟩).fabric.frames = .empty ∧
    claimedPort merged merge0 = merge0.claimedB ∧ claimedPort merged { merge0 with timeB := some 0 } ≠ merge0.claimedB ∧
    claimLive merged (some 0) = true ∧ (65535 : Nat) < 65536 := by decide +kernel
/-- A frame of merged line port 8 that the merge holds. -/
def heldFrame (pn : Nat) : Frame :=
  { ingress := 72, raw := zeros 64, time := 0, rxSc := 0, rxSa := some 0, rxPn := pn, mergeWait := 1, stored := true }
def heldDev (pn : Nat) : State :=
  { busy with pair := { merges := ⟨[(0, merge0)]⟩ }, fabric := { frames := ⟨[(0, heldFrame pn)]⟩, nextFrame := 1 } }
theorem wit_PairTakeover_hold : (heldDev 0).live = true ∧ frameOf (heldDev 0) 0 = some (heldFrame 0) ∧
    saOf (heldDev 0) 0 = some (saOn 0 0 true) ∧ (heldDev 0).fabric.frames.cells.all (fun k => k.2.mergeWait != 2) = true ∧
    (heldFrame 0).rxPn < (saOn 0 0 true).nextPn ∧ receiving (heldDev 0) 0 = false ∧ (saOn 0 0 true).nextPn ≤ (heldFrame 1).rxPn ∧
    scOf (heldDev 1) 0 = some rxSc ∧ mergeOf (heldDev 1) ((heldFrame 1).ingress - 64) = some (0, merge0) ∧
    ({ heldFrame 0 with mergeWait := 0 } : Frame).mergeWait ≠ 1 := by decide +kernel

/-! ## Witnesses: the domain -/

/-- A manager without children; with a distributed key; a worker without children; a worker that is not in the domain. -/
def boss : State :=
  { busy with
    attar := { busy.attar with
      domainKey := some 3, slots := busy.attar.slots.set 115 { key := 2, type := 1, usage := 1, parent := 0xfff2 } }
    domain := { role := 1, domainId := 1, slotCount := 16, slotBase := 100, linkKey := 4, joined := true, member := some 0
                dx1 := { epochOwn := some 5 }, members := ⟨[(0, { deviceId := 1 })]⟩ } }
def upLink : DomLink := { up := true, epochOwn := some 5, epochTheirs := some 6 }
def worker : State :=
  { boss with domain := { role := 2, domainId := 1, slotCount := 16, slotBase := 100, linkKey := 4, joined := true, member := some 62, dx0 := upLink } }
def applicant : State := { worker with domain := { worker.domain with joined := false, member := none, retry := true } }
def cDomWork : Cmd := cmdOf 0x0a01 [(8, 2 + 16), (12, 1), (16, 16383), (18, 1)]
def cDomEnd : Cmd := cmdOf 0x0a01 [(12, 1), (18, 1)]
theorem wit_DomainCommands_config : Passes 0x0a01 specDomConfig cDomConfig linked ∧ cDomConfig.get ⟨8, 0, 2⟩ = 1 ∧
    commOf linked (cDomConfig.get ⟨9, 0, 6⟩) = some group ∧
    (∀ k, State.keysSettled { linked with attar := { linked.attar with domainKey := some k } } = true) ∧
    Passes 0x0a01 specDomConfig cDomWork linked ∧ cDomWork.get ⟨8, 0, 2⟩ = 2 ∧ cDomWork.flag 8 4 = true ∧
    Passes 0x0a01 specDomConfig cDomEnd managed ∧ cDomEnd.get ⟨8, 0, 2⟩ = 0 ∧ managed.domain.ops = [] ∧ managed.domain.barrier = none ∧
    managed.accord.communities = .empty :=
  ⟨passes_domConfig, by decide +kernel, by decide +kernel, fun k => (show State.keysSettled { linked with attar := { linked.attar with domainKey := some k } } = State.keysSettled linked from rfl).trans
      (by decide +kernel), passes_of (by decide +kernel), by decide +kernel,
    by decide +kernel, passes_of (by decide +kernel), by decide +kernel⟩
def cGlobal (op : Nat) (fs : List (Nat × Nat)) (payload : Bytes := []) : Cmd := cmdOf 0x0a02 ((8, op) :: fs) payload
theorem wit_DomainCommands_global : boss.domain.role = 1 ∧ boss.accord.communities = .empty ∧ boss.accord.peers = .empty ∧
    childLinks boss = [] ∧ Passes 0x0a02 specDomGlobal (cGlobal 1 []) boss ∧ boss.domain.barrier = none ∧
    boss.running.all (fun r => !r.isOp 0x0a02) = true ∧
    Passes 0x0a02 specDomGlobal (cGlobal 2 [(56, 4096)] (leBytes 2 0x0201 ++ zeros 62)) boss ∧
    Passes 0x0a02 specDomGlobal (cGlobal 3 []) boss ∧ Passes 0x0a02 specDomGlobal (cGlobal 20 [(9, 1)]) boss ∧
    (cGlobal 20 [(9, 1)]).get ⟨8, 0, 4⟩ = 4 ∧ Passes 0x0a02 specDomGlobal (cGlobal 5 [(10, 100)]) boss ∧ entServes boss 1 = true ∧
    occupied boss ((cGlobal 5 [(10, 100)]).u16 10) = false ∧ Passes 0x0a02 specDomGlobal (cGlobal 6 [(10, 115)]) boss ∧
    distributed boss ((cGlobal 6 [(10, 115)]).u16 10) = true ∧ Passes 0x0a02 specDomGlobal (cGlobal 7 []) boss ∧
    Passes 0x0a02 specDomGlobal (cGlobal 8 [(16, 1)]) boss ∧ Passes 0x0a02 specDomGlobal (cGlobal 9 [(16, 1)]) boss ∧
    boss.gate.loaded = false ∧ Passes 0x0a02 specDomGlobal cDomGlobal managed ∧ childLinks managed ≠ [] ∧ cDomGlobal.get ⟨8, 0, 4⟩ = 3 ∧
    (dxOf managed 1).epochOwn = some 5 ∧ Passes 0x0a03 specDomMembers cDomMembers managed ∧ managed.domain.role ≠ 2 :=
  ⟨rfl, rfl, rfl, by decide +kernel, passes_of (by decide +kernel), rfl, rfl, passes_of (by decide +kernel), passes_of (by decide +kernel),
    passes_of (by decide +kernel), by decide +kernel, passes_of (by decide +kernel), by decide +kernel, by decide +kernel,
    passes_of (by decide +kernel), by decide +kernel, passes_of (by decide +kernel), passes_of (by decide +kernel),
    passes_of (by decide +kernel), rfl, passes_domGlobal, by decide +kernel, by decide +kernel, rfl, passes_domMembers, by decide +kernel⟩
def globalRun : Running := { cmd := cGlobal 3 [], cls := .b, locks := [.domain], wait := .work }
def opOf (waiting : List Nat) : DomOp := { op := 3, opid := 7, waiting }
def operating (waiting : List Nat) : State := { managed with running := [globalRun], domain := { managed.domain with ops := [opOf waiting] } }
def scheduled (op : Nat) (sec : Nat) (loaded : Bool) : State :=
  { boss with domain := { boss.domain with schedules := [{ op, id := 1, sec, ns := 0 }] }, gate := { loaded } }
def latching (snapshot : Bool) (sec : Nat) : State :=
  { boss with domain := { boss.domain with latches := [{ sec, ns := 0, snapshot, resetKind := none }] } }
def gathering : State := { boss with domain := { boss.domain with merging := [(0x0301, 4, 1, 2, 1)] } }
theorem wit_DomainCommands_clocks : boss.live = true ∧ busy.domain.role = 0 ∧ (dxOf boss 1).epochOwn = some 5 ∧ worker.domain.role = 2 ∧
    inDomain worker = true ∧ worker.domain.dx0.up = true ∧ (applicant.domain.role = 2 ∧ applicant.domain.retry = true ∧
      applicant.domain.joined = false ∧ applicant.domain.dx0.up = true) ∧ applicant.domain.dx0.epochOwn = some 5 ∧
    ({ managed with time := timed.time } : State).time.state ≠ .unset ∧ boss.domain.ops = [] ∧ (operating [1]).domain.ops = [opOf [1]] ∧
    (operating [1]).domain.role = 1 ∧ (operating [1]).running = [globalRun] ∧ globalRun.isOp 0x0a02 = true ∧ globalRun.wait = .work ∧
    globalRun.xfer = none ∧ globalRun.cmd.get ⟨8, 0, 4⟩ ≠ 1 ∧ globalRun.cmd.get ⟨8, 0, 4⟩ ≠ 4 ∧
    boss.domain.merging.any (fun g => g.1 == 0x0301 && g.2.1 == 4) = false ∧ gathering.domain.merging = [(0x0301, 4, 1, 2, 1)] ∧
    (domLinks boss).contains 0 = false ∧ managed.domain.member = some 0 ∧ (dxOf managed 1).epochTheirs.isSome = true ∧
    worker.domain.joined = true ∧ worker.domain.dx0.epochTheirs.isSome = true ∧ (domainOf worker worker.domain.timeB).agent = false ∧
    boss.domain.schedules = [] ∧ toTotal (scheduled 8 1 false) < instantNs 1 0 ∧ instantNs 0 0 ≤ toTotal (scheduled 8 0 false) ∧
    (scheduled 9 0 true).gate.loaded = true ∧ (scheduled 9 0 false).gate.loaded = false ∧
    (latching true 0).domain.latches = [{ sec := 0, ns := 0, snapshot := true, resetKind := none }] ∧
    toTotal (latching true 1) < instantNs 1 0 ∧ instantNs 0 0 ≤ toTotal (latching false 0) := by decide +kernel

/-- A message of domain 1 from a sender of EPOCH 6: type, SEQ, SRC, DST, body. -/
def domMsg (type seq src dst : Nat) (body : Bytes) : Bytes :=
  beBytes 1 type ++ [0] ++ beBytes 2 (body.length + 40) ++ beBytes 4 seq ++ beBytes 4 1 ++ beBytes 4 6 ++ beBytes 1 src ++ beBytes 1 dst ++
    zeros 6 ++ body ++ zeros 16
def bodyOf (b : Bytes) : Bytes := (b.drop 24).take (b.length - 40)
def keepalive (theirs flags : Nat) : Bytes := domMsg 1 0 1 0 (zeros 4 ++ beBytes 4 theirs ++ beBytes 1 flags ++ zeros 15)
theorem wit_DomainMessages_keepalive : (domLinks boss).contains 1 = true ∧ boss.live = true ∧ (dxOf boss 1).epochOwn.isSome = true ∧
    (dxOf boss 2).epochOwn = none ∧ boss.domWhole 1 1 (keepalive 5 0) = true ∧ (dxOf boss 1).epochTheirs ≠ some (beAt (keepalive 5 0) 12 4) ∧
    beAt (bodyOf (keepalive 4 0)) 4 4 ≠ 0 ∧ (dxOf boss 1).epochOwn ≠ some (beAt (bodyOf (keepalive 4 0)) 4 4) ∧
    boss.domWhole 1 1 (keepalive 4 0) = true ∧ beAt (bodyOf (keepalive 0 0)) 4 4 = 0 ∧
    (dxOf boss 1).epochOwn = some (beAt (bodyOf (keepalive 5 0)) 4 4) ∧ bitOf (byteAt (bodyOf (keepalive 5 0)) 8) 0 = false ∧
    managed.domNext 1 1 (keepalive 5 0) = true ∧ worker.domNext 0 1 (keepalive 5 2) = true ∧
    bitOf (byteAt (bodyOf (keepalive 5 2)) 8) 1 = true ∧ bitOf (byteAt (bodyOf (keepalive 5 0)) 8) 1 = false ∧
    worker.domain.joined = true ∧ (domainOf worker worker.domain.timeB).agent = false := by decide +kernel
def joinOf (id : Nat) : Bytes := domMsg 2 0 255 0 (beBytes 8 id ++ zeros 8)
def welcomeOf (result : Nat) : Bytes := domMsg 3 0 0 255 (beBytes 8 0x9640000000000000 ++ beBytes 1 result ++ [62, 5, 0] ++ beBytes 4 3)
def outside : State := { managed with domain := { managed.domain with joined := false } }
theorem wit_DomainMessages_join : managed.domNext 1 2 (joinOf 2) = true ∧ outside.domNext 1 2 (joinOf 2) = true ∧ inDomain outside = false ∧
    byteAt (joinOf 2) 16 = 255 ∧ managed.domain.members.find 1 = some { deviceId := 2 } ∧ (2 : Nat) ≠ beAt (bodyOf (joinOf 3)) 0 8 ∧
    managed.domNext 1 2 (joinOf 3) = true ∧ beAt (bodyOf (joinOf 2)) 0 8 = 2 ∧ applicant.domNext 0 3 (welcomeOf 0) = true ∧
    applicant.domain.role = 2 ∧ applicant.domain.joined = false ∧ beAt (bodyOf (welcomeOf 0)) 0 8 = applicant.boot.deviceId ∧
    applicant.accord.communities = .empty ∧ byteAt (bodyOf (welcomeOf 0)) 8 = 0 ∧ byteAt (bodyOf (welcomeOf 1)) 8 ≠ 0 ∧
    applicant.domNext 0 3 (welcomeOf 1) = true := by decide +kernel
def keysOf (slot flags : Nat) : Bytes := domMsg 4 0 0 255 (beBytes 2 slot ++ beBytes 1 flags ++ zeros 53)
def timeOf (sec : Nat) : Bytes := domMsg 5 0 0 255 (beBytes 6 sec ++ zeros 10)
def agentWorker (stepped : Bool) : State :=
  { worker with time := { ta := { agent := true } }, domain := { worker.domain with stepped } }
theorem wit_DomainMessages_keys : worker.leafWorker ∧ worker.domNext 0 4 (keysOf 100 0) = true ∧ byteAt (keysOf 100 0) 17 = 255 ∧
    inRange worker 100 = true ∧ beAt (bodyOf (keysOf 100 0)) 0 2 = 100 ∧ worker.domain.dx0.epochOwn.isSome = true ∧
    bitOf (byteAt (bodyOf (keysOf 100 0)) 2) 0 = false ∧ occupied worker 100 = false ∧ worker.domNext 0 4 (keysOf 115 1) = true ∧
    inRange worker 115 = true ∧ bitOf (byteAt (bodyOf (keysOf 115 1)) 2) 0 = true ∧ distributed worker 115 = true ∧
    worker.domNext 0 5 (timeOf 9) = true ∧ byteAt (timeOf 9) 17 = 255 ∧ (domainOf worker worker.domain.timeB).agent = false ∧
    (agentWorker false).leafWorker ∧ (agentWorker false).domNext 0 5 (timeOf 9) = true ∧ (agentWorker true).domNext 0 5 (timeOf 9) = true ∧
    (domainOf (agentWorker true) false).agent = true := by
  unfold State.leafWorker; decide +kernel
def globalOf (op : Nat) : Bytes := domMsg 6 0 0 255 (beBytes 1 op ++ zeros 7 ++ beBytes 4 1 ++ zeros 84)
def barrierRun : Running := { globalRun with cmd := cGlobal 1 [(12, 1)] }
def waitingWorker : State := { worker with running := [barrierRun], domain := { worker.domain with barrier := some { id := 1, own := true } } }
theorem wit_DomainMessages_global : (∀ op, op ∈ [1, 2, 3, 4, 7, 8, 9] → worker.domNext 0 6 (globalOf op) = true ∧
      byteAt (globalOf op) 17 = 255 ∧ byteAt (bodyOf (globalOf op)) 0 = op) ∧ worker.leafWorker ∧ waitingWorker.leafWorker ∧
    waitingWorker.domNext 0 6 (globalOf 1) = true ∧ waitingWorker.domain.barrier = some { id := 1, own := true } ∧
    beAt (bodyOf (globalOf 1)) 8 4 = 1 ∧ waitingWorker.running = [barrierRun] ∧ barrierRun.isOp 0x0a02 = true ∧ barrierRun.wait = .work ∧
    barrierRun.xfer = none ∧ barrierRun.cmd.get ⟨8, 0, 4⟩ = 1 := by
  unfold State.leafWorker; decide +kernel
def ackOf : Bytes := domMsg 7 0 1 0 (beBytes 4 7 ++ beBytes 2 1 ++ zeros 10)
def reportOf : Bytes := domMsg 8 0 1 0 (zeros 40)
def relay : State := { managed with domain := { managed.domain with role := 2, member := some 0, dx0 := upLink } }
theorem wit_DomainMessages_up : (operating [1]).domNext 1 7 ackOf = true ∧ inDomain (operating [1]) = true ∧
    (opOf [1]).opid = beAt (bodyOf ackOf) 0 4 ∧ (operating [1, 2]).domNext 1 7 ackOf = true ∧ (operating [1, 2]).domain.ops = [opOf [1, 2]] ∧
    managed.domNext 1 8 reportOf = true ∧ managed.domain.merging = [] ∧ managed.domain.members.find 1 = some { deviceId := 2 } ∧
    byteAt (bodyOf reportOf) 0 = 0 ∧ relay.domNext 1 8 reportOf = true ∧ relay.domain.role = 2 ∧ relay.domain.dx0.up = true ∧
    relay.domain.dx0.epochOwn.isSome = true ∧ inDomain relay = true := by decide +kernel

/-! ## Witnesses: time, entropy, tamper, boot -/

def cStepReset : Cmd := cmdOf 0x0b01 [(8, 2)]
def cStepLater : Cmd := cmdOf 0x0b01 [(8, 1 + 4), (12, 7)]
/-- A pulse-per-second input on GPIO 15 and an output on GPIO 0; TA locked, TO following it. -/
def pulsed : State := { timed with tamper := { timed.tamper with pins := ⟨[(0, { function := 1 }), (15, { function := 2 })]⟩ } }
def cRollSet : Cmd := cmdOf 0x0b04 [(8, 2), (12, 1), (16, 100)]
def cRollCancel : Cmd := cmdOf 0x0b04 [(8, 3), (12, 1)]
def cTimerSet : Cmd := cmdOf 0x0b04 [(8, 4), (12, 63), (16, 100), (22, 999999999)]
def cTimerCancel : Cmd := cmdOf 0x0b04 [(8, 5), (12, 63)]
def timer (action sec : Nat) : TimerAction := { owner := 0, action, pin := 3, sec, ns := 0 }
def timers (action sec : Nat) : State :=
  { timed with time := { timed.time with rolls := ⟨[(1, (100, 0))]⟩, timers := ⟨[(63, timer action sec)]⟩ } }
theorem wit_TimeKeeping_commands : Passes 0x0b01 specTimStep cTimStep busy ∧ cTimStep.flag 8 1 = false ∧ cTimStep.flag 8 2 = false ∧
    Passes 0x0b01 specTimStep cStepReset timed ∧ cStepReset.flag 8 1 = true ∧ (domainOf timed false).state = .locked ∧
    Passes 0x0b01 specTimStep cStepReset busy ∧ (domainOf busy false).state ≠ .locked ∧
    Passes 0x0b01 specTimStep cStepLater pulsed ∧ cStepLater.flag 8 2 = true ∧ cStepLater.flag 8 1 = false ∧
    Passes 0x0b02 specTimRate cTimRate timed ∧ Passes 0x0b03 specTimSelect cTimSelect timed ∧
    Passes 0x0b04 specTimSchedule cRollSet timed ∧ cRollSet.get ⟨8, 1, 3⟩ = 1 ∧ cRollSet.flag 8 0 = false ∧
    Passes 0x0b04 specTimSchedule cRollCancel (timers 2 60) ∧ cRollCancel.get ⟨8, 1, 3⟩ = 1 ∧ cRollCancel.flag 8 0 = true ∧
    Passes 0x0b04 specTimSchedule cTimerSet timed ∧ cTimerSet.get ⟨8, 1, 3⟩ ≠ 1 ∧ cTimerSet.flag 8 0 = false ∧
    Passes 0x0b04 specTimSchedule cTimerCancel (timers 2 60) ∧ cTimerCancel.get ⟨8, 1, 3⟩ ≠ 1 ∧ cTimerCancel.flag 8 0 = true :=
  ⟨passes_timStep, by decide +kernel, by decide +kernel, passes_of (by decide +kernel), by decide +kernel, by decide +kernel,
    passes_of (by decide +kernel), by decide +kernel, passes_of (by decide +kernel), by decide +kernel, by decide +kernel, passes_timRate,
    passes_timSelect, passes_of (by decide +kernel), by decide +kernel, by decide +kernel, passes_of (by decide +kernel), by decide +kernel,
    by decide +kernel, passes_of (by decide +kernel), by decide +kernel, by decide +kernel, passes_of (by decide +kernel), by decide +kernel,
    by decide +kernel⟩
def slewing (ns : Nat) : State := { timed with time := { timed.time with state := .slewing, clock := { sec := 50, ns } } }
def edged (tick : Nat) : State := { pulsed with tick, time := { pulsed.time with ppsTick := some 0, ppsGapRuns := true, ppsOut := true } }
theorem wit_TimeKeeping_clocks : timed.live = true ∧ (domainOf timed false).state = .locked ∧ (slewing 1).time.state = .slewing ∧
    5 * (offsetUnits (slewing 1) (slewing 1).time.selected).natAbs < 8 * 2 ^ 32 ∧
    ¬5 * (offsetUnits (slewing 2) (slewing 2).time.selected).natAbs < 8 * 2 ^ 32 ∧ (pinOf pulsed 3).function ≠ 2 ∧
    (edged 562499999).time.ppsTick = some 0 ∧ (edged 562499999).tick < 0 + 562500000 ∧ 0 + 562500000 ≤ (edged 562500000).tick ∧
    (pinOf (edged 562500000) 15).function = 2 ∧ pinsOf (edged 0) 2 ≠ [] ∧ (edged 0).time.ppsGapRuns = true ∧ pinsOf (edged 0) 1 ≠ [] ∧
    (edged 0).time.state ≠ .unset ∧ (edged 0).time.ppsOut = true ∧ timed.time.timers.find 63 = none ∧
    (timers 2 60).time.timers.find 63 = some (timer 2 60) ∧ toTotal (timers 2 60) < instantNs 60 0 ∧
    instantNs 50 0 ≤ toTotal (timers 3 50) ∧ (timer 2 50).action = 2 := by decide +kernel

def cEntMany : Cmd := cmdOf 0x0c01 [(8, 4096), (56, 4096)]
def entDev (st : EntState) : State := { dev with entropy := { state := st, seeds := 4 } }
def cPatternOff : Cmd := cmdOf 0x0c03 []
def cPatternSource : Cmd := cmdOf 0x0c03 [(8, 2 + 4 * 3)]
def entRun : Running := { cmd := cEntMany, cls := .b, locks := [], wait := .entropy }
def entWaiting (st : EntState) : State := { entDev st with running := [entRun] }
theorem wit_EntropyUnit_commands : Passes 0x0c01 specEntRead cEntRead field ∧ readServes field cEntRead = true ∧
    Passes 0x0c01 specEntRead cEntRead (entDev .retest) ∧ readServes (entDev .retest) cEntRead = false ∧
    Passes 0x0c02 specEntStatus cEntStatus field ∧ Passes 0x0c03 specEntTestPattern cEntTestPattern dev ∧
    cEntTestPattern.get ⟨8, 0, 2⟩ ≠ 0 ∧ Passes 0x0c03 specEntTestPattern cPatternOff dev ∧ cPatternOff.get ⟨8, 0, 2⟩ = 0 ∧
    dev.entropy.state ≠ .test ∧ Passes 0x0c03 specEntTestPattern cPatternOff (entDev .test) ∧ dev.accord.peers = .empty ∧
    Passes 0x0c03 specEntTestPattern cPatternSource dev ∧ cPatternSource.get ⟨8, 0, 2⟩ = 2 :=
  ⟨passes_entRead, by decide +kernel, passes_of (by decide +kernel), by decide +kernel, passes_entStatus, passes_entTestPattern,
    by decide +kernel, passes_of (by decide +kernel), by decide +kernel, by decide +kernel, passes_of (by decide +kernel), rfl,
    passes_of (by decide +kernel), by decide +kernel⟩
def fresh : Source := { passes := 3, needs := 4 }
def starting : State := { dev with entropy := { state := .starting, es0 := fresh, es1 := fresh, es2 := fresh, es3 := fresh } }
def excluding : State := { entDev .failed with entropy := { state := .failed, es3 := { excluded := true } } }
def keyed : State :=
  { field with accord := { epoch := some 1 }, running := [entRun] }
theorem wit_EntropyUnit_windows : dev.live = true ∧ dev.entropy.state = .ready ∧ 791 < 792 ∧ 40 < 41 ∧ (esOf dev 3).excluded = false ∧
    starting.live = true ∧ starting.entropy.state = .starting ∧ starting.entropy.katFailed = false ∧ starting.entropy.bits = 0 ∧
    starting.entropy.seeds = 0 ∧ (∀ n, n < 4 → (esOf starting n).excluded = false ∧ (esOf starting n).needs ≤ (esOf starting n).passes + 1) ∧
    (entDev .retest).running.all (fun r => r.wait != .entropy) = true ∧ (entWaiting .retest).entropy.state = .retest ∧
    (entWaiting .retest).running = [entRun] ∧ entRun.wait = .entropy ∧ entRun.isOp 0x0c01 = true ∧ entRun.xfer = none ∧
    ({ entDev .test with entropy := { state := .test, mode := 1 } } : State).entropy.mode = 1 ∧ excluding.entropy.state = .failed ∧
    excluding.entropy.katFailed = false ∧
    [0, 1, 2, 3].filter (fun n => !(esOf excluding n).excluded && [0, 1].contains n) = [0, 1] ∧ (esOf excluding 3).excluded = true ∧
    keyed.attar.sessionReady = true ∧ keyed.attar.keeper.isSome = true ∧ keyed.attar.storageKey.isSome = true ∧
    keyed.accord.epoch.isSome = true ∧ keyed.running = [entRun] ∧ readServes keyed cEntMany = true ∧ cEntMany.fn < 32 ∧
    0 < cEntMany.get ⟨8, 0, 13⟩ ∧ keyed.accord.peers = .empty ∧ dev.running[0]? = none ∧
    (entWaiting .starting).running[0]? = some entRun := by decide +kernel

def cFarewell : Cmd := cmdOf 0x0d01 [(8, 16), (12, 1)]
def cFuse : Cmd := cmdOf 0x0d01 [(8, 6), (9, 16)]
def cRaise : Cmd := cmdOf 0x0d01 [(8, 9), (9, 8 + 1), (11, 100)]
/-- Source `n` as given, in FACTORY. -/
def sensed (n : Nat) (v : TamperSource) : State := { dev with tamper := { dev.tamper with sources := ⟨[(n, v)]⟩ } }
def standing : TamperSource := { rank := 0, active := true, pending := true, count := 65535 }
theorem wit_Tampering_commands : Passes 0x0d01 specTmpConfig cFarewell dev ∧ cFarewell.flag 8 4 = true ∧
    Passes 0x0d01 specTmpConfig cFuse dev ∧ cFuse.flag 8 4 = false ∧ cFuse.flag 9 4 = true ∧
    Passes 0x0d01 specTmpConfig cTmpConfig field ∧ cTmpConfig.flag 9 4 = false ∧ (sourceOf field 10).active = false ∧
    Passes 0x0d01 specTmpConfig cRaise (sensed 9 standing) ∧ sourceOf (sensed 9 standing) 9 = standing ∧ standing.enabled = false ∧
    cRaise.get ⟨9, 0, 3⟩ = 1 ∧ cRaise.flag 9 3 = true ∧ (sensed 9 standing).noKeyOps = true ∧
    Passes 0x0d02 specTmpEvidence cTmpEvidence dev ∧ Passes 0x0d03 specTmpAck cTmpAck field ∧
    Passes 0x0d05 specTmpSelftest cTmpSelftest field :=
  ⟨passes_of (by decide +kernel), by decide +kernel, passes_of (by decide +kernel), by decide +kernel, by decide +kernel, passes_tmpConfig,
    by decide +kernel, by decide +kernel, passes_of (by decide +kernel), by decide +kernel, by decide +kernel, by decide +kernel,
    by decide +kernel, by decide +kernel, passes_tmpEvidence, passes_tmpAck, passes_tmpSelftest⟩
def cPinFree : Cmd := cmdOf 0x0d06 [(8, 128 + 15)]
def armedAt (rank : Nat) : TamperSource := { enabled := true, rank }
theorem wit_Tampering_onsets : Passes 0x0d06 specPinAssign cPinAssign field ∧ cPinAssign.flag 8 7 = false ∧
    cPinAssign.get ⟨9, 0, 4⟩ ≠ 0 ∧ Passes 0x0d06 specPinAssign cPinFree field ∧ cPinFree.flag 8 7 = true ∧ dev.live = true ∧ 10 < 11 ∧
    (sourceOf (sensed 9 standing) 9).active = true ∧ (sourceOf dev 9).enabled = false ∧ (sourceOf dev 9).fused = false ∧
    sourceOf (sensed 9 (armedAt 4)) 9 = armedAt 4 ∧ sourceOf (sensed 6 (armedAt 3)) 6 = armedAt 3 ∧ sourceOf (sensed 10 (armedAt 2)) 10 = armedAt 2 ∧
    (sensed 9 (armedAt 4)).noKeyOps = true ∧ (sensed 9 (armedAt 4)).tamper.farewell = false ∧ (sensed 9 (armedAt 4)).pair.mode = .off ∧
    (sensed 9 (armedAt 4)).fabric.egress.cells.all (fun e => e.2.tx.isNone) = true ∧ (sensed 9 (armedAt 4)).attar.rootGen < genLimit ∧
    (sourceOf dev 0).enabled = true ∧ 1 ≤ (armedAt 4).rank :=
  ⟨passes_pinAssign, by decide +kernel, by decide +kernel, passes_of (by decide +kernel), by decide +kernel⟩

/-- A well-formed image header with no code. -/
def imageHead : Bytes := leBytes 4 0x474e5746 ++ [1, 0] ++ zeros 24570
def cStageBegin : Cmd := cmdOf 0x0e01 [(16, 24576), (56, 4096)] imageHead
def cStageAbort : Cmd := cmdOf 0x0e01 [(8, 3)]
def cStageFinish : Cmd := cmdOf 0x0e01 [(8, 2)]
def flashBroken : State := { staging with attar := { staging.attar with flashFailures := 1 } }
theorem wit_BootAndIdentity_stage : Passes 0x0e01 specFwStage cFwStage staging ∧ staging.attar.flashFailures = 0 ∧
    cFwStage.get ⟨8, 0, 2⟩ = 1 ∧ Passes 0x0e01 specFwStage cStageBegin field ∧ cStageBegin.get ⟨8, 0, 2⟩ = 0 ∧
    Passes 0x0e01 specFwStage cStageFinish staging ∧ cStageFinish.get ⟨8, 0, 2⟩ = 2 ∧ Passes 0x0e01 specFwStage cStageAbort staging ∧
    cStageAbort.get ⟨8, 0, 2⟩ = 3 ∧ Passes 0x0e01 specFwStage cFwStage flashBroken ∧ 1 ≤ flashBroken.attar.flashFailures :=
  ⟨passes_fwStage, rfl, by decide +kernel, passes_of (by decide +kernel), by decide +kernel, passes_of (by decide +kernel),
    by decide +kernel, passes_of (by decide +kernel), by decide +kernel, passes_of (by decide +kernel), by decide +kernel⟩
/-- Bank B holds that image; where its keys, signatures and hash are good, it is valid. -/
def twoBanks : State := { field with boot := { field.boot with bankB := imageHead, running := imageHead } }
def cActNow (mode : Nat) : Cmd := cmdOf 0x0e02 [(8, mode + 4)]
theorem image_good (s : State) (i : Bytes) (hm : (leAt i 0 4 == imgMagic && imgFormed i) = true) (hs : imgSvn i = 0) (hr : imgMinRevision i = 0)
    (h0 : keyKnown s 0 i = true) (h1 : keyKnown s 1 i = true) (h2 : sigGood 0 i = true) (h3 : sigGood 1 i = true) (h4 : hashGood i = true)
    (hf : s.boot.floor = 0) : checkImage s i true = 0 := by
  simp only [checkImage, hm, h0, h1, h2, h3, h4, hs, hr, hf]
  decide
theorem wit_BootAndIdentity_activate (h0 : keyKnown twoBanks 0 imageHead = true) (h1 : keyKnown twoBanks 1 imageHead = true)
    (h2 : sigGood 0 imageHead = true) (h3 : sigGood 1 imageHead = true) (h4 : hashGood imageHead = true) :
    Passes 0x0e02 specFwActivate (cActNow 0) twoBanks ∧ (cActNow 0).flag 8 2 = true ∧ twoBanks.accord.communities = .empty ∧
      twoBanks.channels.rekeyDue = [] := by
  refine ⟨⟨by decide +kernel, by decide +kernel, ?_⟩, by decide +kernel, rfl, rfl⟩
  have hg := image_good twoBanks imageHead (by decide +kernel) (by decide +kernel) (by decide +kernel) h0 h1 h2 h3 h4 rfl
  have hb : specFwActivate.badState (cActNow 0) twoBanks = false := by
    have he : bankOf twoBanks (idleBank twoBanks) = imageHead := rfl
    have hm : actMode (cActNow 0) = 0 := by decide +kernel
    simp only [specFwActivate, he, hm, hg]
    decide +kernel
  rw [checks, hb]
  decide +kernel
theorem wit_BootAndIdentity_floor : Passes 0x0e02 specFwActivate cFwActivate field ∧ cFwActivate.get ⟨8, 0, 2⟩ = 3 ∧
    cFwActivate.flag 8 2 = false := ⟨passes_fwActivate, by decide +kernel, by decide +kernel⟩
def advance0 (g : Nat) : Cmd := cmdOf 0x0d04 [(8, g), (12, 0x4c434144)]
def inLife (n : Nat) : State := { dev with boot := { dev.boot with
  lifecycle := n, identity := some { rsa := 1, slh := 2, chainRsa := [1], chainSlh := [2] }, idValid := true } }
theorem wit_BootAndIdentity_life : Passes 0x0d04 specLcAdvance (advance0 1) (inLife 0) ∧ entServes (inLife 0) 2 = true ∧
    Passes 0x0d04 specLcAdvance (advance0 2) (inLife 1) ∧ Passes 0x0d04 specLcAdvance (advance0 2) { inLife 1 with entropy := {} } ∧
    entServes { inLife 1 with entropy := {} } 2 = false ∧ Passes 0x0d04 specLcAdvance (advance0 3) (inLife 2) ∧
    Passes 0x0d04 specLcAdvance cLcAdvance field ∧ (advance0 2).get ⟨8, 0, 3⟩ = 2 ∧ cLcAdvance.get ⟨8, 0, 3⟩ = 4 ∧
    field.fabric.egress.cells.all (fun e => e.2.tx.isNone) = true :=
  ⟨passes_of (by decide +kernel), by decide +kernel, passes_of (by decide +kernel), passes_of (by decide +kernel), by decide +kernel,
    passes_of (by decide +kernel), passes_lcAdvance, by decide +kernel, by decide +kernel, by decide +kernel⟩
theorem wit_BootAndIdentity_idle : ∀ p, busyRx field p = false := fun _ => rfl
def cChainRead (n : Nat) : Cmd := cmdOf 0x0e04 [(12, n), (56, 4096)]
theorem wit_BootAndIdentity_identity : Passes 0x0e04 specIdCerts cIdCerts (inLife 1) ∧ cIdCerts.flag 8 0 = true ∧
    (inLife 1).boot.identity = some { rsa := 1, slh := 2, chainRsa := [1], chainSlh := [2] } ∧ (inLife 1).boot.idValid = true ∧
    Passes 0x0e04 specIdCerts cIdCerts dev ∧ dev.boot.identity.isNone = true ∧ Passes 0x0e04 specIdCerts (cChainRead 1) (inLife 1) ∧
    (cChainRead 1).flag 8 0 = false ∧ Passes 0x0e04 specIdCerts (cChainRead 0) (inLife 1) ∧ Passes 0x0e03 specAttest cAttest (inLife 3) ∧
    entServes (inLife 3) 2 = true ∧ Passes 0x0e03 specAttest cAttest field ∧ field.boot.identity.isNone = true :=
  ⟨passes_of (by decide +kernel), by decide +kernel, by decide +kernel, by decide +kernel, passes_idCerts, by decide +kernel,
    passes_of (by decide +kernel), by decide +kernel, passes_of (by decide +kernel), passes_of (by decide +kernel), by decide +kernel,
    passes_attest, by decide +kernel⟩
/-- A device in recovery, its window empty or with an image. -/
def recovery (bs : Bytes) : State :=
  { dev with cmdReady := false, boot := { stage := 7, window := ⟨(List.range (bs.length / 4)).map (fun i => (i, BitVec.ofNat 32 (leAt bs (4 * i) 4)))⟩ } }
theorem wit_BootAndIdentity_go : (recovery []).live = true ∧ GateAllows (recovery []) 0 0x10104 true ∧ (recovery []).boot.stage = 7 ∧
    (0x80006000#32 : Word).getLsbD 31 = true ∧ checkImage (recovery []) (windowBytes 24576 (recovery [])) true = 3 ∧ dev.boot.stage ≠ 7 ∧
    GateAllows dev 0 0x10104 true ∧ (recovery []).attar.keeper = none :=
  ⟨by decide +kernel, rfl, by decide +kernel, by decide +kernel, by decide +kernel, by decide +kernel, rfl, rfl⟩
def recoverable : State := { recovery [] with boot := { stage := 7, window := ⟨[(0, 0x474e5746), (1, 1)]⟩ } }
theorem wit_BootAndIdentity_goValid (w : Bytes) (hw : w = windowBytes 24576 recoverable) (h0 : keyKnown recoverable 0 w = true)
    (h1 : keyKnown recoverable 1 w = true) (h2 : sigGood 0 w = true) (h3 : sigGood 1 w = true) (h4 : hashGood w = true) :
    checkImage recoverable w true = 0 := by
  have hm : (leAt w 0 4 == imgMagic && imgFormed w) = true := by rw [hw]; decide +kernel
  exact image_good recoverable w hm (by rw [hw]; decide +kernel) (by rw [hw]; decide +kernel) h0 h1 h2 h3 h4 rfl

/-! ## Ill-formed commands, one for each check -/

theorem test_wf_functions : [Instr.registerWrite 32 false 0x104 0, .registerWrite 0 false 0x106 0, .registerWrite 1 true 0 0,
    .registerWrite 0 true 0x01000000 0, .registerWrite 0 false 0x10000 0, .badRegisterAccess 32 true, .counterLowRead 4, .counterLowRead 0x01000000,
    .pmcSlotLowRead 0 false 0x7ff8, .pmcSlotLowRead 0 true 0x11800, .genBadAccessRead 32, .cmdEqLostRead 32, .selParityCountRead 6,
    .timSnapNsRead 32, .cmdQpSqTailWrite 0 4 0, .cmdQpCqHeadWrite 32 0 0, .cmdQpEnable 0 4 0 false, .cmdQpDisable 0 4 0,
    .cmdEqEnable 32 0 false, .cmdEqHeadWrite 32 0, .cqDelayExpiry 32, .functionReset 32, .l5Expiry 32].all (fun i => !i.wellFormed) = true := by
  decide +kernel
theorem test_wf_operands : [Instr.fabHrEnable 4 0, .fabHrDisable 4 0, .fabHrLimitWrite 4 0, .i2cPointerWrite [], .hostFrameDeliver 4 0 false,
    .fabHostFramesWindow 4, .memberInUseClear 65536, .spillPageWrite 131072 0 [], .pageWriteComplete 131072 0, .rsvLapRestEnd 4,
    .rsvRetrainAttemptEnd 4 true, .ageTick 8, .lineEntryRewrite 16384, .scParityRestore 131072, .saFlush 262144, .retirementDeadline 262144,
    .rollFire 131072, .communityTeardown 64, .peerHoldExpiry 16384, .attScrubPeriod [16384], .attAutoRepair 16384, .domKeepaliveRx 3 [] true,
    .domLinkLoss 3, .timeDomainHoldExpiry 2, .ppsInEdge 16, .timerFire 64, .entHealthFail 4 true, .entSourceRetest 4 true, .tamperOnset [16],
    .tamperPinOnCell [16], .tamperConditionEnd 16, .l6Expiry 31, .l6Expiry 35, .l2Expiry 4 none, .pmcWrap 128, .gateRuleRestore false 64,
    .debugAccess 2 false 0 []].all (fun i => !i.wellFormed) = true := by decide +kernel
theorem test_wf_ports : [Instr.portSignalLoss 128 false, .clientFrameHead 64 (zeros 128) false 0 [], .clientFrameHead 0 (zeros 127) false 0 [],
    .clientFrameTail 64 [] true, .lineFrameHead 64 (zeros 128) false [], .lineFrameHead 0 (zeros 127) false [], .lineFrameTail 64 [] true,
    .fabricMatch 2, .cellArrival 16 0 0 true, .cellArrival 0 18 0 true, .cellArrival 0 0 2 true, .reseqTimeout 16 0, .leFrameHead 64 [] false,
    .ceFrameHead 64 false, .expressUnderrun 128, .schedulerRelease 128 [] false, .fineSlot 16 0, .fineSlot 0 1024, .coarseBoundary 0 64,
    .accFrameRx 64, .accHelloRx 64, .standbyHoldExpiry 128].all (fun i => !i.wellFormed) = true := by decide +kernel
theorem test_wf_packets : [Instr.devInfo cDevReset, .scCreate (cmdOf 0x0402 []), .entRead { fn := 32, qp := 0, seq := 0, packet := 0x0c01#512, payload := [] },
    .keyWrite { fn := 0, qp := 5, seq := 0, packet := 0x0501#512, payload := [] }].all (fun i => !i.wellFormed) = true ∧
    (Instr.devInfo cDevInfo).wellFormed = true := by decide +kernel

/-! ## Single commands, with the spec's numbers -/

/-- 02, Worked exchange: QP1's TAIL and HEAD registers, and the completion of the command with tag 0A41h and SEQUENCE 64. -/
def workedCmd : Cmd := { fn := 3, qp := 1, seq := 64, payload := [], packet := BitVec.ofNat 512 (leNat [0x01, 0x04, 0, 0, 0x41, 0x0a, 0, 0]) }
theorem test_worked_exchange : qpReg 3 1 0x14 = bar0 3 0x0134 ∧ qpReg 3 1 0x18 = bar0 3 0x0138 ∧ workedCmd.opcode = 0x0401 ∧
    workedCmd.tag = 0x0a41 := by decide +kernel

/-- 03, Worked configuration: the ports and lanes of octet C2, and that every other lane of it starts no port. -/
def cWorkedOctet : Cmd := cmdOf 0x0201
  [(8, 4), (10, 0x55), (11, 0x31), (12, 0x23), (16, 0x23), (18, 0x3a), (19, 0x3a)]
def workedPort (p : Nat) : Option (Nat × Nat) :=
  match exec (.portConfig cWorkedOctet) field with
  | .next t => (portOf t p).map (fun v => (v.rate, v.fec))
  | _ => none
theorem test_port_config_example : [16, 17, 18, 19, 20, 21, 22, 23].map workedPort =
    [some (5, 3), none, none, none, some (4, 3), none, some (2, 2), some (2, 2)] := by decide +kernel

/-- 04: the entry for 10.40.17.0/24 of space 3 with POLICY 1_8F01h, as SEL_DATA holds it. -/
theorem test_lpm_entry_example : lpmEntry 0 (0x0011280a + 0x00011803 * 2 ^ 32 + 0x00018f01 * 2 ^ 64) =
    { prefixBits := 0x0a281100, space := 3, length := 24, valid := true, policy := 24 * 4096 + 3841 } := by decide +kernel

/-- 05: the SecTAG and the IV of a frame with 1,484 bytes of secure data. -/
def secSc : Sc := { txSc with sci := leNat [0x02, 0xa4, 0x11, 0x00, 0x09, 0xe0, 0x01, 0x27], suite := 3 }
theorem test_sectag_example : makeSecTag secSc 2 0x100000005 1484 =
    [0x88, 0xe5, 0x2e, 0x00, 0, 0, 0, 5, 0x02, 0xa4, 0x11, 0x00, 0x09, 0xe0, 0x01, 0x27] := by decide +kernel
theorem test_iv_example : cipherIv secSc { saOn 1 2 false with ssci := leNat [0, 0, 0, 3], salt := 0 } 0x100000005 =
    0x00000003_00000001_00000005 := by decide +kernel

/-- 08: MASTER slot 0200h of GEN 3 is invalidated: EMPTY with GEN 4, a tombstone, and slot 0201h ORPHANED. -/
def leaked : State :=
  { field with attar := { field.attar with
      active := some false
      slots := ⟨[(0x200, { key := 1, type := 2, persist := true, usage := 2, parent := 0xfff1, gen := 3 }),
        (0x201, { key := 2, type := 1, usage := 1, parent := 0x200, parentGen := 3 })]⟩
      copyA := { status := 1, generation := 57, keeperKey := 5, storageKey := 7
                 records := ⟨[(0x200, { key := 1, type := 2, persist := true, usage := 2, parent := 0xfff1, gen := 3 })]⟩ } } }
def afterLeak : Option State := match exec (.keyInvalidate (cmdOf 0x0502 [(8, 0x200)])) leaked with | .next t => some t | _ => none
theorem test_key_invalidate_example : afterLeak.map (fun t => ((slotOf t 0x200).gen, slotState t 0x200, t.attar.tombstones.cells, slotState t 0x201)) =
    some (4, 0, [(0x200, 4)], 3) := by decide +kernel

/-- 14: the timestamp of 1,000 s. -/
theorem test_timestamp_example : clockStamp { sec := 1000, ns := 0 } = 3567587328 := by decide +kernel

/-- 13: depth 4 latches at t0 + 1,480 ns; member 19 lies at depth 4, and 15 to 19 below 7, 8 and 9. -/
theorem test_latch_example : latchAt { managed with domain := { managed.domain with depth := 4 } } = toTotal managed + 1480 ∧ memberDepth 19 = 4 ∧
    (subtree 7).contains 15 = true ∧ (subtree 8).contains 17 = true ∧ (subtree 9).contains 19 = true := by decide +kernel

/-- 16: the lid opens while the device is unpowered, at BAT_SECONDS 41,207,300. -/
def lidOpens : Option State :=
  match exec (.tamperPinOnCell [6]) { field with tamper := { field.tamper with
      batBase := 41207300, otpCount := 2, sources := ⟨[(6, { enabled := true, rank := 4 })]⟩ } } with
  | .next t => some t
  | _ => none
theorem test_lid_example : lidOpens.map (fun t => (t.attar.keeper, t.tamper.zeroisePending, sourceOf t 6)) =
    some (none, 1, { enabled := true, rank := 4, pending := true, seen := true, active := true, applied := 4, count := 1
                     firstS := 41207300, lastS := 41207300 }) := by decide +kernel

/-- After reset no command waits, and the block idles. -/
theorem test_reset_queue : State.reset.pending = [] ∧ State.reset.cmdReady = false ∧ step State.reset = .next (tickDevice State.reset) :=
  ⟨rfl, rfl, rfl⟩

end Sys2Proof.Machine
end

section
/-!
PROOFS. The command channel: the laws of the queue pairs' registers and records, and what CMD_QP_ENABLE does (02_command_channel R36).
-/
namespace Sys2Proof.Machine

open Sys2Proof

/-! ## Commands of a live device -/

theorem State.live_iff {s : State} : s.live = true ↔ s.halted = false ∧ s.powered = true ∧ s.boot.otpBad = false := by
  simp [State.live, and_assoc]

theorem act_of_live {s : State} (h : s.live = true) (f : State → State) : act f s = .next (f s) := by
  obtain ⟨hrun, hpower, hotp⟩ := State.live_iff.mp h
  exact act_live hrun hpower hotp f

/-! ## Registers and records of queue pairs -/

@[simp] theorem qpReg_inj {f n a b : Nat} : qpReg f n a = qpReg f n b ↔ a = b := by simp [qpReg, bar0]

@[simp] theorem qpOf_setReg (a : Nat) (w : Word) (s : State) (f n : Nat) : qpOf (setReg a w s) f n = qpOf s f n := rfl

@[simp] theorem reg_setQp (f n : Nat) (q : QueuePair) (s : State) (a : Nat) : reg (setQp f n q s) a = reg s a := rfl

theorem Function.qp_setQp_ne {n m : Nat} (hn : n < 4) (hm : m < 4) (h : m ≠ n) (F : Function) (q : QueuePair) :
    (F.setQp n q).qp m = F.qp m := by
  interval_cases n <;> interval_cases m <;> simp [Function.setQp, Function.qp] at h ⊢

theorem qpOf_setQp_ne {f g n m : Nat} (hn : n < 4) (hm : m < 4) (h : ¬(g = f ∧ m = n)) (q : QueuePair) (s : State) :
    qpOf (setQp f n q s) g m = qpOf s g m := by
  by_cases hg : g = f
  · subst hg
    have hne : m ≠ n := fun e => h ⟨rfl, e⟩
    simp only [qpOf, setQp, fnOf_setFn_same, Function.qp_setQp_ne hn hm hne]
  · exact qpOf_setQp_other hg n m q s

/-- From `s` to `t` nothing has changed but registers and the functions' records. -/
def OnlyRegsFns (s t : State) : Prop := t = { s with regs := t.regs, fns := t.fns }

theorem OnlyRegsFns.refl (s : State) : OnlyRegsFns s s := rfl

theorem OnlyRegsFns.setReg {s t : State} (h : OnlyRegsFns s t) (a : Nat) (w : Word) : OnlyRegsFns s (setReg a w t) := by
  unfold OnlyRegsFns at h
  rw [h]
  rfl

theorem OnlyRegsFns.setQp {s t : State} (h : OnlyRegsFns s t) (f n : Nat) (q : QueuePair) : OnlyRegsFns s (setQp f n q t) := by
  unfold OnlyRegsFns at h
  rw [h]
  rfl

/-! ## CMD_QP_ENABLE -/

/-- A queue pair's record as R36 starts it afresh; `writable` says whether the outside accepts writes to its CQ. -/
def QueuePair.afresh (q : QueuePair) (writable : Bool) : QueuePair :=
  { q with sqHead := 0, cqTail := 0, unread := 0, seq := 0, phase := true, reserved := 0, stopped := false, cqFails := !writable }

theorem qpEnable_of_valid {f n : Nat} {w : Word} {s : State} (hoff : qpEnabled s f n = false) (hw : qpSizesValid w = true)
    (writable : Bool) :
    qpEnable f n w writable s = setQp f n ((qpOf s f n).afresh writable)
      (setReg (qpReg f n 0x14) 0 (setReg (qpReg f n 0x18) 0 (setReg (qpReg f n 0x10) (qpCtrlBits w ||| 1) s))) := by
  simp [qpEnable, hoff, hw, QueuePair.afresh]

theorem qpEnable_of_invalid {f n : Nat} {w : Word} {s : State} (hoff : qpEnabled s f n = false) (hw : qpSizesValid w = false)
    (writable : Bool) :
    qpEnable f n w writable s = regOr (qpReg f n 0x1c) 2 (setReg (qpReg f n 0x10) (qpCtrlBits w) s) := by
  simp [qpEnable, hoff, hw]

theorem exec_cmdQpEnable_of_live {s : State} (h : s.live = true) (f n : Nat) (w : Word) (writable : Bool) :
    exec (.cmdQpEnable f n w writable) s = .next (qpEnable f n w writable s) :=
  act_of_live h _

/-- Settles O7: an accepted enable is three register writes and one record write, a refused one two register writes; what each register
and record then holds is read off the laws of those writes. -/
theorem queuePairEnable : Obligations.QueuePairEnable := by
  intro fn qp w writable s hlive hqp hoff
  rw [exec_cmdQpEnable_of_live hlive]
  constructor
  · intro hw
    refine ⟨_, rfl, ?_⟩
    rw [qpEnable_of_valid hoff hw]
    refine ⟨?sqHead, ?tail, ?head, ?cqTail, ?seq, ?phase, ?unread, ?ctrl, ?frame, ?registers, ?pairs⟩
    case frame => exact ((((OnlyRegsFns.refl s).setReg _ _).setReg _ _).setReg _ _).setQp _ _ _
    case registers =>
      intro a hctrl htail hhead
      simp [reg_setReg_ne, hctrl, htail, hhead]
    case pairs =>
      intro g m hm hother
      simp [qpOf_setQp_ne hqp hm hother]
    case sqHead | cqTail | seq | phase | unread => simp [QueuePair.afresh, hqp]
    case tail | head | ctrl => simp [reg_setReg_ne, qpCtrlBits]
  · intro hw
    refine ⟨_, rfl, ?_⟩
    rw [qpEnable_of_invalid hoff hw]
    refine ⟨?ctrl, ?status, ?frame, ?others⟩
    case frame => rfl
    case ctrl => simp [regOr, reg_setReg_ne, qpCtrlBits]
    case status => simp [regOr, reg_setReg_ne]
    case others =>
      intro a hctrl hstatus
      simp [regOr, reg_setReg_ne, hctrl, hstatus]

end Sys2Proof.Machine
end

section
/-!
PROOFS. Access control (18_access_and_dma): how a passing command of a host queue runs, the check of reserved bits, and what GATE_LOAD
(R528, R543) and GATE_BARRIER (R530, R546) do.
-/
namespace Sys2Proof.Machine

open Sys2Proof

/-! ## Commands that pass their checks -/

theorem Passes.opcode {op : Nat} {spec : OpSpec} {c : Cmd} {s : State} (h : Passes op spec c s) : c.opcode = op := by
  obtain ⟨hok, -, -⟩ := h
  simp only [cmdOk, Bool.and_eq_true, beq_iff_eq] at hok
  exact hok.2

theorem hostOp_of_passes {op : Nat} {spec : OpSpec} {c : Cmd} {s : State} (h : Passes op spec c s) :
    hostOp spec c s = .next (runOp spec c s) := by
  obtain ⟨-, hserving, -⟩ := h
  obtain ⟨hlive, hready⟩ : s.live = true ∧ s.cmdReady = true := by simpa [State.serving] using hserving
  obtain ⟨hrun, hpower, hotp⟩ := State.live_iff.mp hlive
  exact hostOp_passes hrun hpower hotp hready

theorem hostOp_of_done {op : Nat} {spec : OpSpec} {c : Cmd} {s t : State} {r : Reply} (h : Passes op spec c s)
    (heff : spec.effect c s = (t, .done r)) : hostOp spec c s = .next (mirrorCommand c r.status (finish c r t)) := by
  rw [hostOp_of_passes h]
  obtain ⟨-, -, hchecks⟩ := h
  simp only [runOp, hchecks, heff]

theorem hostOp_of_wait {op : Nat} {spec : OpSpec} {c : Cmd} {s t : State} {w : Wait} (h : Passes op spec c s)
    (heff : spec.effect c s = (t, .wait w)) : hostOp spec c s = .next (hold spec c w t) := by
  rw [hostOp_of_passes h]
  obtain ⟨-, -, hchecks⟩ := h
  simp only [runOp, hchecks, heff]

theorem mirrorCommand_of_unmirrored {c : Cmd} (h : mirroredCommands.contains c.opcode = false) (status : Nat) (s : State) :
    mirrorCommand c status s = s := by
  have hout : ¬(status = stOk ∧ mirroredCommands.contains c.opcode ∧ !isQuery c) :=
    fun ⟨_, hin, _⟩ => Bool.false_ne_true (h.symm.trans hin)
  rw [mirrorCommand, if_neg hout]

@[simp] theorem finish_without_data (c : Cmd) (status detail result : Nat) (s : State) :
    finish c { status, detail, result } s = postCompletion c status detail result s := rfl

/-- A passing command that no pair mirrors and whose effect is done with OK is answered over the state that the effect leaves. -/
theorem answers_of_done {op result : Nat} {spec : OpSpec} {c : Cmd} {s t : State} (h : Passes op spec c s)
    (hmirror : mirroredCommands.contains op = false) (heff : spec.effect c s = (t, ok result)) :
    Answers c result t (hostOp spec c s) := by
  have hunmirrored : mirroredCommands.contains c.opcode = false := by rw [h.opcode]; exact hmirror
  refine ⟨_, hostOp_of_done h heff, ?_⟩
  rw [mirrorCommand_of_unmirrored hunmirrored]
  exact answered_postCompletion c stOk 0 result t

@[simp] theorem resultOf_byte8 (v : Nat) : resultOf [(8, v)] = v := by simp [resultOf]

/-! ## Completing the one running command -/

theorem completeRunning_only {s : State} {r : Running} {p : Running → Bool} (hrunning : s.running = [r]) (hp : p r = true)
    (reply : Running → Reply) : completeRunning p reply s = finishRunning r (reply r) { s with running := [] } := by
  simp [completeRunning, hrunning, hp]

theorem answered_finishRunning {r : Running} (h : r.xfer = none) (status detail result : Nat) (s : State) :
    Answered r.cmd status detail result s (finishRunning r { status, detail, result } s) := by
  simp only [finishRunning, h, finish_without_data]
  exact answered_postCompletion r.cmd status detail result s

/-! ## Reserved bits (R10) -/

theorem bitsOf_and (a b lo width : Nat) : bitsOf (a &&& b) lo width = bitsOf a lo width &&& bitsOf b lo width := by
  simp only [bitsOf, Nat.and_div_two_pow, Nat.and_mod_two_pow]

theorem isSome_lowestByte {n v : Nat} (hv : v ≠ 0) (hlt : v < 2 ^ (8 * n)) : (lowestByte n v).isSome = true := by
  induction n generalizing v with
  | zero => omega
  | succ n ih =>
    rw [Nat.mul_succ, pow_add] at hlt
    simp only [lowestByte]
    split_ifs with hlow
    · rw [Option.isSome_map]
      exact ih (by omega) (by omega)
    · rfl

/-- Bits that a packet sets in a run of bits where its layout defines none are found as reserved. -/
theorem isSome_reservedAt {c : Cmd} {fs : List Fld} {lo width : Nat} (hset : bitsOf c.bits lo width ≠ 0)
    (hmask : bitsOf (layoutMask fs) lo width = 0) : (c.reservedAt fs).isSome = true := by
  have hne : c.bits &&& layoutMask fs ≠ c.bits := by
    intro heq
    apply hset
    rw [← heq, bitsOf_and, hmask, Nat.and_zero]
  have hle : c.bits &&& layoutMask fs ≤ c.bits := Nat.and_le_left
  exact isSome_lowestByte (Nat.sub_ne_zero_of_lt (lt_of_le_of_ne hle hne)) ((Nat.sub_le _ _).trans_lt c.packet.isLt)

theorem isSome_lowestOf_cons (b : Nat) (rest : List (Bool × Nat)) : (lowestOf ((true, b) :: rest)).isSome = true := by
  simp only [lowestOf]
  split <;> rfl

/-- On a device under no TAMPER_LOCK, reserved bits set in a command of the PF end its checks with BAD_PARAM. -/
theorem checks_of_reserved {spec : OpSpec} {c : Cmd} {s : State} (hpf : c.fn = 0) (hlock : tamperLock s = false)
    (hres : (c.reservedAt (spec.fields c)).isSome = true) : ∃ d, checks spec c s = some (stBadParam, d) := by
  have hlowest : (lowestOf (headerErrors spec c ++ spec.own c s)).isSome = true := by
    simp only [headerErrors, hres, List.cons_append]
    exact isSome_lowestOf_cons _ _
  obtain ⟨d, hd⟩ := Option.isSome_iff_exists.mp hlowest
  exact ⟨d, by simp [checks, hpf, hlock, hd, failIf, firstFail]⟩

/-! ## The rules of the gate table -/

theorem gateRule_setGateRule_same (b : Bool) (r : Nat) (v : GateRule) (s : State) : gateRule (setGateRule b r v s) b r = v :=
  Table.get_put_same s.gate.rules {} _ v

theorem gateRule_setGateRule_ne {b b' : Bool} {r r' : Nat} (h : (r' + if b' then 64 else 0) ≠ r + if b then 64 else 0)
    (v : GateRule) (s : State) : gateRule (setGateRule b r v s) b' r' = gateRule s b' r' :=
  Table.get_put_ne h s.gate.rules {} {} v

theorem gateRule_setGateRule_otherRule {r r' : Nat} (h : r' ≠ r) (b : Bool) (v : GateRule) (s : State) :
    gateRule (setGateRule b r v s) b r' = gateRule s b r' :=
  gateRule_setGateRule_ne (by omega) v s

theorem gateRule_setGateRule_otherSet {r r' : Nat} (hr : r < 64) (hr' : r' < 64) (b : Bool) (v : GateRule) (s : State) :
    gateRule (setGateRule (!b) r v s) b r' = gateRule s b r' :=
  gateRule_setGateRule_ne (by cases b <;> simp <;> omega) v s

@[simp] theorem setGateRule_boot (b : Bool) (r : Nat) (v : GateRule) (s : State) : (setGateRule b r v s).boot = s.boot := rfl

@[simp] theorem setGateRule_activeB (b : Bool) (r : Nat) (v : GateRule) (s : State) :
    (setGateRule b r v s).gate.activeB = s.gate.activeB := rfl

/-! ## GATE_LOAD: writing a set -/

/-- The first `n` rules of a set written from `f`, as GATE_LOAD writes all 64. -/
def writeRules (b : Bool) (f : Nat → GateRule) (n : Nat) (s : State) : State :=
  (List.range n).foldl (fun s r => setGateRule b r (f r) s) s

/-- The inactive set marked loaded (R528). -/
def markLoaded (s : State) : State := { s with gate := { s.gate with loaded := true } }

theorem specGateLoad_effect (c : Cmd) (s : State) :
    specGateLoad.effect c s =
      (markLoaded (writeRules (!s.gate.activeB) (fun r => ruleOf (loadedRule c.payload r)) 64 s), ok (b2n (!s.gate.activeB))) := by
  rw [← resultOf_byte8 (b2n _)]
  rfl

@[simp] theorem gateRule_markLoaded (s : State) (b : Bool) (r : Nat) : gateRule (markLoaded s) b r = gateRule s b r := rfl

theorem writeRules_succ (b : Bool) (f : Nat → GateRule) (n : Nat) (s : State) :
    writeRules b f (n + 1) s = setGateRule b n (f n) (writeRules b f n s) := by
  simp [writeRules, List.range_succ]

theorem writeRules_frame (b : Bool) (f : Nat → GateRule) (n : Nat) (s : State) :
    writeRules b f n s = { s with gate := { s.gate with rules := (writeRules b f n s).gate.rules } } := by
  induction n with
  | zero => rfl
  | succ n ih =>
    rw [writeRules_succ, ih]
    rfl

theorem markLoaded_writeRules_frame (b : Bool) (f : Nat → GateRule) (n : Nat) (s : State) :
    markLoaded (writeRules b f n s) = { s with
      gate := { s.gate with rules := (markLoaded (writeRules b f n s)).gate.rules, loaded := true } } := by
  rw [writeRules_frame]
  rfl

theorem gateRule_writeRules_same (b : Bool) (f : Nat → GateRule) {n r : Nat} (h : r < n) (s : State) :
    gateRule (writeRules b f n s) b r = f r := by
  induction n with
  | zero => omega
  | succ n ih =>
    rw [writeRules_succ]
    by_cases hrn : r = n
    · rw [hrn, gateRule_setGateRule_same]
    · rw [gateRule_setGateRule_otherRule hrn, ih (by omega)]

theorem gateRule_writeRules_otherSet (b : Bool) (f : Nat → GateRule) {n r : Nat} (hn : n ≤ 64) (hr : r < 64) (s : State) :
    gateRule (writeRules (!b) f n s) b r = gateRule s b r := by
  induction n with
  | zero => rfl
  | succ n ih => rw [writeRules_succ, gateRule_setGateRule_otherSet (by omega) hr, ih (by omega)]

/-! ## What an access reads of the state -/

/-- Two states are alike to an access: the same boot, and in force the same set with the same 64 rules. -/
structure GateAlike (s t : State) : Prop where
  boot : s.boot = t.boot
  activeB : s.gate.activeB = t.gate.activeB
  rules : ∀ r, r < 64 → gateRule s s.gate.activeB r = gateRule t s.gate.activeB r

theorem GateAlike.refl (s : State) : GateAlike s s := ⟨rfl, rfl, fun _ _ => rfl⟩

theorem GateAlike.symm {s t : State} (h : GateAlike s t) : GateAlike t s :=
  ⟨h.boot.symm, h.activeB.symm, fun r hr => by rw [← h.activeB]; exact (h.rules r hr).symm⟩

theorem GateAlike.trans {s t u : State} (h : GateAlike s t) (k : GateAlike t u) : GateAlike s u :=
  ⟨h.boot.trans k.boot, h.activeB.trans k.activeB, fun r hr => by rw [h.rules r hr, h.activeB]; exact k.rules r hr⟩

theorem gateAlike_setGateRule_inactive {r : Nat} (hr : r < 64) (v : GateRule) (s : State) :
    GateAlike (setGateRule (!s.gate.activeB) r v s) s :=
  ⟨rfl, rfl, fun _ hr' => gateRule_setGateRule_otherSet hr hr' s.gate.activeB v s⟩

/-- Writing one rule of the set in force on both sides keeps two states alike. -/
theorem GateAlike.setGateRule {s t : State} (h : GateAlike s t) (r : Nat) (v : GateRule) :
    GateAlike (setGateRule s.gate.activeB r v s) (setGateRule s.gate.activeB r v t) := by
  refine ⟨h.boot, h.activeB, fun r' hr' => ?_⟩
  simp only [setGateRule_activeB]
  by_cases heq : r' = r
  · rw [heq, gateRule_setGateRule_same, gateRule_setGateRule_same]
  · rw [gateRule_setGateRule_otherRule heq, gateRule_setGateRule_otherRule heq, h.rules r' hr']

theorem Told.gateAlike {s t : State} (h : Told s t) : GateAlike t s := by
  rw [h.rest]
  exact ⟨rfl, rfl, fun _ _ => rfl⟩

theorem GateAlike.raiseHeld {s t : State} (h : GateAlike s t) (owner code severity object detail detail' : Nat) :
    GateAlike (raiseHeld owner code severity object detail s) (raiseHeld owner code severity object detail' t) :=
  (((Told.refl s).raiseHeld ..).gateAlike.trans h).trans ((Told.refl t).raiseHeld ..).gateAlike.symm

theorem GateAlike.gateParity {s t : State} (h : GateAlike s t) {r : Nat} (hr : r < 64) :
    GateAlike (gateParity s.gate.activeB r s) (gateParity s.gate.activeB r t) := by
  unfold Machine.gateParity
  rw [← h.rules r hr]
  by_cases hfailed : (gateRule s s.gate.activeB r).parityFailed = true
  · rw [if_pos hfailed, if_pos hfailed]
    exact h
  · rw [if_neg hfailed, if_neg hfailed]
    exact (h.setGateRule r _).raiseHeld ..

/-- A scan that stays within the 64 rules of a set decides alike on states that are alike, and leaves them alike. -/
theorem GateAlike.gateScan {s t : State} (h : GateAlike s t) (req addr : Nat) (write dma : Bool) (bad : List Nat) {n r : Nat}
    (hn : r + n ≤ 64) :
    GateAlike (gateScan req addr write dma bad n r s).1 (gateScan req addr write dma bad n r t).1 ∧
      (gateScan req addr write dma bad n r s).2 = (gateScan req addr write dma bad n r t).2 := by
  induction n generalizing r s t with
  | zero => exact ⟨h, rfl⟩
  | succ n ih =>
    simp only [Machine.gateScan]
    have hread : GateAlike (if bad.contains r then Machine.gateParity s.gate.activeB r s else s)
        (if bad.contains r then Machine.gateParity t.gate.activeB r t else t) := by
      rw [← h.activeB]
      split_ifs
      · exact h.gateParity (by omega)
      · exact h
    rw [← hread.activeB, ← hread.rules r (by omega)]
    split
    · exact ⟨hread, rfl⟩
    · exact ih hread (by omega)

theorem GateAlike.gateLocked {s t : State} (h : GateAlike s t) (req addr : Nat) (write : Bool) :
    gateLocked s req addr write = gateLocked t req addr write := by
  have himage : imageBytes s = imageBytes t := by rw [imageBytes, imageBytes, h.boot]
  rw [Machine.gateLocked, Machine.gateLocked, inImage, inImage, himage]

theorem GateAlike.gateBaseline {s t : State} (h : GateAlike s t) (req addr : Nat) (dma : Bool) :
    gateBaseline s req addr dma = gateBaseline t req addr dma := by
  simp only [Machine.gateBaseline, inRecovery, h.boot]

/-- The verdict of an access is the same on states that are alike. -/
theorem GateAlike.gateCheck {s t : State} (h : GateAlike s t) (req addr : Nat) (write dma : Bool) (bad : List Nat) :
    (gateCheck req addr write dma bad s).2 = (gateCheck req addr write dma bad t).2 := by
  obtain ⟨hafter, hdecides⟩ := h.gateScan req addr write dma bad (n := 64) (r := 0) (by omega)
  rcases hs : Machine.gateScan req addr write dma bad 64 0 s with ⟨s', verdict⟩
  rcases ht : Machine.gateScan req addr write dma bad 64 0 t with ⟨t', verdict'⟩
  rw [hs, ht] at hafter hdecides
  obtain rfl : verdict = verdict' := hdecides
  simp only [Machine.gateCheck, h.gateLocked, hs, ht]
  split_ifs
  · rfl
  · rfl
  · rfl
  · rcases verdict with _ | _ | _
    · exact congrArg (fun allowed => if allowed then none else some 3) (hafter.gateBaseline req addr dma)
    · rfl
    · rfl

/-- Settles O24: the load is 64 writes into the inactive set, and a write there leaves the state as it was to every access. -/
theorem gateLoad : Obligations.GateLoad := by
  constructor
  · intro c s hpass
    refine ⟨_, answers_of_done hpass (by decide) (specGateLoad_effect c s), markLoaded_writeRules_frame _ _ _ s, ?loaded, ?active⟩
    case loaded =>
      intro r hr
      rw [gateRule_markLoaded, gateRule_writeRules_same _ _ hr]
      rfl
    case active =>
      intro r hr
      rw [gateRule_markLoaded, gateRule_writeRules_otherSet _ _ le_rfl hr]
  · intro req addr r write dma bad v s hr
    exact (gateAlike_setGateRule_inactive hr v s).gateCheck req addr write dma bad

/-! ## GATE_BARRIER -/

theorem exec_barrierDrainEnd_of_live {s : State} (h : s.live = true) :
    exec .barrierDrainEnd s = .next (completeRunning (fun r => r.isOp 0x0f04 && r.wait == .work)
      (fun _ => { status := stOk, result := resultOf [(8, s.gate.epoch)] }) s) :=
  act_of_live h _

/-- Settles O25: bytes 8 to 55 are all reserved, the effect is a wait under the gate table's lock, and the drain's end completes it. -/
theorem gateBarrier : Obligations.GateBarrier := by
  refine ⟨?parameters, ?waits, ?completes⟩
  case parameters =>
    intro c s _ hpf _ hlock hbits
    have hreserved : (c.reservedAt []).isSome = true := isSome_reservedAt hbits (by decide +kernel)
    exact checks_of_reserved hpf hlock hreserved
  case waits =>
    intro c s hpass
    exact hostOp_of_wait (t := s) (w := .work) hpass rfl
  case completes =>
    intro r s hlive hrunning hop hwait hxfer
    have hbarrier : (r.isOp 0x0f04 && r.wait == .work) = true := by simp [Running.isOp, hop, hwait]
    refine ⟨_, exec_barrierDrainEnd_of_live hlive, ?_⟩
    rw [resultOf_byte8, completeRunning_only hrunning hbarrier]
    exact answered_finishRunning hxfer stOk 0 s.gate.epoch _

end Sys2Proof.Machine
end

section
/-!
PROOFS. The machine as a whole: one step, the reset state, the halted device (16_tamper R474), and the laws of registers and tables.
-/
namespace Sys2Proof.Machine

open Sys2Proof

/-! ## Steps -/

/-- Settles O1: with a command at the front of the queue a step is, by its definition, that command's effect. -/
theorem stepRunsFrontCommand : Obligations.StepRunsFrontCommand := by
  intro c rest s
  rfl

theorem Told.tick {s t : State} (h : Told s t) : t.tick = s.tick := by rw [h.rest]

theorem countCycles_tick (s : State) : (countCycles s).tick = s.tick :=
  (((Told.refl s).pmcEvent _ _ _).pmcEvent _ _ _).tick

theorem tickDevice_of_unpowered {s : State} (h : s.powered = false) : tickDevice s = s := by simp [tickDevice, h]

theorem tickDevice_of_standing {s : State} (hpower : s.powered = true) (h : s.halted = true ∨ s.power.rootLock = false) :
    tickDevice s = { s with tick := s.tick + 1 } := by
  have hstands : (s.halted || !s.power.rootLock) = true := by simpa using h
  simp [tickDevice, hpower, hstands]

theorem tickDevice_tick {s : State} (hpower : s.powered = true) : (tickDevice s).tick = s.tick + 1 := by
  by_cases h : s.halted = true ∨ s.power.rootLock = false
  · rw [tickDevice_of_standing hpower h]
  · have hruns : (s.halted || !s.power.rootLock) = false := by simpa using h
    simp only [tickDevice, hpower, hruns, Bool.not_true, Bool.false_eq_true, if_false, tickClocks, countCycles_tick]

/-- Settles O2: a step on an empty queue is a tick of the device, which the power and the clocks decide. -/
theorem emptyQueueTicks : Obligations.EmptyQueueTicks := by
  intro s hempty
  refine ⟨tickDevice s, by rw [step, hempty], tickDevice_tick, tickDevice_of_unpowered, ?_⟩
  exact fun hpower hstands => tickDevice_of_standing hpower hstands

/-- Settles O3: reset leaves every field at its default, and a read of an empty table is its default. -/
theorem resetState : Obligations.ResetState := by
  unfold Obligations.ResetState
  refine ⟨rfl, rfl, rfl, rfl, rfl, rfl, fun _ => rfl, fun _ => rfl, fun _ => rfl, rfl, rfl, fun _ => rfl, fun _ => ⟨rfl, rfl⟩,
    fun _ => rfl, rfl, rfl, rfl, rfl, rfl, rfl, rfl, rfl, rfl, rfl, rfl, rfl, rfl, rfl, rfl, rfl, rfl, rfl, rfl, rfl, rfl, rfl,
    fun _ => rfl⟩

/-! ## The halted device -/

/-- Outputs of a halted device: the zeros of register reads, and what the I2C target returns (16_tamper R474). -/
def Output.ofHalted (o : Output) : Prop := (∃ fn, o = .readData fn 0) ∨ ∃ bs, o = .i2c bs

/-- From `s` to `t` nothing has changed but what may change on a halted device: the tick count, main power, the battery domain's
records, the I2C pointer, and the transcript by what a halted device still returns. -/
structure TakesNoPart (s t : State) : Prop where
  rest : t = { s with
    out := t.out, tick := t.tick, powered := t.powered, attar := t.attar, tamper := t.tamper, power := t.power }
  slots : t.attar.slots = s.attar.slots
  out : ∃ os, t.out = os ++ s.out ∧ ∀ o ∈ os, o.ofHalted

theorem TakesNoPart.refl (s : State) : TakesNoPart s s := ⟨rfl, rfl, [], rfl, by simp⟩

theorem TakesNoPart.trans {s t u : State} (h : TakesNoPart s t) (k : TakesNoPart t u) : TakesNoPart s u := by
  obtain ⟨os, hos, hall⟩ := h.out
  obtain ⟨ps, hps, pall⟩ := k.out
  refine ⟨?_, k.slots.trans h.slots, ps ++ os, by rw [hps, hos, List.append_assoc], ?_⟩
  · have hk := k.rest
    rw [h.rest] at hk
    exact hk
  · intro o ho
    exact (List.mem_append.mp ho).elim (pall o) (hall o)

theorem TakesNoPart.emit (s : State) {o : Output} (h : o.ofHalted) : TakesNoPart s (emit o s) :=
  ⟨rfl, rfl, [o], rfl, by simpa using h⟩

theorem TakesNoPart.setSource (n : Nat) (v : TamperSource) (s : State) : TakesNoPart s (setSource n v s) :=
  ⟨rfl, rfl, [], rfl, by simp⟩

theorem TakesNoPart.countZeroise (powered : Bool) (s : State) : TakesNoPart s (countZeroise powered s) := by
  unfold Machine.countZeroise
  dsimp only
  split_ifs
  · exact .refl s
  · exact ⟨rfl, rfl, [], rfl, by simp⟩
  · exact ⟨rfl, rfl, [], rfl, by simp⟩

theorem TakesNoPart.recordOnset (n : Nat) (s : State) : TakesNoPart s (recordOnset n s) := .setSource ..

theorem TakesNoPart.withoutKeeper (s : State) : TakesNoPart s { s with attar := { s.attar with keeper := none } } :=
  ⟨rfl, rfl, [], rfl, by simp⟩

theorem TakesNoPart.onsetOnCell (n : Nat) (s : State) : TakesNoPart s (onsetOnCell n s) := by
  unfold Machine.onsetOnCell
  dsimp only
  split_ifs
  · exact .refl s
  · exact .setSource ..
  · exact ((TakesNoPart.recordOnset n s).trans (.withoutKeeper _)).trans (.countZeroise false _)
  · exact .recordOnset n s

theorem TakesNoPart.onsetsOnCell (ns : List Nat) (s : State) : TakesNoPart s (ns.foldl (fun s n => Machine.onsetOnCell n s) s) := by
  induction ns generalizing s with
  | nil => exact .refl s
  | cons n ns ih => exact .trans (.onsetOnCell n s) (ih _)

theorem TakesNoPart.batteryLoss (s : State) : TakesNoPart s (batteryLoss s) := ⟨rfl, rfl, [], rfl, by simp⟩

theorem TakesNoPart.tickDevice {s : State} (h : s.halted = true) : TakesNoPart s (tickDevice s) := by
  cases hpower : s.powered with
  | false => rw [tickDevice_of_unpowered hpower]; exact .refl s
  | true => rw [tickDevice_of_standing hpower (.inl h)]; exact ⟨rfl, rfl, [], rfl, by simp⟩

/-- What a halted device makes of a command that acts only on one that runs. -/
theorem TakesNoPart.act {s : State} (h : s.halted = true) (f : State → State) : Gives (act f s) (TakesNoPart s) :=
  ⟨s, act_halted h f, .refl s⟩

theorem TakesNoPart.actRead {s : State} (h : s.halted = true) (fn : Nat) (f : State → State) :
    Gives (actRead fn f s) (TakesNoPart s) := by
  cases hpower : s.powered with
  | false => exact ⟨s, by simp [Machine.actRead, hpower], .refl s⟩
  | true =>
    refine ⟨Machine.emit (.readData fn 0) s, ?_, .emit s (.inl ⟨fn, rfl⟩)⟩
    simp [Machine.actRead, hpower, h, Machine.emit]

/-- Every command that leaves VDD_CORE in place leaves a halted device as it is, but for what its battery domain, its clock and its
I2C target do: all rows act on a running device only, but for the few that are named here. -/
theorem exec_of_halted {s : State} (h : s.halted = true) {i : Instr} (hi : endsHalt i = false) :
    Gives (exec i s) (TakesNoPart s) := by
  cases i with
  | counterLowRead | pmcSlotLowRead | genBadAccessRead | cmdEqLostRead | selParityCountRead | saFlushStatusRead | gateViolCountRead
  | timSnapNsRead =>
    dsimp only [exec]
    exact TakesNoPart.actRead h _ _
  | badRegisterAccess fn read =>
    simp only [exec, execBadRegisterAccess]
    split_ifs
    · exact TakesNoPart.actRead h _ _
    · exact TakesNoPart.act h _
  | i2cPointerWrite data =>
    refine ⟨_, rfl, ?_⟩
    cases data with
    | nil => exact .refl s
    | cons b bs =>
      dsimp only
      split_ifs
      · exact ⟨rfl, rfl, [], rfl, by simp⟩
      · exact .refl s
  | i2cRead n =>
    refine ⟨_, rfl, ?_⟩
    dsimp only
    split_ifs
    · exact ⟨rfl, rfl, [_], rfl, by simp [Output.ofHalted]⟩
    · exact .refl s
  | tamperPinOnCell sources =>
    exact ⟨_, rfl, .trans (t := { s with powered := false }) ⟨rfl, rfl, [], rfl, by simp⟩ (.onsetsOnCell sources _)⟩
  | tamperConditionEnd source =>
    refine ⟨_, rfl, ?_⟩
    dsimp only
    split_ifs
    · exact .setSource ..
    · exact .refl s
  | powerOnReset cause removed off vpp refclk banks board =>
    have hremoved : removed = false := hi
    refine ⟨s, ?_, .refl s⟩
    simp [exec, execPowerOnReset, always, powerOn, h, hremoved]
  | batteryLoss => exact ⟨_, rfl, .batteryLoss s⟩
  | debugAccess addr write value badRules =>
    refine ⟨s, ?_, .refl s⟩
    simp [exec, execDebugAccess, h]
  | _ =>
    dsimp only [exec]
    exact TakesNoPart.act h _

/-- A step of a halted device that keeps VDD_CORE: its queue loses at most its front, and nothing takes part. -/
theorem step_of_staysHalted {s t : State} (hs : s.staysHalted = true) (ht : step s = .next t) :
    ∃ rest, rest <:+ s.pending ∧ TakesNoPart { s with pending := rest } t := by
  obtain ⟨hhalt, hkeeps⟩ : s.halted = true ∧ s.pending.all (fun i => !endsHalt i) = true := by
    simpa [State.staysHalted] using hs
  cases hp : s.pending with
  | nil =>
    have hstep : tickDevice s = t := by simpa [step, hp] using ht
    refine ⟨[], List.nil_suffix, ?_⟩
    rw [← hp, ← hstep]
    exact .tickDevice hhalt
  | cons i rest =>
    have hi : endsHalt i = false := by simp [hp] at hkeeps; exact hkeeps.1
    obtain ⟨u, hu, hpart⟩ := exec_of_halted (s := { s with pending := rest }) hhalt hi
    have htu : u = t := by
      have hstep : exec i { s with pending := rest } = .next t := by simpa [step, hp] using ht
      exact Host.Outcome.next.inj (hu.symm.trans hstep)
    exact ⟨rest, List.suffix_cons i rest, htu ▸ hpart⟩

/-- Settles O4: a step of a halted device is a tick or a row that takes no part, and its queue is a rest of the old one. -/
theorem haltedDeviceStaysHalted : Obligations.HaltedDeviceStaysHalted := by
  intro s t hs ht
  obtain ⟨rest, hrest, hpart⟩ := step_of_staysHalted hs ht
  obtain ⟨hhalt, hkeeps⟩ : s.halted = true ∧ ∀ i ∈ s.pending, endsHalt i = false := by
    simpa [State.staysHalted] using hs
  have hstays : t.staysHalted = true := by
    rw [hpart.rest]
    simpa [State.staysHalted, hhalt] using fun i hi => hkeeps i (hrest.subset hi)
  refine ⟨hstays, ?_, ?_, ?_, ?_, ?_, ?_, ?_, ?_, ?_, ?_, ?_, ?_, ?_, ?_, ?_, ?_, ?_, ?_, ?_, ?_, hpart.slots, hpart.out⟩
  all_goals rw [hpart.rest]

/-! ## Registers, functions and counters -/

theorem counter_countBy_uncounted {off : Nat} (h : pmcOfCounter off = none) (n : Nat) (s : State) (o : Nat) :
    counter (countBy off n s) o = if o = off then counter s off + BitVec.ofNat 64 n else counter s o := by
  simp only [countBy, h]
  split_ifs with ho
  · rw [ho, counter_put_same]
  · exact counter_put_ne ho s _

/-- Settles O5: the laws of the named updates, read off for an index that is, or is not, the one written. -/
theorem registerFileLaws : Obligations.RegisterFileLaws := by
  refine ⟨fun a b w s => ?register, fun f g v s => ?function, fun f g n m q s hn hm => ?queuePair,
    fun off o n s h => counter_countBy_uncounted h n s o⟩
  case register =>
    split_ifs with h
    · rw [h, reg_setReg_same]
    · exact reg_setReg_ne h w s
  case function =>
    split_ifs with h
    · rw [h, fnOf_setFn_same]
    · exact fnOf_setFn_ne h v s
  case queuePair =>
    split_ifs with h
    · rw [h.1, h.2, qpOf_setQp_same hn]
    · exact qpOf_setQp_ne hn hm h q s

theorem Table.find_put_default {α : Type} [DecidableEq α] (t : Table α) (d : α) (k : Nat) : (t.put d k d).find k = none := by
  rw [Table.put, if_pos rfl, Table.find_erase_same]

/-- Settles O6: the laws of tables, for the registers' words. -/
theorem tableCanonicalForm : Obligations.TableCanonicalForm := by
  intro t d v k hwf
  refine ⟨Table.wf_put hwf d k v, Table.wf_erase hwf k, Table.get_put_same t d k v, Table.find_put_default t d k, fun j hj => ?_⟩
  exact ⟨Table.find_put_ne hj t d v, Table.find_erase_ne hj t⟩

end Sys2Proof.Machine
end

section
/-!
PROOFS. The command channel (02_command_channel): queue pairs' doorbells and fetches, how CPU_CTL begins a command, the event queue and
coalescing.
-/
namespace Sys2Proof.Machine

open Sys2Proof

theorem actRead_of_live {s : State} (h : s.live = true) (fn : Nat) (f : State → State) : actRead fn f s = .next (f s) := by
  obtain ⟨hrun, hpower, hotp⟩ := State.live_iff.mp h
  simp [actRead, hrun, hpower, hotp]

theorem State.serving_iff {s : State} : s.serving = true ↔ s.live = true ∧ s.cmdReady = true := by simp [State.serving]

/-! ## Doorbells, disable and fetch -/

/-- No running command satisfies a condition. -/
def NoneRuns (p : Running → Bool) (s : State) : Prop := ∀ r ∈ s.running, p r = false

theorem stopRunning_of_none {p : Running → Bool} {s : State} (h : NoneRuns p s) (status detail : Nat) :
    stopRunning p status detail s = s := by
  have hstopped : s.running.filter p = [] := List.filter_eq_nil_iff.mpr fun r hr => by simp [h r hr]
  have hkept : s.running.filter (fun r => !p r) = s.running := List.filter_eq_self.mpr fun r hr => by simp [h r hr]
  simp only [stopRunning, hstopped, hkept, List.foldl_nil]

theorem qpDisable_of_none {fn qp : Nat} {s : State} (h : NoneRuns (fun r => r.cmd.fn == fn && r.cmd.qp == qp) s) (w : Word) :
    qpDisable fn qp w s = setReg (qpReg fn qp 0x10) (qpCtrlBits w) s := by
  unfold qpDisable
  exact stopRunning_of_none (fun r hr => by simp [h r hr]) _ _

/-- A fetch that the pair may make and that PCIe carries out. -/
def fetchedPair (s : State) (f n : Nat) (packet : BitVec 512) : QueuePair :=
  { qpOf s f n with
    sqHead := ((qpOf s f n).sqHead + 1) % sqSize s f n, seq := ((qpOf s f n).seq + 1) % 32768
    reserved := (qpOf s f n).reserved + 1, fetched := (qpOf s f n).fetched ++ [{ packet, seq := (qpOf s f n).seq }] }

theorem fetchCommand_of_fetchable {f n : Nat} {s : State} (h : fetchable s f n = true) (packet : BitVec 512) :
    fetchCommand f n packet true s = setQp f n (fetchedPair s f n packet) s := by
  simp [fetchCommand, h, fetchedPair]

theorem fetchCommand_of_failed_read {f n : Nat} {s : State} (h : fetchable s f n = true) (packet : BitVec 512) :
    fetchCommand f n packet false s = queueError f n (busBase s (qpReg f n 0) + 64 * (qpOf s f n).sqHead) s := by
  simp [fetchCommand, h]

theorem fetchCommand_of_not_fetchable {f n : Nat} {s : State} (h : fetchable s f n = false) (packet : BitVec 512) (read : Bool) :
    fetchCommand f n packet read s = s := by
  simp [fetchCommand, h]

/-- Settles O8: each row is one or two named writes, and their laws say what moves and what stays. -/
theorem queuePairWork : Obligations.QueuePairWork := by
  intro fn qp w s hlive hqp
  refine ⟨fun hnone => ?disable, fun hen hin => ?tail, fun hout => ?tailRefused, fun hen hin => ?head, fun packet hfetch => ?fetch⟩
  case disable =>
    have hnone : NoneRuns (fun r => r.cmd.fn == fn && r.cmd.qp == qp) s := by
      intro r hr
      simpa [imp_iff_not_or] using List.all_eq_true.mp hnone r hr
    exact (act_of_live hlive _).trans (congrArg _ (qpDisable_of_none hnone w))
  case tail =>
    refine (act_of_live hlive _).trans (congrArg _ ?_)
    simp [sqTailWrite, hen, hin]
  case tailRefused =>
    refine (act_of_live hlive _).trans (congrArg _ ?_)
    have hrefused : ¬(qpEnabled s fn qp && decide (bitsOf w.toNat 0 12 < sqSize s fn qp)) = true := by
      rcases hout with hout | hout
      · simp [hout]
      · simp [Nat.not_lt.mpr hout]
    simp only [sqTailWrite, if_neg hrefused, regOr]
  case head =>
    refine ⟨_, act_of_live hlive _, ?_⟩
    simp only [cqHeadWrite, hen, hin, decide_true, Bool.and_self, if_true]
    refine ⟨reg_setReg_same .., by simp [hqp], rfl, fun a ha => by simp [reg_setReg_ne ha], fun g m hm hother => ?_⟩
    simp [qpOf_setQp_ne hqp hm hother]
  case fetch =>
    refine ⟨_, act_of_live hlive _, ?_⟩
    rw [fetchCommand_of_fetchable hfetch]
    exact ⟨qpOf_setQp_same hqp .., rfl, fun g m hm hother => qpOf_setQp_ne hqp hm hother _ _⟩

/-! ## A fetch and the slots of the CQ -/

theorem cqSize_setQp (f n : Nat) (q : QueuePair) (s : State) : cqSize (setQp f n q s) f n = cqSize s f n := rfl

theorem lt_cqSize_of_fetchable {s : State} {f n : Nat} (h : fetchable s f n = true) : cqBusy s f n < cqSize s f n := by
  simp only [fetchable, Bool.and_eq_true, decide_eq_true_eq] at h
  exact h.2

/-- From `s` to `t` no record of a queue pair has changed. -/
structure PairsKept (s t : State) : Prop where
  pair : ∀ f n, qpOf t f n = qpOf s f n

theorem PairsKept.refl (s : State) : PairsKept s s := ⟨fun _ _ => rfl⟩

theorem PairsKept.trans {s t u : State} (h : PairsKept s t) (k : PairsKept t u) : PairsKept s u :=
  ⟨fun f n => (k.pair f n).trans (h.pair f n)⟩

theorem PairsKept.of_fns {s t : State} (h : t.fns = s.fns) : PairsKept s t := ⟨fun f n => by simp only [qpOf, fnOf, h]⟩

theorem PairsKept.setFn {f : Nat} {v : Function} {s : State} (h : ∀ n, v.qp n = (fnOf s f).qp n) : PairsKept s (setFn f v s) := by
  refine ⟨fun g n => ?_⟩
  by_cases hg : g = f
  · rw [hg, qpOf, fnOf_setFn_same, h, qpOf]
  · rw [qpOf, fnOf_setFn_ne hg, qpOf]

/-- What every step of a fold keeps, the fold keeps. -/
theorem foldl_keeps {α β σ : Type} (get : σ → β) {f : σ → α → σ} (h : ∀ s x, get (f s x) = get s) (xs : List α) (s : σ) :
    get (xs.foldl f s) = get s := by
  induction xs generalizing s with
  | nil => rfl
  | cons x xs ih => rw [List.foldl_cons, ih, h]

@[simp] theorem driveAll_fns (function : Nat) (level : Bool) (s : State) : (driveAll function level s).fns = s.fns :=
  foldl_keeps State.fns (f := fun s g => drive g level s) (fun _ _ => rfl) _ s

@[simp] theorem setReg_fns (a : Nat) (w : Word) (s : State) : (setReg a w s).fns = s.fns := rfl
@[simp] theorem regOr_fns (a : Nat) (m : Word) (s : State) : (regOr a m s).fns = s.fns := rfl

@[simp] theorem msix_fns (f v : Nat) (s : State) : (msix f v s).fns = s.fns := by
  unfold msix
  dsimp only
  split_ifs
  · rw [driveAll_fns, regOr_fns]
  · rw [regOr_fns]
  · rfl

@[simp] theorem reportEvent_fns (e : Event) (s : State) : (reportEvent e s).fns = s.fns := by
  unfold reportEvent
  dsimp only
  split_ifs <;> rfl

theorem pairsKept_loseEvent (f : Nat) (s : State) : PairsKept s (loseEvent f s) := by
  unfold loseEvent
  exact .trans (t := regCount16 (bar0 f 0x194) s) (.of_fns rfl) (.setFn fun _ => rfl)

theorem pairsKept_reportEvent (e : Event) (s : State) : PairsKept s (reportEvent e s) := .of_fns (reportEvent_fns e s)

theorem pairsKept_writeEvent (f : Nat) (e : Event) (s : State) : PairsKept s (writeEvent f e s) := by
  unfold writeEvent
  dsimp only
  refine .trans ?_ (.of_fns (msix_fns ..))
  by_cases hf : f = 0
  · rw [if_pos hf]
    refine .trans ?_ (pairsKept_reportEvent e _)
    exact .trans (t := emit _ s) (.of_fns rfl) (.setFn fun _ => rfl)
  · rw [if_neg hf]
    exact .trans (t := emit _ s) (.of_fns rfl) (.setFn fun _ => rfl)

theorem pairsKept_postTo (f : Nat) (e : Event) (s : State) : PairsKept s (postTo f e s) := by
  unfold postTo
  split_ifs
  · exact .refl s
  · exact pairsKept_loseEvent f s
  · refine .trans ?_ (.of_fns (msix_fns ..))
    refine .trans ?_ (pairsKept_loseEvent f _)
    exact .trans (t := regOr (bar0 f 0x190) 8 s) (.of_fns rfl) (.setFn fun _ => rfl)
  · exact pairsKept_writeEvent f e s

theorem pairsKept_post (owner : Nat) (e : Event) (s : State) : PairsKept s (post owner e s) := by
  have howner : PairsKept s (if owner = 0 then s else postTo owner e s) := by
    split_ifs
    · exact .refl s
    · exact pairsKept_postTo owner e s
  unfold post
  dsimp only
  refine howner.trans ?_
  generalize (if owner = 0 then s else postTo owner e s) = u
  split_ifs
  · exact pairsKept_postTo 0 e u
  · exact .of_fns rfl
  · exact pairsKept_loseEvent 0 u

theorem isReportReg_qpCtrl (f n : Nat) (h : n < 4) : isReportReg (qpReg f n 0x10) = false := by
  have hoff : qpReg f n 0x10 % 0x10000 = 0x110 + 0x20 * n := by unfold qpReg bar0; omega
  have : n = 0 ∨ n = 1 ∨ n = 2 ∨ n = 3 := by omega
  unfold isReportReg
  rw [hoff]
  rcases this with rfl | rfl | rfl | rfl <;> simp

theorem Told.cqSize {s t : State} (h : Told s t) (f : Nat) {n : Nat} (hn : n < 4) : cqSize t f n = cqSize s f n := by
  simp only [Machine.cqSize, regField, h.regs _ (isReportReg_qpCtrl f n hn)]

/-- A pair that stops on a PCIe error keeps the slots of its CQ. -/
theorem cqBusy_queueError {n : Nat} (hn : n < 4) (f addr : Nat) (s : State) : cqBusy (queueError f n addr s) f n = cqBusy s f n := by
  have hpair : qpOf (queueError f n addr s) f n = { qpOf s f n with stopped := true } := by
    unfold queueError raiseFor
    dsimp only
    rw [(PairsKept.of_fns (msix_fns ..)).pair f n, (pairsKept_post _ _ _).pair f n, qpOf_setQp_same hn]
    rfl
  rw [cqBusy, hpair, cqBusy]

/-- Settles O9: a fetch that succeeds reserves one slot where one is free, and any other outcome leaves the slots as they are. -/
theorem completionQueueNeverOverflows : Obligations.CompletionQueueNeverOverflows := by
  intro fn qp packet read s hlive hqp hfits
  refine ⟨_, act_of_live hlive _, ?_⟩
  cases hfetch : fetchable s fn qp with
  | false => rwa [fetchCommand_of_not_fetchable hfetch]
  | true =>
    cases read with
    | true =>
      have hfree := lt_cqSize_of_fetchable hfetch
      rw [fetchCommand_of_fetchable hfetch, cqSize_setQp, cqBusy, qpOf_setQp_same hqp]
      simp only [fetchedPair]
      unfold cqBusy at hfree
      omega
    | false =>
      rw [fetchCommand_of_failed_read hfetch, cqBusy_queueError hqp, ((Told.refl s).queueError hqp ..).cqSize fn hqp]
      exact hfits

/-! ## Beginning a command -/

/-- A command's turn has come: the turn goes on to the next function and pair, and the oldest fetched command leaves its pair. -/
def turnTaken (fn qp : Nat) (rest : List Fetched) (s : State) : State :=
  setFn fn (({ fnOf s fn with nextQp := (qp + 1) % 4 } : Function).setQp qp
    { qpOf s fn qp with fetched := rest, cqFails := false }) { s with nextFn := (fn + 1) % 32 }

/-- The command that a fetched packet makes. -/
def Fetched.cmd (h : Fetched) (fn qp : Nat) : Cmd := { fn, qp, seq := h.seq, packet := h.packet, payload := [] }

/-- What CPU_CTL does with a command whose turn has come. -/
def beginListed (c : Cmd) (s : State) : State :=
  match specOf c.opcode with
  | none => postCompletion c stBadOpcode 0 0 s
  | some x => beginCommand x c s

theorem exec_commandBegin {fn qp : Nat} {h : Fetched} {rest : List Fetched} {s : State} (hserving : s.serving = true)
    (hbroadcast : s.domain.broadcast = []) (hnext : nextSq s = some (fn, qp)) (hfetched : (qpOf s fn qp).fetched = h :: rest) :
    exec (.commandBegin true) s = .next (beginListed (h.cmd fn qp) (turnTaken fn qp rest s)) := by
  obtain ⟨hlive, hready⟩ := State.serving_iff.mp hserving
  refine (act_of_live hlive _).trans (congrArg _ ?_)
  rw [beginNext, if_neg (by simp [hready]), if_neg (by simp [hbroadcast])]
  simp only [hnext, hfetched]
  rfl

theorem beginListed_of_unlisted {c : Cmd} (h : specOf c.opcode = none) (s : State) :
    beginListed c s = postCompletion c stBadOpcode 0 0 s := by simp only [beginListed, h]

theorem beginListed_of_failing {c : Cmd} {x : OpSpec} {s : State} {st d : Nat} (h : specOf c.opcode = some x)
    (hpayload : x.payloadLength c = 0) (hfails : checks x c s = some (st, d)) :
    beginListed c s = postCompletion c st d (x.failResult c s st d) s := by
  simp [beginListed, h, beginCommand, hpayload, hfails]

theorem beginListed_of_done {c : Cmd} {x : OpSpec} {s t : State} {r : Reply} (h : specOf c.opcode = some x)
    (hpayload : x.payloadLength c = 0) (hpass : checks x c s = none) (heff : x.effect c s = (t, .done r)) (hdata : r.data = []) :
    beginListed c s = mirrorCommand c r.status (finish c r t) := by
  simp [beginListed, h, beginCommand, hpayload, hpass, heff, hdata]

/-- Settles O10: the turn of a fetched command, and what its opcode's row makes of it. -/
theorem commandBegins : Obligations.CommandBegins := by
  intro fn qp h rest s hserving hbroadcast hnext hfetched
  refine ⟨turnTaken fn qp rest s, rfl, ?_⟩
  rintro c rfl
  rw [exec_commandBegin hserving hbroadcast hnext hfetched]
  refine ⟨fun hunlisted => congrArg _ (beginListed_of_unlisted hunlisted _), fun x hx hpayload => ⟨?_, ?_⟩⟩
  · exact fun st d hfails => congrArg _ (beginListed_of_failing hx hpayload hfails)
  · exact fun t r hpass heff hdata => congrArg _ (beginListed_of_done hx hpayload hpass heff hdata)

/-! ## The event queue -/

theorem postLost_of_none_owed {f : Nat} {s : State} (h : (fnOf s f).eqOwed = 0) : postLost f s = s := by simp [postLost, h]

/-- An event queue's record as an enable starts it afresh (R65). -/
def Function.eqAfresh (F : Function) (writable : Bool) : Function :=
  { F with eqTail := 0, eqUnread := 0, eqSeq := 0, eqPhase := true, eqStopped := false, eqFails := !writable }

@[simp] theorem setFn_eqSeen (f : Nat) (v : Function) (s : State) : (setFn f v s).eqSeen = s.eqSeen := rfl
@[simp] theorem setReg_eqSeen (a : Nat) (w : Word) (s : State) : (setReg a w s).eqSeen = s.eqSeen := rfl

theorem eqEnable_of_valid {fn : Nat} {w : Word} {s : State} (hoff : eqEnabled s fn = false) (hlow : 4 ≤ bitsOf w.toNat 8 4)
    (hhigh : bitsOf w.toNat 8 4 ≤ 12) (hseen : fn ≠ 0 ∨ s.eqSeen = true) (howed : (fnOf s fn).eqOwed = 0) (writable : Bool) :
    eqEnable fn w writable s = setFn fn ((fnOf s fn).eqAfresh writable)
      (setReg (bar0 fn 0x18c) 0 (setReg (bar0 fn 0x188) (w &&& 0xf01) s)) := by
  have hsize : (decide (4 ≤ bitsOf w.toNat 8 4) && decide (bitsOf w.toNat 8 4 ≤ 12)) = true := by simp [hlow, hhigh]
  have hnotFirst : (decide (fn = 0) && !s.eqSeen) = false := by
    rcases hseen with h | h
    · simp [h]
    · simp [h]
  rw [eqEnable, if_neg (by simp [hoff]), if_pos hsize]
  simp only [fnOf_setReg, setFn_eqSeen, setReg_eqSeen, hnotFirst, Bool.false_eq_true, if_false]
  apply postLost_of_none_owed
  rw [fnOf_setFn_same]
  exact howed

theorem fnOf_of_fns {s t : State} (h : t.fns = s.fns) (f : Nat) : fnOf t f = fnOf s f := by simp only [fnOf, h]

/-- The entry that an event gets in a function's EQ (R63). -/
def eventEntry (f : Nat) (e : Event) (s : State) : Output :=
  .event f (busBase s (bar0 f 0x180) + 32 * (fnOf s f).eqTail)
    { event := e, phase := (fnOf s f).eqPhase, sequence := (fnOf s f).eqSeq % 2 ^ 32 }

/-- A function's record once an event is written to its EQ. -/
def Function.eqWritten (F : Function) (size : Nat) : Function :=
  { F with eqTail := (F.eqTail + 1) % size, eqUnread := F.eqUnread + 1, eqSeq := F.eqSeq + 1
           eqPhase := if (F.eqTail + 1) % size = 0 then !F.eqPhase else F.eqPhase }

theorem writeEvent_eq (f : Nat) (e : Event) (s : State) :
    writeEvent f e s = msix f (if e.severity = 3 ∨ e.code = 0x0f03 then 2 else 1)
      (if f = 0 then reportEvent e (setFn f ((fnOf s f).eqWritten (eqSize s f)) (emit (eventEntry f e s) s))
       else setFn f ((fnOf s f).eqWritten (eqSize s f)) (emit (eventEntry f e s) s)) := rfl

theorem fnOf_writeEvent (f : Nat) (e : Event) (s : State) :
    fnOf (writeEvent f e s) f = (fnOf s f).eqWritten (eqSize s f) := by
  rw [writeEvent_eq, fnOf_of_fns (msix_fns ..)]
  by_cases hf : f = 0
  · rw [if_pos hf, fnOf_of_fns (reportEvent_fns ..), fnOf_setFn_same]
  · rw [if_neg hf, fnOf_setFn_same]

/-- An event that is written leaves first, and what follows it is reporting. -/
theorem told_writeEvent (f : Nat) (e : Event) (s : State) : Told (emit (eventEntry f e s) s) (writeEvent f e s) := by
  rw [writeEvent_eq]
  apply Told.msix
  have hset : Told (emit (eventEntry f e s) s) (setFn f ((fnOf s f).eqWritten (eqSize s f)) (emit (eventEntry f e s) s)) :=
    (Told.refl _).setFn rfl
  by_cases hf : f = 0
  · rw [if_pos hf]; exact hset.reportEvent e
  · rw [if_neg hf]; exact hset

theorem postTo_of_masked {f : Nat} {e : Event} {s : State} (h : eventMasked (fnOf s f) e = true) : postTo f e s = s := by
  rw [postTo, if_pos h]

theorem postTo_of_closed {f : Nat} {e : Event} {s : State} (h : eventMasked (fnOf s f) e = false)
    (hclosed : eqEnabled s f = false ∨ eqSize s f ≤ (fnOf s f).eqUnread) : postTo f e s = loseEvent f s := by
  have hclosed : (!eqEnabled s f || (fnOf s f).eqStopped || eqFull s f) = true := by
    rcases hclosed with h | h
    · simp [h]
    · simp [eqFull, h]
  rw [postTo, if_neg (by simp [h]), if_pos hclosed]

theorem postTo_of_open {f : Nat} {e : Event} {s : State} (h : eventMasked (fnOf s f) e = false) (hen : eqEnabled s f = true)
    (hroom : (fnOf s f).eqUnread < eqSize s f) (hstopped : (fnOf s f).eqStopped = false) (hfails : (fnOf s f).eqFails = false) :
    postTo f e s = writeEvent f e s := by
  have hopen : ¬(!eqEnabled s f || (fnOf s f).eqStopped || eqFull s f) = true := by simp [hen, hstopped, eqFull, hroom]
  rw [postTo, if_neg (by simp [h]), if_neg hopen, if_neg (by simp [hfails])]

theorem severity_of_masked {F : Function} {e : Event} (h : eventMasked F e = true) : e.severity < 3 := by
  simp only [eventMasked, Bool.and_eq_true, decide_eq_true_eq] at h
  exact h.1

theorem OnlyRegsFns.setFn {s t : State} (h : OnlyRegsFns s t) (f : Nat) (v : Function) : OnlyRegsFns s (setFn f v t) := by
  unfold OnlyRegsFns at h
  rw [h]
  rfl

/-- Settles O11: the registers' rows by the laws of the named writes, and one event by the outcomes of posting it. -/
theorem eventQueue : Obligations.EventQueue := by
  refine ⟨fun fn w s hlive => ⟨?enable, ?head, ?lost, ?delay⟩, fun f e s => ⟨?masked, ?discarded, ?written⟩⟩
  case enable =>
    intro writable hoff hlow hhigh hseen howed
    refine ⟨_, act_of_live hlive _, ?_⟩
    rw [eqEnable_of_valid hoff hlow hhigh hseen howed]
    refine ⟨fnOf_setFn_same .., ?_, by simp, (((OnlyRegsFns.refl s).setReg ..).setReg ..).setFn .., fun a h1 h2 => by simp [reg_setReg_ne, h1, h2],
      fun g hg => by simp [fnOf_setFn_ne hg]⟩
    simp [reg_setReg_ne, bar0]
  case head =>
    intro howed
    refine ⟨_, act_of_live hlive _, ?_⟩
    rw [eqHeadWrite, postLost_of_none_owed (by simpa using howed)]
    exact ⟨by simp, by simp, ((OnlyRegsFns.refl s).setFn ..).setReg .., fun a ha => by simp [reg_setReg_ne ha], fun g hg => by simp [fnOf_setFn_ne hg]⟩
  case lost =>
    dsimp only [exec, execCmdEqLostRead]
    exact actRead_of_live hlive _ _
  case delay =>
    intro hruns
    refine (act_of_live hlive _).trans (congrArg _ ?_)
    rw [if_pos hruns, signalCompletions]
  case masked => exact fun hmasked => ⟨postTo_of_masked hmasked, severity_of_masked hmasked⟩
  case discarded =>
    intro hmasked hclosed
    rw [postTo_of_closed hmasked hclosed]
    refine ⟨rfl, ?_, ?_⟩
    · simp only [loseEvent, reg_setFn, regCount16, reg_setReg_same, satAdd, BitVec.toNat_ofNat]
      omega
    · rw [loseEvent, fnOf_setFn_same]
      rfl
  case written =>
    intro hmasked hen hroom hstopped hfails
    rw [postTo_of_open hmasked hen hroom hstopped hfails, fnOf_writeEvent]
    exact ⟨(Told.refl s).writeEvent f e, rfl, rfl, (told_writeEvent f e s).out⟩

/-! ## Coalescing -/

/-- The end of a hold's window (R636): nothing gathered any more. -/
def reopenHold (code scope : Nat) (s : State) : State :=
  { s with holds := s.holds.map (fun h => if h.code = code ∧ h.scope = scope then { h with gathered := 0, first := none } else h) }

theorem holdExpiry_of_empty {code scope : Nat} {h : Hold} {s : State}
    (hfind : s.holds.find? (fun h => h.code == code && h.scope == scope) = some h) (hfirst : h.first = none) :
    holdExpiry code scope s = { s with holds := s.holds.filter (fun h => !(h.code == code && h.scope == scope)) } := by
  simp only [holdExpiry, hfind, hfirst]

theorem holdExpiry_of_gathered {code scope : Nat} {h : Hold} {e : Event} {s : State}
    (hfind : s.holds.find? (fun h => h.code == code && h.scope == scope) = some h) (hfirst : h.first = some e) :
    holdExpiry code scope s = post e.subject (heldEntry h e) (reopenHold code scope s) := by
  simp only [holdExpiry, hfind, hfirst]
  rfl

theorem exec_eventHoldExpiry {code scope : Nat} {s : State} (hlive : s.live = true) (hup : s.watchdog.hk.up = true) :
    exec (.eventHoldExpiry code scope) s =
      .next (if 0x0601 ≤ code ∧ code ≤ 0x0603 then peerPeriodEnd code scope s else holdExpiry code scope s) := by
  refine (act_of_live hlive _).trans (congrArg _ ?_)
  rw [if_pos hup]

/-- The peers that a period has gathered stand in the next bitmap page (07 R243). -/
def peersPaged (code scope : Nat) (p : PeerPeriod) (s : State) : State :=
  { s with accord := { s.accord with
      periods := s.accord.periods.filter (fun q => !(q.code == code && q.port + 64 * q.owner == scope))
      pages := s.accord.pages.set s.accord.nextPage { gen := s.accord.pageGen + 1, owner := p.owner, peers := p.peers }
      nextPage := (s.accord.nextPage + 1) % 16, pageGen := s.accord.pageGen + 1 } }

theorem peerPeriodEnd_told {code scope : Nat} {p : PeerPeriod} {s : State}
    (hfind : s.accord.periods.find? (fun p => p.code == code && p.port + 64 * p.owner == scope) = some p) :
    Told (peersPaged code scope p s) (peerPeriodEnd code scope s) := by
  simp only [peerPeriodEnd, hfind]
  exact (Told.refl _).post _ _

theorem Told.accord {s t : State} (h : Told s t) : t.accord = s.accord := by rw [h.rest]

theorem gather_first {code scope : Nat} {e : Event} {s : State} {h : Hold} (hmem : h ∈ (gather code scope e s).holds)
    (hcode : h.code = code) (hscope : h.scope = scope) :
    h.first.isSome = true ∧ ∃ g ∈ s.holds, g.code = code ∧ g.scope = scope ∧ h.gathered = g.gathered + e.count := by
  obtain ⟨g, hg, rfl⟩ := List.mem_map.mp hmem
  by_cases hkey : g.code = code ∧ g.scope = scope
  · rw [if_pos hkey]
    exact ⟨rfl, g, hg, hkey.1, hkey.2, rfl⟩
  · rw [if_neg hkey] at hcode hscope
    exact absurd ⟨hcode, hscope⟩ hkey

/-- Settles O12: a hold's end by what it gathered, and an occurrence by whether a hold is open. -/
theorem coalescing : Obligations.Coalescing := by
  refine ⟨fun code scope s hlive hup => ⟨?hold, ?period⟩, fun owner scope e s => ⟨?first, ?gathered⟩⟩
  case hold =>
    intro h hrange hfind
    have hplain : ¬(0x0601 ≤ code ∧ code ≤ 0x0603) := by omega
    rw [exec_eventHoldExpiry hlive hup, if_neg hplain]
    refine ⟨fun hfirst => by rw [holdExpiry_of_empty hfind hfirst], fun e hfirst => ⟨_, rfl, reopenHold code scope s, ?_, rfl⟩⟩
    exact holdExpiry_of_gathered hfind hfirst
  case period =>
    intro p hlow hhigh hfind
    rw [exec_eventHoldExpiry hlive hup, if_pos ⟨hlow, hhigh⟩]
    have htold := peerPeriodEnd_told hfind
    refine ⟨_, rfl, ?_⟩
    beta_reduce
    rw [htold.accord]
    exact ⟨Table.find_set_same .., rfl, rfl, htold⟩
  case first =>
    intro hclosed
    rw [postHeld, if_neg (by simp [hclosed])]
  case gathered =>
    intro hopen
    rw [postHeld, if_pos hopen]
    exact ⟨rfl, fun h hmem hcode hscope => gather_first hmem hcode hscope⟩

end Sys2Proof.Machine
end

section
/-!
PROOFS. Registers (00_scope R7 to R9; 18_access_and_dma R520): what a write through the gate changes, and the reads that clear or latch
what they return.
-/
namespace Sys2Proof.Machine

open Sys2Proof

/-! ## Accesses through the gate -/

theorem gated_of_allows {req addr : Nat} {write : Bool} {s : State} (h : GateAllows s req addr write) (body : State → State) :
    gated req addr write [] body s = body s := by
  unfold GateAllows at h
  simp only [gated, h]

theorem gated_of_denied {req addr : Nat} {write : Bool} {r : Nat} {s u : State} (h : gateCheck req addr write false [] s = (u, some r))
    (body : State → State) : gated req addr write [] body s = gateDeny req addr write false r u := by
  simp only [gated, h]

theorem gatedRead_of_allows {addr : Nat} {s : State} (h : GateAllows s 0 addr false) (body : State → State) :
    gatedRead addr body s = body s := by
  unfold GateAllows at h
  simp only [gatedRead, h]

/-- A function's own channel page is open to it (R522), whatever the rules say. -/
theorem gateAllows_bar0 {fn off : Nat} (hfn : fn < 32) (hoff : off < 0x1000) (write : Bool) (s : State) :
    GateAllows s fn (bar0 fn off) write := by
  have hrange : 0x01000000 ≤ bar0 fn off ∧ bar0 fn off < 0x01200000 := by unfold bar0; omega
  have hlocked : gateLocked s fn (bar0 fn off) write = false := by
    have himage : inImage s (bar0 fn off) = false := by
      have : ¬0x02000000 ≤ bar0 fn off := by omega
      simp [inImage, this]
    rw [gateLocked, if_pos (by omega)]
    simp [himage]
  have htarget : hasTarget (bar0 fn off) = true := by simp [hasTarget, hrange.2]
  have hgrant : fixedGrant fn (bar0 fn off) false = true := by
    have hpage : bar0Off (bar0 fn off) = off := by unfold bar0Off bar0; omega
    have hown : inBar0 fn (bar0 fn off) = true := by
      simp only [inBar0, bar0, Bool.and_eq_true]
      exact ⟨decide_eq_true (by omega), decide_eq_true (by omega)⟩
    simp [fixedGrant, hfn, hown, hpage, hoff]
  simp [GateAllows, gateCheck, hlocked, htarget, hgrant]

theorem addrWrite_bar0 {fn off : Nat} (hoff : off < 0x10000) (w : Word) (s : State) :
    addrWrite (bar0 fn off) w s = bar0Write fn off w s := by
  have hfn : (bar0 fn off - 0x01000000) / 0x10000 = fn := by unfold bar0; omega
  have hpage : bar0Off (bar0 fn off) = off := by unfold bar0Off bar0; omega
  have hnot : ¬bar0 fn off < 0x01000000 := by unfold bar0; omega
  rw [addrWrite, if_neg hnot, hfn, hpage]

theorem registerWrite_bar0 {fn off : Nat} (hfn : fn < 32) (hoff : off < 0x1000) (halign : off % 4 = 0) (w : Word) (s : State) :
    registerWrite fn false off w s = bar0Write fn off w s := by
  have hvalid : ¬(off % 4 ≠ 0 ∨ (false = true ∧ (fn ≠ 0 ∨ 0x01000000 ≤ off)) ∨ ((!false) = true ∧ 0x10000 ≤ off) ∨ 31 < fn) := by
    simp; omega
  rw [registerWrite, if_neg hvalid]
  simp only [Bool.false_eq_true, if_false]
  rw [gated_of_allows (gateAllows_bar0 hfn hoff true s), addrWrite_bar0 (by omega)]

theorem registerWrite_bar2 {off : Nat} (hoff : off < 0x01000000) (halign : off % 4 = 0) (w : Word) (s : State) :
    registerWrite 0 true off w s = gated 0 off true [] (addrWrite off w) s := by
  have hvalid : ¬(off % 4 ≠ 0 ∨ (true = true ∧ ((0 : Nat) ≠ 0 ∨ 0x01000000 ≤ off)) ∨ ((!true) = true ∧ 0x10000 ≤ off) ∨ 31 < 0) := by
    simp; omega
  rw [registerWrite, if_neg hvalid, if_pos rfl]

theorem lt_of_plainMask {off m : Nat} (h : plainMask off = some m) : off < 0x01000000 := by
  by_contra hge
  have : plainMask off = none := by
    unfold plainMask
    repeat rw [if_neg (by omega)]
  simp [this] at h

theorem addrWrite_plain {off m : Nat} (h : plainMask off = some m) (w : Word) (s : State) :
    addrWrite off w s = setReg off (w &&& BitVec.ofNat 32 m) s := by
  rw [addrWrite, if_pos (lt_of_plainMask h)]
  simp only [bar2Write, h, writeBits]

/-- Settles O13: a write through the gate reaches one register's own row, and a bad access the count alone. -/
theorem registerWrites : Obligations.RegisterWrites := by
  intro fn off m w s hlive hfn
  refine ⟨?plain, ?denied, ?moderation, ?status, ?ident, ?badWrite, ?badRead⟩
  case plain =>
    intro hmask halign hallow
    refine (act_of_live hlive _).trans (congrArg _ ?_)
    rw [registerWrite_bar2 (lt_of_plainMask hmask) halign, gated_of_allows hallow, addrWrite_plain hmask]
  case denied =>
    intro u r halign hoff hdenied
    refine (act_of_live hlive _).trans (congrArg _ ?_)
    rw [registerWrite_bar2 hoff halign, gated_of_denied hdenied]
  case moderation | status | ident =>
    refine (act_of_live hlive _).trans (congrArg _ ?_)
    rw [registerWrite_bar0 hfn (by decide) (by decide)]
    simp [bar0Write, writeBits, regClear]
  case badWrite => exact act_of_live hlive _
  case badRead =>
    simp only [exec, execBadRegisterAccess, if_true]
    exact actRead_of_live hlive fn _

/-! ## Words latched for a requester -/

theorem latchedWord_putLatch_same (req addr word : Nat) (s : State) : latchedWord (putLatch req addr word s) req addr = word := by
  simp [latchedWord, putLatch]

theorem latchedWord_putLatch_ne {req addr r a : Nat} (h : ¬(r = req ∧ a = addr)) (word : Nat) (s : State) :
    latchedWord (putLatch req addr word s) r a = latchedWord s r a := by
  have hnew : (req == r && addr == a) = false := by
    simp only [Bool.and_eq_false_iff, beq_eq_false_iff_ne]
    by_contra hboth
    exact h (by tauto)
  have hrest (l : Nat × Nat × Nat) : decide ((!(l.1 == req && l.2.1 == addr)) = true ∧ (l.1 == r && l.2.1 == a) = true) =
      (l.1 == r && l.2.1 == a) := by
    rw [Bool.eq_iff_iff, decide_eq_true_eq]
    refine and_iff_right_of_imp fun hl => ?_
    obtain ⟨h1, h2⟩ : l.1 = r ∧ l.2.1 = a := by simpa using hl
    rw [h1, h2]
    simpa [imp_iff_not_or] using h
  simp only [latchedWord, putLatch, List.find?_cons, hnew, List.find?_filter, hrest]

/-- From `s` to `t` nothing has changed but the transcript and the latched words of one requester. -/
structure LatchesFor (req : Nat) (s t : State) : Prop where
  rest : t = { s with out := t.out, pmc := { s.pmc with latched := t.pmc.latched } }
  others : ∀ g a, g ≠ req → latchedWord t g a = latchedWord s g a

theorem LatchesFor.refl (req : Nat) (s : State) : LatchesFor req s s := ⟨rfl, fun _ _ _ => rfl⟩

theorem LatchesFor.putLatch {req : Nat} {s t : State} (h : LatchesFor req s t) (addr word : Nat) :
    LatchesFor req s (putLatch req addr word t) := by
  refine ⟨?_, fun g a hg => (latchedWord_putLatch_ne (fun e => hg e.1) word t).trans (h.others g a hg)⟩
  rw [h.rest]
  rfl

theorem LatchesFor.emit {req : Nat} {s t : State} (h : LatchesFor req s t) (o : Output) : LatchesFor req s (emit o t) := by
  refine ⟨?_, h.others⟩
  rw [h.rest]
  rfl

/-- What a read of a slot's low word latches: the high word, and with CHAIN the upper counter's two words (20 R577). -/
def latchSlot (req addr n : Nat) (s : State) : State :=
  if (pmcOf s n).chain then
    putLatch req (addr + 8) (slotSeen s false req (n + 1) % 2 ^ 32)
      (putLatch req (addr + 12) (slotSeen s false req (n + 1) / 2 ^ 32) (putLatch req (addr + 4) (slotSeen s false req n / 2 ^ 32) s))
  else putLatch req (addr + 4) (slotSeen s false req n / 2 ^ 32) s

theorem slotLowRead_of_lower {req addr n : Nat} {s : State} (h : pmcUpper s n = false) :
    slotLowRead req addr n false s = emit (.readData req (BitVec.ofNat 32 (slotSeen s false req n))) (latchSlot req addr n s) := by
  simp only [slotLowRead, h, Bool.false_and, Bool.false_eq_true, if_false]
  rfl

theorem slotLowRead_of_latched {req addr n : Nat} {s : State} (h : pmcUpper s n = true) (hlatched : isLatched s req addr = true)
    (hwindow : windowLive s req = true) (hreader : bitOf (pmcOf s n).readers req = true) :
    slotLowRead req addr n false s = emit (.readData req (BitVec.ofNat 32 (latchedWord s req addr))) s := by
  simp [slotLowRead, h, hlatched, latchSeen, hwindow, hreader]

theorem latchesFor_latchSlot (req addr n : Nat) (s : State) : LatchesFor req s (latchSlot req addr n s) := by
  unfold latchSlot
  split_ifs
  · exact (((LatchesFor.refl req s).putLatch ..).putLatch ..).putLatch ..
  · exact (LatchesFor.refl req s).putLatch ..

theorem latchSlot_out (req addr n : Nat) (s : State) : (latchSlot req addr n s).out = s.out := by
  unfold latchSlot
  split_ifs <;> rfl

theorem latchSlot_high (req addr n : Nat) (s : State) :
    latchedWord (latchSlot req addr n s) req (addr + 4) = slotSeen s false req n / 2 ^ 32 := by
  unfold latchSlot
  split_ifs
  · rw [latchedWord_putLatch_ne (by omega), latchedWord_putLatch_ne (by omega), latchedWord_putLatch_same]
  · exact latchedWord_putLatch_same ..

theorem latchSlot_upper {req addr n : Nat} {s : State} (h : (pmcOf s n).chain = true) :
    latchedWord (latchSlot req addr n s) req (addr + 8) = slotSeen s false req (n + 1) % 2 ^ 32 ∧
      latchedWord (latchSlot req addr n s) req (addr + 12) = slotSeen s false req (n + 1) / 2 ^ 32 := by
  rw [latchSlot, if_pos h]
  refine ⟨latchedWord_putLatch_same .., ?_⟩
  rw [latchedWord_putLatch_ne (by omega), latchedWord_putLatch_same]

theorem exec_pmcSlotLowRead_window {fn n : Nat} {s : State} (hlive : s.live = true) (hn : n < 128)
    (hallow : GateAllows s fn (bar0 fn (0x8000 + 8 * n)) false) :
    exec (.pmcSlotLowRead fn false (0x8000 + 8 * n)) s = .next (slotLowRead fn (bar0 fn (0x8000 + 8 * n)) n false s) := by
  have hslot : 0x8000 ≤ 0x8000 + 8 * n ∧ 0x8000 + 8 * n < 0x8400 ∧ (0x8000 + 8 * n) % 8 = 0 := by omega
  have hindex : (0x8000 + 8 * n - 0x8000) / 8 = n := by omega
  unfold GateAllows at hallow
  dsimp only [exec, execPmcSlotLowRead]
  rw [actRead_of_live hlive]
  simp only [Bool.false_eq_true, if_false, hallow, if_pos hslot, hindex]

/-- Settles O14: each read is one emit with what it clears or latches, through the gate where its register lies in BAR2. -/
theorem readsThatChange : Obligations.ReadsThatChange := by
  intro fn s hlive hfn
  refine ⟨?badAccess, ?parity, ?violations, ?flush, ?counter, ?slot, ?upper, ?snap, ?snapUnset⟩
  case badAccess =>
    dsimp only [exec, execGenBadAccessRead]
    exact actRead_of_live hlive fn _
  case parity =>
    intro table htable hallow
    refine (actRead_of_live hlive 0 _).trans (congrArg _ ?_)
    rw [gatedRead_of_allows hallow, if_pos (by omega)]
    rfl
  case violations =>
    intro hallow
    refine (actRead_of_live hlive 0 _).trans (congrArg _ ?_)
    rw [gatedRead_of_allows hallow]
    rfl
  case flush =>
    intro hallow
    refine (actRead_of_live hlive 0 _).trans (congrArg _ ?_)
    rw [gatedRead_of_allows hallow]
    rfl
  case counter =>
    intro off hallow
    refine (actRead_of_live hlive 0 _).trans (congrArg _ ?_)
    rw [gatedRead_of_allows hallow]
    rfl
  case slot =>
    intro n hn hlower hallow
    refine ⟨_, exec_pmcSlotLowRead_window hlive hn hallow, ?_⟩
    rw [slotLowRead_of_lower hlower]
    have hlatches := latchesFor_latchSlot fn (bar0 fn (0x8000 + 8 * n)) n s
    refine ⟨?_, latchSlot_high .., latchSlot_upper, hlatches.others, (hlatches.emit _).rest⟩
    rw [emit_out, latchSlot_out]
  case upper =>
    intro n hn hupper hlatched hwindow hreader hallow
    rw [exec_pmcSlotLowRead_window hlive hn hallow, slotLowRead_of_latched hupper hlatched hwindow hreader]
  case snap =>
    intro hset
    have hset : (s.time.state != .unset) = true := by simpa using hset
    dsimp only [exec, execTimSnapNsRead]
    rw [actRead_of_live hlive]
    simp only [hset, if_true]
    rfl
  case snapUnset =>
    intro hunset
    dsimp only [exec, execTimSnapNsRead]
    rw [actRead_of_live hlive, hunset]
    rfl

end Sys2Proof.Machine
end

section
/-!
PROOFS. Commands' checks (02_command_channel R61) and TAMPER_LOCK (16_tamper R471): where a refused FAB_AUDIT reaches a running command.
-/
namespace Sys2Proof.Machine

open Sys2Proof

/-! ## A FAB_AUDIT that is refused -/

/-- A FAB_AUDIT of a VF, which the PF alone may issue. -/
def vfAudit : Cmd := { cmdOf 0x0702 [] with fn := 1 }

/-- A FAB_AUDIT that runs and waits for its sweep. -/
def auditRuns (c : Cmd) : Running := { cmd := c, cls := .b, locks := [], wait := .work }

/-- A served device on which a FAB_AUDIT runs. -/
def auditing (c : Cmd) : State := { dev with running := [auditRuns c] }

/-- The same under a tamper alarm of rank LOCK. -/
def auditingLocked (c : Cmd) : State :=
  { auditing c with tamper := { (auditing c).tamper with sources := ⟨[(6, { pending := true, applied := 2 })]⟩ } }

/-- The running commands that an outcome leaves. -/
def runningAfter : Host.Outcome State Fault Refusal → List Running
  | .next t => t.running
  | _ => []

theorem Told.running {s t : State} (h : Told s t) : t.running = s.running := by rw [h.rest]

/-- An outcome that answers a command leaves the running commands as they are. -/
theorem running_of_answered {c : Cmd} {status detail result : Nat} {s : State} {o : Host.Outcome State Fault Refusal}
    (h : Gives o (Answered c status detail result s)) : runningAfter o = s.running := by
  obtain ⟨t, rfl, hanswered⟩ := h
  exact hanswered.told.running

/-- FAB_AUDIT latches its count into every running FAB_AUDIT of the same packet, also where it is refused itself. -/
theorem running_of_refused_audit : runningAfter (exec (.fabAudit vfAudit) (auditing vfAudit)) ≠ (auditing vfAudit).running := by
  decide +kernel

theorem running_of_locked_audit :
    runningAfter (exec (.fabAudit (cmdOf 0x0702 [])) (auditingLocked (cmdOf 0x0702 []))) ≠ (auditingLocked (cmdOf 0x0702 [])).running := by
  decide +kernel

/-- Refutes O16: a FAB_AUDIT of a VF is refused with NO_PERMISSION and still rewrites the reply of the running command of the same packet. -/
theorem not_rejectedCommandsOnlyComplete : ¬ Obligations.RejectedCommandsOnlyComplete := by
  intro h
  have hrow := h (.fabAudit vfAudit) vfAudit specFabAudit (auditing vfAudit) (by decide +kernel) rfl (by rw [show vfAudit.opcode = 0x0702 by decide +kernel]; rfl)
  have hchecks : checks specFabAudit vfAudit (auditing vfAudit) = some (stNoPermission, 1) := by decide +kernel
  exact running_of_refused_audit (running_of_answered (hrow.1 stNoPermission 1 (by decide +kernel) hchecks))

/-- Refutes O17: under TAMPER_LOCK a FAB_AUDIT of the PF is refused and still rewrites the reply of the running command of the same
packet. -/
theorem not_tamperLockBlocks : ¬ Obligations.TamperLockBlocks := by
  intro h
  have hrow := h (.fabAudit (cmdOf 0x0702 [])) (cmdOf 0x0702 []) (auditingLocked (cmdOf 0x0702 [])) (by decide +kernel) rfl
    (by decide +kernel) (by decide +kernel)
  have hanswered := hrow.2.1 (by decide +kernel) rfl
  exact running_of_locked_audit (running_of_answered hanswered)

end Sys2Proof.Machine
end

section
/-!
PROOFS. What a passing command has passed (02_command_channel R61), and the device group's commands.
-/
namespace Sys2Proof.Machine

open Sys2Proof

/-! ## The checks that a passing command has passed -/

theorem firstFail_eq_none {l : List (Option (Nat × Nat))} (h : firstFail l = none) : ∀ x ∈ l, x = none := by
  induction l with
  | nil => simp
  | cons x rest ih =>
    cases x with
    | none => simpa using ih h
    | some y => simp [firstFail] at h

theorem lowestOf_eq_none {l : List (Bool × Nat)} (h : lowestOf l = none) : ∀ e ∈ l, e.1 = false := by
  induction l with
  | nil => simp
  | cons e rest ih =>
    obtain ⟨hit, b⟩ := e
    rw [lowestOf] at h
    cases hrest : lowestOf rest with
    | some m => rw [hrest] at h; cases hit <;> simp at h
    | none =>
      rw [hrest] at h
      cases hit with
      | true => simp at h
      | false => simpa using ih hrest

@[simp] theorem failIf_eq_none {b : Bool} {st d : Nat} : failIf b st d = none ↔ b = false := by
  cases b <;> simp [failIf]

/-- What a command has passed whose checks find nothing (R61). -/
structure Clear (spec : OpSpec) (c : Cmd) (s : State) : Prop where
  pf : spec.privilege = .p → c.fn = 0
  lock : spec.underLock = false → tamperLock s = false
  header : ∀ e ∈ headerErrors spec c, e.1 = false
  own : ∀ e ∈ spec.own c s, e.1 = false
  object : spec.object c s = none
  missing : spec.missing c s = false
  objectParam : ∀ e ∈ spec.objectParam c s, e.1 = false
  lifecycle : lifecycleForbids spec c s = false
  state : spec.badState c s = false
  pair : pairForbids c s = false
  ready : spec.notReady c s = false
  unlocked : lockHeld s (spec.locks c) = false
  conflict : spec.conflict c s = none
  resource : spec.noResource c s = false

theorem clear_of_checks {spec : OpSpec} {c : Cmd} {s : State} (h : checks spec c s = none) : Clear spec c s := by
  have hall := firstFail_eq_none h
  simp only [List.mem_cons, List.not_mem_nil, or_false, forall_eq_or_imp, forall_eq, failIf_eq_none, Option.map_eq_none_iff] at hall
  obtain ⟨hpriv, -, -, hlock, hown, hobject, hmissing, hparam, hlife, -, hstate, hready, hlocks, hconflict, hresource⟩ := hall
  have hfields := lowestOf_eq_none hown
  simp only [Bool.or_eq_false_iff] at hstate
  refine ⟨fun hp => ?_, fun hl => ?_, fun e he => hfields e (List.mem_append_left _ he), fun e he => hfields e (List.mem_append_right _ he),
    hobject, hmissing, lowestOf_eq_none hparam, hlife, hstate.1, hstate.2, hready, hlocks, hconflict, hresource⟩
  · simpa [hp] using hpriv
  · simpa [hl] using hlock

theorem Passes.clear {op : Nat} {spec : OpSpec} {c : Cmd} {s : State} (h : Passes op spec c s) : Clear spec c s :=
  clear_of_checks h.2.2

/-! ## Fields of results -/

theorem foldl_add_start (a : Nat) (l : List Nat) : l.foldl (· + ·) a = a + l.foldl (· + ·) 0 := by
  induction l generalizing a with
  | nil => rfl
  | cons x l ih => rw [List.foldl_cons, List.foldl_cons, ih (a + x), ih (0 + x)]; omega

theorem resultOf_nil : resultOf [] = 0 := rfl

theorem resultOf_cons (b v : Nat) (fs : List (Nat × Nat)) : resultOf ((b, v) :: fs) = v * 2 ^ (8 * (b - 8)) + resultOf fs := by
  rw [resultOf, List.map_cons, List.foldl_cons, foldl_add_start, Nat.zero_add, resultOf]

theorem detailOf_nil : detailOf [] = 0 := rfl

theorem detailOf_cons (b v : Nat) (fs : List (Nat × Nat)) : detailOf ((b, v) :: fs) = v * 2 ^ (8 * (b - 20)) + detailOf fs := by
  rw [detailOf, List.map_cons, List.foldl_cons, foldl_add_start, Nat.zero_add, detailOf]

/-- The four low bits that truth values make. -/
theorem bitOf_four (b : Nat → Bool) :
    ((List.range 4).map (fun n => b2n (b n) * 2 ^ n)).foldl (· + ·) 0 < 16 ∧
      ∀ n, n < 4 → bitOf (((List.range 4).map (fun n => b2n (b n) * 2 ^ n)).foldl (· + ·) 0) n = b n := by
  have hsum : ((List.range 4).map (fun n => b2n (b n) * 2 ^ n)).foldl (· + ·) 0 =
      b2n (b 0) + b2n (b 1) * 2 + b2n (b 2) * 4 + b2n (b 3) * 8 := by simp [List.range_succ]
  have hall : ∀ b0 b1 b2 b3 : Bool, b2n b0 + b2n b1 * 2 + b2n b2 * 4 + b2n b3 * 8 < 16 ∧
      bitOf (b2n b0 + b2n b1 * 2 + b2n b2 * 4 + b2n b3 * 8) 0 = b0 ∧ bitOf (b2n b0 + b2n b1 * 2 + b2n b2 * 4 + b2n b3 * 8) 1 = b1 ∧
      bitOf (b2n b0 + b2n b1 * 2 + b2n b2 * 4 + b2n b3 * 8) 2 = b2 ∧ bitOf (b2n b0 + b2n b1 * 2 + b2n b2 * 4 + b2n b3 * 8) 3 = b3 := by
    decide
  obtain ⟨hlt, h0, h1, h2, h3⟩ := hall (b 0) (b 1) (b 2) (b 3)
  rw [hsum]
  refine ⟨hlt, fun n hn => ?_⟩
  have : n = 0 ∨ n = 1 ∨ n = 2 ∨ n = 3 := by omega
  rcases this with rfl | rfl | rfl | rfl <;> assumption

/-! ## The device group -/

/-- DEV_CONFIG_SAVE's configuration: the payload, or none with CLEAR (R272). -/
def savedConfig (c : Cmd) : Bytes := if saveClear c then [] else c.payload

/-- The Flacon with a first generation in copy A, sealed under the keys in force. -/
def firstGeneration (config : Bytes) (s : State) : State :=
  { s with attar := { s.attar with
      active := some false, floor := s.attar.floor + 1, tombstones := .empty, erasing := none
      copyA := { status := 1, generation := s.attar.floor + 1, config, storageKey := s.attar.storageKey.getD 0
                 keeperKey := s.attar.keeper.getD 0 } } }

@[simp] theorem Table.find_empty {α : Type} (k : Nat) : (Table.empty : Table α).find k = none := rfl

theorem writeGeneration_first {s : State} (hkeeper : s.attar.keeper.isSome = true) (hstorage : s.attar.storageKey.isSome = true)
    (hflash : s.attar.flashFailures = 0) (hactive : s.attar.active = none) (config : Bytes) (cause : Nat) :
    writeGeneration .empty config cause s =
      (raiseHeld 0 0x0503 0 0 (detailOf [(20, cause), (24, s.attar.floor + 1)]) (attCount 5 (firstGeneration config s)),
        ok (resultOf [(8, s.attar.floor + 1)])) := by
  obtain ⟨keeper, hkeeper⟩ := Option.isSome_iff_exists.mp hkeeper
  obtain ⟨storage, hstorage⟩ := Option.isSome_iff_exists.mp hstorage
  have hgen : nextGeneration s = s.attar.floor + 1 := by simp [nextGeneration, activeCopy, hactive]
  have htarget : targetCopy s = false := by simp [targetCopy, hactive]
  have hnone : ¬1 ≤ s.attar.flashFailures := by omega
  have hnotTwo : ¬2 ≤ s.attar.flashFailures := by omega
  simp only [writeGeneration, hkeeper, hstorage, if_neg hnone, if_neg hnotTwo, htarget, hgen, hactive, firstGeneration, Option.getD_some,
    setCopy, Bool.false_eq_true, if_false, Table.find_empty, List.filter_false]
  rfl

theorem countBy_uncounted {off : Nat} (h : pmcOfCounter off = none) (n : Nat) (s : State) : countBy off n s = State.plus off n s := by
  simp only [countBy, h, State.plus]

theorem specDevConfigSave_effect {c : Cmd} {s : State} (hkeeper : s.attar.keeper.isSome = true)
    (hstorage : s.attar.storageKey.isSome = true) (hflash : s.attar.flashFailures = 0) (hactive : s.attar.active = none) :
    specDevConfigSave.effect c s =
      (raiseHeld 0 0x0503 0 0 (detailOf [(20, 1), (24, s.attar.floor + 1)])
        (State.plus 0x3128 1 (firstGeneration (savedConfig c) s)), ok (s.attar.floor + 1)) := by
  have hneed : needStorage s = (true, s) := by simp [needStorage, hstorage]
  have hcopy : activeCopy s = none := by simp [activeCopy, hactive]
  have heffect : specDevConfigSave.effect c s = writeGeneration .empty (savedConfig c) 1 s := by
    simp only [specDevConfigSave, hneed, hcopy, savedConfig]
  rw [heffect, writeGeneration_first hkeeper hstorage hflash hactive, resultOf_byte8, attCount, count,
    countBy_uncounted (by decide)]

theorem resultOf_devInfo (v f l b q : Nat) :
    resultOf [(8, v), (12, f), (13, l), (14, b), (15, q)] = v + 2 ^ 32 * f + 2 ^ 40 * l + 2 ^ 48 * b + 2 ^ 56 * q := by
  simp only [resultOf_cons, resultOf_nil]
  omega

theorem resultOf_mask (g v : Nat) : resultOf [(8, g), (10, v)] = g + 2 ^ 16 * v := by
  simp only [resultOf_cons, resultOf_nil]
  omega

theorem detailOf_quotas (a b d : Nat) : detailOf [(20, a), (24, b), (28, d)] = a + 2 ^ 32 * b + 2 ^ 64 * d := by
  simp only [detailOf_cons, detailOf_nil]
  omega

/-- Settles O18: each command's effect is one named update, and its result the fields of its layout. -/
theorem deviceCommands : Obligations.DeviceCommands := by
  intro c s
  refine ⟨fun hpass => ?info, fun hpass => ?reset, fun hpass => ?mask, fun hpass => ?tenant, fun hpass hstorage hflash hactive => ?save⟩
  case info =>
    obtain ⟨hlt, hbits⟩ := bitOf_four (fun n => qpEnabled s c.fn n)
    refine ⟨_, hlt, hbits, answers_of_done hpass (by decide) ?_⟩
    rw [← resultOf_devInfo]
    rfl
  case reset =>
    refine answers_of_done hpass (by decide) ?_
    simp only [specDevReset, resultOf_byte8, beq_eq_decide]
  case mask =>
    refine answers_of_done hpass (by decide) ?_
    rw [← resultOf_mask]
    rfl
  case tenant =>
    refine ⟨_, _, rfl, rfl, answers_of_done hpass (by decide) ?_⟩
    rw [← detailOf_quotas]
    rfl
  case save =>
    have hkeeper : s.attar.keeper.isSome = true := by simpa [specDevConfigSave] using hpass.clear.state
    refine ⟨_, ?_, answers_of_done hpass (by decide) (specDevConfigSave_effect hkeeper hstorage hflash hactive)⟩
    exact (Told.refl _).raiseHeld ..

end Sys2Proof.Machine
end

section
/-!
PROOFS. Where a boot ends (17_boot_and_identity R500): what reporting leaves alone, the fresh start, the choice of a bank, and the way to
CMD_READY.
-/
namespace Sys2Proof.Machine

open Sys2Proof

/-! ## What reporting leaves alone, field by field -/

theorem Told.pending {s t : State} (h : Told s t) : t.pending = s.pending := by rw [h.rest]
theorem Told.freeIx {s t : State} (h : Told s t) : t.freeIx = s.freeIx := by rw [h.rest]
theorem Told.halted {s t : State} (h : Told s t) : t.halted = s.halted := by rw [h.rest]
theorem Told.powered {s t : State} (h : Told s t) : t.powered = s.powered := by rw [h.rest]
theorem Told.latch {s t : State} (h : Told s t) : t.latch = s.latch := by rw [h.rest]
theorem Told.cmdReady {s t : State} (h : Told s t) : t.cmdReady = s.cmdReady := by rw [h.rest]
theorem Told.nextFn {s t : State} (h : Told s t) : t.nextFn = s.nextFn := by rw [h.rest]
theorem Told.eqSeen {s t : State} (h : Told s t) : t.eqSeen = s.eqSeen := by rw [h.rest]
theorem Told.ports {s t : State} (h : Told s t) : t.ports = s.ports := by rw [h.rest]
theorem Told.selectors {s t : State} (h : Told s t) : t.selectors = s.selectors := by rw [h.rest]
theorem Told.channels {s t : State} (h : Told s t) : t.channels = s.channels := by rw [h.rest]
theorem Told.attar {s t : State} (h : Told s t) : t.attar = s.attar := by rw [h.rest]
theorem Told.fabric {s t : State} (h : Told s t) : t.fabric = s.fabric := by rw [h.rest]
theorem Told.reservoir {s t : State} (h : Told s t) : t.reservoir = s.reservoir := by rw [h.rest]
theorem Told.sched {s t : State} (h : Told s t) : t.sched = s.sched := by rw [h.rest]
theorem Told.time {s t : State} (h : Told s t) : t.time = s.time := by rw [h.rest]
theorem Told.pair {s t : State} (h : Told s t) : t.pair = s.pair := by rw [h.rest]
theorem Told.entropy {s t : State} (h : Told s t) : t.entropy = s.entropy := by rw [h.rest]
theorem Told.tamper {s t : State} (h : Told s t) : t.tamper = s.tamper := by rw [h.rest]
theorem Told.boot {s t : State} (h : Told s t) : t.boot = s.boot := by rw [h.rest]
theorem Told.watchdog {s t : State} (h : Told s t) : t.watchdog = s.watchdog := by rw [h.rest]
theorem Told.gate {s t : State} (h : Told s t) : t.gate = s.gate := by rw [h.rest]
theorem Told.power {s t : State} (h : Told s t) : t.power = s.power := by rw [h.rest]
theorem Told.dma {s t : State} (h : Told s t) : t.dma = s.dma := by rw [h.rest]

/-! ## The fresh start -/

theorem sourceOf_setSource (n m : Nat) (v : TamperSource) (s : State) :
    sourceOf (setSource n v s) m = if m = n then v else sourceOf s m := by
  unfold sourceOf setSource
  split_ifs with h
  · rw [h]; exact Table.get_put_same ..
  · exact Table.get_put_ne h ..

/-- The state from which a power-on without VPP_OTP boots. -/
def coldStart (off : Nat) (s : State) : State :=
  { freshDetectors (restarted true off s) with
    tamper := { (freshDetectors (restarted true off s)).tamper with vppOtp := false }
    power := { (freshDetectors (restarted true off s)).power with cause := 0, refclkOk := true } }

theorem exec_powerOn {s : State} (h : s.halted = false) (off : Nat) (board : Board) :
    exec (.powerOnReset 0 true off false true [] board) s = .next (boot board (coldStart off s)) := by
  simp only [exec, execPowerOnReset, always, powerOn, h, Bool.false_and, Bool.false_eq_true, if_false, if_true, writeBanks,
    List.foldl_nil]
  rfl

/-- A source's condition counts as absent again. -/
def quietSource (s : State) (m : Nat) : State := setSource m { sourceOf s m with active := false } s

theorem pending_quietSource (n : Nat) (s : State) (m : Nat) : (sourceOf (quietSource s m) n).pending = (sourceOf s n).pending := by
  by_cases h : n = m
  · simp only [quietSource, sourceOf_setSource, h, if_true]
  · simp only [quietSource, sourceOf_setSource, if_neg h]

theorem pending_freshDetectors (s : State) (n : Nat) : (sourceOf (freshDetectors s) n).pending = (sourceOf s n).pending := by
  have hfold : freshDetectors s = [0, 1, 2, 3, 4, 5].foldl quietSource s := rfl
  rw [hfold]
  exact foldl_keeps (fun s => (sourceOf s n).pending) (pending_quietSource n) _ s

theorem sourceOf_of_sources {s t : State} (h : t.tamper.sources = s.tamper.sources) (n : Nat) : sourceOf t n = sourceOf s n := by
  simp only [sourceOf, h]

theorem restarted_sources (off : Nat) (s : State) : (restarted true off s).tamper.sources = s.tamper.sources := by
  simp only [restarted, if_true]

theorem pending_coldStart (off : Nat) (s : State) (n : Nat) : (sourceOf (coldStart off s) n).pending = (sourceOf s n).pending := by
  have hcold : (coldStart off s).tamper.sources = (freshDetectors (restarted true off s)).tamper.sources := by simp only [coldStart]
  rw [sourceOf_of_sources hcold, pending_freshDetectors, sourceOf_of_sources (restarted_sources off s)]

theorem restarted_boot (off : Nat) (s : State) : (restarted true off s).boot =
    { lifecycle := s.boot.lifecycle, deviceId := s.boot.deviceId, floor := s.boot.floor, revoked := s.boot.revoked
      board := s.boot.board, bankA := s.boot.bankA, bankB := s.boot.bankB, record := s.boot.record, identity := s.boot.identity } := by
  simp only [restarted, if_true]

theorem restarted_keeper (off : Nat) (s : State) : (restarted true off s).attar.keeper = s.attar.keeper := by
  simp only [restarted, if_true]

theorem coldStart_boot (off : Nat) (s : State) : (coldStart off s).boot = (restarted true off s).boot := by
  have hfresh : (freshDetectors (restarted true off s)).boot = (restarted true off s).boot :=
    foldl_keeps State.boot (f := fun s n => setSource n { sourceOf s n with active := false } s) (fun _ _ => rfl) _ _
  simp only [coldStart, hfresh]

theorem coldStart_attar (off : Nat) (s : State) : (coldStart off s).attar = (restarted true off s).attar := by
  have hfresh : (freshDetectors (restarted true off s)).attar = (restarted true off s).attar :=
    foldl_keeps State.attar (f := fun s n => setSource n { sourceOf s n with active := false } s) (fun _ _ => rfl) _ _
  simp only [coldStart, hfresh]

/-- The boot of a device on which no alarm is pending. -/
theorem boot_of_quiet {board : Board} {s : State} (hvpp : s.tamper.vppOtp = false) (hquiet : ∀ n, (sourceOf s n).pending = false)
    (hrefclk : s.power.refclkOk = true) :
    boot board s =
      if board.otpBad then { s with boot := { s.boot with board, otpBad := true, stage := 1, errorA := 1 } }
      else bootOn { s with boot := { s.boot with board } } := by
  have hnone : (List.range 16).filter (fun n => (sourceOf { s with boot := { s.boot with board } } n).pending) = [] :=
    List.filter_eq_nil_iff.mpr fun n _ => by
      show ¬(sourceOf s n).pending = true
      simp [hquiet n]
  simp only [boot, programPending, hvpp, Bool.false_eq_true, if_false, hnone, List.foldl_nil, hrefclk, if_true]

/-! ## The choice of a bank -/

/-- What the checks of an image read of the state: the revoked keys and the SVN floor. -/
theorem checkImage_congr {s t : State} (hrevoked : t.boot.revoked = s.boot.revoked) (hfloor : t.boot.floor = s.boot.floor)
    (i : Bytes) (readable : Bool) : checkImage t i readable = checkImage s i readable := by
  have hkey (alg : Nat) : keyKnown t alg i = keyKnown s alg i := by rw [keyKnown, keyKnown, hrevoked]
  rw [checkImage, checkImage, hkey, hkey, hfloor]

/-- The state once bank A has failed its checks, without a bank control record. -/
def bankAFailed (code : Nat) (s : State) : State := setBankError false code (setBankError false 2 s)

theorem told_raiseFallback (b : Bool) (cause code : Nat) (s : State) : Told s (raiseFallback b cause code s) :=
  (Told.refl s).raiseHeld ..

theorem bootBanks_of_no_record {s : State} (hrecord : s.boot.record = none) {a b : Nat} (ha : checkImage s s.boot.bankA true = a)
    (hb : checkImage s s.boot.bankB true = b) :
    bootBanks [] 0 s =
      if a = 0 then (true, runImage false s.boot.bankA 0 0 false (setBankError false 2 s))
      else if b = 0 then (true, runImage true s.boot.bankB 1 0 false (raiseFallback false 0 a (bankAFailed a s)))
      else (false, setBankError true b (bankAFailed a s)) := by
  have ha' : checkImage (setBankError false 2 s) s.boot.bankA true = a := ha
  have hb' : checkImage (bankAFailed a s) s.boot.bankB true = b := hb
  have hbankA : bankOf (setBankError false 2 s) false = s.boot.bankA := rfl
  have hbankB : bankOf (bankAFailed a s) true = s.boot.bankB := rfl
  simp only [bootBanks, chooseBank, hrecord, tryBanks, List.contains_nil, Bool.not_false, hbankA, ha', Bool.and_false,
    if_true, Bool.false_eq_true, if_false]
  rw [← bankAFailed]
  simp only [hbankB, hb']
  have herror : (bankAFailed a s).boot.errorA = a := rfl
  have hbankB' : bankOf (raiseFallback false 0 a (bankAFailed a s)) true = s.boot.bankB := by
    rw [bankOf, (told_raiseFallback ..).boot]
    rfl
  simp only [Bool.not_true, herror, hbankB']

/-- The state of boot once an image has been loaded. -/
def Boot.loaded (v : Boot) (b : Bool) (img : Bytes) (source : Nat) : Boot :=
  { v with bank := b, trial := false, source, running := img.take (imgHeader + imgBytes img), stage := 4 }

theorem told_runImage (b : Bool) (img : Bytes) (source how : Nat) (s : State) :
    Told { s with boot := s.boot.loaded b img source } (runImage b img source how false s) :=
  (Told.refl _).raiseHeld ..

/-! ## The way to CMD_READY -/

/-- The Flacon at a start without a keeper key: no copy qualifies, and all slots are empty (08 R263, R265). -/
theorem flaconStart_of_no_keeper {s : State} (h : s.attar.keeper = none) :
    Told { s with attar := { s.attar with slots := .empty, storageKey := none, active := none, erasing := none } } (flaconStart s) := by
  have hinvalid (c : FlaconCopy) : copyValid s c = false := by simp [copyValid, h]
  have hnone : startCopy s = none := by simp [startCopy, hinvalid]
  unfold flaconStart
  rw [hnone]
  exact (Told.refl _).raiseHeld ..

/-- Nothing of a data path exists: no port, channel, frame, rule or running command. -/
structure NoDataPath (s : State) : Prop where
  ports : s.ports = {}
  channels : s.channels = {}
  fabric : s.fabric = {}
  gate : s.gate = {}
  running : s.running = []

theorem NoDataPath.withBoot {s : State} (h : NoDataPath s) (b : Boot) : NoDataPath { s with boot := b } :=
  ⟨h.ports, h.channels, h.fabric, h.gate, h.running⟩

theorem NoDataPath.told {s t : State} (h : NoDataPath s) (k : Told s t) : NoDataPath t :=
  ⟨k.ports.trans h.ports, k.channels.trans h.channels, k.fabric.trans h.fabric, k.gate.trans h.gate, k.running.trans h.running⟩

/-- From `s` on the device has come to CMD_READY with all cores running and no key slot, its image and its clocks as they were. -/
structure Served (s t : State) : Prop where
  ready : t.cmdReady = true
  ctl : t.watchdog.ctl.up = true
  acc : t.watchdog.acc.up = true
  hk : t.watchdog.hk.up = true
  slots : t.attar.slots = .empty
  power : t.power = s.power
  boot : t.boot = { s.boot with idValid := t.boot.idValid, stage := 6 }
  empty : NoDataPath s → NoDataPath t

/-- The check of the identity (R500 step 8), the cores running. -/
def identified (bad : Nat) (s : State) : State :=
  if bad = 0 then { coresUp s with boot := { s.boot with idValid := decide (bad < 2) } }
  else raiseHeld 0 0x0e06 2 0 (detailOf [(20, if bad = 1 then 1 else 0)])
    { coresUp s with boot := { s.boot with idValid := decide (bad < 2) } }

theorem told_identified (bad : Nat) (s : State) :
    Told { coresUp s with boot := { s.boot with idValid := decide (bad < 2) } } (identified bad s) := by
  unfold identified
  by_cases h : bad = 0
  · rw [if_pos h]; exact .refl _
  · rw [if_neg h]; exact (Told.refl _).raiseHeld ..

theorem finishBoot_eq (s : State) :
    finishBoot s = setReady true { replay (flaconStart (identified (if s.boot.identity.isNone then 2 else s.boot.board.idBad) s)) with
      boot := { (replay (flaconStart (identified (if s.boot.identity.isNone then 2 else s.boot.board.idBad) s))).boot with stage := 6 } } :=
  rfl

theorem replay_of_no_copy {s : State} (h : s.attar.active = none) : replay s = copySplit s := by
  simp [replay, activeCopy, h]

theorem told_setReady (s : State) : Told { s with cmdReady := true } (setReady true s) := (Told.refl _).driveLed 0 true

theorem served_finishBoot {s : State} (h : s.attar.keeper = none) : Served s (finishBoot s) := by
  rw [finishBoot_eq]
  generalize hbad : (if s.boot.identity.isNone then 2 else s.boot.board.idBad) = bad
  have hid := told_identified bad s
  have hflacon := flaconStart_of_no_keeper (s := identified bad s) (by rw [hid.attar]; exact h)
  rw [replay_of_no_copy (by rw [hflacon.attar])]
  generalize hu : flaconStart (identified bad s) = u at hflacon ⊢
  have hready := told_setReady { copySplit u with boot := { (copySplit u).boot with stage := 6 } }
  refine ⟨?_, ?_, ?_, ?_, ?_, ?_, ?_, fun hempty => ?_⟩
  · rw [hready.cmdReady]
  · rw [hready.watchdog]; simp only [copySplit]; rw [hflacon.watchdog, hid.watchdog]; rfl
  · rw [hready.watchdog]; simp only [copySplit]; rw [hflacon.watchdog, hid.watchdog]; rfl
  · rw [hready.watchdog]; simp only [copySplit]; rw [hflacon.watchdog, hid.watchdog]; rfl
  · rw [hready.attar]; simp only [copySplit]; rw [hflacon.attar]
  · rw [hready.power]; simp only [copySplit]; rw [hflacon.power, hid.power]; rfl
  · rw [hready.boot]; simp only [copySplit]; rw [hflacon.boot, hid.boot]
  · have hidle : NoDataPath (identified bad s) := by
      refine NoDataPath.told ?_ hid
      exact ⟨hempty.ports, hempty.channels, hempty.fabric, hempty.gate, hempty.running⟩
    have hloaded : NoDataPath u := by
      refine NoDataPath.told ?_ hflacon
      exact ⟨hidle.ports, hidle.channels, hidle.fabric, hidle.gate, hidle.running⟩
    refine NoDataPath.told ?_ hready
    exact ⟨hloaded.ports, hloaded.channels, hloaded.fabric, hloaded.gate, hloaded.running⟩

/-! ## Where it ends -/

/-- The root PLL has locked. -/
def locked (board : Board) (s : State) : State :=
  { s with boot := { s.boot with board }, power := { s.power with rootLock := true } }

theorem bootOn_of_sound {board : Board} {s : State} (hkat : board.kat = true) (hdimms : board.dimms = [])
    (hbanks : board.badBanks = []) :
    bootOn { s with boot := { s.boot with board } } =
      match bootBanks [] 0 (locked board s) with
      | (true, s) => finishBoot s
      | (false, s) => { s with boot := { s.boot with stage := 7, bank := false } } := by
  simp only [bootOn, hkat, hdimms, hbanks, if_true, List.take_nil, List.zipIdx_nil, List.foldl_nil, List.map_nil]
  rfl

theorem noDataPath_coldStart (off : Nat) (s : State) : NoDataPath (coldStart off s) := ⟨rfl, rfl, rfl, rfl, rfl⟩

/-- The state from which the ROM looks at the banks. -/
def atBanks (off : Nat) (board : Board) (s : State) : State := locked board (coldStart off s)

theorem atBanks_boot (off : Nat) (board : Board) (s : State) : (atBanks off board s).boot =
    { lifecycle := s.boot.lifecycle, deviceId := s.boot.deviceId, floor := s.boot.floor, revoked := s.boot.revoked
      board, bankA := s.boot.bankA, bankB := s.boot.bankB, record := s.boot.record, identity := s.boot.identity } := by
  simp only [atBanks, locked, coldStart_boot, restarted_boot]

theorem atBanks_keeper (off : Nat) (board : Board) (s : State) : (atBanks off board s).attar.keeper = s.attar.keeper := by
  simp only [atBanks, locked, coldStart_attar, restarted_keeper]

theorem atBanks_rootLock (off : Nat) (board : Board) (s : State) : (atBanks off board s).power.rootLock = true := by
  simp only [atBanks, locked]

theorem atBanks_slots (off : Nat) (board : Board) (s : State) : (atBanks off board s).attar.slots = .empty := by
  simp only [atBanks, locked, coldStart_attar, restarted, if_true]

theorem atBanks_stopped (off : Nat) (board : Board) (s : State) :
    (atBanks off board s).cmdReady = false ∧ (atBanks off board s).watchdog = {} := ⟨rfl, rfl⟩

theorem noDataPath_atBanks (off : Nat) (board : Board) (s : State) : NoDataPath (atBanks off board s) := by
  have hcold := noDataPath_coldStart off s
  exact ⟨hcold.ports, hcold.channels, hcold.fabric, hcold.gate, hcold.running⟩

/-- A power-on without a pending alarm comes to the banks, unless the OTP does not read. -/
theorem exec_powerOn_of_quiet {s : State} (hrun : s.halted = false) (hquiet : ∀ n, (sourceOf s n).pending = false) (off : Nat)
    (board : Board) : exec (.powerOnReset 0 true off false true [] board) s = .next
      (if board.otpBad then { coldStart off s with boot := { (coldStart off s).boot with board, otpBad := true, stage := 1, errorA := 1 } }
       else bootOn { coldStart off s with boot := { (coldStart off s).boot with board } }) := by
  have hpending (n : Nat) : (sourceOf (coldStart off s) n).pending = false := (pending_coldStart off s n).trans (hquiet n)
  rw [exec_powerOn hrun, boot_of_quiet (by simp only [coldStart]) hpending (by simp only [coldStart])]

/-- A boot from the banks has ended with an image running: the device serves commands, and nothing else exists yet. -/
structure BootedOn (b : Bool) (img : Bytes) (source : Nat) (v t : State) : Prop where
  power : t.power = v.power
  stage : t.boot.stage = 6
  ready : t.cmdReady = true
  ctl : t.watchdog.ctl.up = true
  acc : t.watchdog.acc.up = true
  hk : t.watchdog.hk.up = true
  errorA : t.boot.errorA = v.boot.errorA
  errorB : t.boot.errorB = v.boot.errorB
  bank : t.boot.bank = b
  source : t.boot.source = source
  running : t.boot.running = img.take (24576 + imgBytes img)
  slots : t.attar.slots = .empty
  empty : NoDataPath t

theorem bootedOn_runImage {v : State} (hkeeper : v.attar.keeper = none) (hdata : NoDataPath v) (b : Bool) (img : Bytes)
    (source how : Nat) : BootedOn b img source v (finishBoot (runImage b img source how false v)) := by
  have htold := told_runImage b img source how v
  have hserved := served_finishBoot (s := runImage b img source how false v) (by rw [htold.attar]; exact hkeeper)
  have hboot := hserved.boot
  rw [htold.boot] at hboot
  simp only [Boot.loaded, imgHeader] at hboot
  refine ⟨hserved.power.trans htold.power, ?_, hserved.ready, hserved.ctl, hserved.acc, hserved.hk, ?_, ?_, ?_, ?_, ?_, hserved.slots,
    hserved.empty (.told (hdata.withBoot _) htold)⟩
  all_goals rw [hboot]

/-- Settles O21: without an alarm the boot is decided by the board's OTP and by the checks of the two banks. -/
theorem bootEnds : Obligations.BootEnds := by
  intro off board s hrun
  refine ⟨fun hotp hquiet => ⟨_, exec_powerOn_of_quiet hrun hquiet off board, ?otpBad⟩, ?banks⟩
  case otpBad =>
    rw [if_pos hotp]
    exact ⟨rfl, rfl, rfl, rfl, rfl⟩
  intro hotp hkat hdimms hbanks hquiet hrecord hkeeper a b ha hb
  have hboot := atBanks_boot off board s
  have hA : checkImage (atBanks off board s) (atBanks off board s).boot.bankA true = a := by
    rw [ha, hboot]
    exact checkImage_congr (by rw [hboot]) (by rw [hboot]) _ _
  have hB : checkImage (atBanks off board s) (atBanks off board s).boot.bankB true = b := by
    rw [hb, hboot]
    exact checkImage_congr (by rw [hboot]) (by rw [hboot]) _ _
  have hexec := exec_powerOn_of_quiet hrun hquiet off board
  rw [if_neg (by simp [hotp]), bootOn_of_sound hkat hdimms hbanks, ← atBanks,
    bootBanks_of_no_record (by rw [hboot]; exact hrecord) hA hB] at hexec
  have hlock := atBanks_rootLock off board s
  have hdata := noDataPath_atBanks off board s
  have hkeys := (atBanks_keeper off board s).trans hkeeper
  have hslots := atBanks_slots off board s
  obtain ⟨hready, hcores⟩ := atBanks_stopped off board s
  have hbankA : (atBanks off board s).boot.bankA = s.boot.bankA := by rw [hboot]
  have hbankB : (atBanks off board s).boot.bankB = s.boot.bankB := by rw [hboot]
  have herrorB : (atBanks off board s).boot.errorB = 0 := by rw [hboot]
  generalize atBanks off board s = v at *
  by_cases hgoodA : a = 0
  · rw [if_pos hgoodA] at hexec
    have hend := bootedOn_runImage (v := setBankError false 2 v) hkeys (hdata.withBoot _) false v.boot.bankA 0 0
    refine ⟨_, hexec, ?_⟩
    simp only [hgoodA, true_or, if_true, iff_true, ne_eq, not_true_eq_false, false_implies, true_implies, true_and]
    exact ⟨by rw [hend.power]; exact hlock, hend.stage, hend.ready, hend.ctl, hend.acc, hend.hk, by rw [hend.errorA]; rfl,
      ⟨hend.bank, hend.source, by rw [hend.running, hbankA]⟩, hend.empty.ports, hend.empty.channels, hend.empty.fabric,
      hend.empty.gate, hend.slots, hend.empty.running⟩
  · by_cases hgoodB : b = 0
    · rw [if_neg hgoodA, if_pos hgoodB] at hexec
      have htold := told_raiseFallback false 0 a (bankAFailed a v)
      have hend := bootedOn_runImage (v := raiseFallback false 0 a (bankAFailed a v)) (by rw [htold.attar]; exact hkeys)
        (.told ((hdata.withBoot _).withBoot _) htold) true v.boot.bankB 1 0
      refine ⟨_, hexec, ?_⟩
      simp only [hgoodA, hgoodB, or_true, if_true, if_false, iff_true, ne_eq, not_false_eq_true, false_implies, true_implies, true_and]
      exact ⟨by rw [hend.power, htold.power]; exact hlock, hend.stage, hend.ready, hend.ctl, hend.acc, hend.hk,
        by rw [hend.errorA, htold.boot]; rfl, by rw [hend.errorB, htold.boot]; exact herrorB,
        ⟨hend.bank, hend.source, by rw [hend.running, hbankB]⟩, hend.empty.ports, hend.empty.channels, hend.empty.fabric,
        hend.empty.gate, hend.slots, hend.empty.running⟩
    · rw [if_neg hgoodA, if_neg hgoodB] at hexec
      refine ⟨_, hexec, ?_⟩
      simp only [hgoodA, hgoodB, or_self, if_false, iff_false, ne_eq, not_false_eq_true, false_implies, true_implies, true_and]
      refine ⟨hlock, ?_, ?_, ?_, ?_, rfl, rfl, hdata.ports, hdata.channels, hdata.fabric, hdata.gate, hslots, hdata.running⟩
      · simp [bankAFailed, setBankError, hready]
      all_goals simp [bankAFailed, setBankError, hcores]

end Sys2Proof.Machine
end

section
/-!
PROOFS. The DMA engine (18_access_and_dma R533 to R539): translation settings, the resumption of a faulted transfer, and a turn of one page.
-/
namespace Sys2Proof.Machine

open Sys2Proof

/-! ## Reporting over a counter raised, and over the running commands -/

@[simp] theorem counter_plus_same (off n : Nat) (s : State) : counter (State.plus off n s) off = counter s off + BitVec.ofNat 64 n :=
  counter_put_same s off _

theorem counter_plus_ne {off o : Nat} (h : o ≠ off) (n : Nat) (s : State) : counter (State.plus off n s) o = counter s o :=
  counter_put_ne h s _

/-- Reporting and raising a counter that reporting leaves alone are independent. -/
theorem Told.plus {s t : State} (h : Told s t) {off : Nat} (hoff : off ≠ 0xd138) (n : Nat) :
    Told (State.plus off n s) (State.plus off n t) := by
  refine ⟨?_, h.regs, fun o ho => ?_, h.out, h.fns⟩
  · rw [h.rest]
    rfl
  · by_cases he : o = off
    · rw [he, counter_plus_same, counter_plus_same, h.counters off hoff]
    · rw [counter_plus_ne he, counter_plus_ne he, h.counters o ho]

/-- What runs is no part of reporting. -/
theorem Told.withRunning {s t : State} (h : Told s t) (rs : List Running) : Told { s with running := rs } { t with running := rs } := by
  refine ⟨?_, h.regs, h.counters, h.out, h.fns⟩
  rw [h.rest]

/-! ## Settings and resumption -/

theorem specDmaXltSet_enable {c : Cmd} (h : c.get ⟨8, 0, 2⟩ = 0) (s : State) : specDmaXltSet.effect c s =
    ({ s with dma := { s.dma with
        xlt := s.dma.xlt.put {} c.fn { enabled := true, root := c.u64 16, l1 := c.get ⟨9, 0, 5⟩ }
        cache := s.dma.cache.filter (fun x => x.fn != c.fn) } }, ok 0) := by
  simp only [specDmaXltSet, h]
  rfl

theorem specDmaXltSet_range {c : Cmd} (h : c.get ⟨8, 0, 2⟩ = 1) (s : State) : specDmaXltSet.effect c s =
    ({ s with dma := { s.dma with cache := s.dma.cache.filter (fun x =>
        x.fn != c.fn || decide (x.va + x.size ≤ c.u64 24) || decide (c.u64 24 + c.u64 32 ≤ x.va)) } }, ok 0) := by
  simp only [specDmaXltSet, h]
  rfl

theorem specDmaXltSet_all {c : Cmd} (h : c.get ⟨8, 0, 2⟩ = 2) (s : State) : specDmaXltSet.effect c s =
    ({ s with dma := { s.dma with cache := s.dma.cache.filter (fun x => x.fn != c.fn) } }, ok 0) := by
  simp only [specDmaXltSet, h]
  rfl

theorem specDmaXltSet_disable {c : Cmd} (h : c.get ⟨8, 0, 2⟩ = 3) (s : State) : specDmaXltSet.effect c s =
    ({ s with dma := { s.dma with xlt := s.dma.xlt.put {} c.fn { s.dma.xlt.get {} c.fn with enabled := false } } }, ok 0) := by
  simp only [specDmaXltSet, h]
  rfl

theorem resumeXfer_only {fn id : Nat} {r : Running} {x : Xfer} {s : State} (hrunning : s.running = [r]) (hfn : r.cmd.fn = fn)
    (hxfer : r.xfer = some x) (hfault : x.fault = some id) :
    resumeXfer fn id s = dropRange fn (Xfer.at r x / 4096 * 4096) 4096
      { s with running := [{ r with xfer := some { x with fault := none } }] } := by
  have hwaits : waitsOn fn id r = true := by simp [waitsOn, hfn, hxfer, hfault]
  simp only [resumeXfer, hrunning, List.find?_cons, hwaits, hxfer, List.map_cons, List.map_nil, if_true, Option.map_some]

/-! ## The turn -/

/-- A search that finds at most one answer, and somewhere finds it, returns it. -/
theorem findSome?_eq_of_unique {α β : Type} {f : α → Option β} {b : β} {l : List α} (hall : ∀ a ∈ l, f a = none ∨ f a = some b)
    (hex : ∃ a ∈ l, f a = some b) : l.findSome? f = some b := by
  induction l with
  | nil => simp at hex
  | cons a rest ih =>
    rcases hall a List.mem_cons_self with h | h
    · rw [List.findSome?_cons, h]
      refine ih (fun x hx => hall x (List.mem_cons_of_mem _ hx)) ?_
      obtain ⟨x, hx, hfx⟩ := hex
      rcases List.mem_cons.mp hx with rfl | hx
      · simp [h] at hfx
      · exact ⟨x, hx, hfx⟩
    · rw [List.findSome?_cons, h]

theorem nextTransfer_only {s : State} {r : Running} (hrunning : s.running = [r]) (hfn : r.cmd.fn < 32) (hmoves : moves r = true) :
    nextTransfer s = some 0 := by
  unfold nextTransfer
  refine findSome?_eq_of_unique (fun f _ => ?_) ⟨r.cmd.fn, ?_, ?_⟩
  · by_cases hf : r.cmd.fn = f
    · simp [hrunning, hmoves, hf]
    · simp [hrunning, hmoves, hf]
  · refine List.mem_map.mpr ⟨(r.cmd.fn + 32 - s.dma.nextFn % 32) % 32, List.mem_range.mpr (Nat.mod_lt _ (by decide)), ?_⟩
    omega
  · simp [hrunning, hmoves]

/-- A transfer, and its command, in its next turn. -/
def Xfer.inTurn (x : Xfer) (s : State) : Xfer := { x with turn := s.dma.turns + 1 }
def Running.inTurn (r : Running) (x : Xfer) (s : State) : Running := { r with xfer := some (x.inTurn s) }

/-- The transfer of the only running command, at the start of its turn. -/
def turnStarted (r : Running) (x : Xfer) (s : State) : State :=
  { s with
    running := [r.inTurn x s]
    dma := { s.dma with turns := s.dma.turns + 1, nextFn := (r.cmd.fn + 1) % 32 } }

theorem exec_dmaTurn_only {s : State} {r : Running} {x : Xfer} (hlive : s.live = true) (hrunning : s.running = [r])
    (hfn : r.cmd.fn < 32) (hwait : r.wait = .transfer) (hxfer : r.xfer = some x) (hfault : x.fault = none) (answer : Bytes)
    (buffer : Nat) : exec (.dmaTurn [] [some answer] false buffer []) s =
      .next (turnPages 0 buffer [] 2 65536 false [] [some answer] (turnStarted r x s)) := by
  have hmoves : moves r = true := by simp [moves, hwait, hxfer, hfault]
  have hstart : ({ setXfer 0 { x with turn := s.dma.turns + 1 } s with
      dma := { s.dma with turns := s.dma.turns + 1, nextFn := (r.cmd.fn + 1) % 32 } } : State) = turnStarted r x s := by
    simp [setXfer, hrunning, turnStarted, Running.inTurn, Xfer.inTurn]
  dsimp only [exec, execDmaTurn]
  rw [act_of_live hlive]
  simp only [nextTransfer_only hrunning hfn hmoves, hrunning, List.getElem?_cons_zero, hxfer, List.length_singleton]
  rw [← hstart]

theorem gateScan_nobad (req addr : Nat) (write dma : Bool) (n r : Nat) (s : State) :
    (gateScan req addr write dma [] n r s).1 = s := by
  induction n generalizing r with
  | zero => rfl
  | succ n ih =>
    simp only [gateScan, List.contains_nil, Bool.false_eq_true, if_false]
    split
    · rfl
    · exact ih (r + 1)

/-- The gate's verdict changes nothing where no rule's parity fails. -/
theorem gateCheck_nobad (req addr : Nat) (write dma : Bool) (s : State) : (gateCheck req addr write dma [] s).1 = s := by
  have hscan := gateScan_nobad req addr write dma 64 0 s
  unfold gateCheck
  split_ifs
  · rfl
  · rfl
  · rfl
  · rcases hv : gateScan req addr write dma [] 64 0 s with ⟨t, _ | _ | _⟩
    all_goals
      rw [hv] at hscan
      exact hscan

theorem gateCheck_of_alike {s t : State} (h : GateAlike t s) {req addr : Nat} {write dma : Bool}
    (hcheck : gateCheck req addr write dma [] s = (s, none)) : gateCheck req addr write dma [] t = (t, none) := by
  have hverdict := h.gateCheck req addr write dma []
  rw [hcheck] at hverdict
  exact Prod.ext (gateCheck_nobad ..) hverdict

theorem turnPages_of_disabled {s : State} {r : Running} {x : Xfer} (hrunning : s.running = [r]) (hxfer : r.xfer = some x)
    (hoff : (s.dma.xlt.get {} r.cmd.fn).enabled = false) (answer : Bytes) (buffer : Nat) :
    turnPages 0 buffer [] 2 65536 false [] [some answer] s = dmaFault 0 7 s := by
  have hfault (va : Nat) (write : Bool) : translate r.cmd.fn va write false [] s = (.fault 7, [], s) := by
    simp [translate, xltOf, hoff]
  rw [turnPages]
  simp only [hrunning, List.getElem?_cons_zero, hxfer, hfault]
  rfl

theorem dmaFault_only {s : State} {r : Running} {x : Xfer} (hrunning : s.running = [r]) (hxfer : r.xfer = some x)
    (hfault : x.fault = none) (kind : Nat) :
    Told (State.plus 0x10388 1 { s with running := [{ r with xfer := some { x with fault := some 0 } }] }) (dmaFault 0 kind s) := by
  have hnone : faultsOf s r.cmd.fn = [] := by simp [faultsOf, hrunning, hxfer, hfault]
  simp only [dmaFault, hrunning, List.getElem?_cons_zero, hxfer, hnone, count, List.set_cons_zero]
  rw [countBy_uncounted (by decide)]
  exact ((Told.refl _).raiseFor ..).plus (by decide) 1

/-! ## A page that moves -/

theorem translate_cached {f va : Nat} {write : Bool} {m : Translation} {s : State} (hon : (s.dma.xlt.get {} f).enabled = true)
    (hrange : va / 0x200000 < 2 ^ (s.dma.xlt.get {} f).l1) (hhit : s.dma.cache.find? (fun y => y.covers f va) = some m)
    (hwrite : write = true → m.write = true) : translate f va write false [] s =
      (.bus (m.addr + (va - m.va)), [], setCache (dropFirst (fun y => y.covers f va) s.dma.cache ++ [m]) s) := by
  have hpermit : (write && !m.write) = false := by cases write <;> simp_all
  simp only [translate, xltOf, hon, Bool.not_true, Bool.false_eq_true, if_false, if_neg (Nat.not_le.mpr hrange), Bool.false_and, hhit,
    hpermit]

/-- A turn has started and its page's cached translation has become the most recently used one (R534). -/
def pageTranslated (r : Running) (x : Xfer) (m : Translation) (s : State) : State :=
  setCache (dropFirst (fun y => y.covers r.cmd.fn (Xfer.at r x)) s.dma.cache ++ [m]) (turnStarted r x s)

/-- The engine's own counts for a page moved (R590). -/
def pageCounted (fn n : Nat) (s : State) : State := pmcEvent 0x301 fn n (State.plus 0x10380 n s)

theorem told_pageCounted (fn n : Nat) (s : State) : Told (State.plus 0x10380 n s) (pageCounted fn n s) := (Told.refl _).pmcEvent _ _ _

/-- A turn whose first page moves goes on with what the move says. -/
theorem turnPages_moves {s : State} {r : Running} {x : Xfer} {m : Translation} {n buffer : Nat} (hrunning : s.running = [r])
    (hxfer : r.xfer = some x) (hon : (s.dma.xlt.get {} r.cmd.fn).enabled = true)
    (hrange : Xfer.at r x / 0x200000 < 2 ^ (s.dma.xlt.get {} r.cmd.fn).l1)
    (hhit : s.dma.cache.find? (fun y => y.covers r.cmd.fn (Xfer.at r x)) = some m) (hwrite : x.toHost = true → m.write = true)
    (hgate : gateCheck r.cmd.fn (buffer + x.moved) (!x.toHost) true [] s = (s, none)) (hn : n = x.length - x.moved)
    (hpage : Xfer.at r x % 4096 + n ≤ 4096) (hop : r.cmd.opcode ≠ 0x0302) (answer : Bytes) {t : State}
    (hmove : movePage 0 n r x answer (setCache (dropFirst (fun y => y.covers r.cmd.fn (Xfer.at r x)) s.dma.cache ++ [m]) s) = (false, t)) :
    turnPages 0 buffer [] 2 65536 false [] [some answer] s = t := by
  have hleft : leftOf r x = n := by simp [leftOf, hop, hn]
  have hroom : min (min (4096 - Xfer.at r x % 4096) (leftOf r x)) 65536 = n := by rw [hleft]; omega
  have halike : GateAlike (setCache (dropFirst (fun y => y.covers r.cmd.fn (Xfer.at r x)) s.dma.cache ++ [m]) s) s :=
    ⟨rfl, rfl, fun _ _ => rfl⟩
  rw [turnPages]
  simp only [hrunning, List.getElem?_cons_zero, hxfer, translate_cached hon hrange hhit hwrite, hroom]
  rw [if_neg (by decide)]
  simp only [gateCheck_of_alike halike hgate, hmove]

theorem dropRunning_only {s : State} {r : Running} (h : s.running = [r]) : dropRunning 0 s = { s with running := [] } := by
  simp [dropRunning, h]

/-- The last page of a payload: its command runs with the whole of it (R538). -/
theorem movePage_payload {r : Running} {x : Xfer} {spec : OpSpec} {n : Nat} {s : State} (hrunning : s.running = [r])
    (htoHost : x.toHost = false) (hlast : x.length ≤ x.moved + n) (hload : r.cmd.opcode ≠ 0x0301) (hcompare : r.cmd.opcode ≠ 0x0302)
    (hspec : specOf r.cmd.opcode = some spec) (answer : Bytes) : movePage 0 n r x answer s =
      (false, runOp spec { r.cmd with payload := x.data ++ (answer ++ List.replicate n 0).take n }
        { pageCounted r.cmd.fn n s with running := [] }) := by
  have hkept : (pageCounted r.cmd.fn n s).running = [r] := (told_pageCounted r.cmd.fn n s).running.trans hrunning
  unfold movePage
  rw [countBy_uncounted (by decide), ← pageCounted]
  simp only [htoHost, Bool.not_false, if_true, afterMove, if_neg hload, if_neg hcompare, if_neg (Nat.not_lt.mpr hlast), hspec,
    dropRunning_only hkept]

/-- The last page of a partial result: its command completes (R538). -/
theorem movePage_partial {r : Running} {x : Xfer} {reply : Reply} {n : Nat} {s : State} (hrunning : s.running = [r])
    (htoHost : x.toHost = true) (hlast : x.length ≤ x.moved + n) (hload : r.cmd.opcode ≠ 0x0301) (hcompare : r.cmd.opcode ≠ 0x0302)
    (hreply : r.reply = some reply) (hpartial : partialOp r.cmd.opcode = true) (answer : Bytes) : movePage 0 n r x answer s =
      (false, postCompletion r.cmd reply.status reply.detail reply.result
        (emit (.hostWrite r.cmd.fn (Xfer.at r x) (slice x.data x.moved n)) { pageCounted r.cmd.fn n s with running := [] })) := by
  have hkept : (emit (.hostWrite r.cmd.fn (Xfer.at r x) (slice x.data x.moved n)) (pageCounted r.cmd.fn n s)).running = [r] :=
    (told_pageCounted r.cmd.fn n s).running.trans hrunning
  unfold movePage
  rw [countBy_uncounted (by decide), ← pageCounted]
  simp only [htoHost, Bool.not_true, Bool.false_eq_true, if_false, if_neg hcompare, hpartial, if_true, afterMove, if_neg hload,
    if_neg (Nat.not_lt.mpr hlast), hreply, dropRunning_only hkept]
  rfl

/-- Settles O27: the settings by OP, the resumption and the turn of the one running command. -/
theorem dmaCommandsAndTurns : Obligations.DmaCommandsAndTurns := by
  intro c s
  refine ⟨fun hpass => ⟨fun h => ?_, fun h => ?_, fun h => ?_, fun h => ?_⟩, ?resume, ?turn⟩
  · exact answers_of_done hpass (by decide) (specDmaXltSet_enable h s)
  · exact answers_of_done hpass (by decide) (specDmaXltSet_range h s)
  · exact answers_of_done hpass (by decide) (specDmaXltSet_all h s)
  · exact answers_of_done hpass (by decide) (specDmaXltSet_disable h s)
  case resume =>
    rintro r x p hpass hrunning hfn hxfer hfault rfl
    refine answers_of_done hpass (by decide) ?_
    simp only [specDmaResume, resumeXfer_only hrunning hfn hxfer hfault]
    rfl
  case turn =>
    rintro r x m answer buffer n d hlive hrunning hfn hwait hxfer hfault rfl
    have hexec := exec_dmaTurn_only hlive hrunning hfn hwait hxfer hfault answer buffer
    refine ⟨fun hoff => ⟨_, hexec, ?_⟩, fun hon hrange hhit hwrite hgate hn hpos hpage hload hcompare => ?_⟩
    · rw [turnPages_of_disabled (s := turnStarted r x s) rfl rfl hoff]
      exact dmaFault_only (s := turnStarted r x s) rfl rfl hfault 7
    · have halike : GateAlike (turnStarted r x s) s := ⟨rfl, rfl, fun _ _ => rfl⟩
      have hmoves {t : State} := turnPages_moves (s := turnStarted r x s) (r := r.inTurn x s) (x := x.inTurn s) rfl rfl hon hrange hhit hwrite (gateCheck_of_alike halike hgate) hn hpage hcompare
        answer (t := t)
      have hlast : x.length ≤ x.moved + n := by omega
      refine ⟨{ pageCounted r.cmd.fn n (pageTranslated r x m s) with running := [] },
        (told_pageCounted r.cmd.fn n (pageTranslated r x m s)).withRunning [], fun spec htoHost hspec => ?_,
        fun reply htoHost hreply hpartial => ⟨_, hexec, ?_⟩⟩
      · exact hexec.trans (congrArg _ (hmoves (movePage_payload (s := pageTranslated r x m s) (r := r.inTurn x s) (x := x.inTurn s) rfl htoHost hlast hload hcompare hspec answer)))
      · rw [hmoves (movePage_partial (s := pageTranslated r x m s) (r := r.inTurn x s) (x := x.inTurn s) rfl htoHost hlast hload hcompare hreply hpartial answer)]
        exact answered_postCompletion ..

end Sys2Proof.Machine
end

section
/-!
PROOFS. The watchdogs (19_timeouts_and_recovery): the levels of the hardware, the restart of a core, and WD_CONFIG.
-/
namespace Sys2Proof.Machine

open Sys2Proof

/-! ## Reporting is independent of the fields that it leaves alone -/

theorem told_countBy (off n : Nat) (s : State) : Told (State.plus off n s) (countBy off n s) := by
  unfold countBy
  dsimp only
  split
  · exact (Told.refl (State.plus off n s)).pmcEvent _ _ _
  · exact Told.refl (State.plus off n s)

/-- A counter raised after reporting. -/
theorem Told.countBy {s t : State} (h : Told s t) {off : Nat} (hoff : off ≠ 0xd138) (n : Nat) :
    Told (State.plus off n s) (countBy off n t) := (h.plus hoff n).trans (told_countBy off n t)

theorem Told.withSelectors {s t : State} (h : Told s t) (x : Selectors) : Told { s with selectors := x } { t with selectors := x } := by
  refine ⟨?_, h.regs, h.counters, h.out, h.fns⟩
  rw [h.rest]

theorem Told.withFabric {s t : State} (h : Told s t) (x : Fabric) : Told { s with fabric := x } { t with fabric := x } := by
  refine ⟨?_, h.regs, h.counters, h.out, h.fns⟩
  rw [h.rest]

theorem Told.withFreeIx {s t : State} (h : Told s t) (n : Nat) : Told { s with freeIx := n } { t with freeIx := n } := by
  refine ⟨?_, h.regs, h.counters, h.out, h.fns⟩
  rw [h.rest]

theorem Told.withPair {s t : State} (h : Told s t) (x : Pair) : Told { s with pair := x } { t with pair := x } := by
  refine ⟨?_, h.regs, h.counters, h.out, h.fns⟩
  rw [h.rest]

theorem Told.withWatchdog {s t : State} (h : Told s t) (x : Watchdog) : Told { s with watchdog := x } { t with watchdog := x } := by
  refine ⟨?_, h.regs, h.counters, h.out, h.fns⟩
  rw [h.rest]

theorem Told.writeReg {s t : State} (h : Told s t) (a : Nat) (w : Word) : Told (Machine.setReg a w s) (Machine.setReg a w t) := by
  refine ⟨?_, fun b hb => ?_, h.counters, h.out, h.fns⟩
  · rw [h.rest]
    rfl
  · by_cases he : b = a
    · rw [he, reg_setReg_same, reg_setReg_same]
    · rw [reg_setReg_ne he, reg_setReg_ne he, h.regs b hb]

/-! ## L0 to L2, and L7 -/

theorem declareFault_of_off {s : State} (h : s.pair.mode = .off) : declareFault s = s := by simp [declareFault, h]

theorem told_tableExpired (object index : Nat) (s : State) :
    Told (State.plus 0x10490 1 (lastLevel 1 s)) (tableExpired object index s) :=
  (told_countBy 0x10490 1 (lastLevel 1 s)).raiseHeld ..

theorem told_stopIndex {s t : State} {r : Running} {index : Nat} (h : Told s t) (hr : s.running[index]? = some r) (status detail : Nat) :
    Answered r.cmd status detail (stopResult r) { t with running := s.running.eraseIdx index } (stopIndex index status detail t) := by
  rw [← h.running] at hr ⊢
  simp only [stopIndex, hr]
  exact answered_postCompletion ..

/-- A selector entry that an operation gave up on is parity-failed and told (04 R119). -/
theorem told_failParity {table : Nat} {entry : Nat} {s t : State} (h : Told s t) (htable : table < 5)
    (hgood : (selEntry s table entry).parityFailed = false) (pipe how : Nat) :
    Told (putEntry table entry { selEntry s table entry with parityFailed := true }
      (setReg (0x40 + 4 * table) (BitVec.ofNat 32 (min 0xffff ((reg s (0x40 + 4 * table)).toNat + 1))) s))
      (failParity table pipe entry how t) := by
  have hentry {u : State} (hu : Told s u) : selEntry u table entry = selEntry s table entry := by simp only [selEntry, hu.selectors]
  have hreg : reg t (0x40 + 4 * table) = reg s (0x40 + 4 * table) :=
    h.regs _ (by have : 0x40 + 4 * table < 0x01000000 := by omega
                 simp [isReportReg, Nat.not_le.mpr this])
  have hfails : ¬(table != 5 && (selEntry t table entry).parityFailed) = true := by simp [hentry h, hgood]
  unfold failParity
  rw [if_neg hfails]
  dsimp only
  rw [if_neg (by omega), regCount16, hreg]
  have hcounted := (h.writeReg (0x40 + 4 * table) (BitVec.ofNat 32 (satAdd 0xffff (reg s (0x40 + 4 * table)).toNat 1))).raiseScoped 0 table
    0x0301 2 (entry + table * 2 ^ 20 + pipe * 2 ^ 23) (detailOf [(20, how)])
  generalize Machine.raiseScoped _ _ _ _ _ _ _ = u at hcounted ⊢
  have hsel : u.selectors = s.selectors := hcounted.selectors
  have hput := hcounted.withSelectors (s.selectors.setTable table
    ((s.selectors.table table).put emptyEntry entry { selEntry s table entry with parityFailed := true }))
  simp only [putEntry, selEntry, hsel] at hput ⊢
  exact hput

theorem exec_l0Flush_of_off {s : State} (hlive : s.live = true) (hoff : s.pair.mode = .off) (unit stage : Nat)
    (cells : List (Nat × Nat × Nat)) :
    Gives (exec (.l0Flush unit stage [] cells) s) (Told (State.plus 0x10480 1 { s with
      watchdog := { s.watchdog with lastLevel := 0 }
      fabric := { s.fabric with cells := s.fabric.cells.filter (fun k => !((unit == 32 || unit == 33) && k.plane == unit - 32 &&
        cells.contains (k.input, k.output, k.seq))) } })) := by
  refine ⟨_, act_of_live hlive _, ?_⟩
  have hnone : (if (unit == 32 || unit == 33) = true then ([] : List Nat)
      else (([] : List Nat).filter (fun n => (frameOf s n).isSome)).eraseDups) = [] := by split_ifs <;> rfl
  unfold flushStage
  dsimp only
  rw [hnone, List.foldl_nil]
  generalize hcells : s.fabric.cells.filter _ = kept
  have htold : Told (State.plus 0x10480 1 { s with fabric := { s.fabric with cells := kept } })
    (raiseHeld 0 0x1001 2 unit (detailOf [(20, stage), (24, ([] : List Nat).length)])
      (wdCount 0 1 { s with fabric := { s.fabric with cells := kept } })) := (told_countBy ..).raiseHeld ..
  have hlevel := htold.withWatchdog { s.watchdog with lastLevel := 0 }
  have hpair : (lastLevel 0 (raiseHeld 0 0x1001 2 unit (detailOf [(20, stage), (24, ([] : List Nat).length)])
      (wdCount 0 1 { s with fabric := { s.fabric with cells := kept } }))).pair.mode = .off := by
    rw [show (lastLevel 0 _).pair = _ from htold.pair]
    exact hoff
  rw [declareFault_of_off hpair, lastLevel, htold.watchdog]
  exact hlevel

/-- A selector operation is given up on (R555). -/
def selectorGivenUp (table pipe entry : Nat) (s : State) : State :=
  failParity table pipe entry (drawFree 8 (tableExpired table entry s)).1 (drawFree 8 (tableExpired table entry s)).2

theorem told_selectorGivenUp {s : State} {table entry : Nat} (htable : table < 5) (hgood : (selEntry s table entry).parityFailed = false)
    (pipe : Nat) : Told (putEntry table entry { selEntry s table entry with parityFailed := true }
      (setReg (0x40 + 4 * table) (BitVec.ofNat 32 (min 0xffff ((reg s (0x40 + 4 * table)).toNat + 1)))
        (State.plus 0x10490 1 { s with freeIx := s.freeIx + 1, watchdog := { s.watchdog with lastLevel := 1 } })))
      (selectorGivenUp table pipe entry s) := by
  have hexpired := told_tableExpired table entry s
  have hdrawn := hexpired.withFreeIx (s.freeIx + 1)
  rw [selectorGivenUp, drawFree, hexpired.freeIx]
  exact told_failParity hdrawn htable hgood pipe _

theorem Told.selDone {s t : State} (h : Told s t) (result index : Nat) (evicted : Bool) :
    Told (selDone result index evicted s) (selDone result index evicted t) := by
  have hdone := h.withSelectors { s.selectors with statusResult := result, statusIndex := index, statusEvicted := evicted }
  rw [← h.selectors] at hdone
  rw [Machine.selDone, Machine.selDone, ← h.selectors]
  exact hdone

theorem exec_l1Expiry_selector {s : State} (hlive : s.live = true) {table entry : Nat} (htable : table < 5)
    (hgood : (selEntry s table entry).parityFailed = false) (pipe : Nat) :
    Gives (exec (.l1Expiry 0 table pipe entry 0) s) (Told
      (selDone 4 entry false (putEntry table entry { selEntry s table entry with parityFailed := true }
        (setReg (0x40 + 4 * table) (BitVec.ofNat 32 (min 0xffff ((reg s (0x40 + 4 * table)).toNat + 1)))
          (State.plus 0x10490 1 { s with freeIx := s.freeIx + 1, watchdog := { s.watchdog with lastLevel := 1 } }))))) := by
  refine ⟨selDone 4 entry false (selectorGivenUp table pipe entry s), ?_, (told_selectorGivenUp htable hgood pipe).selDone ..⟩
  dsimp only [exec, execL1Expiry]
  exact act_of_live hlive _

/-- A multicast entry that an operation gave up on is parity-failed and told (09 R301). -/
def groupGivenUp (entry : Nat) (s : State) : State :=
  failMc false entry (drawFree 8 (tableExpired (0 + 8) entry s)).1 (drawFree 8 (tableExpired (0 + 8) entry s)).2

theorem told_groupGivenUp {s : State} {entry : Nat} (hgood : (groupOf s entry).parityFailed = false) :
    Told (setGroup entry { groupOf s entry with parityFailed := true }
      (State.plus 0x10490 1 { s with freeIx := s.freeIx + 1, watchdog := { s.watchdog with lastLevel := 1 } })) (groupGivenUp entry s) := by
  have hexpired := told_tableExpired (0 + 8) entry s
  have hdrawn := hexpired.withFreeIx (s.freeIx + 1)
  have hsame : groupOf (drawFree 8 (tableExpired (0 + 8) entry s)).2 entry = groupOf s entry := by
    simp only [groupOf, drawFree, hexpired.fabric]
    rfl
  rw [groupGivenUp, failMc, if_neg (by decide), hsame, if_neg (by simp [hgood]), drawFree, hexpired.freeIx]
  apply Told.raiseHeld
  have hset := hdrawn.withFabric { s.fabric with groups := s.fabric.groups.put {} entry { groupOf s entry with parityFailed := true } }
  rw [setGroup, setGroup, hdrawn.fabric]
  exact hset

theorem exec_l1Expiry_multicast {s : State} (hlive : s.live = true) {entry : Nat} (hgood : (groupOf s entry).parityFailed = false) :
    Gives (exec (.l1Expiry 1 0 0 entry 0) s) (fun t => t.fabric.mcResult = 3 ∧ (groupOf t entry).parityFailed = true ∧
      (∀ m, m ≠ entry → groupOf t m = groupOf s m) ∧
      Told (State.plus 0x10490 1 { s with freeIx := s.freeIx + 1, watchdog := { s.watchdog with lastLevel := 1 }
                                          fabric := { s.fabric with groups := t.fabric.groups, mcResult := 3 } }) t) := by
  have htold := told_groupGivenUp hgood
  have hgroups : (groupGivenUp entry s).fabric.groups = s.fabric.groups.put {} entry { groupOf s entry with parityFailed := true } := by
    rw [htold.fabric]
    rfl
  refine ⟨{ groupGivenUp entry s with fabric := { (groupGivenUp entry s).fabric with mcResult := 3 } }, ?_, rfl, ?_, fun m hm => ?_, ?_⟩
  · dsimp only [exec, execL1Expiry]
    exact act_of_live hlive _
  · rw [groupOf, hgroups, Table.get_put_same]
  · rw [groupOf, hgroups, Table.get_put_ne hm]
    rfl
  · have hdone := htold.withFabric { (groupGivenUp entry s).fabric with mcResult := 3 }
    rw [htold.fabric] at hdone ⊢
    exact hdone

theorem chOf_of_reservoir {s t : State} (h : t.reservoir = s.reservoir) (n : Nat) : chOf t n = chOf s n := by simp only [chOf, h]

theorem Told.setCh {s t : State} (h : Told s t) (n : Nat) (c : Channel) : Told (setCh n c s) (setCh n c t) := by
  have hset (x : Reservoir) : Told { s with reservoir := x } { t with reservoir := x } := by
    refine ⟨?_, h.regs, h.counters, h.out, h.fns⟩
    rw [h.rest]
  unfold Machine.setCh
  rw [h.reservoir]
  split <;> exact hset _

theorem State.plus_setCh (off k n : Nat) (c : Channel) (s : State) : State.plus off k (setCh n c s) = setCh n c (State.plus off k s) := by
  unfold setCh
  split <;> rfl

theorem exec_l2Expiry_of_online {s : State} (hlive : s.live = true) {channel : Nat} (honline : (chOf s channel).state = .online) :
    Gives (exec (.l2Expiry channel none) s) (Told (setCh channel { chOf s channel with state := .retraining, retrain := 1 }
      (State.plus (0x7100 + 8 * 9) 1 { s with watchdog := { s.watchdog with lastLevel := 2 } }))) := by
  refine ⟨beginRetrain channel 1 (lastLevel 2 s), ?_, ?_⟩
  · refine (act_of_live hlive _).trans ?_
    rw [if_pos honline]
  · rw [← State.plus_setCh]
    exact (told_countBy ..).raiseHeld ..

theorem exec_l7FwAliveTimeout_of_silent {s : State} (hlive : s.live = true) (hpair : s.pair.mode ≠ .off) (hsilent : s.pair.partnerFw = false) :
    Gives (exec .l7FwAliveTimeout s) (Told (State.plus 0x104b0 1 { s with watchdog := { s.watchdog with lastLevel := 7 } })) := by
  refine ⟨_, act_of_live hlive _, ?_⟩
  rw [if_pos ⟨hpair, by simp [hsilent]⟩]
  exact (told_countBy ..).raiseHeld ..

/-! ## L6: the firmware's watchdog -/

theorem Told.setReady {s t : State} (h : Told s t) (b : Bool) : Told { s with cmdReady := b } (setReady b t) := by
  apply Told.driveLed
  refine ⟨?_, h.regs, h.counters, h.out, h.fns⟩
  rw [h.rest]

theorem coreOf_setCore_same (n : Nat) (c : Core) (s : State) : coreOf (setCore n c s) n = c := by
  unfold setCore coreOf
  dsimp only
  split_ifs <;> rfl

theorem coreOf_setCore_ne {n k : Nat} (hn : 32 ≤ n ∧ n ≤ 34) (hk : 32 ≤ k ∧ k ≤ 34) (h : k ≠ n) (c : Core) (s : State) :
    coreOf (setCore n c s) k = coreOf s k := by
  unfold setCore coreOf
  dsimp only
  split_ifs <;> first | rfl | omega

theorem Told.stopRunning {s t : State} (h : Told s t) (p : Running → Bool) (status detail : Nat) :
    Told { s with running := s.running.filter (fun r => !p r) } (stopRunning p status detail t) := by
  unfold Machine.stopRunning
  dsimp only
  rw [h.running]
  exact (h.withRunning _).trans (Told.foldl _ (fun u r => (Told.refl u).postCompletion ..) _ _)

/-- A core down, its restart remembered (R560). -/
def coreDown (core : Nat) (s : State) : State :=
  setCore core { coreOf s core with up := false, downMs := msNow s, restarts := msNow s :: (coreOf s core).restarts.take 10 } s

/-- A core held in reset, and counted (R560). -/
def heldInReset (core : Nat) (s : State) : State :=
  { coreDown core s with watchdog := { (coreDown core s).watchdog with restarts := satAdd 0xffff (coreDown core s).watchdog.restarts 1 } }

theorem coreExpiry_of_debugHold {core : Nat} {s : State} (hcore : 32 ≤ core ∧ core ≤ 34) (hup : (coreOf s core).up = true)
    (hhold : s.watchdog.debugHold = true) : coreExpiry core s = raiseHeld 0 0x1005 1 core 0 s := by
  have hin : ¬(core < 32 ∨ 34 < core ∨ (!(coreOf s core).up) = true) := by simp [hup]; omega
  rw [coreExpiry, if_neg hin, if_pos hhold]

theorem coreExpiry_of_silent {core : Nat} {s : State} (hcore : 32 ≤ core ∧ core ≤ 34) (hup : (coreOf s core).up = true)
    (hhold : s.watchdog.debugHold = false) : coreExpiry core s =
      wdCount 5 1 (lastLevel 6 (if core = 32 then setReady false (heldInReset core s) else heldInReset core s)) := by
  have hin : ¬(core < 32 ∨ 34 < core ∨ (!(coreOf s core).up) = true) := by simp [hup]; omega
  rw [coreExpiry, if_neg hin, if_neg (by simp [hhold])]
  rfl

theorem told_coreExpiry {core : Nat} {s : State} (hcore : 32 ≤ core ∧ core ≤ 34) (hup : (coreOf s core).up = true)
    (hhold : s.watchdog.debugHold = false) :
    Told (State.plus 0x104a8 1 { s with cmdReady := if core = 32 then false else s.cmdReady
                                        watchdog := { (heldInReset core s).watchdog with lastLevel := 6 } }) (coreExpiry core s) := by
  rw [coreExpiry_of_silent hcore hup hhold]
  refine Told.countBy (s := { s with cmdReady := if core = 32 then false else s.cmdReady
                                     watchdog := { (heldInReset core s).watchdog with lastLevel := 6 } }) ?_ (by decide) 1
  by_cases h : core = 32
  · rw [if_pos h, if_pos h]
    have hready := (Told.refl (heldInReset core s)).setReady false
    have hlevel := hready.withWatchdog { (heldInReset core s).watchdog with lastLevel := 6 }
    rw [lastLevel, hready.watchdog]
    exact hlevel
  · rw [if_neg h, if_neg h]
    exact Told.refl _

theorem exec_l6Expiry_of_silent {core : Nat} {s : State} (hlive : s.live = true) (hcore : 32 ≤ core ∧ core ≤ 34)
    (hup : (coreOf s core).up = true) (hhold : s.watchdog.debugHold = false) :
    Gives (exec (.l6Expiry core) s) (fun t => ∃ w, t.watchdog = w ∧
      Told (State.plus 0x104a8 1 { s with cmdReady := if core = 32 then false else s.cmdReady, watchdog := w }) t ∧
      w.restarts = min 0xffff (s.watchdog.restarts + 1) ∧ w.lastLevel = 6 ∧ (coreOf t core).up = false ∧ (coreOf t core).downMs = msNow s ∧
      (coreOf t core).restarts = msNow s :: (coreOf s core).restarts.take 10 ∧
      ∀ k, 32 ≤ k → k ≤ 34 → k ≠ core → coreOf t k = coreOf s k) := by
  have htold := told_coreExpiry hcore hup hhold
  have hcores (k : Nat) : coreOf (coreExpiry core s) k = coreOf (coreDown core s) k := by
    rw [coreOf, htold.watchdog]
    rfl
  have hdown := coreOf_setCore_same core { coreOf s core with
    up := false, downMs := msNow s, restarts := msNow s :: (coreOf s core).restarts.take 10 } s
  have hrestarts : (coreDown core s).watchdog.restarts = s.watchdog.restarts := by
    unfold coreDown setCore
    dsimp only
    split_ifs <;> rfl
  refine ⟨coreExpiry core s, act_of_live hlive _, _, htold.watchdog, htold, ?_, rfl, ?_, ?_, ?_, fun k hlow hhigh hk => ?_⟩
  · simp only [State.plus, heldInReset, satAdd, hrestarts]
  · rw [hcores, coreDown, hdown]
  · rw [hcores, coreDown, hdown]
  · rw [hcores, coreDown, hdown]
  · rw [hcores]
    exact coreOf_setCore_ne hcore ⟨hlow, hhigh⟩ hk _ s

/-! ## The restart of a core -/

theorem accordRestart_of_no_peers {s : State} (hpeers : s.accord.peers = .empty) (hcomms : s.accord.communities = .empty)
    (hdue : s.channels.rekeyDue = []) : accordRestart s = s := by
  simp [accordRestart, serveWishes, serveRekeyDue, reviewCommunities, hpeers, hcomms, hdue, Table.keysIf, Table.keys, Table.empty]

theorem coreRestart_of_sound {core : Nat} {s : State} (hcore : 32 ≤ core ∧ core ≤ 34) (hdown : (coreOf s core).up = false)
    (hstopped : s.watchdog.stopped = false) (htrial : s.boot.trial = false)
    (hlimit : limitReached s.watchdog.restartLimit (coreOf s core).restarts = false) (bad : List Bool) :
    coreRestart core true bad s = coreRuns core s := by
  have hin : ¬(core < 32 ∨ 34 < core ∨ (coreOf s core).up = true ∨ s.watchdog.stopped = true) := by simp [hdown, hstopped]; omega
  rw [coreRestart, if_neg hin, if_neg (by simp [htrial]), if_pos (by simp [hlimit])]

theorem told_coreRuns {core : Nat} {s : State} (hpeers : s.accord.peers = .empty) (hcomms : s.accord.communities = .empty)
    (hdue : s.channels.rekeyDue = []) : Told (setCore core { coreOf s core with up := true }
      { s with running := if core = 32 then [] else s.running, cmdReady := if core = 32 then true else s.cmdReady }) (coreRuns core s) := by
  unfold coreRuns
  apply Told.raiseHeld
  by_cases h : core = 32
  · rw [if_pos h, if_pos h, if_pos h]
    have hstopped := (Told.refl (setCore core { coreOf s core with up := true } s)).stopRunning (fun _ => true) stAborted 2
    have hnone : s.running.filter (fun _ => !true) = [] := by simp
    have hready := hstopped.setReady true
    rw [show (setCore core { coreOf s core with up := true } s).running = s.running from rfl, hnone] at hready
    exact hready
  · rw [if_neg h, if_neg h, if_neg h]
    have hsame : accordRestart (setCore core { coreOf s core with up := true } s) = setCore core { coreOf s core with up := true } s :=
      accordRestart_of_no_peers hpeers hcomms hdue
    by_cases hacc : core = 33
    · rw [if_pos hacc, hsame]
      exact Told.refl _
    · rw [if_neg hacc]
      exact Told.refl _

/-! ## WD_CONFIG -/

theorem resultOf_wdConfig (a b d e : Nat) : resultOf [(8, a), (9, b), (10, d), (12, e)] = a + 2 ^ 8 * b + 2 ^ 16 * d + 2 ^ 32 * e := by
  simp only [resultOf_cons, resultOf_nil]
  omega

theorem specWdConfig_query {c : Cmd} (h : c.flag 8 0 = true) (s : State) : specWdConfig.effect c s =
    (s, ok (1 + 2 * b2n s.watchdog.debugHold + 2 ^ 8 * s.watchdog.restartLimit + 2 ^ 16 * s.watchdog.l6Ms + 2 ^ 32 * s.watchdog.graceMs)) := by
  simp only [specWdConfig, wdQuery, h, if_true, resultOf_wdConfig]
  rfl

theorem specWdConfig_set {c : Cmd} (h : c.flag 8 0 = false) (s : State) : specWdConfig.effect c s =
    ({ s with watchdog := { s.watchdog with debugHold := c.flag 8 1, restartLimit := wdLimit c, l6Ms := wdL6 c, graceMs := wdL5 c } },
      ok (2 * b2n (c.flag 8 1) + 2 ^ 8 * wdLimit c + 2 ^ 16 * wdL6 c + 2 ^ 32 * wdL5 c)) := by
  simp only [specWdConfig, wdQuery, h, Bool.false_eq_true, if_false, resultOf_wdConfig, b2n, Nat.zero_add]

/-- Settles O29: the hardware's levels, the firmware's watchdog and WD_CONFIG, each by its own lemma. -/
theorem watchdogs : Obligations.Watchdogs := by
  refine ⟨fun s hlive => ⟨fun unit stage cells hoff => exec_l0Flush_of_off hlive hoff unit stage cells,
    fun table pipe entry htable hgood => exec_l1Expiry_selector hlive htable hgood pipe,
    fun entry hgood => exec_l1Expiry_multicast hlive hgood, fun table pipe entry index r hr => ?stopped,
    fun channel _ honline => exec_l2Expiry_of_online hlive honline, exec_l7FwAliveTimeout_of_silent hlive⟩,
    fun core s hlive hlow hhigh => ⟨fun hup hhold => ?held, exec_l6Expiry_of_silent hlive ⟨hlow, hhigh⟩,
      fun bad hdown hstopped htrial hlimit hpeers hcomms hdue => ?restart⟩, fun c s hpass => ⟨fun hquery => ?query, fun hset => ?set⟩⟩
  case stopped =>
    refine ⟨stopIndex index stFault 0 (tableExpired (table + 16) entry s), ?_, tableExpired (table + 16) entry s,
      told_tableExpired (table + 16) entry s, told_stopIndex (told_tableExpired (table + 16) entry s) hr stFault 0⟩
    simp only [exec, execL1Expiry, act_of_live hlive]
  case held =>
    refine ⟨_, act_of_live hlive _, ?_⟩
    rw [coreExpiry_of_debugHold ⟨hlow, hhigh⟩ hup hhold]
    exact (Told.refl s).raiseHeld ..
  case restart =>
    refine ⟨_, act_of_live hlive _, ?_⟩
    rw [coreRestart_of_sound ⟨hlow, hhigh⟩ hdown hstopped htrial hlimit]
    exact told_coreRuns hpeers hcomms hdue
  case query => exact answers_of_done hpass (by decide) (specWdConfig_query hquery s)
  case set => exact ⟨_, _, _, rfl, rfl, rfl, answers_of_done hpass (by decide) (specWdConfig_set hset s)⟩

end Sys2Proof.Machine
end

section
/-!
PROOFS. Ports (03_lanes_and_ports): link bring-up and faults move one port.
-/
namespace Sys2Proof.Machine

open Sys2Proof

/-! ## Writing a port -/

theorem cellsInsert_insert {α : Type} (k : Nat) (v w : α) (l : List (Nat × α)) :
    cellsInsert k v (cellsInsert k w l) = cellsInsert k v l := by
  induction l with
  | nil => simp [cellsInsert]
  | cons c rest ih =>
    obtain ⟨j, u⟩ := c
    simp only [cellsInsert]
    split_ifs with hlt heq
    · simp [cellsInsert]
    · simp [cellsInsert]
    · simp [cellsInsert, hlt, heq, ih]

theorem Table.set_set {α : Type} (t : Table α) (k : Nat) (v w : α) : (t.set k w).set k v = t.set k v :=
  congrArg Table.mk (cellsInsert_insert k v w t.cells)

@[simp] theorem portOf_setPort_same (p : Nat) (v : Port) (s : State) : portOf (setPort p v s) p = some v :=
  Table.find_set_same s.ports.ports p v

@[simp] theorem setPort_setPort (p : Nat) (v w : Port) (s : State) : setPort p v (setPort p w s) = setPort p v s := by
  simp only [setPort, Table.set_set]

theorem modPort_of_some {p : Nat} {v : Port} {s : State} (h : portOf s p = some v) (f : Port → Port) :
    modPort p f s = setPort p (f v) s := by
  unfold portOf at h
  simp only [modPort, setPort, Table.modify, h]

@[simp] theorem modPort_setPort (p : Nat) (f : Port → Port) (v : Port) (s : State) : modPort p f (setPort p v s) = setPort p (f v) s := by
  rw [modPort_of_some (portOf_setPort_same p v s), setPort_setPort]

/-- A port whose counter of R104 has risen. -/
def Port.counted (v : Port) (i n : Nat) : Port := { v with counters := v.counters.put 0 i (v.counters.get 0 i + BitVec.ofNat 64 n) }

theorem portCount_setPort {i : Nat} (h : pmcOfPort i = none) (p : Nat) (v : Port) (s : State) :
    portCount p i (setPort p v s) = setPort p (v.counted i 1) s := by
  rw [portCount, portCountBy]
  simp only [h, modPort_setPort]
  rfl

/-- A row about a configured port. -/
theorem onPort_of_some {p : Nat} {v : Port} {s : State} (hp : p < 128) (h : portOf s p = some v) (f : Port → State → State) :
    onPort p f s = f v s := by
  simp only [onPort, if_pos hp, h]

/-! ## An up link goes down -/

theorem truncateRx_of_idle {p : Nat} {v : Port} {s : State} (hidle : busyRx s p = false) :
    truncateRx p (setPort p v s) = setPort p { v with looped := [] } s := by
  have hstill : busyRx (setPort p { v with looped := [] } s) p = false := hidle
  rw [truncateRx, modPort_setPort, if_neg (by simp [hstill])]

theorem cutTx_of_idle {p : Nat} {s : State} (h : (egressOf s p).tx = none) : cutTx p s = s := by simp only [cutTx, h]

theorem told_linkDown {p : Nat} {v : Port} {s : State} (hidle : busyRx s p = false) (htx : (egressOf s p).tx = none) (cause : Nat) :
    Told (setPort p (({ v with looped := [], sinceTick := s.tick, bringup := firstStep v, locked := false } : Port).counted 13 1) s)
      (linkDown p cause (setPort p v s)) := by
  have hcut : cutTx p (setPort p { v with looped := [] } s) = setPort p { v with looped := [] } s := cutTx_of_idle htx
  rw [linkDown, truncateRx_of_idle hidle, hcut]
  rw [modPort_setPort, restartLink, modPort_setPort, portCount_setPort rfl]
  exact (Told.refl _).raiseHeld ..

/-! ## A FEC window -/

theorem Told.writePort {s t : State} (h : Told s t) (p : Nat) (v : Port) : Told (setPort p v s) (setPort p v t) := by
  have hset (x : Ports) : Told { s with ports := x } { t with ports := x } := by
    refine ⟨?_, h.regs, h.counters, h.out, h.fns⟩
    rw [h.rest]
  rw [setPort, setPort, h.ports]
  exact hset _

theorem Told.portOf {s t : State} (h : Told s t) (p : Nat) : portOf t p = portOf s p := by simp only [Machine.portOf, h.ports]

theorem Told.portCountBy {p : Nat} {x : Port} {s u : State} (h : Told (setPort p x s) u) (i n : Nat) :
    Told (setPort p (x.counted i n) s) (portCountBy p i n u) := by
  have hport : Machine.portOf u p = some x := (h.portOf p).trans (portOf_setPort_same p x s)
  have hset := h.writePort p (x.counted i n)
  rw [setPort_setPort] at hset
  rw [Machine.portCountBy, modPort_of_some hport]
  split
  · exact hset.pmcEvent _ _ _
  · exact hset

/-- A port whose symbol errors by lane have been counted, from lane `first` on. -/
def Port.laneErrors (v : Port) (errors : List Nat) (first : Nat) : Port :=
  (errors.zipIdx first).foldl (fun v e => v.counted (24 + e.2) e.1) v

theorem Told.laneErrors {p : Nat} {x : Port} {s u : State} (h : Told (setPort p x s) u) (errors : List Nat) (first : Nat) :
    Told (setPort p (x.laneErrors errors first) s)
      ((errors.zipIdx first).foldl (fun u e => Machine.portCountBy p (24 + e.2) e.1 u) u) := by
  induction errors generalizing x u first with
  | nil => exact h
  | cons e rest ih => exact ih (h.portCountBy (24 + first) e) (first + 1)

theorem Port.get_counted_same (v : Port) (i n : Nat) : (v.counted i n).counters.get 0 i = v.counters.get 0 i + BitVec.ofNat 64 n :=
  Table.get_put_same ..

theorem Port.get_counted_ne (v : Port) {i j : Nat} (h : j ≠ i) (n : Nat) : (v.counted i n).counters.get 0 j = v.counters.get 0 j :=
  Table.get_put_ne h ..

theorem Port.laneErrors_counters (v : Port) (errors : List Nat) (first : Nat) :
    v.laneErrors errors first = { v with counters := (v.laneErrors errors first).counters } := by
  induction errors generalizing v first with
  | nil => rfl
  | cons e rest ih => exact ih (v.counted (24 + first) e) (first + 1)

theorem Port.get_laneErrors_below (v : Port) (errors : List Nat) {first i : Nat} (h : i < 24 + first) :
    (v.laneErrors errors first).counters.get 0 i = v.counters.get 0 i := by
  induction errors generalizing v first with
  | nil => rfl
  | cons e rest ih => exact (ih (v.counted (24 + first) e) (by omega)).trans (v.get_counted_ne (by omega) e)

theorem Port.get_laneErrors_lane (v : Port) {errors : List Nat} {k e : Nat} (first : Nat) (h : errors[k]? = some e) :
    (v.laneErrors errors first).counters.get 0 (24 + (first + k)) = v.counters.get 0 (24 + (first + k)) + BitVec.ofNat 64 e := by
  induction errors generalizing v first k with
  | nil => simp at h
  | cons d rest ih =>
    cases k with
    | zero =>
      obtain rfl : d = e := by simpa using h
      exact (Port.get_laneErrors_below (v.counted (24 + first) d) rest (by omega)).trans (v.get_counted_same (24 + first) d)
    | succ k =>
      have hrest := ih (v.counted (24 + first) d) (first + 1) (by simpa using h)
      rw [show first + 1 + k = first + (k + 1) by omega, v.get_counted_ne (by omega) d] at hrest
      exact hrest

/-- A port at the end of a window that has been counted (R104). -/
def Port.windowed (v : Port) (corrected uncorrectable blocks : Nat) (errors : List Nat) : Port :=
  (((v.counted 6 corrected).counted 7 uncorrectable).counted 8 blocks).laneErrors (errors.take (rateLanes v.rate)) 0

/-- A port whose FEC_DEGRADED follows its window (R105). -/
def Port.degradedBy (v x : Port) (uncorrectable symbols : Nat) (errors : List Nat) (prbs : List Nat) : Port :=
  { x with fecDegraded := decide (0 < uncorrectable) || (decide (symbols < (errors.take (rateLanes v.rate)).sum * 10000) && prbs.isEmpty) }

theorem prbsLanes_of_lanes {s t : State} (h : t.ports.lanes = s.ports.lanes) (p : Nat) (v : Port) : prbsLanes t p v = prbsLanes s p v := by
  simp only [prbsLanes, laneOf, h]

theorem told_portCountBy {p : Nat} {v : Port} {s : State} (h : Machine.portOf s p = some v) (i n : Nat) :
    Told (setPort p (v.counted i n) s) (portCountBy p i n s) := by
  rw [portCountBy, modPort_of_some h]
  split
  · exact (Told.refl (setPort p (v.counted i n) s)).pmcEvent _ _ _
  · exact Told.refl (setPort p (v.counted i n) s)

theorem Port.windowed_fecDegraded (v : Port) (corrected uncorrectable blocks : Nat) (errors : List Nat) :
    (v.windowed corrected uncorrectable blocks errors).fecDegraded = v.fecDegraded := by
  rw [Port.windowed, Port.laneErrors_counters]
  rfl

theorem Port.get_windowed_below (v : Port) {i : Nat} (h : i < 24) (corrected uncorrectable blocks : Nat) (errors : List Nat) :
    (v.windowed corrected uncorrectable blocks errors).counters.get 0 i =
      (((v.counted 6 corrected).counted 7 uncorrectable).counted 8 blocks).counters.get 0 i :=
  Port.get_laneErrors_below _ _ h

theorem Port.get_windowed_lane (v : Port) {errors : List Nat} {k e : Nat} (h : (errors.take (rateLanes v.rate))[k]? = some e)
    (corrected uncorrectable blocks : Nat) :
    (v.windowed corrected uncorrectable blocks errors).counters.get 0 (24 + k) = v.counters.get 0 (24 + k) + BitVec.ofNat 64 e := by
  have hlane := Port.get_laneErrors_lane (((v.counted 6 corrected).counted 7 uncorrectable).counted 8 blocks) 0 h
  rw [Nat.zero_add, Port.get_counted_ne _ (by omega), Port.get_counted_ne _ (by omega), Port.get_counted_ne _ (by omega)] at hlane
  exact hlane

theorem told_fecWindow {p : Nat} {v : Port} {s : State} (h : Machine.portOf s p = some v)
    (corrected uncorrectable blocks symbols : Nat) (errors : List Nat) :
    Told (setPort p (v.degradedBy (v.windowed corrected uncorrectable blocks errors) uncorrectable symbols errors (prbsLanes s p v)) s)
      (fecWindow p corrected uncorrectable blocks symbols errors v s) := by
  have hcounted := (((told_portCountBy h 6 corrected).portCountBy 7 uncorrectable).portCountBy 8 blocks).laneErrors
    (errors.take (rateLanes v.rate)) 0
  unfold fecWindow
  dsimp only
  generalize (errors.take (rateLanes v.rate)).zipIdx.foldl _ _ = u at hcounted ⊢
  have hlanes : u.ports.lanes = s.ports.lanes := by
    rw [hcounted.ports]
    rfl
  rw [← List.sum_eq_foldl, prbsLanes_of_lanes hlanes, Port.degradedBy]
  generalize hnow : (decide (0 < uncorrectable) || _) = now
  by_cases hsame : now = v.fecDegraded
  · rw [if_pos hsame, hsame, ← v.windowed_fecDegraded corrected uncorrectable blocks errors]
    exact hcounted
  · rw [if_neg hsame, modPort_of_some ((hcounted.portOf p).trans (portOf_setPort_same ..))]
    have hset := hcounted.writePort p { v.windowed corrected uncorrectable blocks errors with fecDegraded := now }
    rw [setPort_setPort] at hset
    exact hset.raiseHeld ..

theorem told_linkUpNow {p : Nat} {v : Port} {s : State} (hport : Machine.portOf s p = some v) (hpath : v.path ≠ .express) :
    Told (setPort p { v with bringup := .up, sinceTick := s.tick } s) (linkUpNow p v s) := by
  have hpartner : tiePartner (setPort p { v with bringup := .up, sinceTick := s.tick } s) p = none := by
    simp only [tiePartner, portOf_setPort_same, if_neg hpath]
  rw [linkUpNow]
  simp only [modPort_of_some hport, hpartner]
  exact (Told.refl _).raiseHeld ..

theorem exec_trainingTimeout {p : Nat} {v : Port} {s : State} (hlive : s.live = true) (hp : p < 128)
    (hport : Machine.portOf s p = some v) (hstep : v.bringup = .negotiating ∨ v.bringup = .training) (lane : Nat) :
    Gives (exec (.trainingTimeout p lane) s)
      (Told (setPort p { v with bringup := .retryWait, counters := v.counters.put 0 16 (v.counters.get 0 16 + 1) } s)) := by
  refine ⟨_, act_of_live hlive _, ?_⟩
  rw [onPort_of_some hp hport]
  rcases hstep with hstep | hstep
  all_goals
    simp only [hstep, modPort_of_some hport]
    rw [portCount_setPort rfl]
    exact (Told.refl _).raiseHeld ..

/-- Settles O30: each row is a write of its port, and what it counts and tells. -/
theorem linkBringup : Obligations.LinkBringup := by
  intro p v s hlive hp hport
  refine ⟨fun hstep => ?an, fun hstep => ?training, fun hstep => ?lock, fun hstep hpath => ?up,
    fun lane hstep => exec_trainingTimeout hlive hp hport hstep lane, fun hstep => ?retry, fun lock hloop hrising => ?rising,
    fun lock hloop hup hidle htx => ?loss, fun hstep hfault => ?localFault, ?localClear, fun hfault => ?remoteFault,
    fun hfault => ?remoteClear, fun w hpath hprop hdown hpartner => ?holdoff, fun corrected uncorrectable blocks symbols errors => ?window⟩
  case an | training | lock | retry =>
    refine (act_of_live hlive _).trans (congrArg _ ?_)
    simp only [onPort_of_some hp hport, hstep, if_true, modPort_of_some hport, restartLink]
  case localClear =>
    refine (act_of_live hlive _).trans (congrArg _ ?_)
    simp only [onPort_of_some hp hport, modPort_of_some hport]
  case up =>
    refine ⟨_, act_of_live hlive _, ?_⟩
    rw [onPort_of_some hp hport, if_pos hstep]
    exact told_linkUpNow hport hpath
  case rising =>
    have hdown : v.linkUp = false := by
      unfold Port.rising at hrising
      cases hb : v.bringup <;> simp_all [Port.linkUp]
    refine (act_of_live hlive _).trans (congrArg _ ?_)
    rw [onPort_of_some hp hport]
    simp only [hloop, hdown, hrising, Bool.false_eq_true, if_false, if_true, restartLink, modPort_of_some hport, modPort_setPort]
    rfl
  case loss =>
    have hlink : v.linkUp = true := by simp [Port.linkUp, hup]
    refine ⟨_, act_of_live hlive _, ?_⟩
    rw [onPort_of_some hp hport]
    simp only [hloop, hlink, Bool.false_eq_true, if_false, if_true, modPort_of_some hport]
    exact told_linkDown (v := { v with signal := v.signal && lock }) hidle htx _
  case localFault =>
    refine (act_of_live hlive _).trans (congrArg _ ?_)
    rw [onPort_of_some hp hport]
    simp only [hfault, hstep, Bool.false_eq_true, if_false, modPort_of_some hport, portCount_setPort, pmcOfPort, modPort_setPort]
    rfl
  case remoteFault =>
    refine ⟨_, act_of_live hlive _, ?_⟩
    rw [onPort_of_some hp hport, if_neg (by simp [hfault]), modPort_of_some hport, portCount_setPort rfl]
    exact (Told.refl _).raiseHeld ..
  case remoteClear =>
    refine ⟨_, act_of_live hlive _, ?_⟩
    rw [onPort_of_some hp hport, if_pos hfault, modPort_of_some hport]
    exact (Told.refl _).raiseHeld ..
  case holdoff =>
    refine (act_of_live hlive _).trans (congrArg _ ?_)
    rw [onPort_of_some hp hport, if_pos ⟨hpath, hprop, by simp [hdown]⟩, modPort_of_some hpartner]
  case window =>
    have htold := told_fecWindow hport corrected uncorrectable blocks symbols errors
    refine ⟨_, act_of_live hlive _, v.degradedBy (v.windowed corrected uncorrectable blocks errors) uncorrectable symbols errors (prbsLanes s p v), ?_⟩
    rw [onPort_of_some hp hport]
    refine ⟨htold, (htold.portOf p).trans (portOf_setPort_same ..), ?_, ?_, ?_, ?_, fun k e he => ?_, fun i hi => ?_⟩
    · rw [Port.degradedBy, Port.windowed, Port.laneErrors_counters]
      rfl
    · exact (v.get_windowed_below (by decide) ..).trans (by
        rw [Port.get_counted_ne _ (by decide), Port.get_counted_ne _ (by decide), Port.get_counted_same])
    · exact (v.get_windowed_below (by decide) ..).trans (by
        rw [Port.get_counted_ne _ (by decide), Port.get_counted_same, Port.get_counted_ne _ (by decide)])
    · exact (v.get_windowed_below (by decide) ..).trans (by
        rw [Port.get_counted_same, Port.get_counted_ne _ (by decide), Port.get_counted_ne _ (by decide)])
    · exact v.get_windowed_lane he ..
    · exact (v.get_windowed_below (by omega) ..).trans (by
        rw [Port.get_counted_ne _ (by omega), Port.get_counted_ne _ (by omega), Port.get_counted_ne _ (by omega)])

end Sys2Proof.Machine
end

section
/-!
PROOFS. The selector commands (04_selectors): SEL_LPM_MODE, and SEL_BULK_LOAD and SEL_SHADOW_COMPARE of direct tables.
-/
namespace Sys2Proof.Machine

open Sys2Proof

/-- A passing command whose effect is done with OK is answered over the state that the effect leaves, and mirrored where a pair does. -/
theorem settles_of_done {op result : Nat} {spec : OpSpec} {c : Cmd} {s t : State} (h : Passes op spec c s)
    (heff : spec.effect c s = (t, ok result)) : Settles c result t (hostOp spec c s) :=
  ⟨_, hostOp_of_done h heff, _, answered_postCompletion c stOk 0 result t, rfl⟩

/-! ## Entries of tables -/

theorem Selectors.table_setTable_same {t : Nat} (ht : t ≤ 4) (x : Selectors) (v : Table SelEntry) : (x.setTable t v).table t = v := by
  have : t = 0 ∨ t = 1 ∨ t = 2 ∨ t = 3 ∨ t = 4 := by omega
  rcases this with rfl | rfl | rfl | rfl | rfl <;> rfl

theorem Selectors.table_setTable_ne {t t' : Nat} (ht : t ≤ 4) (ht' : t' ≤ 4) (h : t' ≠ t) (x : Selectors) (v : Table SelEntry) :
    (x.setTable t v).table t' = x.table t' := by
  have hcase : t = 0 ∨ t = 1 ∨ t = 2 ∨ t = 3 ∨ t = 4 := by omega
  have hcase' : t' = 0 ∨ t' = 1 ∨ t' = 2 ∨ t' = 3 ∨ t' = 4 := by omega
  rcases hcase with rfl | rfl | rfl | rfl | rfl <;> rcases hcase' with rfl | rfl | rfl | rfl | rfl <;> first | rfl | exact absurd rfl h

theorem selEntry_putEntry_same {t : Nat} (ht : t ≤ 4) (i : Nat) (e : SelEntry) (s : State) : selEntry (putEntry t i e s) t i = e := by
  rw [selEntry, putEntry, Selectors.table_setTable_same ht, Table.get_put_same]

theorem selEntry_putEntry_ne {t t' i j : Nat} (ht : t ≤ 4) (ht' : t' ≤ 4) (h : t' ≠ t ∨ j ≠ i) (e : SelEntry) (s : State) :
    selEntry (putEntry t i e s) t' j = selEntry s t' j := by
  rw [selEntry, putEntry]
  by_cases htable : t' = t
  · subst htable
    rw [Selectors.table_setTable_same ht, Table.get_put_ne (h.resolve_left (not_not.mpr rfl))]
    rfl
  · rw [Selectors.table_setTable_ne ht ht' htable]
    rfl

theorem markDirty_rest (kind index : Nat) (s : State) : markDirty kind index s = { s with pair := (markDirty kind index s).pair } := by
  unfold markDirty modPair
  split_ifs <;> rfl

theorem markDirty_selectors (kind index : Nat) (s : State) : (markDirty kind index s).selectors = s.selectors := by
  rw [markDirty_rest]

theorem Selectors.setTable_lineSplit (x : Selectors) (t : Nat) (v : Table SelEntry) : (x.setTable t v).lineSplit = x.lineSplit := by
  unfold Selectors.setTable
  split <;> rfl

/-! ## SEL_BULK_LOAD of a direct table -/

/-- One entry of a direct table's load: stored, or with VALID = 0 cleared (R139). -/
def loadEntry (t i d : Nat) (s : State) : State := if entryValid t d then storeEntry t i d s else clearEntry t i s

/-- From `s` to `u` the entries of a range have been loaded into a table. -/
structure Loads (t first n : Nat) (d : Nat → Nat) (s u : State) : Prop where
  rest : u = { s with selectors := u.selectors, pair := u.pair }
  split : u.selectors.lineSplit = s.selectors.lineSplit
  loaded : ∀ k, k < n → (selEntry u t (first + k)).parityFailed = false ∧
    (selEntry u t (first + k)).data = if entryValid t (d k) then d k else 0
  others : ∀ t' j, t' ≤ 4 → (t' ≠ t ∨ j < first ∨ first + n ≤ j) → selEntry u t' j = selEntry s t' j

/-- A state whose tables are those of one entry's write has had that entry loaded. -/
theorem loads_of_written {t i d : Nat} (ht : t ≤ 1) {e : SelEntry} {s u : State} (hfail : e.parityFailed = false)
    (hdata : e.data = if entryValid t d then d else 0) (hrest : u = { s with selectors := u.selectors, pair := u.pair })
    (htables : ∀ n, u.selectors.table n = (putEntry t i e s).selectors.table n) (hsplit : u.selectors.lineSplit = s.selectors.lineSplit) :
    Loads t i 1 (fun _ => d) s u := by
  have hentry (n j : Nat) : selEntry u n j = selEntry (putEntry t i e s) n j := by rw [selEntry, selEntry, htables]
  refine ⟨hrest, hsplit, fun k hk => ?_, fun t' j ht' hother => ?_⟩
  · obtain rfl : k = 0 := by omega
    rw [Nat.add_zero, hentry, selEntry_putEntry_same (by omega)]
    exact ⟨hfail, hdata⟩
  · rw [hentry]
    exact selEntry_putEntry_ne (by omega) ht' (by omega) e s

theorem loads_storeEntry {t i d : Nat} (ht : t ≤ 1) (hvalid : entryValid t d = true) (s : State) :
    Loads t i 1 (fun _ => d) s (storeEntry t i d s) := by
  refine loads_of_written (e := { data := d, order := s.selectors.nextOrder }) ht rfl (by simp [hvalid]) ?_ (fun n => ?_) ?_
  · rw [storeEntry, markDirty_rest]
    rfl
  · simp only [storeEntry, markDirty_selectors]
    unfold Selectors.table
    split <;> rfl
  · simp only [storeEntry, markDirty_selectors]
    exact Selectors.setTable_lineSplit ..

theorem loads_clearEntry {t i d : Nat} (ht : t ≤ 1) (hvalid : entryValid t d = false) (s : State) :
    Loads t i 1 (fun _ => d) s (clearEntry t i s) := by
  have hclear : clearEntry t i s = markDirty 1 (t * 2 ^ 24 + i) (putEntry t i emptyEntry s) := by
    have hdirect : ¬3 ≤ t := by omega
    simp [clearEntry, hdirect, show ¬2 ≤ t by omega]
  rw [hclear]
  refine loads_of_written (e := emptyEntry) ht rfl (by simp [hvalid, emptyEntry]) ?_ (fun n => ?_) ?_
  · rw [markDirty_rest]
    rfl
  · rw [markDirty_selectors]
  · rw [markDirty_selectors]
    exact Selectors.setTable_lineSplit ..

theorem loads_loadEntry {t : Nat} (ht : t ≤ 1) (i d : Nat) (s : State) : Loads t i 1 (fun _ => d) s (loadEntry t i d s) := by
  cases hvalid : entryValid t d with
  | true => rw [loadEntry, if_pos hvalid]; exact loads_storeEntry ht hvalid s
  | false => rw [loadEntry, if_neg (by simp [hvalid])]; exact loads_clearEntry ht hvalid s

theorem Loads.cons {t first n : Nat} {d : Nat → Nat} {s u v : State} (ht : t ≤ 4) (h : Loads t first 1 (fun _ => d 0) s u)
    (k : Loads t (first + 1) n (fun i => d (i + 1)) u v) : Loads t first (n + 1) d s v := by
  refine ⟨?_, k.split.trans h.split, fun i hi => ?_, fun t' j ht' hother => ?_⟩
  · have hrest := k.rest
    rw [h.rest] at hrest
    exact hrest
  · cases i with
    | zero =>
      rw [Nat.add_zero, k.others t first ht (.inr (.inl (by omega)))]
      exact h.loaded 0 (by omega)
    | succ i =>
      rw [show first + (i + 1) = first + 1 + i by omega]
      exact k.loaded i (by omega)
  · rw [k.others t' j ht' (by omega), h.others t' j ht' (by omega)]

theorem leAt_drop (bs : Bytes) (a off len : Nat) : leAt (bs.drop a) off len = leAt bs (a + off) len := by
  rw [leAt, leAt, slice, slice, List.drop_drop]

/-- The entries of a load that the table takes (R139): none beyond Accord's split, none refused. -/
def Loadable (t first n : Nat) (bs : Bytes) (s : State) : Prop :=
  ∀ k, k < n → entryRefused t (first + k) (leAt bs (16 * k) 16) = false ∧ (t = 1 → accordOwns s (first + k) = false)

theorem bulkLoad_direct {t : Nat} (ht : t ≤ 1) (start n : Nat) {done : Nat} {bs : Bytes} {s : State}
    (h : Loadable t (start + done) n bs s) :
    ∃ u, bulkLoad t start n done bs s = (u, done + n, 0) ∧ Loads t (start + done) n (fun k => leAt bs (16 * k) 16) s u := by
  induction n generalizing done bs s with
  | zero => exact ⟨s, rfl, rfl, rfl, fun k hk => absurd hk (by omega), fun _ _ _ _ => rfl⟩
  | succ n ih =>
    have hbytes : entryBytes t = 16 := by rw [entryBytes, if_neg (by omega)]
    have hfirst : leNat (bs.take 16) = leAt bs (16 * 0) 16 := rfl
    obtain ⟨htaken, hfree⟩ := h 0 (by omega)
    rw [Nat.add_zero] at htaken hfree
    have howner : (decide (t = 1) && accordOwns s (start + done)) = false := by
      by_cases h1 : t = 1
      · simpa [h1] using hfree h1
      · simp [h1]
    have hone := loads_loadEntry ht (start + done) (leAt bs (16 * 0) 16) s
    have hrest : Loadable t (start + (done + 1)) n (bs.drop 16) (loadEntry t (start + done) (leAt bs (16 * 0) 16) s) := by
      intro k hk
      obtain ⟨hk1, hk2⟩ := h (k + 1) (by omega)
      rw [leAt_drop, show start + (done + 1) + k = start + done + (k + 1) by omega, show 16 + 16 * k = 16 * (k + 1) by omega]
      refine ⟨hk1, fun h1 => ?_⟩
      rw [accordOwns, hone.split]
      exact hk2 h1
    obtain ⟨u, hrun, hloads⟩ := ih hrest
    refine ⟨u, ?_, hone.cons (d := fun k => leAt bs (16 * k) 16) (by omega) ?_⟩
    · rw [bulkLoad]
      simp only [hbytes, hfirst, howner, htaken, Bool.false_eq_true, if_false, if_pos ht]
      rw [← loadEntry, hrun, show done + 1 + n = done + (n + 1) by omega]
    · have hshift : (fun k => leAt (bs.drop 16) (16 * k) 16) = fun k => leAt bs (16 * (k + 1)) 16 := by
        funext k
        rw [leAt_drop, show 16 + 16 * k = 16 * (k + 1) by omega]
      rw [← hshift]
      exact hloads

theorem specSelBulkLoad_done {c : Cmd} {s u : State} {n : Nat}
    (h : bulkLoad (c.get ⟨8, 0, 3⟩) (c.get ⟨12, 0, 18⟩) (c.u32 16) 0 c.payload s = (u, n, 0)) : specSelBulkLoad.effect c s = (u, ok n) := by
  simp only [specSelBulkLoad, h, resultOf_cons, resultOf_nil]
  congr 2
  omega

/-! ## SEL_SHADOW_COMPARE of a direct table -/

/-- A live entry agrees with the shadow's. -/
def Agrees (t i d : Nat) (s : State) : Prop := (selEntry s t i).parityFailed = false ∧ (selEntry s t i).data = d

/-- The kind of a mismatch of a direct entry (R141). -/
def mismatchKind (t i : Nat) (s : State) : Nat :=
  if (selEntry s t i).parityFailed then 2 else if entryValid t (selEntry s t i).data then 0 else 1

theorem compareOne_of_agrees {t i d : Nat} {s : State} (ht : t ≤ 1) (h : Agrees t i d s) (pos : Nat) : compareOne s t i pos d = none := by
  obtain ⟨hgood, hdata⟩ := h
  rw [compareOne, if_pos ht]
  simp [hgood, hdata]

theorem compareOne_of_differs {t i d : Nat} {s : State} (ht : t ≤ 1) (hfree : t = 1 → accordOwns s i = false)
    (h : (selEntry s t i).parityFailed = true ∨ (selEntry s t i).data ≠ d) (pos : Nat) :
    compareOne s t i pos d = some (mismatch i (mismatchKind t i s)) := by
  have howner : (decide (t = 1) && accordOwns s i) = false := by
    by_cases h1 : t = 1
    · simpa [h1] using hfree h1
    · simp [h1]
  rw [compareOne, if_pos ht, mismatchKind]
  simp only [howner, Bool.false_eq_true, if_false]
  by_cases hfail : (selEntry s t i).parityFailed = true
  · rw [if_pos hfail, if_pos hfail]
  · rw [if_neg hfail, if_neg hfail, if_neg (h.resolve_left hfail)]
    cases entryValid t (selEntry s t i).data <;> rfl

/-- A compare's run over entries that agree from here on: all compared, no further record. -/
theorem compareAll_of_agrees {t : Nat} (ht : t ≤ 1) (start room : Nat) (s : State) (n : Nat) {pos : Nat} {bs : Bytes} (recs : List Bytes)
    (live : Nat) (h : ∀ k, k < n → Agrees t (start + pos + k) (leAt bs (16 * k) 16) s) :
    ∃ l, compareAll s t start room n pos bs recs live = (pos + n, recs, l, false) := by
  induction n generalizing pos bs live with
  | zero => exact ⟨live, rfl⟩
  | succ n ih =>
    have hbytes : entryBytes t = 16 := by rw [entryBytes, if_neg (by omega)]
    have hone := compareOne_of_agrees ht (h 0 (by omega)) pos
    have hfirst : leNat (bs.take 16) = leAt bs (16 * 0) 16 := rfl
    rw [compareAll]
    simp only [hbytes, hfirst]
    rw [show start + pos = start + pos + 0 by omega, hone]
    obtain ⟨l, hl⟩ := ih (pos := pos + 1) (bs := bs.drop 16) _ (fun k hk => by
      have hk := h (k + 1) (by omega)
      rw [leAt_drop, show start + (pos + 1) + k = start + pos + (k + 1) by omega, show 16 + 16 * k = 16 * (k + 1) by omega]
      exact hk)
    exact ⟨l, by rw [hl, show pos + 1 + n = pos + (n + 1) by omega]⟩


theorem Agrees.shift {t first : Nat} {bs : Bytes} {s : State} {k : Nat} (h : Agrees t (first + (k + 1)) (leAt bs (16 * (k + 1)) 16) s) :
    Agrees t (first + 1 + k) (leAt (bs.drop 16) (16 * k) 16) s := by
  rw [leAt_drop, show first + 1 + k = first + (k + 1) by omega, show 16 + 16 * k = 16 * (k + 1) by omega]
  exact h

/-- A compare's run over entries of which one differs: all compared, its record returned. -/
theorem compareAll_of_one {t : Nat} (ht : t ≤ 1) (start : Nat) {room : Nat} (hroom : 0 < room) (s : State) (n : Nat) {pos m : Nat} {bs : Bytes}
    (live : Nat) (hm : m < n) (h : ∀ k, k < n → k ≠ m → Agrees t (start + pos + k) (leAt bs (16 * k) 16) s)
    (hfree : t = 1 → accordOwns s (start + pos + m) = false)
    (hdiffer : (selEntry s t (start + pos + m)).parityFailed = true ∨ (selEntry s t (start + pos + m)).data ≠ leAt bs (16 * m) 16) :
    ∃ l, compareAll s t start room n pos bs [] live =
      (pos + n, [mismatch (start + pos + m) (mismatchKind t (start + pos + m) s)], l, false) := by
  induction n generalizing pos bs live m with
  | zero => omega
  | succ n ih =>
    have hbytes : entryBytes t = 16 := by rw [entryBytes, if_neg (by omega)]
    have hfirst : leNat (bs.take 16) = leAt bs (16 * 0) 16 := rfl
    rw [compareAll]
    simp only [hbytes, hfirst]
    cases m with
    | zero =>
      have hone := compareOne_of_differs ht hfree hdiffer pos
      simp only [Nat.add_zero] at hone ⊢
      rw [hone]
      simp only [List.length_nil, if_neg (Nat.not_le.mpr hroom), List.nil_append]
      obtain ⟨l, hl⟩ := compareAll_of_agrees ht start room s n (pos := pos + 1) (bs := bs.drop 16)
        [mismatch (start + pos) (mismatchKind t (start + pos) s)] (if entryValid t (leAt bs (16 * 0) 16) = true then live + 1 else live)
        (fun k hk => (h (k + 1) (by omega) (by omega)).shift)
      exact ⟨l, by rw [hl, show pos + 1 + n = pos + (n + 1) by omega]⟩
    | succ m =>
      have hone := compareOne_of_agrees ht (h 0 (by omega) (by omega)) pos
      rw [Nat.add_zero] at hone
      rw [hone]
      have hindex : start + pos + (m + 1) = start + (pos + 1) + m := by omega
      rw [hindex] at hfree hdiffer ⊢
      obtain ⟨l, hl⟩ := ih (pos := pos + 1) (m := m) (bs := bs.drop 16)
        (if entryValid t (leAt bs (16 * 0) 16) = true then live + 1 else live) (by omega)
        (fun k hk hne => (h (k + 1) (by omega) (by omega)).shift) hfree (by
          rw [leAt_drop, show 16 + 16 * m = 16 * (m + 1) by omega]
          exact hdiffer)
      exact ⟨l, by rw [hl, show pos + 1 + n = pos + (n + 1) by omega]⟩

theorem specSelShadowCompare_direct {c : Cmd} {s : State} {n l : Nat} {recs : List Bytes} (ht : c.get ⟨8, 0, 3⟩ ≤ 1)
    (h : compareAll s (c.get ⟨8, 0, 3⟩) (c.get ⟨12, 0, 18⟩) (c.u32 20) (c.u32 16) 0 c.payload [] 0 = (n, recs, l, false)) :
    specSelShadowCompare.effect c s = (if recs = [] then s else emit (.hostWrite c.fn (c.u64 24) recs.flatten) s,
      ok (n + 2 ^ 32 * recs.length)) := by
  have hdirect : decide (2 ≤ c.get ⟨8, 0, 3⟩) = false := by simp; omega
  simp only [specSelShadowCompare, h, hdirect, Bool.and_false, Bool.false_and, Bool.false_eq_true, if_false, Bool.not_false,
    Bool.or_false, resultOf_cons, resultOf_nil]
  congr 2
  omega

theorem room_of_passes {c : Cmd} {s : State} (h : Passes 0x0302 specSelShadowCompare c s) : 0 < c.u32 20 := by
  have hown := h.clear.own (c.u32 20 == 0 || 65536 < c.u32 20, 20) (by simp [specSelShadowCompare])
  simp only [Bool.or_eq_false_iff, beq_eq_false_iff_ne] at hown
  omega

/-- Settles O33: SEL_LPM_MODE's write, and the runs of a load and of a compare over a direct table. -/
theorem selectorCommands : Obligations.SelectorCommands := by
  rintro c s t start n rfl rfl rfl
  refine ⟨fun hpass => settles_of_done hpass rfl, fun hpass ht hload => ?load, fun hpass ht hfree => ⟨fun hagree => ?same, ?differs⟩⟩
  case load =>
    obtain ⟨u, hrun, hloads⟩ := bulkLoad_direct ht (c.get ⟨12, 0, 18⟩) (c.u32 16) (done := 0) (s := s) hload
    rw [Nat.zero_add] at hrun
    refine ⟨u, answers_of_done hpass (by decide) (specSelBulkLoad_done hrun), hloads.rest, ?_, hloads.others⟩
    rintro k d hk rfl
    exact hloads.loaded k hk
  case same =>
    obtain ⟨l, hrun⟩ := compareAll_of_agrees ht (c.get ⟨12, 0, 18⟩) (c.u32 20) s (c.u32 16) (pos := 0) (bs := c.payload) [] 0 hagree
    rw [Nat.zero_add] at hrun
    exact answers_of_done hpass (by decide) (specSelShadowCompare_direct ht hrun)
  case differs =>
    rintro m kind hm hagree hdiffer rfl
    have howner : c.get ⟨8, 0, 3⟩ = 1 → accordOwns s (c.get ⟨12, 0, 18⟩ + 0 + m) = false := fun h1 => hfree h1 m hm
    obtain ⟨l, hrun⟩ := compareAll_of_one ht (c.get ⟨12, 0, 18⟩) (room_of_passes hpass) s (c.u32 16) (pos := 0) (bs := c.payload) 0 hm
      hagree howner hdiffer
    rw [Nat.zero_add] at hrun
    have hdone := answers_of_done hpass (by decide) (specSelShadowCompare_direct ht hrun)
    rw [if_neg (List.cons_ne_nil _ _), Nat.add_zero, List.flatten_singleton, List.length_singleton] at hdone
    exact hdone

end Sys2Proof.Machine
end

section
/-!
PROOFS. Secure channels and associations (05_secure_channels, 06_key_rollover): SA_INSTALL, SA_RETIRE, SA_STATUS and SA_ROLL.
-/
namespace Sys2Proof.Machine

open Sys2Proof

/-! ## Entries of SCs and SAs -/

@[simp] theorem scOf_setSc_same (n : Nat) (e : Sc) (s : State) : scOf (setSc n e s) n = some e := Table.find_set_same s.channels.scs n e
theorem scOf_setSc_ne {n m : Nat} (h : m ≠ n) (e : Sc) (s : State) : scOf (setSc n e s) m = scOf s m := Table.find_set_ne h s.channels.scs e
@[simp] theorem saOf_setSa_same (n : Nat) (a : Sa) (s : State) : saOf (setSa n a s) n = some a := Table.find_set_same s.channels.sas n a
theorem saOf_setSa_ne {n m : Nat} (h : m ≠ n) (a : Sa) (s : State) : saOf (setSa n a s) m = saOf s m := Table.find_set_ne h s.channels.sas a
@[simp] theorem scOf_setSa (n m : Nat) (a : Sa) (s : State) : scOf (setSa n a s) m = scOf s m := rfl
@[simp] theorem saOf_setSc (n m : Nat) (e : Sc) (s : State) : saOf (setSc n e s) m = saOf s m := rfl
@[simp] theorem scOf_modSa (n m : Nat) (f : Sa → Sa) (s : State) : scOf (modSa n f s) m = scOf s m := rfl

theorem markDirty_channels (kind index : Nat) (s : State) : (markDirty kind index s).channels = s.channels := by rw [markDirty_rest]
theorem scOf_of_channels {s t : State} (h : t.channels = s.channels) (n : Nat) : scOf t n = scOf s n := by simp only [scOf, h]
theorem saOf_of_channels {s t : State} (h : t.channels = s.channels) (n : Nat) : saOf t n = saOf s n := by simp only [saOf, h]
@[simp] theorem scOf_markDirty (kind index n : Nat) (s : State) : scOf (markDirty kind index s) n = scOf s n :=
  scOf_of_channels (markDirty_channels ..) n
@[simp] theorem saOf_markDirty (kind index n : Nat) (s : State) : saOf (markDirty kind index s) n = saOf s n :=
  saOf_of_channels (markDirty_channels ..) n

theorem Table.find_modify {α : Type} (t : Table α) (k j : Nat) (f : α → α) :
    (t.modify k f).find j = if j = k then (t.find k).map f else t.find j := by
  unfold Table.modify
  cases h : t.find k with
  | none =>
    by_cases hj : j = k
    · simp [hj, h]
    · simp [hj]
  | some v =>
    by_cases hj : j = k
    · simp [hj]
    · simp [hj, Table.find_set_ne hj]

theorem saOf_modSa (n m : Nat) (f : Sa → Sa) (s : State) : saOf (modSa n f s) m = if m = n then (saOf s n).map f else saOf s m :=
  Table.find_modify s.channels.sas n m f

theorem modSc_of_some {n : Nat} {e : Sc} {s : State} (h : scOf s n = some e) (f : Sc → Sc) : modSc n f s = setSc n (f e) s := by
  unfold scOf at h
  simp only [modSc, setSc, Table.modify, h]

/-- The lowest free index. -/
theorem Table.firstFree_eq_some {α : Type} {t : Table α} {lo n k : Nat} (h : t.firstFree lo n = some k) :
    t.find k = none ∧ ∀ m, lo ≤ m → m < k → t.find m ≠ none := by
  induction n generalizing lo with
  | zero => simp [Table.firstFree] at h
  | succ n ih =>
    rw [Table.firstFree] at h
    by_cases hhas : t.has lo = true
    · rw [if_pos hhas] at h
      obtain ⟨hfree, hbelow⟩ := ih h
      refine ⟨hfree, fun m hlow hm => ?_⟩
      by_cases hm0 : m = lo
      · rw [hm0]
        exact Option.isSome_iff_ne_none.mp hhas
      · exact hbelow m (by omega) hm
    · rw [if_neg hhas] at h
      obtain rfl : lo = k := by simpa using h
      exact ⟨by simpa [Table.has] using hhas, fun m h1 h2 => absurd h1 (by omega)⟩

/-! ## SA_INSTALL -/

/-- An SC with a new SA in a slot (R170, R187, R195). -/
def Sc.withSa (e : Sc) (n an : Nat) (now : Bool) : Sc :=
  { e.setSlot an (some n) with
    nextAn := if e.receive then an else e.nextAn
    encAn := if !e.receive && (now || (e.slot e.encAn).isNone) then an else e.encAn
    armedPn := if !e.receive && now then false else e.armedPn
    armedTime := if !e.receive && now then false else e.armedTime
    rollFired := if !e.receive && now then false else e.rollFired }

/-- From `s` to `u` an SA has been placed in a slot of its SC. -/
structure SaPlaced (n : Nat) (a : Sa) (e : Sc) (now : Bool) (s u : State) : Prop where
  rest : u = { s with channels := { s.channels with scs := u.channels.scs, sas := u.channels.sas }, pair := u.pair }
  sa : saOf u n = some a
  sc : scOf u a.sc = some (e.withSa n a.an now)
  scs : ∀ m, m ≠ a.sc → scOf u m = scOf s m
  sas : ∀ m, m ≠ n → saOf u m = if !e.receive ∧ now ∧ e.slot e.encAn = some m then
    (saOf s m).map (fun x => { x with superseded := true }) else saOf s m

theorem Sc.withSa_of_receive {e : Sc} (h : e.receive = true) (n an : Nat) (now : Bool) :
    e.withSa n an now = { e.setSlot an (some n) with nextAn := an } := by
  unfold Sc.withSa Sc.setSlot
  split <;> simp [h]

theorem Sc.withSa_now {e : Sc} (h : e.receive = false) (n an : Nat) :
    e.withSa n an true = { e.setSlot an (some n) with encAn := an, armedPn := false, armedTime := false, rollFired := false } := by
  unfold Sc.withSa Sc.setSlot
  split <;> simp [h]

theorem Sc.withSa_first {e : Sc} (h : e.receive = false) (hnone : (e.slot e.encAn).isNone = true) (n an : Nat) :
    e.withSa n an false = { e.setSlot an (some n) with encAn := an } := by
  unfold Sc.withSa
  rw [hnone]
  unfold Sc.setSlot
  split <;> simp [h]

theorem Sc.withSa_further {e : Sc} (h : e.receive = false) (hnone : (e.slot e.encAn).isNone = false) (n an : Nat) :
    e.withSa n an false = e.setSlot an (some n) := by
  have htx : ¬e.receive = true := by simp [h]
  simp only [Sc.withSa, hnone, if_neg htx, Bool.or_self, Bool.and_false, Bool.false_eq_true, if_false]
  unfold Sc.setSlot
  split <;> rfl

/-- The SA stands in its own entry, and both entries are marked for the pair (12 R381). -/
def saWritten (n : Nat) (a : Sa) (s : State) : State := markDirty 3 n (markDirty 2 a.sc (setSa n a s))

theorem saWritten_rest (n : Nat) (a : Sa) (s : State) :
    saWritten n a s = { s with channels := { s.channels with sas := s.channels.sas.set n a }, pair := (saWritten n a s).pair } := by
  unfold saWritten
  rw [markDirty_rest, markDirty_rest 2]
  rfl

theorem scOf_saWritten (n : Nat) (a : Sa) (s : State) (m : Nat) : scOf (saWritten n a s) m = scOf s m := by simp [saWritten]

theorem saOf_saWritten_same (n : Nat) (a : Sa) (s : State) : saOf (saWritten n a s) n = some a := by simp [saWritten]

theorem saOf_saWritten_ne {n m : Nat} (h : m ≠ n) (a : Sa) (s : State) : saOf (saWritten n a s) m = saOf s m := by
  simp [saWritten, saOf_setSa_ne h]

theorem superseded_sas {n old : Nat} {a : Sa} {s : State} (h : old ≠ n) (m : Nat) (hm : m ≠ n) :
    saOf (modSa old (fun x => { x with superseded := true }) (saWritten n a s)) m =
      if m = old then (saOf s m).map (fun x => { x with superseded := true }) else saOf s m := by
  rw [saOf_modSa, saOf_saWritten_ne h, saOf_saWritten_ne hm]
  by_cases he : m = old
  · rw [if_pos he, if_pos he, he]
  · rw [if_neg he, if_neg he]

theorem saPlaced_placeSa {n : Nat} {a : Sa} {e : Sc} {s : State} (h : scOf s a.sc = some e) (hfree : ∀ m, e.slot e.encAn = some m → m ≠ n)
    (now : Bool) : SaPlaced n a e now s (placeSa n a now s) := by
  have hsc : scOf (saWritten n a s) a.sc = some e := (scOf_saWritten n a s a.sc).trans h
  have hplace : placeSa n a now s =
      if e.receive then setSc a.sc { e.setSlot a.an (some n) with nextAn := a.an } (saWritten n a s)
      else if now then setSc a.sc { e.setSlot a.an (some n) with encAn := a.an, armedPn := false, armedTime := false, rollFired := false }
        (match e.slot e.encAn with
          | some old => modSa old (fun x => { x with superseded := true }) (saWritten n a s)
          | none => saWritten n a s)
      else if (e.slot e.encAn).isNone then setSc a.sc { e.setSlot a.an (some n) with encAn := a.an } (saWritten n a s)
      else setSc a.sc (e.setSlot a.an (some n)) (saWritten n a s) := by
    rw [placeSa]
    change (match scOf (saWritten n a s) a.sc with | none => _ | some e => _) = _
    rw [hsc]
    rfl
  have hput (v : State) (e' : Sc) (he' : e' = e.withSa n a.an now) (hv : v = { s with channels := { s.channels with sas := v.channels.sas }, pair := v.pair })
      (hsa : saOf v n = some a) (hsas : ∀ m, m ≠ n → saOf v m = if !e.receive ∧ now ∧ e.slot e.encAn = some m then
        (saOf s m).map (fun x => { x with superseded := true }) else saOf s m) : SaPlaced n a e now s (setSc a.sc e' v) := by
    have hscs : v.channels.scs = s.channels.scs := by rw [hv]
    refine ⟨?_, hsa, by rw [scOf_setSc_same, he'], fun m hm => ?_, hsas⟩
    · rw [hv]
      rfl
    · rw [scOf_setSc_ne hm, scOf, scOf, hscs]
  have hrest : saWritten n a s = { s with channels := { s.channels with sas := (saWritten n a s).channels.sas }, pair := (saWritten n a s).pair } := by
    rw [saWritten_rest]
  rw [hplace]
  cases hrx : e.receive with
  | true =>
    rw [if_pos rfl]
    refine hput _ _ (by rw [Sc.withSa_of_receive hrx]) hrest (saOf_saWritten_same n a s) (fun m hm => ?_)
    rw [saOf_saWritten_ne hm, if_neg (by simp [hrx])]
  | false =>
    rw [if_neg (by simp)]
    cases now with
    | true =>
      rw [if_pos rfl]
      cases hold : e.slot e.encAn with
      | none =>
        refine hput _ _ (by rw [Sc.withSa_now hrx]) hrest (saOf_saWritten_same n a s) (fun m hm => ?_)
        rw [saOf_saWritten_ne hm, if_neg (by simp [hold])]
      | some old =>
        have hne := hfree old hold
        refine hput _ _ (by rw [Sc.withSa_now hrx]) ?_ ?_ (fun m hm => ?_)
        · rw [hrest]
          rfl
        · rw [saOf_modSa, if_neg (Ne.symm hne), saOf_saWritten_same]
        · dsimp only
          rw [superseded_sas hne m hm, hold]
          simp [hrx, eq_comm]
    | false =>
      have hsas (m : Nat) (hm : m ≠ n) : saOf (saWritten n a s) m = if !e.receive ∧ false ∧ e.slot e.encAn = some m then
          (saOf s m).map (fun x => { x with superseded := true }) else saOf s m := by
        rw [saOf_saWritten_ne hm, if_neg (by simp)]
      rw [if_neg (by simp)]
      by_cases hnone : (e.slot e.encAn).isNone = true
      · rw [if_pos hnone]
        exact hput _ _ (by rw [Sc.withSa_first hrx hnone]) hrest (saOf_saWritten_same n a s) hsas
      · rw [if_neg hnone]
        exact hput _ _ (by rw [Sc.withSa_further hrx (eq_false_of_ne_true hnone)]) hrest (saOf_saWritten_same n a s) hsas

/-! ### The key block -/

/-- A parent whose CHECK holds, or the session root. -/
def ParentSound (c : Cmd) (s : State) : Prop :=
  c.parentIsRoot = true ∨ ((slotOf s (c.u16 14)).corrupt = false ∧ (slotOf s (c.u16 14)).latent = false)

theorem slotCheck_of_sound {n : Nat} {s : State} (hcorrupt : (slotOf s n).corrupt = false) (hlatent : (slotOf s n).latent = false) :
    slotCheck n s = (true, s) := by
  simp [slotCheck, hlatent, hcorrupt]

/-- A sound parent's key block: in the clear, or unwrapped with a transfer counted (R179, R255). -/
theorem installKey_of_sound {c : Cmd} {s : State} (hsound : ParentSound c s) (hroot : c.flag 12 2 = true → c.parentIsRoot = false)
    (short : Bool) : installKey c short s =
      (if c.flag 12 2 then Config.unwrap (slotOf s (c.u16 14)).key (c.payload.take (keyBytes (c.flag 12 2) short))
        else some (leNat (c.payload.take (keyBytes (c.flag 12 2) short))), if c.flag 12 2 then State.plus 0x3100 1 s else s) := by
  unfold installKey
  dsimp only
  cases hw : c.flag 12 2 with
  | false =>
    by_cases hr : c.parentIsRoot = true
    · simp [hr]
    · obtain ⟨hcorrupt, hlatent⟩ := hsound.resolve_left hr
      simp [hr, slotCheck_of_sound hcorrupt hlatent]
  | true =>
    obtain ⟨hcorrupt, hlatent⟩ := hsound.resolve_left (by simp [hroot hw])
    have hcheck : keyTransfer (c.u16 14) s = (true, State.plus 0x3100 1 s) := by
      rw [keyTransfer, count, countBy_uncounted (by decide)]
      exact slotCheck_of_sound hcorrupt hlatent
    simp only [hroot hw, hcheck, Bool.false_eq_true, if_false, if_true]
    rfl

/-- A passing command whose effect ends it with a failing status is answered so. -/
theorem answered_of_failed {op status detail : Nat} {spec : OpSpec} {c : Cmd} {s t : State} (h : Passes op spec c s)
    (heff : spec.effect c s = (t, failed status detail)) (hstatus : status ≠ stOk) :
    Gives (hostOp spec c s) (Answered c status detail 0 t) := by
  refine ⟨_, hostOp_of_done h heff, ?_⟩
  rw [mirrorCommand, if_neg (fun hm => hstatus hm.1)]
  exact answered_postCompletion c status detail 0 t

/-! ### The command -/

/-- The SA that an SA_INSTALL gives (R179). -/
def installedSa (c : Cmd) (e : Sc) (key : Nat) (s : State) : Sa :=
  { key, nextPn := c.u64 16
    low := if e.receive then c.u64 16 else if c.u64 24 = 0 then defaultThreshold e.suite else c.u64 24
    salt := bitsOf c.bits 256 96, ssci := c.u32 44, receive := e.receive, key128 := suite128 e.suite, accord := false
    parentSlot := if c.parentIsRoot then 0 else c.u16 14, parentIsRoot := c.parentIsRoot
    parentGen := issuedGen s c.parentIsRoot (c.u16 14), an := c.an, sc := c.sc }

theorem specSaInstall_of_no_key {c : Cmd} {e : Sc} {s t : State} (hsc : scOf s c.sc = some e)
    (hkey : installKey c (suite128 e.suite) s = (none, t)) : specSaInstall.effect c s = (t, failed stIntegrity 0) := by
  simp only [specSaInstall, hsc, hkey]

theorem specSaInstall_of_key {c : Cmd} {e : Sc} {key n : Nat} {s t : State} (hsc : scOf s c.sc = some e)
    (hkey : installKey c (suite128 e.suite) s = (some key, t)) (hfree : t.channels.sas.firstFree 0 saCapacity = some n) :
    specSaInstall.effect c s = (placeSa n (installedSa c e key t) (c.flag 12 3) t, ok n) := by
  simp only [specSaInstall, hsc, hkey, hfree, Option.getD_some, resultOf_byte8]
  rfl

theorem firstFree_of_install {c : Cmd} {s : State} (h : Passes 0x0403 specSaInstall c s) :
    ∃ n, s.channels.sas.firstFree 0 saCapacity = some n := by
  have hroom := h.clear.resource
  simp only [specSaInstall, Bool.or_eq_false_iff] at hroom
  exact Option.isSome_iff_exists.mp (by simpa using hroom.2)

theorem wrapped_not_root {c : Cmd} {s : State} (h : Passes 0x0403 specSaInstall c s) (hw : c.flag 12 2 = true) :
    c.parentIsRoot = false := by
  have hstate := h.clear.state
  simp only [specSaInstall, Bool.or_eq_false_iff, hw, Bool.true_and] at hstate
  exact hstate.2.1

/-- What SA_INSTALL leaves where its key block gives a key. -/
theorem answers_saInstall {c : Cmd} {e : Sc} {key : Nat} {s t : State} (hpass : Passes 0x0403 specSaInstall c s)
    (hsc : scOf s c.sc = some e) (hkey : installKey c (suite128 e.suite) s = (some key, t)) (hsame : t.channels = s.channels)
    (holds : ∀ m, e.slot e.encAn = some m → saOf s m ≠ none) :
    ∃ n u, saOf s n = none ∧ (∀ m, m < n → saOf s m ≠ none) ∧ Answers c n u (exec (.saInstall c) s) ∧
      SaPlaced n (installedSa c e key t) e (c.flag 12 3) t u := by
  obtain ⟨n, hfree⟩ := firstFree_of_install hpass
  obtain ⟨hnone, hbelow⟩ := Table.firstFree_eq_some hfree
  rw [← hsame] at hfree
  refine ⟨n, _, hnone, fun m hm => hbelow m (Nat.zero_le m) hm, answers_of_done hpass (by decide) (specSaInstall_of_key hsc hkey hfree), ?_⟩
  refine saPlaced_placeSa ((scOf_of_channels hsame _).trans hsc) (fun m hm hmn => ?_) _
  exact holds m hm (hmn ▸ hnone)

/-! ## SA_RETIRE and SA_STATUS -/

theorem lockDrained_of_other {c : Cmd} {sas : List Nat} {s : State} (h : ∀ r ∈ s.running, r.cmd ≠ c) : lockDrained c sas s = s := by
  have hmap : s.running.map (fun r => if r.cmd = c ∧ r.wait = .work then { r with locks := r.locks ++ sas.map Lock.sa } else r) = s.running := by
    conv_rhs => rw [← List.map_id s.running]
    refine List.map_congr_left fun r hr => ?_
    rw [if_neg (fun hc => h r hr hc.1), id]
  rw [lockDrained, hmap]

theorem exec_saRetire {c : Cmd} {e : Sc} {s : State} (hpass : Passes 0x0404 specSaRetire c s) (hsc : scOf s c.sc = some e) :
    exec (.saRetire c) s = .next (lockDrained c (e.slot c.an).toList (runOp specSaRetire c s)) := by
  obtain ⟨-, hserving, -⟩ := hpass
  obtain ⟨hlive, hready⟩ := State.serving_iff.mp hserving
  refine (act_of_live hlive _).trans (congrArg _ ?_)
  rw [if_pos hready]
  simp only [hsc]

theorem runOp_of_done {op : Nat} {spec : OpSpec} {c : Cmd} {s t : State} {r : Reply} (h : Passes op spec c s)
    (heff : spec.effect c s = (t, .done r)) : runOp spec c s = mirrorCommand c r.status (finish c r t) :=
  Host.Outcome.next.inj ((hostOp_of_passes h).symm.trans (hostOp_of_done h heff))

theorem runOp_of_wait {op : Nat} {spec : OpSpec} {c : Cmd} {s t : State} {w : Wait} (h : Passes op spec c s)
    (heff : spec.effect c s = (t, .wait w)) : runOp spec c s = hold spec c w t :=
  Host.Outcome.next.inj ((hostOp_of_passes h).symm.trans (hostOp_of_wait h heff))

/-- An SC one of whose SAs has left its slot (R171, 06 R195). -/
def Sc.without (e : Sc) (n an : Nat) : Sc :=
  let e := if e.slot an = some n then e.setSlot an none else e
  if e.nextAn = an ∧ (e.armedPn ∨ e.armedTime) then { e with armedPn := false, armedTime := false, rollFired := false } else e

/-- An SA that leaves its slot drains (R171). -/
def Sa.leaving (a : Sa) : Sa := { a with draining := true, deadline := none, retiring := false }

theorem vacate_of_some {n : Nat} {a : Sa} {e : Sc} {s : State} (ha : saOf s n = some a) (he : scOf s a.sc = some e) :
    vacate n s = setSc a.sc (e.without n a.an) (saWritten n a.leaving s) := by
  have hsc : scOf (saWritten n a.leaving s) a.sc = some e := by rw [scOf_saWritten, he]
  simp only [vacate, ha]
  exact modSc_of_some hsc _

theorem startRetiring_of_some {n : Nat} {a : Sa} {e : Sc} {s : State} (ha : saOf s n = some a) (he : scOf s a.sc = some e) :
    startRetiring n s = setSa n { a with retiring := true, deadline := some (msNow s + 100 * e.overlap) } s := by
  simp only [startRetiring, ha, he]

theorem answers_saRetire_after {c : Cmd} {n : Nat} {a : Sa} {e : Sc} {s : State} (hpass : Passes 0x0404 specSaRetire c s)
    (hother : ∀ r ∈ s.running, r.cmd ≠ c) (he : scOf s c.sc = some e) (hslot : e.slot c.an = some n) (ha : saOf s n = some a)
    (hsc : a.sc = c.sc) (hafter : c.flag 12 2 = true) :
    Answers c 0 (setSa n { a with retiring := true, deadline := some (msNow s + 100 * e.overlap) } s) (exec (.saRetire c) s) := by
  have heff : specSaRetire.effect c s = (setSa n { a with retiring := true, deadline := some (msNow s + 100 * e.overlap) } s, ok 0) := by
    simp only [specSaRetire, he, hslot, hafter, if_true, startRetiring_of_some ha (hsc ▸ he)]
  have hanswered := answered_postCompletion c stOk 0 0 (setSa n { a with retiring := true, deadline := some (msNow s + 100 * e.overlap) } s)
  refine ⟨_, exec_saRetire hpass he, ?_⟩
  rw [runOp_of_done hpass heff, mirrorCommand_of_unmirrored (by rw [hpass.opcode]; decide), lockDrained_of_other]
  · exact hanswered
  · rw [finish_without_data, hanswered.told.running]
    exact hother

theorem markDirty_withRunning (kind index : Nat) (rs : List Running) (s : State) :
    markDirty kind index { s with running := rs } = { markDirty kind index s with running := rs } := by
  unfold markDirty pairActive modPair
  dsimp only
  split_ifs <;> rfl

theorem saWritten_withRunning (n : Nat) (a : Sa) (rs : List Running) (s : State) :
    saWritten n a { s with running := rs } = { saWritten n a s with running := rs } := by
  unfold saWritten
  rw [← markDirty_withRunning, ← markDirty_withRunning]
  rfl

theorem lockDrained_hold {c : Cmd} {n : Nat} {spec : OpSpec} {s : State} (h : ∀ r ∈ s.running, r.cmd ≠ c) :
    lockDrained c [n] (hold spec c .work s) =
      { s with running := s.running ++ [{ cmd := c, cls := spec.cls, locks := spec.locks c ++ [.sa n], wait := .work }] } := by
  have hothers := congrArg State.running (lockDrained_of_other (sas := [n]) h)
  simp only [lockDrained, List.map_cons, List.map_nil] at hothers
  simp only [lockDrained, hold, List.map_append, hothers, List.map_cons, List.map_nil, and_self, if_true]

theorem exec_saRetire_now {c : Cmd} {n : Nat} {a : Sa} {e : Sc} {s : State} (hpass : Passes 0x0404 specSaRetire c s)
    (hother : ∀ r ∈ s.running, r.cmd ≠ c) (he : scOf s c.sc = some e) (hslot : e.slot c.an = some n) (ha : saOf s n = some a)
    (hsc : a.sc = c.sc) (hnow : c.flag 12 2 = false) :
    exec (.saRetire c) s = .next (setSc a.sc (e.without n a.an) (saWritten n a.leaving { s with
      running := s.running ++ [{ cmd := c, cls := .a, locks := [.sc c.sc, .sa n], wait := .work }] })) := by
  have heff : specSaRetire.effect c s = (setSc a.sc (e.without n a.an) (saWritten n a.leaving s), .wait .work) := by
    simp only [specSaRetire, he, hslot, hnow, Bool.false_eq_true, if_false, vacate_of_some ha (hsc ▸ he)]
  have hkept : ∀ r ∈ (setSc a.sc (e.without n a.an) (saWritten n a.leaving s)).running, r.cmd ≠ c := by
    rw [saWritten_rest]
    exact hother
  have hrunning : (setSc a.sc (e.without n a.an) (saWritten n a.leaving s)).running = s.running := by
    rw [saWritten_rest]
    rfl
  rw [exec_saRetire hpass he, runOp_of_wait hpass heff, hslot, Option.toList_some, lockDrained_hold hkept, hrunning,
    saWritten_withRunning n a.leaving (s.running ++ [({ cmd := c, cls := .a, locks := [.sc c.sc, .sa n], wait := .work } : Running)]) s]
  rfl

theorem specSaStatus_of_empty {c : Cmd} {e : Sc} {s : State} (he : scOf s c.sc = some e) (hslot : e.slot c.an = none) :
    specSaStatus.effect c s = (s, .done
      { status := stOk, data := blockFor c (List.replicate 64 0)
        result := 16 * b2n (!e.receive && e.encAn == c.an) + 2 ^ 8 * (if e.receive then 0 else e.encAn % 4) }) := by
  simp only [specSaStatus, he, hslot, resultOf_cons, resultOf_nil, blockFor]
  congr 3
  omega

theorem specSaStatus_of_some {c : Cmd} {n : Nat} {a : Sa} {e : Sc} {s : State} (he : scOf s c.sc = some e) (hslot : e.slot c.an = some n)
    (ha : saOf s n = some a) : specSaStatus.effect c s = (s, .done
      { status := stOk, data := blockFor c (saBlock s n)
        result := saState a (!e.receive && e.encAn == c.an) + 16 * b2n (!e.receive && e.encAn == c.an) + 32 * b2n a.statsIncomplete +
          64 * b2n ((e.armedPn || e.armedTime) && e.nextAn == c.an) + 2 ^ 8 * (if e.receive then 0 else e.encAn % 4) + 2 ^ 32 * n }) := by
  simp only [specSaStatus, he, hslot, ha, resultOf_cons, resultOf_nil, blockFor]
  congr 3
  omega

/-- A passing command whose effect is done with OK and a block for DATA_PTR. -/
theorem answers_of_block {op result : Nat} {data : Bytes} {spec : OpSpec} {c : Cmd} {s t : State} (h : Passes op spec c s)
    (hmirror : mirroredCommands.contains op = false)
    (heff : spec.effect c s = (t, .done { status := stOk, data := blockFor c data, result })) (hdata : data ≠ []) :
    Answers c result (if c.dataPtr = 0 then t else emit (.hostWrite c.fn c.dataPtr data) t) (hostOp spec c s) := by
  have hunmirrored : mirroredCommands.contains c.opcode = false := by rw [h.opcode]; exact hmirror
  refine ⟨_, hostOp_of_done h heff, ?_⟩
  rw [mirrorCommand_of_unmirrored hunmirrored, finish]
  by_cases hptr : c.dataPtr = 0
  · simp only [blockFor, if_pos hptr, if_true]
    exact answered_postCompletion ..
  · simp only [blockFor, if_neg hptr, if_neg hdata]
    exact answered_postCompletion ..

theorem saBlock_of_some {n : Nat} {a : Sa} {s : State} (ha : saOf s n = some a) : saBlock s n ≠ [] := by
  simp [saBlock, ha, leBytes]

theorem keyBytes_eq (wrapped short : Bool) :
    keyBytes wrapped short = if short then (if wrapped then 24 else 16) else (if wrapped then 40 else 32) := by
  cases wrapped <;> cases short <;> rfl

theorem Sc.without_of_slot {e : Sc} {n an : Nat} (h : e.slot an = some n) : e.without n an =
    if e.nextAn = an ∧ (e.armedPn ∨ e.armedTime) then
      { e.setSlot an none with armedPn := false, armedTime := false, rollFired := false } else e.setSlot an none := by
  have hkept : (e.setSlot an none).nextAn = e.nextAn ∧ (e.setSlot an none).armedPn = e.armedPn ∧
      (e.setSlot an none).armedTime = e.armedTime := by
    unfold Sc.setSlot
    split <;> exact ⟨rfl, rfl, rfl⟩
  obtain ⟨hnext, hpn, htime⟩ := hkept
  rw [Sc.without, if_pos h]
  refine if_congr ?_ rfl rfl
  rw [hnext, hpn, htime]

/-- An SA_INSTALL's changes of entries, over the transfer that it may have counted. -/
theorem SaPlaced.told {n : Nat} {a : Sa} {e : Sc} {now : Bool} {s t u : State} (h : SaPlaced n a e now t u) (hsame : t.channels = s.channels) :
    Told { t with channels := { s.channels with scs := u.channels.scs, sas := u.channels.sas }, pair := u.pair } u := by
  rw [← hsame, ← h.rest]
  exact Told.refl u

/-- Settles O36: an SA placed, an SA that leaves its slot or waits out its overlap, and a report. -/
theorem saCommands : Obligations.SaCommands := by
  rintro c e an sc s rfl rfl hsc hother
  refine ⟨?install, fun n a hpass hslot ha hasc haan => ⟨fun hafter => ?after, fun hnow => ?now⟩,
    fun enc hpass henc => ⟨fun hslot => ?empty, fun n a hslot ha => ?status⟩⟩
  case install =>
    rintro root key bytes p activate hpass rfl rfl rfl rfl holds hsound rfl
    have hroot : c.parentIsRoot = decide (c.u16 14 = 0xffff) := rfl
    have hkey := installKey_of_sound (hsound.imp_left (fun h => hroot.trans h)) (wrapped_not_root hpass) (suite128 e.suite)
    have hsame : (if c.flag 12 2 then State.plus 0x3100 1 s else s).channels = s.channels := by split_ifs <;> rfl
    have hattar : (if c.flag 12 2 then State.plus 0x3100 1 s else s).attar = s.attar := by split_ifs <;> rfl
    rw [keyBytes_eq] at hkey
    generalize hk : (if c.flag 12 2 = true then Config.unwrap _ _ else _) = key at hkey ⊢
    cases key with
    | none =>
      have hwrapped : c.flag 12 2 = true := by
        by_contra hclear
        simp [hclear] at hk
      rw [if_pos hwrapped] at hkey
      exact answered_of_failed hpass (specSaInstall_of_no_key hsc hkey) (by decide)
    | some k =>
      obtain ⟨n, u, hfree, hbelow, hanswers, hplaced⟩ := answers_saInstall hpass hsc hkey hsame holds
      refine ⟨n, u, hfree, hbelow, hanswers, hplaced.told hsame, ?_, hplaced.sc, fun m hm => ?_, fun m hm => ?_⟩
      · rw [hplaced.sa, installedSa, issuedGen, slotOf, hattar, ← hroot]
        rfl
      · exact (hplaced.scs m hm).trans (scOf_of_channels hsame m)
      · rw [hplaced.sas m hm, saOf_of_channels hsame]
  case after => exact answers_saRetire_after hpass hother hsc hslot ha hasc hafter
  case now =>
    have hexec := exec_saRetire_now hpass hother hsc hslot ha hasc hnow
    rw [haan, saWritten, show a.leaving.sc = a.sc from rfl, hasc] at hexec
    exact ⟨e.without n (c.get ⟨12, 0, 2⟩), hexec, Sc.without_of_slot hslot⟩
  case empty =>
    subst henc
    exact answers_of_block hpass (by decide) (specSaStatus_of_empty hsc hslot) (by decide)
  case status =>
    subst henc
    exact answers_of_block hpass (by decide) (specSaStatus_of_some hsc hslot ha) (saBlock_of_some ha)

/-! ## SA_ROLL -/

/-- From `s` to `u` an SC has become `e'`, the SA in the encoding slot that `e` names has been changed, and only reporting beside that. -/
structure Rolled (sc : Nat) (e e' : Sc) (f : Sa → Sa) (s u : State) : Prop where
  told : Told { s with channels := { s.channels with scs := u.channels.scs, sas := u.channels.sas }, pair := u.pair } u
  rolled : scOf u sc = some e'
  scs : ∀ m, m ≠ sc → scOf u m = scOf s m
  sas : ∀ n, saOf u n = if e.slot e.encAn = some n then (saOf s n).map f else saOf s n

/-- The SA in the encoding slot, changed. -/
def modEncoding (e : Sc) (f : Sa → Sa) (s : State) : State :=
  match e.slot e.encAn with
  | some n => modSa n f s
  | none => s

theorem saOf_modEncoding (e : Sc) (f : Sa → Sa) (s : State) (n : Nat) :
    saOf (modEncoding e f s) n = if e.slot e.encAn = some n then (saOf s n).map f else saOf s n := by
  unfold modEncoding
  split
  · rename_i m hm
    rw [saOf_modSa, hm]
    by_cases h : n = m
    · rw [if_pos h, if_pos (by rw [h]), h]
    · rw [if_neg h, if_neg (by simpa [eq_comm] using h)]
  · rename_i hnone
    rw [if_neg (by rw [hnone]; simp)]

theorem modEncoding_rest (e : Sc) (f : Sa → Sa) (s : State) :
    modEncoding e f s = { s with channels := { s.channels with sas := (modEncoding e f s).channels.sas } } := by
  unfold modEncoding
  split <;> rfl

theorem Rolled.markDirty {sc : Nat} {e e' : Sc} {f : Sa → Sa} {s u : State} (h : Rolled sc e e' f s u) (kind index : Nat) :
    Rolled sc e e' f s (markDirty kind index u) := by
  refine ⟨?_, by rw [scOf_markDirty, h.rolled], fun m hm => by rw [scOf_markDirty, h.scs m hm], fun n => by rw [saOf_markDirty, h.sas n]⟩
  have hpair := h.told.withPair (Machine.markDirty kind index u).pair
  rw [markDirty_rest]
  exact hpair

theorem Rolled.raiseSc {sc : Nat} {e e' : Sc} {f : Sa → Sa} {s u : State} (h : Rolled sc e e' f s u) (n an code severity detail : Nat) :
    Rolled sc e e' f s (raiseSc n an code severity detail u) := by
  have htold : Told u (Machine.raiseSc n an code severity detail u) := (Told.refl u).raiseScoped ..
  have hchannels := htold.channels
  refine ⟨?_, by rw [scOf_of_channels hchannels, h.rolled], fun m hm => by rw [scOf_of_channels hchannels, h.scs m hm],
    fun n => by rw [saOf_of_channels hchannels, h.sas n]⟩
  rw [hchannels, htold.pair]
  exact h.told.trans htold

/-- SA_ROLL's THRESHOLD, where it gives one. -/
def Sa.rolled (a : Sa) (low : Nat) (now : Bool) : Sa := { a with low := if low = 0 then a.low else low, superseded := a.superseded || now }

/-- The SC that SA_ROLL leaves (R196). -/
def Sc.rolled (e : Sc) (mode an : Nat) : Sc :=
  if mode = 0 then { e with armedPn := false, armedTime := false, rollFired := false }
  else if mode = 1 then { e with encAn := an, nextAn := an, armedPn := false, armedTime := false, rollFired := false }
  else { e with nextAn := an, armedPn := mode != 3, armedTime := mode != 2, rollFired := false }

/-- The THRESHOLD written. -/
def lowWritten (e : Sc) (low : Nat) (s : State) : State :=
  match (if low = 0 then none else e.slot e.encAn) with
  | some n => modSa n (fun a => { a with low := low }) s
  | none => s

theorem lowWritten_rest (e : Sc) (low : Nat) (s : State) :
    lowWritten e low s = { s with channels := { s.channels with sas := (lowWritten e low s).channels.sas } } := by
  unfold lowWritten
  split <;> rfl

theorem saOf_lowWritten (e : Sc) (low n : Nat) (s : State) :
    saOf (lowWritten e low s) n = if e.slot e.encAn = some n then (saOf s n).map (fun a => a.rolled low false) else saOf s n := by
  unfold lowWritten
  by_cases hlow : low = 0
  · have hsame : (fun a : Sa => a.rolled low false) = id := by
      funext a
      simp [Sa.rolled, hlow]
    rw [if_pos hlow, hsame, Option.map_id, id, ite_self]
  · have hset : (fun a : Sa => a.rolled low false) = fun a => { a with low := low } := by
      funext a
      simp [Sa.rolled, hlow]
    rw [if_neg hlow, hset]
    exact saOf_modEncoding e _ s n

theorem rolled_of_written {sc : Nat} {e e' : Sc} {f : Sa → Sa} {s v : State}
    (hrest : v = { s with channels := { s.channels with sas := v.channels.sas } })
    (hsas : ∀ n, saOf v n = if e.slot e.encAn = some n then (saOf s n).map f else saOf s n) : Rolled sc e e' f s (setSc sc e' v) := by
  refine ⟨?_, scOf_setSc_same .., fun m hm => ?_, hsas⟩
  · rw [hrest]
    exact Told.refl _
  · rw [scOf_setSc_ne hm, hrest]
    rfl

theorem moveEncAn_command (sc : Nat) (e : Sc) (an : Nat) (s : State) : ∃ d, moveEncAn sc e an 2 s =
    raiseSc sc an 0x0407 0 d (markDirty 2 sc (setSc sc (e.rolled 1 an) (modEncoding e (fun a => { a with superseded := true }) s))) :=
  ⟨_, rfl⟩

theorem saOf_switched (e : Sc) (low n : Nat) (s : State) :
    saOf (modEncoding e (fun a => { a with superseded := true }) (lowWritten e low s)) n =
      if e.slot e.encAn = some n then (saOf s n).map (fun a => a.rolled low true) else saOf s n := by
  rw [saOf_modEncoding, saOf_lowWritten]
  by_cases h : e.slot e.encAn = some n
  · rw [if_pos h, if_pos h, if_pos h, Option.map_map]
    refine congrArg (fun f => Option.map f (saOf s n)) ?_
    funext a
    simp [Sa.rolled]
  · rw [if_neg h, if_neg h, if_neg h]

/-- What SA_ROLL leaves of a device (R196). -/
def rollDone (sc : Nat) (e : Sc) (mode an low : Nat) (s : State) : State :=
  if mode = 1 then moveEncAn sc e an 2 (lowWritten e low s)
  else if mode = 0 then setSc sc { e with armedPn := false, armedTime := false, rollFired := false } (lowWritten e low s)
  else setSc sc { e with nextAn := an, armedPn := mode != 3, armedTime := mode != 2, rollFired := false } (lowWritten e low s)

theorem rolled_rollDone (sc : Nat) (e : Sc) (mode an low : Nat) (s : State) :
    Rolled sc e (e.rolled mode an) (fun a => a.rolled low (decide (mode = 1))) s (rollDone sc e mode an low s) := by
  have hset (e' : Sc) : Rolled sc e e' (fun a => a.rolled low false) s (setSc sc e' (lowWritten e low s)) :=
    rolled_of_written (lowWritten_rest e low s) (fun n => saOf_lowWritten e low n s)
  unfold rollDone
  by_cases hmode : mode = 1
  · obtain ⟨d, hmove⟩ := moveEncAn_command sc e an (lowWritten e low s)
    rw [if_pos hmode, hmove, hmode]
    refine Rolled.raiseSc (Rolled.markDirty (rolled_of_written ?_ (fun n => saOf_switched e low n s)) 2 sc) ..
    rw [modEncoding_rest, lowWritten_rest]
  · rw [if_neg hmode, decide_eq_false hmode, Sc.rolled]
    by_cases hzero : mode = 0
    · rw [if_pos hzero, if_pos hzero]
      exact hset _
    · rw [if_neg hzero, if_neg hzero, if_neg hmode]
      exact hset _

/-- SA_ROLL's RESULT (R196). -/
def Sc.rollResult (e : Sc) : Nat := e.encAn % 4 + b2n e.armedPn * 4 + b2n e.armedTime * 8

theorem specSaRoll_refused {c : Cmd} {e : Sc} {s : State} (he : scOf s c.sc = some e) (hmode : c.rollMode = 1)
    (hrefused : (switchRefused s e c.an).isSome = true) : specSaRoll.effect c s = (s, failed stIntegrity 0) := by
  simp [specSaRoll, he, hmode, hrefused]

theorem specSaRoll_done {c : Cmd} {e : Sc} {s : State} (he : scOf s c.sc = some e)
    (htarget : c.rollMode = 1 → switchRefused s e c.an = none) :
    specSaRoll.effect c s = (markDirty 2 c.sc (rollDone c.sc e c.rollMode c.an (c.u64 16) s),
      ok ((e.rolled c.rollMode c.an).encAn % 4 + 4 * b2n (e.rolled c.rollMode c.an).armedPn + 8 * b2n (e.rolled c.rollMode c.an).armedTime)) := by
  have hgood : (decide (c.rollMode = 1) && (switchRefused s e c.an).isSome) = false := by
    by_cases h : c.rollMode = 1
    · simp [htarget h]
    · simp [h]
  simp only [specSaRoll, he, hgood, Bool.false_eq_true, if_false]
  change (markDirty 2 c.sc (rollDone c.sc e c.rollMode c.an (c.u64 16) s),
    ok (resultOf [(8, ((scOf (rollDone c.sc e c.rollMode c.an (c.u64 16) s) c.sc).getD e).rollResult)])) = _
  rw [(rolled_rollDone c.sc e c.rollMode c.an (c.u64 16) s).rolled, Option.getD_some, resultOf_byte8, Sc.rollResult,
    Nat.mul_comm 4, Nat.mul_comm 8]

/-- Settles O37: SA_ROLL by its effect, and a ROLL instant by the SC's arming. -/
theorem saRoll : Obligations.SaRoll := by
  rintro s sc e he
  refine ⟨?roll, fun sec ns hlive hroll hdue => ?fire⟩
  case roll =>
    rintro c an mode hpass rfl rfl rfl
    refine ⟨fun hmode hrefused => answered_of_failed hpass (specSaRoll_refused he hmode hrefused) (by decide), fun htarget => ?_⟩
    have hrolled := (rolled_rollDone c.sc e c.rollMode c.an (c.u64 16) s).markDirty 2 c.sc
    exact ⟨_, _, answers_of_done hpass (by decide) (specSaRoll_done he htarget), hrolled.told, rfl, hrolled.rolled, hrolled.scs, hrolled.sas⟩
  case fire =>
    refine ⟨_, by dsimp only [exec, execRollFire]; exact act_of_live hlive _, ?_⟩
    have hsc : scOf { s with time := { s.time with rolls := s.time.rolls.erase sc } } sc = some e := he
    simp only [hroll, if_neg (Nat.not_lt.mpr hdue), hsc]
    by_cases harmed : e.armedTime = true
    · rw [if_pos harmed, if_pos harmed]
      exact Told.refl _
    · rw [if_neg harmed, if_neg harmed]
      exact (Told.refl _).raiseScoped ..

end Sys2Proof.Machine
end

section
/-!
PROOFS. Accord (07_accord): where a frame that leaves counts in the port's bandwidth window (20_counters R574), which the statements' frame
`AccordWork` does not allow.
-/
namespace Sys2Proof.Machine

open Sys2Proof

/-! ## The bandwidth window -/

/-- The bytes that an outcome leaves in the running bandwidth window. -/
def windowAfter : Host.Outcome State Fault Refusal → Table Nat
  | .next t => t.pmc.running
  | _ => .empty

/-- An outcome whose property keeps the window keeps it. -/
theorem windowAfter_of_gives {o : Host.Outcome State Fault Refusal} {p : State → Prop} {w : Table Nat} (h : Gives o p)
    (hp : ∀ t, p t → t.pmc.running = w) : windowAfter o = w := by
  obtain ⟨t, rfl, ht⟩ := h
  exact hp t ht

theorem AccordWork.window {s t : State} (h : AccordWork s t) : t.pmc.running = s.pmc.running := congrArg (fun u => u.pmc.running) h

theorem PeerWork.window {pi : Nat} {s t : State} (h : PeerWork pi s t) : t.pmc.running = s.pmc.running := h.1.window

/-! ## A HELLO of an unknown peer -/

/-- The peer that the HELLO of `unknown 1` makes. -/
def newcomer : Peer :=
  { community := 0, port := 0, mac := 0x020000000001, state := .discovered, deviceId := 1, epoch := 3, seq := 9, helloMs := 250
    localPi := 0, seenMs := 0 }

/-- The OFFER that answers it passes the port's PCS. -/
theorem window_of_hello : windowAfter (exec (.accHelloRx 0) (unknown 1)) ≠ (unknown 1).pmc.running := by decide +kernel

/-- Refutes O40: a HELLO of an unknown peer with the lower DEVICE_ID makes this device send its OFFER, which counts in the port's window. -/
theorem not_accordArrivals : ¬ Obligations.AccordArrivals := by
  intro h
  obtain ⟨-, -, hhello, -, -⟩ := h (unknown 1) (by decide +kernel)
  obtain ⟨-, hnew⟩ := hhello (accMsg (helloText 1 3) []) [] (textBody (helloText 1 3)) rfl (by decide +kernel) rfl (by decide +kernel)
    (by decide +kernel) (by decide +kernel) (by decide +kernel) (by decide +kernel) (by decide +kernel)
  have hopens := hnew 0 0 newcomer (by decide +kernel) (by decide +kernel) (by decide +kernel) (by decide +kernel) (by decide +kernel)
  refine window_of_hello (windowAfter_of_gives hopens fun t ht => ?_)
  obtain ⟨-, ht⟩ := ht
  rw [if_pos (by decide +kernel)] at ht
  exact ht.1.window

/-! ## A ROLL at the responder -/

/-- A ROLL of the initiator. -/
def rollAsked : Message := accMsg (accText 5 7 9 (zeros 40)) []

/-- The responder's peer, which waits for it. -/
def rollPeer : Peer := { partner with txSc := some 1, exchange := some { exch false .done with rollWait := true, txAn := 1 } }

/-- The acknowledgement passes the port's PCS. -/
theorem window_of_roll : windowAfter (exec (.accRollRx 0) (heard rollPeer [rollAsked])) ≠ (heard rollPeer [rollAsked]).pmc.running := by
  decide +kernel

/-- Refutes O41: a responder answers a ROLL with its acknowledgement, which counts in the port's window. -/
theorem not_accordExchange : ¬ Obligations.AccordExchange := by
  intro h
  obtain ⟨-, -, -, hroll⟩ := h (heard rollPeer [rollAsked]) _ rollAsked [] 16383 rollPeer _ group (by decide +kernel) (by decide +kernel)
    (by decide +kernel) (by decide +kernel) (by decide +kernel) (by decide +kernel) rfl (by decide +kernel) (by decide +kernel)
    (by decide +kernel) (by decide +kernel) (by decide +kernel) rfl rfl
  have hwork := hroll { exch false .done with rollWait := true, txAn := 1 } _ 1 txSc rfl rfl (by decide +kernel) (by decide +kernel)
    rfl (by decide +kernel) (by decide +kernel) rfl rfl (by decide +kernel)
  exact window_of_roll (windowAfter_of_gives hwork fun t ht => ht.1.window)

/-! ## Timers -/

/-- A HELLO that leaves passes the port's PCS. -/
theorem window_of_helloInterval : windowAfter (exec .helloInterval (peered partner)) ≠ (peered partner).pmc.running := by decide +kernel

/-- Refutes O42: HELLO_INTERVAL's HELLO leaves on line port 0 and counts in the port's window. -/
theorem not_accordPeerTimers : ¬ Obligations.AccordPeerTimers := by
  intro h
  obtain ⟨hhello, -⟩ := h (peered partner) (by decide +kernel) (by decide +kernel) (by decide +kernel)
  obtain ⟨hwork, -⟩ := hhello (by decide +kernel) (by decide +kernel)
  exact window_of_helloInterval (windowAfter_of_gives hwork fun t ht => ht.1.window)

/-- An initiator whose ROLL has not been acknowledged. -/
def rollSent : Exchange := { exch true .done with rollWait := true, sent := zeros 64 }
def rollPending : Peer := { partner with exchange := some rollSent }

/-- The ROLL that is sent again passes the port's PCS. -/
theorem window_of_rollResend : windowAfter (exec (.rollResend 16383) (peered rollPending)) ≠ (peered rollPending).pmc.running := by
  decide +kernel

/-- Refutes O43: a ROLL that is sent again leaves on line port 0 and counts in the port's window. -/
theorem not_accordExchangeTimers : ¬ Obligations.AccordExchangeTimers := by
  intro h
  obtain ⟨hexchange, -⟩ := h (peered rollPending) 16383 rollPending (by decide +kernel) (by decide +kernel) (by decide +kernel) (by decide +kernel)
  obtain ⟨-, -, -, -, hresend, -⟩ := hexchange rollSent rfl
  have hwork := hresend rfl rfl (by decide)
  exact window_of_rollResend (windowAfter_of_gives hwork fun t ht => ht.1.window)

end Sys2Proof.Machine
end

section
/-!
PROOFS. The key store's commands (08_attar_key_store): what writing and destroying a slot leave, and what KEY_STATUS reports.
-/
namespace Sys2Proof.Machine

open Sys2Proof

/-- From `s` to `u` nothing has changed but slot `n`, the tombstones and the floor, what a pair is told, the counters, and what
reporting changes. -/
structure SlotWork (n : Nat) (s u : State) : Prop where
  rest : u = { s with
    attar := { s.attar with slots := u.attar.slots, tombstones := u.attar.tombstones, floor := u.attar.floor }
    pair := { s.pair with dirty := u.pair.dirty }, out := u.out, regs := u.regs, fns := u.fns, counters := u.counters
    holds := u.holds, heldEvents := u.heldEvents, pmc := { s.pmc with counters := u.pmc.counters }
    domain := { s.domain with reports := u.domain.reports } }
  regs : ∀ a, isReportReg a = false → reg u a = reg s a
  out : ∃ os, u.out = os ++ s.out
  fns : ∀ f, (fnOf u f).kept = (fnOf s f).kept
  others : ∀ m, m ≠ n → slotOf u m = slotOf s m

theorem SlotWork.refl (n : Nat) (s : State) : SlotWork n s s := ⟨rfl, fun _ _ => rfl, ⟨[], rfl⟩, fun _ => rfl, fun _ _ => rfl⟩

theorem SlotWork.told {n : Nat} {s u : State} (h : SlotWork n s u) :
    Told { s with attar := { s.attar with slots := u.attar.slots, tombstones := u.attar.tombstones, floor := u.attar.floor }
                  pair := { s.pair with dirty := u.pair.dirty }, counters := u.counters } u :=
  ⟨h.rest, h.regs, fun _ _ => rfl, h.out, h.fns⟩

theorem slotOf_of_attar {s t : State} (h : t.attar = s.attar) (n : Nat) : slotOf t n = slotOf s n := by simp only [slotOf, h]

theorem SlotWork.trans {n : Nat} {s u v : State} (h : SlotWork n s u) (k : SlotWork n u v) : SlotWork n s v := by
  refine ⟨?_, fun a ha => (k.regs a ha).trans (h.regs a ha), ?_, fun f => (k.fns f).trans (h.fns f),
    fun m hm => (k.others m hm).trans (h.others m hm)⟩
  · have hk := k.rest
    rw [h.rest] at hk
    exact hk
  · obtain ⟨a, ha⟩ := h.out
    obtain ⟨b, hb⟩ := k.out
    exact ⟨b ++ a, by rw [hb, ha, List.append_assoc]⟩

theorem Told.slotWork {s u : State} (h : Told s u) (n : Nat) : SlotWork n s u :=
  ⟨by rw [h.attar, h.pair]; exact h.rest, h.regs, h.out, h.fns, fun m _ => slotOf_of_attar h.attar m⟩

theorem markDirty_attar (kind index : Nat) (s : State) : (markDirty kind index s).attar = s.attar := by rw [markDirty_rest]

theorem slotOf_setSlot_same (n : Nat) (v : Slot) (s : State) : slotOf (setSlot n v s) n = v := by
  rw [setSlot, slotOf, markDirty_attar]
  exact Table.get_put_same s.attar.slots {} n v

theorem slotOf_setSlot_ne {n m : Nat} (h : m ≠ n) (v : Slot) (s : State) : slotOf (setSlot n v s) m = slotOf s m := by
  rw [setSlot, slotOf, markDirty_attar]
  exact Table.get_put_ne h s.attar.slots {} {} v

theorem setSlot_rest (n : Nat) (v : Slot) (s : State) : setSlot n v s =
    { s with attar := { s.attar with slots := s.attar.slots.put {} n v }, pair := { s.pair with dirty := (setSlot n v s).pair.dirty } } := by
  unfold setSlot markDirty modPair
  split_ifs <;> rfl

theorem slotWork_setSlot (n : Nat) (v : Slot) (s : State) : SlotWork n s (setSlot n v s) where
  rest := by rw [setSlot_rest]
  regs _ _ := by rw [setSlot_rest]; rfl
  out := ⟨[], by rw [setSlot_rest]; rfl⟩
  fns _ := by rw [setSlot_rest]; rfl
  others _ hm := slotOf_setSlot_ne hm v s

theorem slotWork_plus (m off k : Nat) (s : State) : SlotWork m s (State.plus off k s) :=
  ⟨rfl, fun _ _ => rfl, ⟨[], rfl⟩, fun _ => rfl, fun _ _ => rfl⟩

theorem slotWork_countBy (m off k : Nat) (s : State) : SlotWork m s (countBy off k s) :=
  (slotWork_plus m off k s).trans ((told_countBy off k s).slotWork m)

theorem Told.flaconFault {s t : State} (h : Told s t) (cause : Nat) : Told s (flaconFault cause t) := h.raiseHeld ..

/-- The state with another floor. -/
def withFloor (f : Nat) (s : State) : State := { s with attar := { s.attar with floor := f } }

/-- A tombstone is written, or with all of them in use the floor rises and a fault is told. -/
theorem recordTombstone_cases (n gen : Nat) (s : State) :
    recordTombstone n gen s = { s with attar := { s.attar with tombstones := s.attar.tombstones.set n gen } } ∨
      ∃ f, recordTombstone n gen s = flaconFault 4 (withFloor f s) := by
  unfold recordTombstone
  split_ifs
  · exact .inl rfl
  · exact .inr ⟨_, rfl⟩

theorem slotWork_recordTombstone (m n gen : Nat) (s : State) : SlotWork m s (recordTombstone n gen s) := by
  obtain h | ⟨f, h⟩ := recordTombstone_cases n gen s
  · rw [h]
    exact ⟨rfl, fun _ _ => rfl, ⟨[], rfl⟩, fun _ => rfl, fun _ _ => rfl⟩
  · have hfloor : SlotWork m s (withFloor f s) := ⟨rfl, fun _ _ => rfl, ⟨[], rfl⟩, fun _ => rfl, fun _ _ => rfl⟩
    rw [h]
    exact hfloor.trans (((Told.refl _).flaconFault 4).slotWork m)

theorem reviewCommunities_of_none {s : State} (h : s.accord.communities = .empty) : reviewCommunities s = s := by
  rw [reviewCommunities, h]
  rfl

theorem SlotWork.accord {n : Nat} {s u : State} (h : SlotWork n s u) : u.accord = s.accord := by rw [h.rest]

/-! ## Destroying a slot -/

/-- A slot emptied and counted, and its tombstone written where it was committed (R261, R263). -/
def slotDestroyed (n : Nat) (s : State) : State :=
  let u := countBy 0x3118 1 (setSlot n (emptied (slotOf s n)) s)
  if committed s n then recordTombstone n (emptied (slotOf s n)).gen u else u

theorem slotWork_slotDestroyed (n : Nat) (s : State) : SlotWork n s (slotDestroyed n s) := by
  have hbase : SlotWork n s (countBy 0x3118 1 (setSlot n (emptied (slotOf s n)) s)) :=
    (slotWork_setSlot ..).trans (slotWork_countBy ..)
  unfold slotDestroyed
  dsimp only
  split_ifs
  · exact hbase.trans (slotWork_recordTombstone ..)
  · exact hbase

theorem recordTombstone_slots (n gen : Nat) (s : State) : (recordTombstone n gen s).attar.slots = s.attar.slots := by
  obtain h | ⟨f, h⟩ := recordTombstone_cases n gen s
  · rw [h]
  · rw [h, ((Told.refl (withFloor f s)).flaconFault 4).attar]
    rfl

theorem countBy_attar (off k : Nat) (s : State) : (countBy off k s).attar = s.attar := (told_countBy off k s).attar

theorem slotOf_slotDestroyed (n : Nat) (s : State) : slotOf (slotDestroyed n s) n = emptied (slotOf s n) := by
  have hbase : slotOf (countBy 0x3118 1 (setSlot n (emptied (slotOf s n)) s)) n = emptied (slotOf s n) := by
    rw [slotOf_of_attar (countBy_attar ..), slotOf_setSlot_same]
  unfold slotDestroyed
  dsimp only
  split_ifs
  · exact (congrArg (fun slots => slots.get {} n) (recordTombstone_slots ..)).trans hbase
  · exact hbase

theorem told_invalidateSlot {n cause : Nat} {s : State} (h : s.accord.communities = .empty) :
    Told (slotDestroyed n s) (invalidateSlot n cause s) := by
  have hraised : Told (slotDestroyed n s) (raiseInvalidated (slotOf s n).tenant n (emptied (slotOf s n)).gen cause (slotDestroyed n s)) :=
    (Told.refl _).raiseHeld ..
  have hnone := (congrArg Accord.communities (hraised.accord.trans (slotWork_slotDestroyed n s).accord)).trans h
  rw [← reviewCommunities_of_none hnone] at hraised
  exact hraised

theorem slotWork_invalidateSlot {n cause : Nat} {s : State} (h : s.accord.communities = .empty) : SlotWork n s (invalidateSlot n cause s) :=
  (slotWork_slotDestroyed n s).trans ((told_invalidateSlot h).slotWork n)

theorem slotOf_invalidateSlot {n cause : Nat} {s : State} (h : s.accord.communities = .empty) :
    slotOf (invalidateSlot n cause s) n = emptied (slotOf s n) := by
  rw [slotOf_of_attar (told_invalidateSlot h).attar, slotOf_slotDestroyed]

theorem emptied_of_below {v : Slot} (h : v.gen < genLimit) : emptied v = { gen := v.gen + 1 } := by
  rw [emptied, Nat.min_eq_right h]

/-- A committed slot that is destroyed leaves a tombstone where there is room (R263). -/
theorem tombstone_of_invalidateSlot {n cause : Nat} {s : State} (h : s.accord.communities = .empty) (hcommitted : committed s n = true)
    (hroom : s.attar.tombstones.cells.length < 16) :
    (invalidateSlot n cause s).attar.tombstones.find n = some (emptied (slotOf s n)).gen := by
  have hsame : (countBy 0x3118 1 (setSlot n (emptied (slotOf s n)) s)).attar.tombstones = s.attar.tombstones := by
    rw [countBy_attar, setSlot_rest]
  rw [(told_invalidateSlot h).attar, slotDestroyed, if_pos hcommitted, recordTombstone, hsame, decide_eq_true hroom, Bool.or_true, if_pos rfl]
  exact Table.find_set_same ..

/-! ## KEY_WRITE -/

theorem slotUsable_ok {s : State} {p : Nat} (h : slotUsable s p = .ok) : (slotOf s p).corrupt = false ∧ chainOk s p = .ok := by
  unfold slotUsable at h
  split_ifs at h with hcorrupt
  exact ⟨by simpa using hcorrupt, h⟩

/-- KEY_WRITE's block under the storage key or a usable parent: in the clear, or unwrapped with a transfer counted (R255, R258). -/
theorem blockKey_of_usable {c : Cmd} {s : State} (hstorage : c.u16 14 = 0xfff1 → c.flag 12 0 = false)
    (hparent : c.u16 14 = 0xfff1 ∨ (slotUsable s (c.u16 14) = .ok ∧ (slotOf s (c.u16 14)).latent = false)) :
    blockKey c s = (if c.flag 12 0 then Config.unwrap (slotOf s (c.u16 14)).key (c.payload.take 40)
      else some (leNat (c.payload.take 32)), if c.flag 12 0 then State.plus 0x3100 1 s else s) := by
  unfold blockKey kwParent kwWrapped storageSlot
  by_cases hp : c.u16 14 = 0xfff1
  · rw [if_pos hp, hstorage hp]
    rfl
  · obtain ⟨husable, hlatent⟩ := hparent.resolve_left hp
    obtain ⟨hcorrupt, hchain⟩ := slotUsable_ok husable
    rw [if_neg hp]
    cases hw : c.flag 12 0 with
    | false =>
      simp only [Bool.false_eq_true, if_false, slotCheck_of_sound hcorrupt hlatent, hchain, ne_eq, not_true_eq_false]
    | true =>
      have hcheck : keyTransfer (c.u16 14) s = (true, State.plus 0x3100 1 s) := by
        rw [keyTransfer, count, countBy_uncounted (by decide)]
        exact slotCheck_of_sound hcorrupt hlatent
      have hchain' : chainOk (State.plus 0x3100 1 s) (c.u16 14) = .ok := hchain
      simp only [if_true, hcheck, hchain', ne_eq, not_true_eq_false, if_false]
      rfl

/-- The slot as KEY_WRITE finds it when it stores the key: emptied where it was occupied. -/
def slotCleared (n : Nat) (s : State) : State := if occupied s n then invalidateSlot n 0 s else s

/-- The slot that KEY_WRITE stores. -/
def writtenSlot (c : Cmd) (key : Nat) (s : State) : Slot :=
  { key := key % 2 ^ 256, type := c.get ⟨10, 0, 4⟩, persist := c.flag 12 1, usage := c.get ⟨11, 0, 4⟩, tenant := c.get ⟨13, 0, 5⟩
    parent := c.u16 14, parentGen := if c.u16 14 = 0xfff1 then 0 else (slotOf s (c.u16 14)).gen, gen := (slotOf s (c.u16 8)).gen
    label := c.u64 16 }

/-- The state that KEY_WRITE leaves. -/
def keyWritten (c : Cmd) (key : Nat) (s : State) : State :=
  countBy 0x3120 1 (setSlot (c.u16 8) (writtenSlot c key (slotCleared (c.u16 8) s)) (slotCleared (c.u16 8) s))

theorem slotWork_slotCleared {n : Nat} {s : State} (h : s.accord.communities = .empty) : SlotWork n s (slotCleared n s) := by
  unfold slotCleared
  split_ifs
  · exact slotWork_invalidateSlot h
  · exact .refl n s

theorem slotWork_keyWritten {c : Cmd} {key : Nat} {s : State} (h : s.accord.communities = .empty) :
    SlotWork (c.u16 8) s (keyWritten c key s) :=
  (slotWork_slotCleared h).trans ((slotWork_setSlot ..).trans (slotWork_countBy ..))

theorem slotOf_keyWritten (c : Cmd) (key : Nat) (s : State) :
    slotOf (keyWritten c key s) (c.u16 8) = writtenSlot c key (slotCleared (c.u16 8) s) := by
  rw [keyWritten, slotOf_of_attar (countBy_attar ..), slotOf_setSlot_same]

theorem specKeyWrite_of_key {c : Cmd} {key : Nat} {s t : State} (hkey : blockKey c s = (some key, t))
    (h : t.accord.communities = .empty) :
    specKeyWrite.effect c s = (keyWritten c key t, ok (slotOf (slotCleared (c.u16 8) t) (c.u16 8)).gen) := by
  have hnone : (keyWritten c key t).accord.communities = .empty := by rw [(slotWork_keyWritten h).accord, h]
  simp only [specKeyWrite, hkey, resultOf_byte8]
  exact congrArg (·, _) (reviewCommunities_of_none hnone)

theorem specKeyWrite_of_no_key {c : Cmd} {s t : State} (hkey : blockKey c s = (none, t)) :
    specKeyWrite.effect c s = (t, failed stIntegrity 0) := by
  simp only [specKeyWrite, hkey]


theorem storage_is_clear {c : Cmd} {s : State} (h : Passes 0x0501 specKeyWrite c s) (hp : c.u16 14 = 0xfff1) : c.flag 12 0 = false := by
  have hstate := h.clear.state
  simp only [specKeyWrite, Bool.or_eq_false_iff, kwWrapped, kwParent, storageSlot, hp, beq_self_eq_true, Bool.true_or, Bool.and_true]
    at hstate
  exact hstate.1.2

theorem below_of_replaced {c : Cmd} {s : State} (h : Passes 0x0501 specKeyWrite c s) (hocc : occupied s (c.u16 8) = true) :
    (slotOf s (c.u16 8)).gen < genLimit := by
  have hstate := h.clear.state
  simp only [specKeyWrite, Bool.or_eq_false_iff, kwSlot, kwReplace, hocc, Bool.true_and] at hstate
  obtain ⟨⟨⟨hreplace, -⟩, -⟩, hbelow⟩ := hstate
  have hset : c.flag 12 2 = true := by simpa using hreplace
  rw [hset, Bool.true_and] at hbelow
  exact lt_of_not_ge (of_decide_eq_false hbelow)

/-- The generation that a new key takes: the next one where the slot was occupied. -/
def nextGen (n : Nat) (s : State) : Nat := if occupied s n then (slotOf s n).gen + 1 else (slotOf s n).gen

theorem gen_slotCleared {n : Nat} {s : State} (hbelow : occupied s n = true → (slotOf s n).gen < genLimit)
    (hnone : s.accord.communities = .empty) : (slotOf (slotCleared n s) n).gen = nextGen n s := by
  unfold slotCleared nextGen
  split_ifs with hocc
  · rw [slotOf_invalidateSlot hnone, emptied_of_below (hbelow hocc)]
  · rfl

/-- The generation of the parent that the new slot is bound to (R249): a slot may name itself as its parent. -/
theorem parentGen_slotCleared {n p : Nat} {s : State} (hbelow : occupied s n = true → (slotOf s n).gen < genLimit)
    (hnone : s.accord.communities = .empty) :
    (slotOf (slotCleared n s) p).gen = if p = n then nextGen n s else (slotOf s p).gen := by
  split_ifs with hself
  · rw [hself, gen_slotCleared hbelow hnone]
  · rw [(slotWork_slotCleared hnone).others _ hself]

/-- The same store with the transfer of the parent's key counted. -/
def transferred (c : Cmd) (s : State) : State := if c.flag 12 0 then State.plus 0x3100 1 s else s

theorem transferred_attar (c : Cmd) (s : State) : (transferred c s).attar = s.attar := by
  unfold transferred
  split_ifs <;> rfl

theorem transferred_accord (c : Cmd) (s : State) : (transferred c s).accord = s.accord := by
  unfold transferred
  split_ifs <;> rfl

theorem slotWork_transferred (c : Cmd) (n : Nat) (s : State) : SlotWork n s (transferred c s) := by
  unfold transferred
  split_ifs
  · exact slotWork_plus ..
  · exact .refl ..

theorem occupied_of_attar {s t : State} (h : t.attar = s.attar) (n : Nat) : occupied t n = occupied s n := by
  rw [occupied, slotOf_of_attar h]
  rfl

theorem nextGen_of_attar {s t : State} (h : t.attar = s.attar) (n : Nat) : nextGen n t = nextGen n s := by
  simp only [nextGen, occupied_of_attar h, slotOf_of_attar h]

theorem activeCopy_of_attar {s t : State} (h : t.attar = s.attar) : activeCopy t = activeCopy s := by
  have hcopy : flaconCopy t = flaconCopy s := by
    funext b
    simp only [flaconCopy, h]
  rw [activeCopy, activeCopy, hcopy, h]

theorem committed_of_attar {s t : State} (h : t.attar = s.attar) (n : Nat) : committed t n = committed s n := by
  rw [committed, committed, activeCopy_of_attar h, slotOf_of_attar h]

/-- KEY_WRITE of a block that gives a key. -/
theorem answers_keyWrite {c : Cmd} {key : Nat} {s : State} (hpass : Passes 0x0501 specKeyWrite c s)
    (hnone : s.accord.communities = .empty) (hkey : blockKey c s = (some key, transferred c s)) :
    Answers c (nextGen (c.u16 8) s) (keyWritten c key (transferred c s)) (exec (.keyWrite c) s) := by
  have hnone' : (transferred c s).accord.communities = .empty := by rw [transferred_accord, hnone]
  have hattar := transferred_attar c s
  have heff := specKeyWrite_of_key hkey hnone'
  rw [gen_slotCleared (fun hocc => ?_) hnone', nextGen_of_attar hattar] at heff
  · exact answers_of_done hpass (by decide) heff
  · rw [occupied_of_attar hattar] at hocc
    rw [slotOf_of_attar hattar]
    exact below_of_replaced hpass hocc

theorem writtenSlot_eq {c : Cmd} {key : Nat} {s : State} (hpass : Passes 0x0501 specKeyWrite c s)
    (hnone : s.accord.communities = .empty) : writtenSlot c key (slotCleared (c.u16 8) (transferred c s)) =
      { key := key % 2 ^ 256, type := c.get ⟨10, 0, 4⟩, persist := c.flag 12 1, usage := c.get ⟨11, 0, 4⟩, tenant := c.get ⟨13, 0, 5⟩
        parent := c.u16 14
        parentGen := if c.u16 14 = 0xfff1 then 0 else if c.u16 14 = c.u16 8 then nextGen (c.u16 8) s else (slotOf s (c.u16 14)).gen
        gen := nextGen (c.u16 8) s, label := c.u64 16 } := by
  have hnone' : (transferred c s).accord.communities = .empty := by rw [transferred_accord, hnone]
  have hattar := transferred_attar c s
  have hbelow (hocc : occupied (transferred c s) (c.u16 8) = true) : (slotOf (transferred c s) (c.u16 8)).gen < genLimit := by
    rw [occupied_of_attar hattar] at hocc
    rw [slotOf_of_attar hattar]
    exact below_of_replaced hpass hocc
  rw [writtenSlot, gen_slotCleared hbelow hnone', parentGen_slotCleared hbelow hnone', nextGen_of_attar hattar, slotOf_of_attar hattar]

theorem tombstone_of_keyWritten {c : Cmd} {key : Nat} {s : State} (hpass : Passes 0x0501 specKeyWrite c s)
    (hnone : s.accord.communities = .empty) (hocc : occupied s (c.u16 8) = true) (hcommitted : committed s (c.u16 8) = true)
    (hroom : s.attar.tombstones.cells.length < 16) :
    (keyWritten c key (transferred c s)).attar.tombstones.find (c.u16 8) = some (nextGen (c.u16 8) s) := by
  have hnone' : (transferred c s).accord.communities = .empty := by rw [transferred_accord, hnone]
  have hattar := transferred_attar c s
  have hdestroyed := tombstone_of_invalidateSlot (cause := 0) hnone' ((committed_of_attar hattar _).trans hcommitted) (hattar ▸ hroom)
  rw [slotOf_of_attar hattar, emptied_of_below (below_of_replaced hpass hocc)] at hdestroyed
  rw [keyWritten, countBy_attar, setSlot_rest, slotCleared, if_pos ((occupied_of_attar hattar _).trans hocc), nextGen, if_pos hocc]
  exact hdestroyed

/-! ## KEY_INVALIDATE -/

theorem below_of_invalidated {c : Cmd} {s : State} (h : Passes 0x0502 specKeyInvalidate c s) (hn : c.u16 8 ≠ 0xffff) :
    (slotOf s (c.u16 8)).gen < genLimit := by
  have hstate := h.clear.state
  simp only [specKeyInvalidate, namesRoot, beq_eq_false_iff_ne.mpr hn, Bool.false_eq_true, if_false, decide_eq_false_iff_not] at hstate
  omega

theorem answers_keyInvalidate {c : Cmd} {s : State} (hpass : Passes 0x0502 specKeyInvalidate c s)
    (hnone : s.accord.communities = .empty) (hn : c.u16 8 ≠ 0xffff) :
    Answers c ((slotOf s (c.u16 8)).gen + 1) (invalidateSlot (c.u16 8) 0 s) (exec (.keyInvalidate c) s) := by
  refine answers_of_done hpass (by decide) ?_
  simp only [specKeyInvalidate, namesRoot, beq_eq_false_iff_ne.mpr hn, Bool.false_eq_true, if_false, slotOf_invalidateSlot hnone,
    emptied_of_below (below_of_invalidated hpass hn), resultOf_byte8]

theorem entServe_rest (n bytes : Nat) (s : State) :
    entServe n bytes s = { s with entropy := (entServe n bytes s).entropy, counters := (entServe n bytes s).counters } := by
  simp only [entServe, entCount, countBy_uncounted (show pmcOfCounter (0xf100 + 8 * 0) = none by decide),
    countBy_uncounted (show pmcOfCounter (0xf100 + 8 * 1) = none by decide),
    countBy_uncounted (show pmcOfCounter (0xf100 + 8 * 2) = none by decide)]
  rfl

/-- A session root drawn, or none where the unit cannot serve, and nothing else but what the unit delivers (R262). -/
structure RootDrawn (s u : State) : Prop where
  rest : u = { s with attar := { s.attar with sessionRoot := u.attar.sessionRoot, sessionReady := entServes s 1 }
                      freeIx := u.freeIx, entropy := u.entropy, counters := u.counters }

theorem rootDrawn_drawSessionRoot (s : State) : RootDrawn s (drawSessionRoot s) := by
  unfold drawSessionRoot
  cases hserves : entServes s 1 with
  | true =>
    refine ⟨?_⟩
    rw [if_pos rfl, entServe_rest, hserves]
    rfl
  | false => exact ⟨by rw [if_neg Bool.false_ne_true, hserves]⟩

/-- The session root with its generation raised (R262). -/
def rootRaised (s : State) : State := markDirty 7 0 { s with attar := { s.attar with rootGen := s.attar.rootGen + 1 } }

theorem rootRaised_rest (s : State) : rootRaised s =
    { s with attar := { s.attar with rootGen := s.attar.rootGen + 1 }, pair := { s.pair with dirty := (rootRaised s).pair.dirty } } := by
  unfold rootRaised markDirty modPair
  split_ifs <;> rfl

/-- The state in which KEY_INVALIDATE tells of the session root. -/
def rootReplaced (s : State) : State := State.plus 0x3118 1 (drawSessionRoot (rootRaised s))

theorem rootReplaced_rest (s : State) : rootReplaced s =
    { s with attar := { s.attar with rootGen := s.attar.rootGen + 1, sessionRoot := (rootReplaced s).attar.sessionRoot
                                     sessionReady := entServes s 1 }
             freeIx := (rootReplaced s).freeIx, entropy := (rootReplaced s).entropy, counters := (rootReplaced s).counters
             pair := { s.pair with dirty := (rootRaised s).pair.dirty } } := by
  have hserves : entServes (rootRaised s) 1 = entServes s 1 := by rw [rootRaised_rest]; rfl
  have hdrawn := (rootDrawn_drawSessionRoot (rootRaised s)).rest
  rw [hserves] at hdrawn
  generalize hu : drawSessionRoot (rootRaised s) = u at hdrawn
  rw [rootReplaced, hu]
  rw [rootRaised_rest] at hdrawn
  rw [hdrawn]
  rfl


theorem told_of_rootReplaced {s u : State} (h : Told (rootReplaced s) u) :
    u.attar = { s.attar with rootGen := s.attar.rootGen + 1, sessionRoot := u.attar.sessionRoot, sessionReady := entServes s 1 } ∧
      Told { s with attar := u.attar, freeIx := u.freeIx, entropy := u.entropy, counters := u.counters
                    pair := { s.pair with dirty := u.pair.dirty } } u := by
  have hrest := rootReplaced_rest s
  refine ⟨?_, ?_, ?_, fun _ _ => rfl, ?_, ?_⟩
  · rw [h.attar]
    exact congrArg State.attar hrest
  · have hu := h.rest
    rw [hrest] at hu
    rw [h.attar, h.freeIx, h.entropy, h.pair, hrest]
    exact hu
  · intro a ha
    rw [h.regs a ha, hrest]
    rfl
  · obtain ⟨os, hos⟩ := h.out
    exact ⟨os, by rw [hos, hrest]⟩
  · intro f
    rw [h.fns f, hrest]
    rfl

theorem answers_keyInvalidate_root {c : Cmd} {s : State} (hpass : Passes 0x0502 specKeyInvalidate c s)
    (hnone : s.accord.communities = .empty) (hn : c.u16 8 = 0xffff) :
    ∃ u, Answers c (s.attar.rootGen + 1) u (exec (.keyInvalidate c) s) ∧ Told (rootReplaced s) u := by
  have htold : Told (rootReplaced s) (raiseInvalidated 0 0xffff (rootReplaced s).attar.rootGen 0 (rootReplaced s)) :=
    (Told.refl _).raiseHeld ..
  have hkeys : (raiseInvalidated 0 0xffff (rootReplaced s).attar.rootGen 0 (rootReplaced s)).accord.communities = .empty := by
    rw [htold.accord, rootReplaced_rest, hnone]
  have hgen : (raiseInvalidated 0 0xffff (rootReplaced s).attar.rootGen 0 (rootReplaced s)).attar.rootGen = s.attar.rootGen + 1 := by
    rw [htold.attar, rootReplaced_rest]
  have hroot : invalidateRoot 0 s = raiseInvalidated 0 0xffff (rootReplaced s).attar.rootGen 0 (rootReplaced s) := by
    have hfold : invalidateRoot 0 s = (raiseInvalidated 0 0xffff (rootRaised s).attar.rootGen 0
        (rootReplaced s)).accord.communities.keys.foldl (fun s ci => rekeyAll ci s)
          (raiseInvalidated 0 0xffff (rootRaised s).attar.rootGen 0 (rootReplaced s)) := by
      rw [rootReplaced, ← countBy_uncounted (by decide)]
      rfl
    have hsame : (rootRaised s).attar.rootGen = (rootReplaced s).attar.rootGen := by rw [rootReplaced_rest, rootRaised_rest]
    rw [hfold, hsame, hkeys]
    rfl
  refine ⟨_, answers_of_done hpass (by decide) ?_, htold⟩
  simp only [specKeyInvalidate, namesRoot, hn, beq_self_eq_true, if_true, hroot, hgen, resultOf_byte8]

/-! ## KEY_STATUS -/

theorem specKeyStatus_of_slot {c : Cmd} {s : State} (hn : c.u16 8 ≤ 16383) : specKeyStatus.effect c s = (s, .done
    { status := stOk, data := blockFor c (keyBlock s (c.u16 8))
      result := slotState s (c.u16 8) + 4 * b2n (slotOf s (c.u16 8)).persist + 8 * b2n (committed s (c.u16 8)) +
        16 * (slotOf s (c.u16 8)).type + 2 ^ 8 * (slotOf s (c.u16 8)).usage +
        2 ^ 12 * b2n (slotState s (c.u16 8) == 2 && !(slotOf s (c.u16 8)).corrupt) + 2 ^ 16 * (slotOf s (c.u16 8)).tenant +
        2 ^ 32 * (slotOf s (c.u16 8)).gen }) := by
  simp only [specKeyStatus, if_pos hn, keyResult, resultOf_cons, resultOf_nil, blockFor]
  congr 3
  · omega
  · by_cases hptr : c.dataPtr = 0 <;> simp [hptr]

theorem specKeyStatus_of_pseudo {c : Cmd} {s : State} {valid : Bool} {gen : Nat} (hn : 16383 < c.u16 8)
    (h : (valid, gen) = pseudoState s (c.u16 8)) : specKeyStatus.effect c s = (s, .done
      { status := stOk, data := blockFor c (leBytes 8 0 ++ leBytes 4 gen ++ leBytes 20 0), result := b2n valid + 2 ^ 32 * gen }) := by
  simp only [specKeyStatus, if_neg (not_le.mpr hn), ← h, resultOf_cons, resultOf_nil, blockFor]
  congr 3
  · omega
  · by_cases hptr : c.dataPtr = 0 <;> simp [hptr]

/-- Settles O44: with no community to review, each command is its slot's rule; a destroyed slot takes the next generation, which is below
its limit because the command passed. -/
theorem keyCommands : Obligations.KeyCommands := by
  unfold Obligations.KeyCommands
  intro c s n hnone hn
  subst hn
  dsimp only
  refine ⟨?_, ?_, ?_, ?_⟩
  · rintro p q g key occ hpass rfl rfl rfl hg hparent hkey
    have hblock : blockKey c s = (key, transferred c s) := by
      rw [blockKey_of_usable (storage_is_clear hpass) hparent, hkey]
      rfl
    cases key with
    | none =>
      have hwrapped : c.flag 12 0 = true := by
        by_contra hclear
        rw [if_neg hclear] at hkey
        cases hkey
      have hfailed := answered_of_failed hpass (specKeyWrite_of_no_key hblock) (by decide)
      rw [transferred, if_pos hwrapped] at hfailed
      exact hfailed
    | some k =>
      have hwork : SlotWork (c.u16 8) s (keyWritten c k (transferred c s)) :=
        (slotWork_transferred ..).trans (slotWork_keyWritten (by rw [transferred_accord, hnone]))
      subst hg
      refine ⟨_, answers_keyWrite hpass hnone hblock, ⟨hwork.others, hwork.told⟩, fun hocc => tombstone_of_keyWritten hpass hnone hocc, ?_⟩
      rw [slotOf_keyWritten, writtenSlot_eq hpass hnone]
      rfl
  · intro hpass hn
    have hgen := emptied_of_below (below_of_invalidated hpass hn)
    have hwork : SlotWork (c.u16 8) s (invalidateSlot (c.u16 8) 0 s) := slotWork_invalidateSlot hnone
    refine ⟨_, _, rfl, answers_keyInvalidate hpass hnone hn, ⟨hwork.others, hwork.told⟩, fun hcommitted hroom => ?_, ?_⟩
    · rw [tombstone_of_invalidateSlot hnone hcommitted hroom, hgen]
    · rw [slotOf_invalidateSlot hnone, hgen]
  · intro hpass hn
    obtain ⟨u, hanswers, htold⟩ := answers_keyInvalidate_root hpass hnone hn
    exact ⟨u, hanswers, told_of_rootReplaced htold⟩
  · rintro v hpass rfl
    refine ⟨fun hn => ?_, fun hn valid gen hpseudo => ?_⟩
    · exact answers_of_block hpass (by decide) (specKeyStatus_of_slot hn) (by simp [keyBlock, leBytes])
    · exact answers_of_block hpass (by decide) (specKeyStatus_of_pseudo hn hpseudo) (by simp [leBytes])

end Sys2Proof.Machine
end

section
/-!
PROOFS. The Flacon image and the upkeep of the key store (08_attar_key_store R253, R254, R266 to R272).
-/
namespace Sys2Proof.Machine

open Sys2Proof

theorem Told.withAttar {s t : State} (h : Told s t) (x : Attar) : Told { s with attar := x } { t with attar := x } := by
  refine ⟨?_, h.regs, h.counters, h.out, h.fns⟩
  rw [h.rest]

/-- Only what a counter reads as matters to reporting, not how its table holds it. -/
theorem told_of_counters {s t : State} (hrest : t = { s with counters := t.counters }) (h : ∀ off, counter t off = counter s off) :
    Told s t where
  rest := by rw [hrest]
  regs _ _ := by rw [hrest]; rfl
  counters off _ := h off
  out := ⟨[], by rw [hrest]; rfl⟩
  fns _ := by rw [hrest]; rfl

theorem told_plus_add (off m n : Nat) (s : State) : Told (State.plus off (m + n) s) (State.plus off n (State.plus off m s)) := by
  refine told_of_counters rfl fun o => ?_
  by_cases ho : o = off
  · rw [ho, counter_plus_same, counter_plus_same, counter_plus_same, BitVec.ofNat_add, BitVec.add_assoc]
  · rw [counter_plus_ne ho, counter_plus_ne ho, counter_plus_ne ho]

theorem told_plus_comm {a b : Nat} (hab : a ≠ b) (m n : Nat) (s : State) :
    Told (State.plus a m (State.plus b n s)) (State.plus b n (State.plus a m s)) := by
  refine told_of_counters rfl fun o => ?_
  by_cases ha : o = a
  · rw [ha, counter_plus_same, counter_plus_ne hab, counter_plus_ne hab, counter_plus_same]
  · by_cases hb : o = b
    · rw [hb, counter_plus_same, counter_plus_ne hab.symm, counter_plus_ne hab.symm, counter_plus_same]
    · rw [counter_plus_ne ha, counter_plus_ne hb, counter_plus_ne hb, counter_plus_ne ha]

theorem told_plus_zero (off : Nat) (s : State) : Told (State.plus off 0 s) s := by
  refine told_of_counters rfl fun o => ?_
  by_cases ho : o = off
  · rw [ho, counter_plus_same]
    exact (BitVec.add_zero _).symm
  · rw [counter_plus_ne ho]

/-! ## FLACON_COMMIT -/

theorem slotUsable_of_attar {s t : State} (h : t.attar = s.attar) (n : Nat) : slotUsable t n = slotUsable s n := by
  have hslot (m : Nat) : slotOf t m = slotOf s m := slotOf_of_attar h m
  have hsystem (m : Nat) : systemGen t m = systemGen s m := by rw [systemGen, systemGen, h]
  have hchain : chainOk t n = chainOk s n := by
    unfold chainOk
    simp only [hslot, hsystem]
  rw [slotUsable, slotUsable, hchain, slotOf_of_attar h]

/-- One slot transferred to the Flacon sealer (R255). -/
def sealOne (r : Bool × State) (n : Nat) : Bool × State :=
  match keyTransfer n r.2 with
  | (good, s) => (r.1 && good && slotUsable s n == .ok, s)

theorem sealSlots_eq (s : State) : sealSlots s = (s.attar.slots.keysIf (fun _ v => v.persist)).foldl sealOne (true, s) := rfl

theorem sealOne_of_usable {n : Nat} {s : State} (husable : slotUsable s n = .ok) (hlatent : (slotOf s n).latent = false) :
    sealOne (true, s) n = (true, State.plus 0x3100 1 s) := by
  have hcheck : keyTransfer n s = (true, State.plus 0x3100 1 s) := by
    rw [keyTransfer, count, countBy_uncounted (by decide)]
    exact slotCheck_of_sound (slotUsable_ok husable).1 hlatent
  have husable' : slotUsable (State.plus 0x3100 1 s) n = .ok := husable
  simp only [sealOne, hcheck, husable', Bool.and_self, beq_self_eq_true]

/-- Usable slots all pass the sealer, each transfer counted. -/
theorem foldl_sealOne {ns : List Nat} {s : State} (h : ∀ n ∈ ns, slotUsable s n = .ok ∧ (slotOf s n).latent = false) :
    ∃ u, ns.foldl sealOne (true, s) = (true, u) ∧ Told (State.plus 0x3100 ns.length s) u := by
  induction ns generalizing s with
  | nil => exact ⟨s, rfl, told_plus_zero 0x3100 s⟩
  | cons n rest ih =>
    obtain ⟨husable, hlatent⟩ := h n (List.mem_cons_self ..)
    obtain ⟨u, hfold, htold⟩ := ih (s := State.plus 0x3100 1 s) (fun m hm => h m (List.mem_cons_of_mem n hm))
    refine ⟨u, ?_, ?_⟩
    · rw [List.foldl_cons, sealOne_of_usable husable hlatent, hfold]
    · rw [List.length_cons, Nat.add_comm]
      exact (told_plus_add 0x3100 1 rest.length s).trans htold

/-- Every PERSIST slot is usable, and the sealer finds it so. -/
def SealSound (s : State) : Prop :=
  s.attar.slots.cells.all (fun k => !k.2.persist || (slotUsable s k.1 == .ok && !(slotOf s k.1).latent)) = true

theorem sealSlots_of_sound {s : State} (h : SealSound s) :
    ∃ u, sealSlots s = (true, u) ∧ Told (State.plus 0x3100 (s.attar.slots.countIf (fun _ v => v.persist)) s) u := by
  have hall : ∀ n ∈ s.attar.slots.keysIf (fun _ v => v.persist), slotUsable s n = .ok ∧ (slotOf s n).latent = false := by
    intro n hn
    obtain ⟨k, hk, rfl⟩ := List.mem_map.mp hn
    obtain ⟨hmem, hpersist⟩ := List.mem_filter.mp hk
    have hsound := List.all_eq_true.mp h k hmem
    simpa [hpersist] using hsound
  obtain ⟨u, hfold, htold⟩ := foldl_sealOne hall
  refine ⟨u, (sealSlots_eq s).trans hfold, ?_⟩
  rwa [Table.keysIf, List.length_map] at htold

/-- The image with a copy of a new generation written and active, and the older one to be erased (R267, R268). -/
def generationWritten (b : Bool) (new : FlaconCopy) (s : State) : State :=
  { s with attar := { s.attar with
      active := some b, floor := new.generation, erasing := s.attar.active
      copyA := if b then s.attar.copyA else new, copyB := if b then new else s.attar.copyB
      tombstones := ⟨s.attar.tombstones.cells.filter (fun k => match new.records.find k.1 with
        | some r => decide (r.gen < k.2)
        | none => false)⟩ } }

theorem writeGeneration_of_sound {keeper storage : Nat} {s : State} (hkeeper : s.attar.keeper = some keeper)
    (hstorage : s.attar.storageKey = some storage) (hflash : s.attar.flashFailures = 0) (records : Table Slot) (config : Bytes)
    (cause : Nat) :
    writeGeneration records config cause s =
      (raiseHeld 0 0x0503 0 0 (detailOf [(20, cause), (24, nextGeneration s)]) (attCount 5 (generationWritten (targetCopy s)
        { status := 1, generation := nextGeneration s, records, config, storageKey := storage, keeperKey := keeper } s)),
        ok (nextGeneration s)) := by
  simp only [writeGeneration, hkeeper, hstorage, hflash, if_neg (show ¬1 ≤ 0 by decide), if_neg (show ¬2 ≤ 0 by decide), resultOf_byte8]
  cases hb : targetCopy s <;> rfl

theorem targetCopy_of_attar {s t : State} (h : t.attar = s.attar) : targetCopy t = targetCopy s := by rw [targetCopy, targetCopy, h]

theorem nextGeneration_of_attar {s t : State} (h : t.attar = s.attar) : nextGeneration t = nextGeneration s := by
  rw [nextGeneration, nextGeneration, activeCopy_of_attar h, h]

/-- The copy that FLACON_COMMIT programs. -/
def committedCopy (keeper storage : Nat) (s : State) : FlaconCopy :=
  { status := 1, generation := nextGeneration s, records := persistRecords s
    config := (match activeCopy s with | some x => x.config | none => []), storageKey := storage, keeperKey := keeper }

theorem answers_flaconCommit {c : Cmd} {keeper storage : Nat} {s : State} (hpass : Passes 0x0504 specFlaconCommit c s)
    (hkeeper : s.attar.keeper = some keeper) (hstorage : s.attar.storageKey = some storage) (hflash : s.attar.flashFailures = 0)
    (hsound : SealSound s) : ∃ u, Answers c (nextGeneration s) u (exec (.flaconCommit c) s) ∧
      Told (State.plus 0x3100 (s.attar.slots.countIf (fun _ v => v.persist)) (State.plus 0x3128 1
        (generationWritten (targetCopy s) (committedCopy keeper storage s) s))) u := by
  obtain ⟨t, hseal, htold⟩ := sealSlots_of_sound hsound
  have hattar : t.attar = s.attar := htold.attar
  have hneed : needStorage s = (true, s) := by simp [needStorage, hstorage]
  have hwrite := writeGeneration_of_sound (hattar ▸ hkeeper) (hattar ▸ hstorage) (hattar ▸ hflash) (persistRecords t)
    (match activeCopy t with | some x => x.config | none => []) 0
  have hrecords : persistRecords t = persistRecords s := by rw [persistRecords, persistRecords, hattar]
  rw [hrecords, nextGeneration_of_attar hattar, targetCopy_of_attar hattar, activeCopy_of_attar hattar] at hwrite
  have hwritten := ((htold.withAttar (generationWritten (targetCopy s) (committedCopy keeper storage s) s).attar).countBy
    (off := 0x3128) (by decide) 1).raiseHeld 0 0x0503 0 0 (detailOf [(20, 0), (24, nextGeneration s)])
  refine ⟨_, answers_of_done hpass (by decide) ?_, (told_plus_comm (by decide) _ _ _).trans hwritten⟩
  simp only [specFlaconCommit, hneed, hseal]
  refine Eq.trans ?_ (hwrite.trans ?_)
  · rw [hrecords, activeCopy_of_attar hattar] <;> rfl
  · rw [generationWritten, hattar]
    rfl

/-! ## Repair, scrub and erase -/

/-- A slot restored from its record (R254). -/
def restored (n : Nat) (r : Slot) (s : State) : State := State.plus 0x3110 1 (setSlot n { r with corrupt := false, latent := false } s)

theorem restored_accord (n : Nat) (r : Slot) (s : State) : (restored n r s).accord = s.accord := by rw [restored, setSlot_rest]; rfl

theorem repairSlot_of_committed {n : Nat} {x : FlaconCopy} {r : Slot} {s : State} (hnone : s.accord.communities = .empty)
    (hactive : activeCopy s = some x) (hrecord : x.records.find n = some r) (hcorrupt : (slotOf s n).corrupt = true)
    (hgen : r.gen = (slotOf s n).gen) : ∃ u, repairSlot n s = (true, u) ∧ Told (restored n r s) u := by
  have htold : Told (restored n r s) (raiseHeld r.tenant 0x0501 2 n (detailOf [(21, 1)]) (restored n r s)) := (Told.refl _).raiseHeld ..
  have hkept := reviewCommunities_of_none (htold.accord ▸ restored_accord n r s ▸ hnone)
  have hmatch : ((slotOf s n).corrupt && r.gen == (slotOf s n).gen) = true := by simp [hcorrupt, hgen]
  refine ⟨_, ?_, htold⟩
  simp only [repairSlot, hactive, hrecord, if_pos hmatch, attCount, count,
    countBy_uncounted (show pmcOfCounter (0x3100 + 8 * 2) = none by decide)]
  exact congrArg (Prod.mk true) hkept

theorem resultOf_load (g codes n : Nat) : resultOf [(8, g), (12, codes), (13, n)] = g + 2 ^ 32 * codes + 2 ^ 40 * n := by
  simp only [resultOf_cons, resultOf_nil]
  omega

theorem specFlaconLoad_of_report {c : Cmd} {s : State} (h : c.get ⟨8, 0, 2⟩ = 0) : specFlaconLoad.effect c s =
    (s, ok ((match activeCopy s with | some x => x.generation | none => 0) +
      2 ^ 32 * (copyCode s false + 16 * copyCode s true))) := by
  simp only [specFlaconLoad, h, show ¬(0 = 1) by decide, if_false, Nat.min_zero, resultOf_load, Nat.mul_zero, Nat.add_zero] <;> rfl

/-- The codes of the copies and the generation rest on the copies, the keeper key and the floor alone. -/
structure ImageAlike (s t : State) : Prop where
  copyA : t.attar.copyA = s.attar.copyA
  copyB : t.attar.copyB = s.attar.copyB
  active : t.attar.active = s.attar.active
  keeper : t.attar.keeper = s.attar.keeper
  floor : t.attar.floor = s.attar.floor

theorem ImageAlike.flaconCopy {s t : State} (h : ImageAlike s t) : flaconCopy t = flaconCopy s := by
  funext b
  rw [Machine.flaconCopy, Machine.flaconCopy, h.copyA, h.copyB]

theorem ImageAlike.activeCopy {s t : State} (h : ImageAlike s t) : activeCopy t = activeCopy s := by
  rw [Machine.activeCopy, Machine.activeCopy, h.active, h.flaconCopy]

theorem ImageAlike.copyCode {s t : State} (h : ImageAlike s t) (b : Bool) : copyCode t b = copyCode s b := by
  unfold Machine.copyCode copyValid
  rw [h.flaconCopy, h.keeper, h.floor]

theorem imageAlike_restored {n : Nat} {r : Slot} {s u : State} (h : Told (restored n r s) u) : ImageAlike s u := by
  have hattar : u.attar = { s.attar with slots := s.attar.slots.put {} n { r with corrupt := false, latent := false } } := by
    rw [h.attar, restored, setSlot_rest]
    rfl
  constructor <;> rw [hattar]

theorem specFlaconLoad_of_one {c : Cmd} {n : Nat} {s u : State} (h : c.get ⟨8, 0, 2⟩ = 1)
    (hone : s.attar.slots.keysIf (fun _ v => v.corrupt) = [n]) (hrepair : repairSlot n s = (true, u)) (hsame : ImageAlike s u) :
    specFlaconLoad.effect c s = (u, ok ((match activeCopy s with | some x => x.generation | none => 0) +
      2 ^ 32 * (copyCode s false + 16 * copyCode s true) + 2 ^ 40)) := by
  have hall : repairAll s = (1, u) := by
    simp only [repairAll, hone, List.foldl_cons, List.foldl_nil, hrepair]
  simp only [specFlaconLoad, h, if_true, hall, hsame.activeCopy, hsame.copyCode, show min 255 1 = 1 by decide, resultOf_load,
    Nat.mul_one] <;> rfl

theorem told_slotFails {n how : Nat} {s : State} (h : (slotOf s n).corrupt = false) :
    Told (State.plus 0x3108 1 (setSlot n { slotOf s n with corrupt := true, latent := false } s)) (slotFails n how s) := by
  simp only [slotFails, h, Bool.false_eq_true, if_false, count, countBy_uncounted (show pmcOfCounter (0x3100 + 8) = none by decide)]
  exact (Told.refl _).raiseHeld ..

theorem exec_attScrubPeriod {n : Nat} {s : State} (hlive : s.live = true) (hup : s.watchdog.hk.up = true) (hn : n < 16384)
    (hsound : s.attar.slots.keysIf (fun _ v => v.latent) = []) :
    exec (.attScrubPeriod [n]) s = .next (reviewCommunities (slotFails n 1 s)) := by
  refine (act_of_live hlive _).trans (congrArg _ ?_)
  simp only [hkUp, hup, if_true, hsound, List.append_nil, List.filter_cons, List.filter_nil, hn, decide_true, List.foldl_cons,
    List.foldl_nil]

theorem exec_attAutoRepair {n : Nat} {s : State} (hlive : s.live = true) (hup : s.watchdog.hk.up = true)
    (hauto : regBit s 0x3014 16 = true) : exec (.attAutoRepair n) s = .next (repairSlot n s).2 := by
  refine (act_of_live hlive _).trans (congrArg _ ?_)
  simp only [hkUp, hup, hauto, Bool.and_self, if_true]

theorem exec_flaconEraseDone {b : Bool} {s : State} (hlive : s.live = true) (herasing : s.attar.erasing = some b) :
    exec .flaconEraseDone s = .next { s with attar := { s.attar with
      copyA := if b then s.attar.copyA else {}, copyB := if b then {} else s.attar.copyB, erasing := none } } := by
  have herased : execFlaconEraseDone s = .next _ := act_of_live hlive _
  refine herased.trans (congrArg _ ?_)
  simp only [herasing]
  cases b <;> rfl

/-- Settles O45: the sealer passes every usable slot and the generation is written once; a repair or a finding of the scrub writes one
slot and is told. -/
theorem flaconAndUpkeep : Obligations.FlaconAndUpkeep := by
  unfold Obligations.FlaconAndUpkeep
  intro s hnone
  refine ⟨?_, ?_, fun hlive => ⟨?_, ?_, fun b => exec_flaconEraseDone hlive⟩⟩
  · rintro c b g keeper storage new hpass hkeeper hstorage hflash hsound rfl rfl rfl
    exact answers_flaconCommit hpass hkeeper hstorage hflash hsound
  · rintro c g codes hpass rfl rfl
    refine ⟨fun h => answers_of_done hpass (by decide) (specFlaconLoad_of_report h), ?_⟩
    intro n x r h hone hactive hrecord hcorrupt hgen
    obtain ⟨u, hrepair, htold⟩ := repairSlot_of_committed hnone hactive hrecord hcorrupt hgen
    exact ⟨u, answers_of_done hpass (by decide) (specFlaconLoad_of_one h hone hrepair (imageAlike_restored htold)), htold⟩
  · intro n hn hup hcorrupt hsound
    have htold := told_slotFails (how := 1) hcorrupt
    have haccord : (slotFails n 1 s).accord = s.accord := by
      rw [htold.accord, setSlot_rest]
      rfl
    have hexec := exec_attScrubPeriod hlive hup hn hsound
    rw [reviewCommunities_of_none (haccord ▸ hnone)] at hexec
    exact ⟨_, hexec, htold⟩
  · intro n x r hup hauto hactive hrecord hcorrupt hgen
    obtain ⟨u, hrepair, htold⟩ := repairSlot_of_committed hnone hactive hrecord hcorrupt hgen
    exact ⟨u, by rw [exec_attAutoRepair hlive hup hauto, hrepair], htold⟩

end Sys2Proof.Machine
end

section
/-!
PROOFS. Frames that come in outside a pair (01_architecture R22; 04_selectors R101 to R119; 05_secure_channels R155, R634): what a head
leaves of its frame, and what a tail does with it.
-/
namespace Sys2Proof.Machine

open Sys2Proof

/-! ## The record of one frame -/

theorem frameOf_modFrame (n m : Nat) (g : Frame → Frame) (s : State) :
    frameOf (modFrame n g s) m = if m = n then (frameOf s n).map g else frameOf s m :=
  Table.find_modify s.fabric.frames n m g

theorem frameOf_modFrame_same {n : Nat} {f : Frame} {s : State} (h : frameOf s n = some f) (g : Frame → Frame) :
    frameOf (modFrame n g s) n = some (g f) := by
  rw [frameOf_modFrame, if_pos rfl, h]
  rfl

theorem frameOf_modFrame_ne {n m : Nat} (h : m ≠ n) (g : Frame → Frame) (s : State) : frameOf (modFrame n g s) m = frameOf s m := by
  rw [frameOf_modFrame, if_neg h]

theorem frameOf_of_fabric {s t : State} (h : t.fabric = s.fabric) (n : Nat) : frameOf t n = frameOf s n := by simp only [frameOf, h]

theorem streamOf_of_fabric {s t : State} (h : t.fabric = s.fabric) (k : Nat) : streamOf t k = streamOf s k := by simp only [streamOf, h]

/-- Frames and streams are no part of reporting. -/
theorem Told.withFrames {s t : State} (h : Told s t) (frames : Table Frame) (streams : Table Stream) :
    Told { s with fabric := { s.fabric with frames, streams } } { t with fabric := { t.fabric with frames, streams } } := by
  have hsame : ({ t.fabric with frames, streams } : Fabric) = { s.fabric with frames, streams } := by rw [h.fabric]
  rw [hsame]
  exact h.withFabric _

/-- From `u` to `t` nothing has changed but one frame, which is now `f`, the streams, counters and what reporting changes. -/
structure Holding (fid : Nat) (f : Frame) (u t : State) : Prop where
  frame : frameOf t fid = some f
  others : ∀ n, n ≠ fid → frameOf t n = frameOf u n
  told : Told { u with fabric := { u.fabric with frames := t.fabric.frames, streams := t.fabric.streams }, counters := t.counters } t

theorem Holding.refl {fid : Nat} {f : Frame} {u : State} (h : frameOf u fid = some f) : Holding fid f u u :=
  ⟨h, fun _ _ => rfl, Told.refl u⟩

theorem Holding.modFrame {fid : Nat} {f : Frame} {u t : State} (h : Holding fid f u t) (g : Frame → Frame) :
    Holding fid (g f) u (modFrame fid g t) := by
  refine ⟨frameOf_modFrame_same h.frame g, fun n hn => (frameOf_modFrame_ne hn g t).trans (h.others n hn), ?_⟩
  exact h.told.withFrames (t.fabric.frames.modify fid g) t.fabric.streams

theorem Holding.reported {fid : Nat} {f : Frame} {u t v : State} (h : Holding fid f u t) (k : Told t v) : Holding fid f u v := by
  refine ⟨(frameOf_of_fabric k.fabric _).trans h.frame, fun n hn => (frameOf_of_fabric k.fabric n).trans (h.others n hn), ?_⟩
  rw [k.fabric]
  exact ⟨(h.told.trans k).rest, (h.told.trans k).regs, fun _ _ => rfl, (h.told.trans k).out, (h.told.trans k).fns⟩

theorem Holding.plus {fid : Nat} {f : Frame} {u t : State} (h : Holding fid f u t) (off k : Nat) :
    Holding fid f u (State.plus off k t) := by
  refine ⟨h.frame, h.others, ⟨?_, h.told.regs, fun _ _ => rfl, h.told.out, h.told.fns⟩⟩
  exact congrArg (State.plus off k) h.told.rest

theorem Holding.countBy {fid : Nat} {f : Frame} {u t : State} (h : Holding fid f u t) (off k : Nat) :
    Holding fid f u (countBy off k t) := (h.plus off k).reported (told_countBy off k t)

theorem Holding.setStream {fid : Nat} {f : Frame} {u t : State} (h : Holding fid f u t) (k : Nat) (v : Stream) :
    Holding fid f u (setStream k v t) :=
  ⟨h.frame, h.others, h.told.withFrames t.fabric.frames (t.fabric.streams.put {} k v)⟩

@[simp] theorem streamOf_setStream_same (k : Nat) (v : Stream) (s : State) : streamOf (setStream k v s) k = v :=
  Table.get_put_same s.fabric.streams {} k v

@[simp] theorem streamOf_modFrame (n : Nat) (g : Frame → Frame) (s : State) (k : Nat) : streamOf (modFrame n g s) k = streamOf s k := rfl

/-- The stream that a frame takes. -/
def Frame.stream (f : Frame) : Nat := streamKey (ingressPipe f.ingress) f.output

theorem openStream_of_some {fid : Nat} {f : Frame} {s : State} (h : frameOf s fid = some f) : openStream fid s =
    setStream f.stream { streamOf s f.stream with nextNumber := (streamOf s f.stream).nextNumber + 1 }
      (modFrame fid (fun g => { g with number := (streamOf s f.stream).nextNumber }) s) := by
  simp only [openStream, h]
  rfl

theorem feedStream_of_some {fid total : Nat} {last : Bool} {f : Frame} {s : State} (h : frameOf s fid = some f) (hkept : f.dropped = false)
    (hsome : last = true ∨ total - f.wordsSent ≠ 0) : feedStream fid total last s =
    setStream f.stream { streamOf s f.stream with waiting := (streamOf s f.stream).waiting ++
        [{ fid, words := total - f.wordsSent, number := f.number, first := f.wordsSent == 0, last }] }
      (modFrame fid (fun g => { g with wordsSent := total }) s) := by
  have hgo : ¬(decide (total - f.wordsSent = 0) && !last) = true := by
    rcases hsome with hlast | hwords
    · simp [hlast]
    · simp [hwords]
  simp only [feedStream, h, hkept, Bool.false_eq_true, if_false, if_neg hgo]
  rfl

/-! ## A head that comes -/

/-- The state that a head's record leaves. -/
def headTaken (q : Nat) (head : Bytes) (s : State) : State := (newFrame q head s).2

/-- The record of a head's frame. -/
def headFrame (q : Nat) (head : Bytes) (s : State) : Frame := { ingress := q, raw := head, time := stamp s, inNo := s.pair.inNo.get 0 q }

theorem newFrame_eq (q : Nat) (head : Bytes) (s : State) : newFrame q head s = (s.fabric.nextFrame, headTaken q head s) := rfl

theorem holding_headTaken (q : Nat) (head : Bytes) (s : State) :
    Holding s.fabric.nextFrame (headFrame q head s) (headTaken q head s) (headTaken q head s) :=
  .refl (Table.find_set_same ..)

theorem frameOf_headTaken_ne {q n : Nat} {s : State} (head : Bytes) (h : n ≠ s.fabric.nextFrame) :
    frameOf (headTaken q head s) n = frameOf s n := Table.find_set_ne h ..

/-- A head that the wire brings to a free port that is up is decided at once outside a pair. -/
theorem takeHead_of_free {q : Nat} {v : Port} {head : Bytes} {s : State} (hport : portOf s q = some v) (hup : v.linkUp = true)
    (hloop : v.loopback = 0) (hrx : s.fabric.rx.has q = false) (hheld : s.pair.held = []) (hoff : s.pair.mode = .off)
    (hlen : 128 ≤ head.length) (decision : HeldHead → State → State) :
    takeHead decision q head false [] 0 s = decision { port := q, head, whole := false, upsets := [], backlog := 0 } s := by
  have hmay : mayReceive s q = true := by simp [mayReceive, hport, hup, hloop]
  have hfree : busyRx s q = false := by simp [busyRx, hrx, hheld]
  have hnear : v.nearLoop = false := by simp [Port.nearLoop, hloop]
  have hholds : pairHolds s = false := by simp [pairHolds, hoff]
  simp only [takeHead, hmay, hfree, Bool.not_true, Bool.or_self, Bool.false_eq_true, if_false, hport, hnear, hlen, decide_true,
    Bool.or_true, if_true, hholds]

theorem logFrame_of_off {s : State} (hoff : s.pair.mode = .off) (fid verdict : Nat) : logFrame fid verdict s = s := by
  have hactive : pairActive s = false := by simp [pairActive, hoff]
  unfold logFrame logHead
  split
  · rfl
  · rw [hactive, if_neg Bool.false_ne_true]

/-! ## Admission of an express frame -/

/-- An express frame of no meter. -/
structure Frame.Plain (f : Frame) : Prop where
  express : f.express = true
  cls : f.cls = 0
  mcast : f.mcast = false
  meter : f.meter = none
  colour : f.colour = 0
  dropped : f.dropped = false
  held : f.wordsHeld = 0

theorem admitFrame_of_express {fid : Nat} {f : Frame} {s : State} (h : frameOf s fid = some f) (hf : f.Plain)
    (hroom : classFull s 0 = false) (hegress : expressCells s f.egress < s.fabric.expressLimit) :
    admitFrame fid s = (true, openStream fid s) := by
  have hnot : ¬s.fabric.expressLimit ≤ expressCells s f.egress := by omega
  simp only [admitFrame, h, hf.mcast, hf.cls, hf.express, hroom, hnot, Bool.false_and, Bool.false_eq_true, if_false, decide_false,
    Bool.and_false, Bool.true_or, if_true]

/-- A head whose path is the express path, with room at its class and its egress, ends with its stream opened. -/
theorem finishHead_of_express {fid pipe : Nat} {f : Frame} {tag : Option (Nat × Bool)} {s : State} (h : frameOf s fid = some f)
    (hf : f.Plain) (hoff : s.pair.mode = .off) (hroom : classFull s 0 = false)
    (hegress : expressCells s f.egress < s.fabric.expressLimit) :
    finishHead fid pipe none none tag s = openStream fid (modFrame fid (fun f => { f with colour := 0, meter := none }) s) := by
  have hmod := frameOf_modFrame_same h (fun f => { f with colour := 0, meter := none })
  have hcells : expressCells (modFrame fid (fun f => { f with colour := 0, meter := none }) s) f.egress = expressCells s f.egress := by
    have hwords (n : Nat) : (match frameOf (modFrame fid (fun f => { f with colour := 0, meter := none }) s) n with
        | some f => f.wordsHeld
        | none => 0) = (match frameOf s n with | some f => f.wordsHeld | none => 0) := by
      by_cases hn : n = fid
      · rw [hn, hmod, h]
      · rw [frameOf_modFrame_ne hn]
    exact congrArg (fun w : Nat → Nat => cellsFor (((egressOf s f.egress).express.map w).foldl (· + ·) 0)) (funext hwords)
  have hadmit := admitFrame_of_express hmod ⟨hf.express, hf.cls, hf.mcast, rfl, rfl, hf.dropped, hf.held⟩ hroom
    (lt_of_eq_of_lt hcells hegress)
  simp only [finishHead, meterAndAdmit, show ¬((0 : Nat) = 2) by decide, if_false, hadmit]
  refine logFrame_of_off ?_ fid 0
  rw [openStream_of_some hmod]
  exact hoff

theorem expressCells_congr {p : Nat} {s t : State} (hegress : egressOf t p = egressOf s p)
    (hwords : ∀ n, (frameOf t n).elim 0 (·.wordsHeld) = (frameOf s n).elim 0 (·.wordsHeld)) : expressCells t p = expressCells s p := by
  have hcells (u : State) : expressCells u p =
      cellsFor (((egressOf u p).express.map (fun n => (frameOf u n).elim 0 (·.wordsHeld))).foldl (· + ·) 0) := by
    unfold expressCells
    congr 3
    funext n
    cases frameOf u n <;> rfl
  rw [hcells, hcells, hegress]
  simp only [hwords]

theorem expressCells_headTaken {q p : Nat} {head : Bytes} {s : State} (h : frameOf s s.fabric.nextFrame = none) :
    expressCells (headTaken q head s) p = expressCells s p := by
  refine expressCells_congr rfl fun n => ?_
  by_cases hn : n = s.fabric.nextFrame
  · rw [hn, h, (holding_headTaken q head s).frame]
    rfl
  · rw [frameOf_headTaken_ne head hn]

/-- The state in which a frame with its path set has been admitted to the express path. -/
def expressed (fid : Nat) (f : Frame) (s : State) : State :=
  openStream fid (modFrame fid (fun f => { f with colour := 0, meter := none }) (modFrame fid (fun _ => f) s))

theorem expressed_eq {fid : Nat} {f g : Frame} {s : State} (h : frameOf s fid = some g) : expressed fid f s =
    setStream f.stream { streamOf s f.stream with nextNumber := (streamOf s f.stream).nextNumber + 1 }
      (modFrame fid (fun g => { g with number := (streamOf s f.stream).nextNumber })
        (modFrame fid (fun f => { f with colour := 0, meter := none }) (modFrame fid (fun _ => f) s))) :=
  openStream_of_some (f := { f with colour := 0, meter := none })
    (frameOf_modFrame_same (frameOf_modFrame_same h (fun _ => f)) (fun f => { f with colour := 0, meter := none }))

theorem holding_expressed {fid : Nat} {f g : Frame} {u t : State} (h : Holding fid g u t) :
    Holding fid { f with colour := 0, meter := none, number := (streamOf t f.stream).nextNumber } u (expressed fid f t) := by
  rw [expressed_eq h.frame]
  exact (((h.modFrame (fun _ => f)).modFrame (fun f => { f with colour := 0, meter := none })).modFrame
    (fun g => { g with number := (streamOf t f.stream).nextNumber })).setStream ..

theorem finishHead_of_path {fid pipe : Nat} {f g : Frame} {tag : Option (Nat × Bool)} {u t : State} (h : Holding fid g u t)
    (hf : f.Plain) (hg : g.wordsHeld = 0) (hoff : t.pair.mode = .off) (hroom : classFull t 0 = false)
    (hegress : expressCells t f.egress < t.fabric.expressLimit) :
    finishHead fid pipe none none tag (modFrame fid (fun _ => f) t) = expressed fid f t := by
  refine finishHead_of_express (h.modFrame (fun _ => f)).frame hf hoff hroom (lt_of_eq_of_lt ?_ hegress)
  refine expressCells_congr rfl fun n => ?_
  by_cases hn : n = fid
  · rw [hn, (h.modFrame (fun _ => f)).frame, h.frame, Option.elim_some, Option.elim_some, hf.held, hg]
  · rw [frameOf_modFrame_ne hn]

/-! ## A client head -/

/-- What the premises of a head say of its port and of the state: free, up, tied, outside a pair, with no PTP bypass. -/
structure HeadComes (q p : Nat) (v : Port) (head : Bytes) (s : State) : Prop where
  live : s.live = true
  off : s.pair.mode = .off
  held : s.pair.held = []
  merges : s.pair.merges = .empty
  rekeys : s.channels.rekeyDue = []
  fresh : frameOf s s.fabric.nextFrame = none
  partner : p = v.partner
  up : v.linkUp = true
  loop : v.loopback = 0
  path : v.path = .express
  ptp : regBit s 0xe010 0 = false
  found : portOf s q = some v
  free : s.fabric.rx.has q = false
  long : 128 ≤ head.length
  control : isMacControl head = false

/-- Room for an express frame to a port. -/
structure ExpressRoom (p : Nat) (s : State) : Prop where
  cls : classFull s 0 = false
  egress : expressCells s p < s.fabric.expressLimit

theorem ExpressRoom.headTaken {p q : Nat} {head : Bytes} {s : State} (h : ExpressRoom p s) (hfresh : frameOf s s.fabric.nextFrame = none) :
    ExpressRoom p (headTaken q head s) := ⟨h.cls, lt_of_eq_of_lt (expressCells_headTaken hfresh) h.egress⟩

/-- The frame that a client entry sends to the partner of its port. -/
def clientExpress (port p i : Nat) (e : ClientEntry) (head : Bytes) (s : State) : Frame :=
  toPartner p { headFrame port head s with selector := i, bypass := e.action == 1, txSc := e.txSc }

theorem selectClient_of_entry {port i : Nat} {head : Bytes} {s : State} (hfam : lookupFamily (s.selectors.modes.get {} port).mode head = none)
    (hi : i = port * 4096 + frameVid head) (hgood : (selEntry s 0 i).parityFailed = false)
    (hvalid : entryValid 0 (selEntry s 0 i).data = true) : selectClient port head s = (.entry i, s) := by
  simp only [selectClient, hfam, clientAt, ← hi, hgood, hvalid, Bool.false_eq_true, if_false, if_true]

theorem ptpBypass_of_off {q : Nat} {head : Bytes} {s : State} (h : regBit s 0xe010 0 = false) : ptpBypass q head s = none := by
  unfold ptpBypass
  split
  · rfl
  · rw [if_neg (by simp [h])]

theorem clientDecide_of_express {port p i : Nat} {v : Port} {e : ClientEntry} {head : Bytes} {s : State} (h : HeadComes port p v head s)
    (hparse : parseFails head = false) (hselect : selectClient port head (headTaken port head s) = (.entry i, headTaken port head s))
    (he : e = clientEntry (selEntry s 0 i).data) (haction : e.action ≤ 1) (hbuffered : e.buffered = false) (hmeter : e.meterEn = false)
    (hroom : ExpressRoom p s) :
    clientDecide { port, head, whole := false, upsets := [], backlog := 0 } none s =
      feedStream s.fabric.nextFrame (head.length / 64) false
        (expressed s.fabric.nextFrame (clientExpress port p i e head s) (headTaken port head s)) := by
  have hhold := holding_headTaken port head s
  have hroom' := hroom.headTaken (q := port) (head := head) h.fresh
  have hptp : ptpBypass port head (headTaken port head s) = none := ptpBypass_of_off h.ptp
  have hentry : clientEntry (selEntry (headTaken port head s) 0 i).data = e := he.symm
  have hpath : clientPath port e (headTaken port head s) { headFrame port head s with selector := i } =
      some (clientExpress port p i e head s) := by
    have hport : portOf (headTaken port head s) port = some v := h.found
    simp only [clientPath, hbuffered, Bool.false_eq_true, if_false, hport, h.path, if_true, clientExpress, h.partner]
  have hfinish (tag : Option (Nat × Bool)) := finishHead_of_path (pipe := pipeOf port) (tag := tag) (f := clientExpress port p i e head s)
    hhold ⟨rfl, rfl, rfl, rfl, rfl, rfl, rfl⟩ rfl h.off hroom'.cls hroom'.egress
  simp only [clientDecide, newFrame_eq, applyUpsets, List.foldl_nil, Bool.false_and, Bool.false_eq_true, if_false, h.control, hparse, hptp,
    show ¬32 ≤ 0 by decide, hselect, hentry, show ¬e.action = 2 by omega, hhold.frame, hpath, hmeter, hfinish]

/-- A frame has come on a port: its record is `f`, the port receives it, and nothing else has changed but the streams, counters and what
reporting changes. -/
theorem came_of_holding {q : Nat} {head : Bytes} {f : Frame} {s t : State} (h : Holding s.fabric.nextFrame f (headTaken q head s) t) :
    frameOf t s.fabric.nextFrame = some f ∧ (∀ n, n ≠ s.fabric.nextFrame → frameOf t n = frameOf s n) ∧
      Told { s with fabric := { s.fabric with frames := t.fabric.frames, nextFrame := s.fabric.nextFrame + 1
                                              rx := s.fabric.rx.set q s.fabric.nextFrame, streams := t.fabric.streams }
                    pair := { s.pair with inNo := s.pair.inNo.put 0 q (s.pair.inNo.get 0 q + 1) }, counters := t.counters } t :=
  ⟨h.frame, fun n hn => (h.others n hn).trans (frameOf_headTaken_ne head hn), h.told⟩

/-- A frame on the express path whose whole words have joined its stream. -/
theorem holding_fed {fid n : Nat} {f g : Frame} {u t : State} (h : Holding fid g u t) (hf : f.Plain) (hsent : f.wordsSent = 0)
    (hn : n ≠ 0) :
    Holding fid { f with colour := 0, meter := none, number := (streamOf t f.stream).nextNumber, wordsSent := n } u
        (feedStream fid n false (expressed fid f t)) ∧
      streamOf (feedStream fid n false (expressed fid f t)) f.stream = { streamOf t f.stream with
        nextNumber := (streamOf t f.stream).nextNumber + 1
        waiting := (streamOf t f.stream).waiting ++
          [{ fid, words := n, number := (streamOf t f.stream).nextNumber, first := true, last := false }] } := by
  have hopened := holding_expressed (f := f) h
  have hfeed := feedStream_of_some (total := n) (last := false) hopened.frame hf.dropped (.inr (by simpa [hsent] using hn))
  have hstream : streamOf (expressed fid f t) f.stream =
      { streamOf t f.stream with nextNumber := (streamOf t f.stream).nextNumber + 1 } := by
    rw [expressed_eq h.frame, streamOf_setStream_same]
  rw [hfeed]
  refine ⟨(hopened.modFrame (fun g => { g with wordsSent := n })).setStream .., (streamOf_setStream_same ..).trans ?_⟩
  have hsame : Frame.stream { f with colour := 0, meter := none, number := (streamOf t f.stream).nextNumber } = f.stream := rfl
  rw [hsame, hstream, hsent]
  rfl

theorem stream_of_client {port : Nat} (h : port < 64) {f : Frame} (hin : f.ingress = port) : f.stream = streamKey (port / 8) f.output := by
  have hpipe : ingressPipe port = port / 8 := by
    have hlt := h
    unfold ingressPipe pipeOf
    omega
  rw [Frame.stream, hin, hpipe]

theorem stream_of_line {port : Nat} (h : port < 64) {f : Frame} (hin : f.ingress = 64 + port) :
    f.stream = streamKey (8 + port / 8) f.output := by
  have hpipe : ingressPipe (64 + port) = 8 + port / 8 := by
    have hlt := h
    unfold ingressPipe pipeOf
    omega
  rw [Frame.stream, hin, hpipe]

/-! ## A line head -/

theorem serveRekeyDue_of_none {s : State} (h : s.channels.rekeyDue = []) : serveRekeyDue s = s := by
  simp [serveRekeyDue, h]

theorem Holding.channels {fid : Nat} {f : Frame} {u t : State} (h : Holding fid f u t) : t.channels = u.channels := h.told.channels

theorem lookPort_of_unmerged {s : State} (h : s.pair.merges = .empty) (line : Nat) : lookPort s line = line := by
  simp [lookPort, mergeOf, h, Table.empty]

/-- The state before a line head's path is decided. -/
structure LineComes (port p : Nat) (v : Port) (head : Bytes) (s : State) : Prop extends HeadComes (64 + port) p v head s where
  lt : port < 64
  short : head.length ≤ 252

/-- A head of Accord: its record waits for its tail, and it joins no stream. -/
def engineHead (q : Nat) (head : Bytes) (s : State) : State :=
  markDropped s.fabric.nextFrame (modFrame s.fabric.nextFrame (fun f => { f with engine := true }) (headTaken q head s))

theorem engineHead_mode (q : Nat) (head : Bytes) (s : State) : (engineHead q head s).pair.mode = s.pair.mode := rfl

theorem lineDecide_of_engine {port p : Nat} {v : Port} {head : Bytes} {s : State} (h : LineComes port p v head s)
    (htype : beAt head 12 2 = s.accord.etherType) :
    lineDecide { port := 64 + port, head, whole := false, upsets := [], backlog := 0 } none s =
      engineHead (64 + port) head s := by
  have htype' : beAt head 12 2 = (headTaken (64 + port) head s).accord.etherType := htype
  have hlog : logFrame s.fabric.nextFrame 3 (engineHead (64 + port) head s) = engineHead (64 + port) head s :=
    logFrame_of_off ((engineHead_mode ..).trans h.off) ..
  simp only [lineDecide, newFrame_eq, applyUpsets, List.foldl_nil, Bool.false_and, Bool.false_eq_true, if_false, h.control,
    htype', eq_self, if_true, endHead]
  exact hlog

/-- Past the frames of Accord a short line head ends in its tagged or untagged rule. -/
theorem lineDecide_of_tag {port p : Nat} {v : Port} {head : Bytes} {s : State} (h : LineComes port p v head s)
    (htype : beAt head 12 2 ≠ s.accord.etherType) (hparse : parseFails head = false) :
    lineDecide { port := 64 + port, head, whole := false, upsets := [], backlog := 0 } none s =
      match frameTag s port head with
      | some t => taggedHead s.fabric.nextFrame port t false head none (headTaken (64 + port) head s)
      | none => untaggedHead s.fabric.nextFrame port head none (headTaken (64 + port) head s) := by
  have htype' : ¬beAt head 12 2 = (headTaken (64 + port) head s).accord.etherType := htype
  have hlook : lookPort (headTaken (64 + port) head s) port = port := lookPort_of_unmerged h.merges port
  have hptp : ptpBypass (64 + port) head (headTaken (64 + port) head s) = none := ptpBypass_of_off h.ptp
  have htag : frameTag (headTaken (64 + port) head s) port head = frameTag s port head := rfl
  have hshort : ¬256 < head.length + 4 := by have := h.short; omega
  simp only [lineDecide, newFrame_eq, applyUpsets, List.foldl_nil, Bool.false_and, Bool.false_eq_true, if_false, h.control, htype', hparse,
    Nat.add_sub_cancel_left, hlook, htag, hptp, hshort] <;>
    cases frameTag s port head <;> rfl

/-- The frame that the bypass entry sends to the partner of its port. -/
def bypassExpress (port p : Nat) (head : Bytes) (s : State) : Frame :=
  toPartner p { headFrame (64 + port) head s with selector := port * 4096, bypass := true }

theorem linePath_of_tied {port p : Nat} {v : Port} {e : LineEntry} {s : State} (hport : portOf s (64 + port) = some v)
    (hpath : v.path = .express) (hp : p = v.partner) (hbuffered : e.buffered = false) (f : Frame) :
    linePath port e s f = some (toPartner p f) := by
  simp only [linePath, hbuffered, Bool.false_eq_true, if_false, hport, hpath, if_true, hp]

theorem untaggedHead_of_bypass {port p : Nat} {v : Port} {e : LineEntry} {head : Bytes} {s : State} (h : LineComes port p v head s)
    (hgood : (selEntry s 1 (port * 4096)).parityFailed = false) (he : e = lineEntry (selEntry s 1 (port * 4096)).data)
    (hvalid : e.valid = true) (hbypass : e.bypass = true) (hdrop : e.drop = false) (hbuffered : e.buffered = false)
    (hmeter : e.meterEn = false) (hroom : ExpressRoom p s) :
    untaggedHead s.fabric.nextFrame port head none (headTaken (64 + port) head s) =
      expressed s.fabric.nextFrame (bypassExpress port p head s)
        (scCount (8 + port / 8) 1 (headTaken (64 + port) head s)) := by
  have hhold := (holding_headTaken (64 + port) head s).countBy (0x1000 + 0x80 * (8 + port / 8) + 8 * 1) 1
  have htold := told_countBy (0x1000 + 0x80 * (8 + port / 8) + 8 * 1) 1 (headTaken (64 + port) head s)
  have hroom' := hroom.headTaken (q := 64 + port) (head := head) h.fresh
  have hlook : lookPort (headTaken (64 + port) head s) port = port := lookPort_of_unmerged h.merges port
  have hgood' : (selEntry (headTaken (64 + port) head s) 1 (port * 4096)).parityFailed = false := hgood
  have hentry : lineEntry (selEntry (headTaken (64 + port) head s) 1 (port * 4096)).data = e := he.symm
  have hport : portOf (scCount (8 + port / 8) 1 (headTaken (64 + port) head s)) (64 + port) = some v := by
    have hports := congrArg (fun x : Ports => x.ports.find (64 + port)) htold.ports
    exact hports.trans h.found
  have hpath := linePath_of_tied hport h.path h.partner hbuffered
    { headFrame (64 + port) head s with selector := port * 4096, bypass := true }
  have hfabric := htold.fabric
  have hcells : expressCells (scCount (8 + port / 8) 1 (headTaken (64 + port) head s)) p = expressCells (headTaken (64 + port) head s) p :=
    expressCells_congr (by rw [egressOf, scCount, count, hfabric]; rfl) (fun n => by rw [scCount, count, frameOf_of_fabric hfabric]; rfl)
  have hcls : classFull (scCount (8 + port / 8) 1 (headTaken (64 + port) head s)) 0 = false := by
    have hsame : classFull (scCount (8 + port / 8) 1 (headTaken (64 + port) head s)) 0 = classFull (headTaken (64 + port) head s) 0 := by
      simp only [classFull, classQuota, classWords, scCount, count, hfabric]
      rfl
    exact hsame.trans hroom'.cls
  have hfinish (tag : Option (Nat × Bool)) := finishHead_of_path (pipe := 8 + port / 8) (tag := tag) (f := bypassExpress port p head s)
    hhold ⟨rfl, rfl, rfl, rfl, rfl, rfl, rfl⟩ rfl (by rw [htold.pair]; exact h.off) hcls
    (by rw [show (bypassExpress port p head s).egress = p from rfl, hfabric]; exact lt_of_eq_of_lt hcells hroom'.egress)
  simp only [untaggedHead, hlook, hgood', hentry, hvalid, hbypass, hdrop, Bool.and_self, Bool.not_true, Bool.false_eq_true, if_false,
    (holding_headTaken (64 + port) head s).frame, hpath, hmeter]
  exact hfinish _

/-- A frame under a SecTAG as its lookup and its SA's checks leave it. -/
def Frame.tagged (f : Frame) (tg : SecTag) (i : Nat) (e : LineEntry) (c : Sc) (n : Nat) (a : Sa) (pn : Nat) : Frame :=
  { f with
    selector := i, rxSc := e.rxSc, rxSa := some n, rxPn := pn, rxKey := a.key, rxIv := cipherIv c a pn, rxCo := coBytes c.co
    tagAt := tg.off, tagLen := tg.len, mergeWait := 0, storeWhole := false }

theorem taggedHead_of_entry {port p i n pn : Nat} {v : Port} {tg : SecTag} {e : LineEntry} {c : Sc} {a : Sa} {head : Bytes} {s : State}
    (h : LineComes port p v head s) (hlearn : regBit s 0x34 0 = false) (hgood : secTagBad head false tg.off = false)
    (hfind : findRxSc s port tg = .entry i e) (hdrop : e.drop = false) (hbuffered : e.buffered = false) (hmeter : e.meterEn = false)
    (hchecks : rxChecks port e.rxSc tg (headTaken (64 + port) head s) = (.go c n a pn 0 false, headTaken (64 + port) head s))
    (hroom : ExpressRoom p s) :
    taggedHead s.fabric.nextFrame port tg false head none (headTaken (64 + port) head s) =
      expressed s.fabric.nextFrame (toPartner p ((headFrame (64 + port) head s).tagged tg i e c n a pn))
        (modFrame s.fabric.nextFrame (fun f => f.tagged tg i e c n a pn) (headTaken (64 + port) head s)) := by
  have hhold := (holding_headTaken (64 + port) head s).modFrame (fun f => f.tagged tg i e c n a pn)
  have hroom' := hroom.headTaken (q := 64 + port) (head := head) h.fresh
  have hlook : lookPort (headTaken (64 + port) head s) port = port := lookPort_of_unmerged h.merges port
  have hlearn' : regBit (headTaken (64 + port) head s) 0x34 0 = false := hlearn
  have hfind' : findRxSc (headTaken (64 + port) head s) port tg = .entry i e := hfind
  have hport : portOf (modFrame s.fabric.nextFrame (fun f => f.tagged tg i e c n a pn) (headTaken (64 + port) head s)) (64 + port) = some v :=
    h.found
  have hpath := linePath_of_tied hport h.path h.partner hbuffered ((headFrame (64 + port) head s).tagged tg i e c n a pn)
  have hcells : expressCells (modFrame s.fabric.nextFrame (fun f => f.tagged tg i e c n a pn) (headTaken (64 + port) head s)) p =
      expressCells (headTaken (64 + port) head s) p := by
    refine expressCells_congr rfl fun m => ?_
    by_cases hm : m = s.fabric.nextFrame
    · rw [hm, hhold.frame, (holding_headTaken (64 + port) head s).frame]
      rfl
    · rw [frameOf_modFrame_ne hm]
  have hfinish (tag : Option (Nat × Bool)) := finishHead_of_path (pipe := 8 + port / 8) (tag := tag)
    (f := toPartner p ((headFrame (64 + port) head s).tagged tg i e c n a pn)) hhold ⟨rfl, rfl, rfl, rfl, rfl, rfl, rfl⟩ rfl h.off
    hroom'.cls (lt_of_eq_of_lt hcells hroom'.egress)
  have hframe := hhold.frame
  simp only [taggedHead, hlook, hgood, Bool.false_eq_true, if_false, hfind', learnFrame, hlearn', Bool.not_false, if_true, hdrop, hchecks]
  simp only [Frame.tagged] at hframe hpath hfinish ⊢
  simp only [hframe, hpath, hmeter, Bool.false_eq_true, if_false, hfinish]

/-! ## Tails -/

/-- Counting on a port leaves the fabric, the pair and Accord as they are. -/
structure CountedOnly (s t : State) : Prop where
  fabric : t.fabric = s.fabric
  pair : t.pair = s.pair
  accord : t.accord = s.accord

theorem CountedOnly.trans {s t u : State} (h : CountedOnly s t) (k : CountedOnly t u) : CountedOnly s u :=
  ⟨k.fabric.trans h.fabric, k.pair.trans h.pair, k.accord.trans h.accord⟩

theorem Told.countedOnly {s t : State} (h : Told s t) : CountedOnly s t := ⟨h.fabric, h.pair, h.accord⟩

theorem countedOnly_pcsPass (tx : Bool) (p bytes : Nat) (s : State) : CountedOnly s (pcsPass tx p bytes s) := by
  have hrun (r : Table Nat) : CountedOnly s { s with pmc := { s.pmc with running := r } } := ⟨rfl, rfl, rfl⟩
  exact (hrun _).trans (((Told.refl _).pmcEvent _ _ _).pmcEvent _ _ _).countedOnly

theorem countedOnly_portCountBy (p i n : Nat) (s : State) : CountedOnly s (portCountBy p i n s) := by
  have hport (f : Port → Port) : CountedOnly s (modPort p f s) := ⟨rfl, rfl, rfl⟩
  unfold portCountBy
  dsimp only
  split
  · exact (hport _).trans ((Told.refl _).pmcEvent _ _ _).countedOnly
  · exact hport _

theorem countedOnly_countReceived (port : Nat) (raw rest : Bytes) (fcs : Bool) (s : State) :
    CountedOnly s (countReceived port raw rest fcs s) := by
  have hpcs := countedOnly_pcsPass false port ((wholeRaw port raw rest).length + 4) s
  unfold countReceived
  dsimp only
  split_ifs
  · exact (hpcs.trans (countedOnly_portCountBy ..)).trans ((countedOnly_portCountBy ..).trans (countedOnly_portCountBy ..))
  · exact (hpcs.trans (countedOnly_portCountBy ..)).trans (countedOnly_portCountBy ..)
  · exact hpcs.trans ((countedOnly_portCountBy ..).trans (countedOnly_portCountBy ..))
  · exact hpcs.trans (countedOnly_portCountBy ..)

/-- What the premises of a good tail say of its port and its frame: nothing is cut off, no meter and no SA. -/
structure TailComes (q x : Nat) (v : Port) (f : Frame) (rest : Bytes) (s : State) : Prop where
  live : s.live = true
  off : s.pair.mode = .off
  found : portOf s q = some v
  loop : v.loopback = 0
  receives : s.fabric.rx.find q = some x
  frame : frameOf s x = some f
  ingress : f.ingress = q
  meter : f.meter = none
  sa : f.rxSa = none
  fits : f.raw.length + rest.length ≤ maxRaw q

theorem takeTail_of_frame {q x : Nat} {v : Port} {f : Frame} {rest : Bytes} {s : State} (h : TailComes q x v f rest s)
    (tail : Nat → Bytes → Bool → State → State) : takeTail tail q rest true s = tail x rest true s := by
  have hnear : v.nearLoop = false := by simp [Port.nearLoop, h.loop]
  have hfollows : pairFollows s = false := by simp [pairFollows, h.off]
  simp only [takeTail, h.found, hnear, Bool.false_eq_true, if_false, h.receives, hfollows]

/-- The state in which a good tail has been counted and the port is free. -/
def tailTaken (f : Frame) (rest : Bytes) (s : State) : State := endRx f.ingress (countReceived f.ingress f.raw rest true s)

theorem wholeRaw_of_fits {q x : Nat} {v : Port} {f : Frame} {rest : Bytes} {s : State} (h : TailComes q x v f rest s) :
    wholeRaw f.ingress f.raw rest = f.raw ++ rest := by
  rw [wholeRaw, List.take_of_length_le]
  rw [List.length_append, h.ingress]
  exact h.fits

theorem goodFcs_of_fits {q x : Nat} {v : Port} {f : Frame} {rest : Bytes} {s : State} (h : TailComes q x v f rest s) :
    goodFcs f.ingress f.raw rest true = true := by
  simp [goodFcs, h.ingress, h.fits]

theorem tailTaken_fabric (f : Frame) (rest : Bytes) (s : State) :
    (tailTaken f rest s).fabric = { s.fabric with rx := s.fabric.rx.erase f.ingress } := by
  simp only [tailTaken, endRx, (countedOnly_countReceived ..).fabric]

/-- A whole good frame at the end of its stream. -/
def tailFed (x : Nat) (raw : Bytes) (g : Frame → Frame) (s : State) : State :=
  feedStream x (frameWords raw) true (modFrame x g s)

/-- A frame completed in its stream by its tail. -/
structure Completed (x k : Nat) (f g : Frame) (raw : Bytes) (s t : State) : Prop where
  frame : frameOf t x = some { g with wordsSent := frameWords raw }
  free : t.fabric.rx.find f.ingress = none
  others : ∀ n, n ≠ x → frameOf t n = frameOf s n
  stream : streamOf t k = { streamOf s k with waiting := (streamOf s k).waiting ++
    [{ fid := x, words := frameWords raw - f.wordsSent, number := f.number, first := f.wordsSent == 0, last := true }] }

theorem completed_tailFed {x : Nat} {f : Frame} {rest raw : Bytes} {g : Frame → Frame} {s : State} (h : frameOf s x = some f)
    (hkept : (g f).dropped = false) (hsent : (g f).wordsSent = f.wordsSent) (hnumber : (g f).number = f.number)
    (hstream : (g f).stream = f.stream) : Completed x f.stream f (g f) raw s (tailFed x raw g (tailTaken f rest s)) := by
  have hfabric := tailTaken_fabric f rest s
  have hframes (n : Nat) : frameOf (tailTaken f rest s) n = frameOf s n := by simp only [frameOf, hfabric]
  have hstreams (k : Nat) : streamOf (tailTaken f rest s) k = streamOf s k := by simp only [streamOf, hfabric]
  have hmod := frameOf_modFrame_same ((hframes x).trans h) g
  have hfeed := feedStream_of_some (total := frameWords raw) hmod hkept (.inl rfl)
  rw [hsent, hnumber, hstream, streamOf_modFrame, hstreams] at hfeed
  rw [tailFed, hfeed]
  refine ⟨frameOf_modFrame_same hmod _, ?_, fun n hn => ?_, streamOf_setStream_same ..⟩
  · show (tailTaken f rest s).fabric.rx.find f.ingress = none
    rw [hfabric]
    exact Table.find_erase_same ..
  · exact (frameOf_modFrame_ne hn _ _).trans ((frameOf_modFrame_ne hn _ _).trans (hframes n))

theorem meterTail_none (colour n : Nat) (s : State) : (if colour < 2 then meterTail none colour n s else s) = s := by
  split_ifs <;> rfl

/-- A frame whole and good. -/
def Frame.whole (raw : Bytes) (f : Frame) : Frame :=
  { f with raw, tailSeen := true, fault := .none, stomp := f.stomp || (f.express && !true) }

def Frame.wholeLine (cut : Bool) (raw : Bytes) (f : Frame) : Frame :=
  { f with raw, opened := true, tailSeen := true, fault := .none, stomp := f.stomp || (cut && TailFault.none != .none) }

theorem Frame.whole_eq (raw : Bytes) (f : Frame) : f.whole raw = { f with raw, tailSeen := true, fault := .none } := by
  simp [Frame.whole]

theorem Frame.wholeLine_eq (cut : Bool) (raw : Bytes) (f : Frame) :
    f.wholeLine cut raw = { f with raw, opened := true, tailSeen := true, fault := .none } := by
  simp [Frame.wholeLine]

theorem clientTail_of_good {q x : Nat} {v : Port} {f : Frame} {rest : Bytes} {s : State} (h : TailComes q x v f rest s)
    (hkept : f.dropped = false) :
    clientTail x rest true s = tailFed x (f.raw ++ rest) (Frame.whole (f.raw ++ rest)) (tailTaken f rest s) := by
  simp only [clientTail, h.frame, wholeRaw_of_fits h, goodFcs_of_fits h, h.meter, meterTail_none, hkept, Bool.false_eq_true, if_false, if_true]
  rfl

theorem lineTail_of_good {q x : Nat} {v : Port} {f : Frame} {rest : Bytes} {s : State} (h : TailComes q x v f rest s)
    (hkept : f.dropped = false) (hengine : f.engine = false) : ∃ cut : Bool,
    lineTail x rest true s = tailFed x (f.raw ++ rest) (Frame.wholeLine cut (f.raw ++ rest)) (tailTaken f rest s) := by
  refine ⟨f.express && !f.storeWhole && decide (256 < (f.raw ++ rest).length + 4), ?_⟩
  simp only [lineTail, lineTailAs, h.frame, wholeRaw_of_fits h, goodFcs_of_fits h, h.meter, meterTail_none, hkept, hengine, h.sa, settleLine,
    Bool.false_eq_true, if_false, if_true]
  rfl

theorem lineTail_of_engine {q x : Nat} {v : Port} {f : Frame} {rest : Bytes} {s : State} (h : TailComes q x v f rest s)
    (hengine : f.engine = true) : lineTail x rest true s =
      (let t := forgetFrame x (tailTaken f rest s)
       { t with accord := { t.accord with arrived := t.accord.arrived ++ [(f.ingress - 64, f.raw ++ rest)] } }) := by
  have hleads : accordLeads (forgetFrame x (tailTaken f rest s)) = true := by
    have hpair : (tailTaken f rest s).pair = s.pair := (countedOnly_countReceived ..).pair
    have hmode : (forgetFrame x (tailTaken f rest s)).pair.mode = .off := (congrArg Pair.mode hpair).trans h.off
    simp [accordLeads, hmode]
  unfold tailTaken at hleads
  simp only [lineTail, lineTailAs, h.frame, wholeRaw_of_fits h, goodFcs_of_fits h, hengine, if_true, Bool.true_and, hleads, Bool.not_true,
    Bool.false_eq_true, if_false]
  rfl

/-! ## The obligation -/

theorem gives_clientHead {port p i : Nat} {v : Port} {e : ClientEntry} {head : Bytes} {s : State} (h : HeadComes port p v head s)
    (hlt : port < 64) (hparse : parseFails head = false) (hfam : lookupFamily (s.selectors.modes.get {} port).mode head = none)
    (hi : i = port * 4096 + frameVid head) (hgood : (selEntry s 0 i).parityFailed = false)
    (hvalid : entryValid 0 (selEntry s 0 i).data = true) (he : e = clientEntry (selEntry s 0 i).data) (haction : e.action ≤ 1)
    (hbuffered : e.buffered = false) (hmeter : e.meterEn = false) (hroom : ExpressRoom p s) :
    exec (.clientFrameHead port head false 0 []) s = .next (feedStream s.fabric.nextFrame (head.length / 64) false
      (expressed s.fabric.nextFrame (clientExpress port p i e head s) (headTaken port head s))) := by
  have hselect := selectClient_of_entry (s := headTaken port head s) hfam hi hgood hvalid
  have hdecide := clientDecide_of_express h hparse hselect he haction hbuffered hmeter hroom
  refine (act_of_live h.live _).trans (congrArg _ ?_)
  rw [if_pos hlt, takeHead_of_free h.found h.up h.loop h.free h.held h.off h.long]
  exact hdecide

theorem exec_lineFrameHead {port p : Nat} {v : Port} {head : Bytes} {f : Frame} {s t : State} (h : LineComes port p v head s)
    (hdecide : lineDecide { port := 64 + port, head, whole := false, upsets := [], backlog := 0 } none s = t)
    (hhold : Holding s.fabric.nextFrame f (headTaken (64 + port) head s) t) :
    exec (.lineFrameHead port head false []) s = .next t := by
  have hnone : t.channels.rekeyDue = [] := by
    rw [hhold.channels]
    exact h.rekeys
  refine (act_of_live h.live _).trans (congrArg _ ?_)
  rw [if_pos h.lt, takeHead_of_free h.found h.up h.loop h.free h.held h.off h.long, lineHead, hdecide, serveRekeyDue_of_none hnone]

/-- The row of a tail. -/
abbrev tailRow (port q : Nat) (rest : Bytes) : Instr := if q < 64 then .clientFrameTail port rest true else .lineFrameTail port rest true

theorem exec_clientTail {port q x : Nat} {v : Port} {f : Frame} {rest : Bytes} {s : State} (h : TailComes q x v f rest s)
    (hlt : port < 64) (hq : q = port ∨ q = 64 + port) (hclient : q < 64) :
    exec (tailRow port q rest) s = .next (clientTail x rest true s) := by
  obtain rfl : q = port := by omega
  rw [tailRow, if_pos hclient]
  refine (act_of_live h.live _).trans (congrArg _ ?_)
  rw [if_pos hlt, takeTail_of_frame h]

theorem exec_lineTail {port q x : Nat} {v : Port} {f : Frame} {rest : Bytes} {s : State} (h : TailComes q x v f rest s)
    (hlt : port < 64) (hq : q = port ∨ q = 64 + port) (hline : ¬q < 64) :
    exec (tailRow port q rest) s = .next (lineTail x rest true s) := by
  obtain rfl : q = 64 + port := by omega
  rw [tailRow, if_neg hline]
  refine (act_of_live h.live _).trans (congrArg _ ?_)
  rw [if_pos hlt, takeTail_of_frame h]

/-- Settles O46: a head's record is new, its path leads to the partner with room there, and its stream takes the next number; a tail puts the
frame's last words into its stream. -/
theorem framesReceived : Obligations.FramesReceived := by
  unfold Obligations.FramesReceived
  intro port p no fid k v head s hlive hoff hheld hmerges hrekeys hlt hfid hfresh hpartner hup hloop hpath hptp
  subst hfid
  dsimp only
  refine ⟨?_, ?_, ?_⟩
  · intro i e hport hrx hlong hcontrol hparse hfam hi hgood hvalid he haction hbuffered hmeter hroom hno hk
    have hcomes : HeadComes port p v head s :=
      ⟨hlive, hoff, hheld, hmerges, hrekeys, hfresh, hpartner, hup, hloop, hpath, hptp, hport, hrx, hlong, hcontrol⟩
    subst hno hk
    have hexec := gives_clientHead hcomes hlt hparse hfam hi hgood hvalid he haction hbuffered hmeter ⟨hroom.1, hroom.2⟩
    obtain ⟨hhold, hstream⟩ := holding_fed (n := head.length / 64) (f := clientExpress port p i e head s) (holding_headTaken port head s)
      ⟨rfl, rfl, rfl, rfl, rfl, rfl, rfl⟩ rfl (by omega)
    rw [stream_of_client hlt (f := clientExpress port p i e head s) rfl] at hhold hstream
    exact ⟨_, hexec, came_of_holding hhold, hstream⟩
  · intro hport hrx hlong hshort hcontrol hno hk
    have hcomes : LineComes port p v head s :=
      ⟨⟨hlive, hoff, hheld, hmerges, hrekeys, hfresh, hpartner, hup, hloop, hpath, hptp, hport, hrx, hlong, hcontrol⟩, hlt, hshort⟩
    subst hno hk
    refine ⟨?_, ?_, ?_⟩
    · intro htype
      have hhold := ((holding_headTaken (64 + port) head s).modFrame (fun f => { f with engine := true })).modFrame
        (fun f => { f with dropped := true })
      exact ⟨_, exec_lineFrameHead hcomes (lineDecide_of_engine hcomes htype) hhold, came_of_holding hhold⟩
    · intro e htype hparse htag hgood he hvalid hbypass hdrop hbuffered hmeter hroom
      have hcount := (holding_headTaken (64 + port) head s).countBy (0x1000 + 0x80 * (8 + port / 8) + 8 * 1) 1
      have hhold := holding_expressed (f := bypassExpress port p head s) hcount
      rw [streamOf_of_fabric (told_countBy ..).fabric, stream_of_line hlt (f := bypassExpress port p head s) rfl] at hhold
      have hdecide := lineDecide_of_tag hcomes htype hparse
      rw [htag] at hdecide
      dsimp only at hdecide
      rw [untaggedHead_of_bypass hcomes hgood he hvalid hbypass hdrop hbuffered hmeter ⟨hroom.1, hroom.2⟩] at hdecide
      exact ⟨_, exec_lineFrameHead hcomes hdecide hhold, came_of_holding hhold⟩
    · intro tg i e c n a pn u htype hparse hlearn htag hbad hfind hdrop hbuffered hmeter hu hchecks hroom
      subst hu
      have htagged := (holding_headTaken (64 + port) head s).modFrame (fun f => f.tagged tg i e c n a pn)
      have hhold := holding_expressed (f := toPartner p ((headFrame (64 + port) head s).tagged tg i e c n a pn)) htagged
      rw [streamOf_modFrame, stream_of_line hlt (f := toPartner p ((headFrame (64 + port) head s).tagged tg i e c n a pn)) rfl] at hhold
      have hdecide := lineDecide_of_tag hcomes htype hparse
      rw [htag] at hdecide
      dsimp only at hdecide
      rw [taggedHead_of_entry hcomes hlearn hbad hfind hdrop hbuffered hmeter hchecks ⟨hroom.1, hroom.2⟩] at hdecide
      exact ⟨_, exec_lineFrameHead hcomes hdecide hhold, came_of_holding hhold⟩
  · intro q x f rest raw hq hport hrx hframe hingress hmeter hsa hfits hraw hk
    have hcomes : TailComes q x v f rest s := ⟨hlive, hoff, hport, hloop, hrx, hframe, hingress, hmeter, hsa, hfits⟩
    have hstream : k = f.stream := by rw [hk, Frame.stream, hingress]
    subst hraw hstream hingress
    refine ⟨fun hengine hline => ?_, fun hengine hkept => ?_⟩
    · have hexec := exec_lineTail hcomes hlt hq (by omega)
      rw [lineTail_of_engine hcomes hengine] at hexec
      refine ⟨_, hexec, Table.find_erase_same .., ?_, ?_⟩
      · show (tailTaken f rest s).fabric.rx.find f.ingress = none
        rw [tailTaken_fabric]
        exact Table.find_erase_same ..
      · have haccord : (tailTaken f rest s).accord = s.accord := (countedOnly_countReceived ..).accord
        have hline : f.ingress - 64 = port := by omega
        show { (tailTaken f rest s).accord with arrived := (tailTaken f rest s).accord.arrived ++ [(f.ingress - 64, f.raw ++ rest)] } = _
        rw [haccord, hline]
    · by_cases hclient : f.ingress < 64
      · have hexec := exec_clientTail hcomes hlt hq hclient
        rw [clientTail_of_good hcomes hkept] at hexec
        obtain ⟨hdone, hfree, hothers, hlast⟩ := completed_tailFed (rest := rest) (raw := f.raw ++ rest)
          (g := Frame.whole (f.raw ++ rest)) hframe hkept rfl rfl rfl
        rw [Frame.whole_eq] at hdone
        refine ⟨_, hexec, ?_, hfree, hothers, hlast⟩
        rw [if_pos hclient]
        exact hdone
      · obtain ⟨cut, htail⟩ := lineTail_of_good hcomes hkept hengine
        have hexec := exec_lineTail hcomes hlt hq hclient
        rw [htail] at hexec
        obtain ⟨hdone, hfree, hothers, hlast⟩ := completed_tailFed (rest := rest) (raw := f.raw ++ rest)
          (g := Frame.wholeLine cut (f.raw ++ rest)) hframe hkept rfl rfl rfl
        rw [Frame.wholeLine_eq] at hdone
        refine ⟨_, hexec, ?_, hfree, hothers, hlast⟩
        rw [if_neg hclient]
        exact hdone

end Sys2Proof.Machine
end

section
/-!
PROOFS. Frames that cross the fabric (09_fabric_and_buffers R276 to R291): matching of one request, cells, the end of a gap, express heads and
multicast copies.
-/
namespace Sys2Proof.Machine

open Sys2Proof

/-! ## Matching (R279) -/

theorem filterMap_only {α β : Type} {l : List α} {g : α → Option β} {a : α} {b : β} (hnodup : l.Nodup) (hmem : a ∈ l)
    (ha : g a = some b) (hothers : ∀ x ∈ l, x ≠ a → g x = none) : l.filterMap g = [b] := by
  induction l with
  | nil => cases hmem
  | cons x rest ih =>
    obtain ⟨hx, hrest⟩ := List.nodup_cons.mp hnodup
    by_cases he : x = a
    · subst he
      have hnone : rest.filterMap g = [] :=
        List.filterMap_eq_nil_iff.mpr fun y hy => hothers y (List.mem_cons_of_mem x hy) (fun hyx => hx (hyx ▸ hy))
      rw [List.filterMap_cons_some ha, hnone]
    · rw [List.filterMap_cons_none (hothers x (List.mem_cons_self ..) he)]
      refine ih hrest ?_ fun y hy => hothers y (List.mem_cons_of_mem x hy)
      exact (List.mem_cons.mp hmem).resolve_left (Ne.symm he)

theorem filter_only {α : Type} {l : List α} {p : α → Bool} {a : α} (hnodup : l.Nodup) (hmem : a ∈ l) (ha : p a = true)
    (hothers : ∀ x ∈ l, x ≠ a → p x = false) : l.filter p = [a] := by
  rw [← List.filterMap_eq_filter]
  refine filterMap_only hnodup hmem ?_ fun x hx hne => ?_
  · simp [Option.guard, ha]
  · simp [Option.guard, hothers x hx hne]

theorem preferExpress_nil (f : Nat → Bool) : preferExpress f [] = [] := rfl

theorem preferExpress_one (f : Nat → Bool) (x : Nat) : preferExpress f [x] = [x] := by
  cases h : f x <;> simp [preferExpress, h]

theorem firstFrom_one (ptr m x : Nat) : firstFrom ptr m [x] = some x := rfl

/-- The grants of a round. -/
def grantsOf (s : State) (p : Nat) (m : Match) : List (Nat × Nat) :=
  m.outFree.filterMap (fun o =>
    let req := m.inFree.filter (fun i => requests s p i o)
    (firstFrom (m.plane.grant.get 0 o) 16 (preferExpress (fun i => expressCell s p i o) req)).map (fun i => (i, o)))

/-- The pairs that accept a grant. -/
def acceptedOf (s : State) (p : Nat) (m : Match) (grants : List (Nat × Nat)) : List (Nat × Nat) :=
  m.inFree.filterMap (fun i =>
    let outs := (grants.filter (fun g => g.1 == i)).map (·.2)
    (firstFrom (m.plane.accept.get 0 i) 18 (preferExpress (fun o => expressCell s p i o) outs)).map (fun o => (i, o)))

/-- A round with the pairs that it has matched. -/
def Match.after (m : Match) (first : Bool) (accepted : List (Nat × Nat)) : Match :=
  { plane := if first then
      accepted.foldl (fun (v : Plane) g => { v with grant := v.grant.put 0 g.2 ((g.1 + 1) % 16), accept := v.accept.put 0 g.1 ((g.2 + 1) % 18) }) m.plane
    else m.plane
    inFree := m.inFree.filter (fun i => !accepted.any (fun g => g.1 == i))
    outFree := m.outFree.filter (fun o => !accepted.any (fun g => g.2 == o))
    pairs := m.pairs ++ accepted }

theorem matchRound_eq (s : State) (p : Nat) (first : Bool) (m : Match) :
    matchRound s p first m = m.after first (acceptedOf s p m (grantsOf s p m)) := rfl

theorem matchRound_of_none {s : State} {p : Nat} {m : Match}
    (h : ∀ i ∈ m.inFree, ∀ o ∈ m.outFree, requests s p i o = false) : matchRound s p false m = m := by
  have hgrants : grantsOf s p m = [] := by
    refine List.filterMap_eq_nil_iff.mpr fun o ho => ?_
    have hreq : m.inFree.filter (fun i => requests s p i o) = [] := List.filter_eq_nil_iff.mpr fun i hi => by simp [h i hi o ho]
    simp only [hreq, preferExpress_nil, firstFrom, Option.map_none]
  have haccepted : acceptedOf s p m [] = [] := by
    refine List.filterMap_eq_nil_iff.mpr fun i _ => ?_
    simp only [List.filter_nil, List.map_nil, preferExpress_nil, firstFrom, Option.map_none]
  rw [matchRound_eq, hgrants, haccepted]
  simp [Match.after]

/-- The only request of a plane is from input `i` to output `o`. -/
def OnlyRequest (s : State) (p i o : Nat) (ins outs : List Nat) : Prop :=
  ∀ i' ∈ ins, ∀ o' ∈ outs, requests s p i' o' = decide (i' = i ∧ o' = o)

theorem matchRound_of_only {s : State} {p i o : Nat} {m : Match} (hin : m.inFree.Nodup) (hout : m.outFree.Nodup) (hi : i ∈ m.inFree)
    (ho : o ∈ m.outFree) (h : OnlyRequest s p i o m.inFree m.outFree) : matchRound s p true m =
      { plane := { m.plane with grant := m.plane.grant.put 0 o ((i + 1) % 16), accept := m.plane.accept.put 0 i ((o + 1) % 18) }
        inFree := m.inFree.filter (fun x => !(i == x)), outFree := m.outFree.filter (fun x => !(o == x)), pairs := m.pairs ++ [(i, o)] } := by
  have hgrants : grantsOf s p m = [(i, o)] := by
    refine filterMap_only hout ho ?_ fun o' ho' hne => ?_
    · have hreq : m.inFree.filter (fun i' => requests s p i' o) = [i] :=
        filter_only hin hi (by simp [h i hi o ho]) (fun i' hi' hne => by simp [h i' hi' o ho, hne])
      simp only [hreq, preferExpress_one, firstFrom_one, Option.map_some]
    · have hreq : m.inFree.filter (fun i' => requests s p i' o') = [] :=
        List.filter_eq_nil_iff.mpr fun i' hi' => by simp [h i' hi' o' ho', hne]
      simp only [hreq, preferExpress_nil, firstFrom, Option.map_none]
  have haccepted : acceptedOf s p m [(i, o)] = [(i, o)] := by
    refine filterMap_only hin hi ?_ fun i' _ hne => ?_
    · simp only [List.filter_cons, beq_self_eq_true, if_true, List.filter_nil, List.map_cons, List.map_nil, preferExpress_one,
        firstFrom_one, Option.map_some]
    · have hnot : (i == i') = false := by simpa using Ne.symm hne
      simp only [List.filter_cons, hnot, Bool.false_eq_true, if_false, List.filter_nil, List.map_nil, preferExpress_nil, firstFrom,
        Option.map_none]
  rw [matchRound_eq, hgrants, haccepted]
  simp only [Match.after, if_true, List.foldl_cons, List.foldl_nil, List.any_cons, List.any_nil, Bool.or_false]

/-- The plane's pointers after a match of input `i` and output `o` (R279). -/
def Plane.matched (w : Plane) (i o : Nat) : Plane :=
  { w with hpPhase := (w.hpPhase + 1) % 8, grant := w.grant.put 0 o ((i + 1) % 16), accept := w.accept.put 0 i ((o + 1) % 18) }

theorem fabricMatch_of_only {s : State} {p i o : Nat} (hup : (planeOf s p).up = true) (hi : i < 16) (ho : o < 17)
    (h : OnlyRequest s p i o (List.range 16) (List.range 18)) :
    fabricMatch p s = transfer p i o (setPlane p ((planeOf s p).matched i o) s) := by
  have hshow (outs : List Nat) (hsub : ∀ x ∈ outs, x ∈ List.range 18) (hnodup : outs.Nodup) (hmem : o ∈ outs) :
      matchRound s p false (matchRound s p false (matchRound s p true
        { plane := { planeOf s p with hpPhase := ((planeOf s p).hpPhase + 1) % 8 }, inFree := List.range 16, outFree := outs })) =
      { plane := (planeOf s p).matched i o, inFree := (List.range 16).filter (fun x => !(i == x)), outFree := outs.filter (fun x => !(o == x))
        pairs := [(i, o)] } := by
    have hfirst := matchRound_of_only (m := { plane := { planeOf s p with hpPhase := ((planeOf s p).hpPhase + 1) % 8 }
                                              inFree := List.range 16, outFree := outs })
      List.nodup_range hnodup (List.mem_range.mpr hi) hmem (fun i' hi' o' ho' => h i' hi' o' (hsub o' ho'))
    have hnone : ∀ i' ∈ (List.range 16).filter (fun x => !(i == x)), ∀ o' ∈ outs.filter (fun x => !(o == x)), requests s p i' o' = false := by
      intro i' hi' o' ho'
      obtain ⟨hin, hne⟩ := List.mem_filter.mp hi'
      obtain ⟨hout, -⟩ := List.mem_filter.mp ho'
      rw [h i' hin o' (hsub o' hout), decide_eq_false_iff_not]
      rintro ⟨rfl, -⟩
      simp at hne
    have hrest := matchRound_of_none (m := { plane := (planeOf s p).matched i o, inFree := (List.range 16).filter (fun x => !(i == x))
                                             outFree := outs.filter (fun x => !(o == x)), pairs := [(i, o)] }) hnone
    rw [hfirst]
    exact (congrArg (matchRound s p false) hrest).trans hrest
  have hnot : ¬(!(planeOf s p).up) = true := by simp [hup]
  have hboth : (if (planeOf s p).hpPhase = 0 then List.range 18 else List.range 17) = List.range 18 ∨
      (if (planeOf s p).hpPhase = 0 then List.range 18 else List.range 17) = List.range 17 := by
    split_ifs
    · exact .inl rfl
    · exact .inr rfl
  unfold fabricMatch
  dsimp only
  rw [if_neg hnot]
  rcases hboth with houts | houts
  · rw [houts, hshow (List.range 18) (fun _ hx => hx) List.nodup_range (List.mem_range.mpr (by omega))]
    rfl
  · rw [houts, hshow (List.range 17) (fun x hx => List.mem_range.mpr (by have := List.mem_range.mp hx; omega)) List.nodup_range
      (List.mem_range.mpr ho)]
    rfl

theorem uncounted_fabIn {i : Nat} (h : i < 16) : pmcOfCounter (0x4800 + 0x40 * i) = none := by
  unfold pmcOfCounter
  repeat rw [if_neg (by omega)]

/-- A pair's next cell closed and under way (R277, R278). -/
def cellSent (p i o : Nat) (s : State) : State :=
  { s with fabric := { s.fabric with
    streams := s.fabric.streams.put {} (streamKey i o) { streamOf s (streamKey i o) with
      nextSeq := ((streamOf s (streamKey i o)).nextSeq + 1) % 65536, nextPlane := 1 - p
      waiting := (cutCell 4 (streamOf s (streamKey i o)).waiting).2 }
    cells := s.fabric.cells ++ [{ input := i, output := o, seq := (streamOf s (streamKey i o)).nextSeq, plane := p
                                  parts := (cutCell 4 (streamOf s (streamKey i o)).waiting).1 }] } }

theorem transfer_of_stream {p i o : Nat} {s : State} (h : resendOf s i o p = none) (hi : i < 16) :
    transfer p i o s = State.plus (0x4800 + 0x40 * i) 1 (cellSent p i o s) := by
  unfold transfer
  rw [h]
  dsimp only
  rw [fabInCount, count, Nat.mul_zero, Nat.add_zero, countBy_uncounted (uncounted_fabIn hi)]
  rfl

theorem fabric_of_setPlane (p : Nat) (w : Plane) (s : State) : setPlane p w s =
    { s with fabric := { s.fabric with plane0 := if p = 0 then w else s.fabric.plane0, plane1 := if p = 0 then s.fabric.plane1 else w } } := by
  unfold setPlane
  split_ifs <;> rfl

theorem planeOf_setPlane (p : Nat) (w : Plane) (s : State) : planeOf (setPlane p w s) p = w := by
  unfold planeOf setPlane
  split_ifs <;> rfl

/-! ## Cells at their output (R278, R281) -/

theorem cellFailed_of_few {c : Cell} {fails : List Nat} {s : State} (hup : (planeOf s c.plane).up = true)
    (hfails : fails = (planeOf s c.plane).crcFails.filter (fun t => decide (s.tick < t + 625000000)) ++ [s.tick])
    (hfew : fails.length < 16) (hplane : c.plane < 2) : cellFailed c s = setPlane c.plane { planeOf s c.plane with crcFails := fails }
      (State.plus (0x4210 + 8 * c.plane) 1 { s with fabric := { s.fabric with
        cells := s.fabric.cells.map (fun x => if x = c then { x with resend := true, flying := false } else x) } }) := by
  have hoff : 0x4200 + 8 * (2 + c.plane) = 0x4210 + 8 * c.plane := by omega
  have huncounted : pmcOfCounter (0x4210 + 8 * c.plane) = none := by
    unfold pmcOfCounter
    repeat rw [if_neg (by omega)]
  have hsame (n : Nat) (cells : List Cell) : planeOf (State.plus (0x4210 + 8 * c.plane) n { s with fabric := { s.fabric with cells } }) c.plane =
      planeOf s c.plane := rfl
  have hnot : ¬16 ≤ fails.length := by omega
  unfold cellFailed
  simp only [fabDevCount, hoff, countBy_uncounted huncounted, hsame, hup, Bool.not_true, Bool.false_eq_true, if_false]
  have htick (n : Nat) (cells : List Cell) : (State.plus (0x4210 + 8 * c.plane) n { s with fabric := { s.fabric with cells } }).tick = s.tick := rfl
  simp only [htick, ← hfails, if_neg hnot]

theorem olderSeq_self (q : Nat) : olderSeq q q = false := by
  simp [olderSeq]

@[simp] theorem reseqOf_setReseq_same (k : Nat) (v : Reseq) (s : State) : reseqOf (setReseq k v s) k = v :=
  Table.get_put_same s.fabric.reseq {} k v

@[simp] theorem reseqOf_modFrame (n : Nat) (g : Frame → Frame) (s : State) (k : Nat) : reseqOf (modFrame n g s) k = reseqOf s k := rfl

/-- The one cell that a pair holds, in its turn and of one part that is not a frame's last, is assembled and leaves nothing held. -/
theorem advanceReseq_of_one {k n : Nat} {c : Cell} {part : Part} {s : State} (hheld : (reseqOf s k).held = [c])
    (hseq : c.seq = (reseqOf s k).expected) (hparts : c.parts = [part]) (hlast : part.last = false) :
    advanceReseq k (n + 2) s = setReseq k { reseqOf s k with
        expected := (c.seq + 1) % 65536, held := [], deadlineRuns := false, inProgress := part.number }
      (modFrame part.fid (fun f => { f with wordsIn := f.wordsIn + part.words })
        (setReseq k { reseqOf s k with expected := (c.seq + 1) % 65536, held := [], deadlineRuns := false, inProgress := part.number } s)) := by
  have hfind : (reseqOf s k).held.find? (fun x => x.seq == (reseqOf s k).expected) = some c := by simp [hheld, hseq]
  have hfilter : (reseqOf s k).held.filter (fun x => x.seq != c.seq) = [] := by simp [hheld]
  have hafter : afterParts c.parts (reseqOf s k).inProgress = part.number := by simp [afterParts, hparts, hlast]
  have hfold (u : State) : c.parts.foldl (fun s p => assemblePart p s) u =
      modFrame part.fid (fun f => { f with wordsIn := f.wordsIn + part.words }) u := by
    simp only [hparts, List.foldl_cons, List.foldl_nil, assemblePart, hlast, Bool.false_eq_true, if_false]
  rw [advanceReseq]
  dsimp only
  rw [hfind]
  dsimp only
  rw [hfilter, hafter, hfold, ← hseq, advanceReseq]
  dsimp only
  rw [reseqOf_modFrame, reseqOf_setReseq_same, List.find?_nil]
  rfl

/-- A cell has left the plane, counted at its output. -/
def cellTaken (c : Cell) (s : State) : State :=
  fabOutCount c.output 0 { s with fabric := { s.fabric with cells := s.fabric.cells.filter (fun x => x != c) } }

theorem cellTaken_fabric (c : Cell) (s : State) :
    (cellTaken c s).fabric = { s.fabric with cells := s.fabric.cells.filter (fun x => x != c) } := (told_countBy ..).fabric

/-- The words of a part are stored in its frame's class. -/
def storePart (s : State) (p : Part) : State :=
  match frameOf s p.fid with
  | some f => if f.dropped then s else holdWords p.fid p.words s
  | none => s

theorem cellIn_eq (c : Cell) (s : State) : cellIn c s =
    (let k := streamKey c.input c.output
     let v := reseqOf (cellTaken c s) k
     if olderSeq c.seq v.expected then cellTaken c s
     else advanceReseq k (v.held.length + 2) (setReseq k { v with held := v.held ++ [c] } (c.parts.foldl storePart (cellTaken c s)))) := rfl

/-- The state in which a cell's words are stored at its output. -/
def cellStored (c : Cell) (part : Part) (f : Frame) (s : State) : State :=
  setClassWords f.cls (classWords (cellTaken c s) f.cls + part.words)
    (modFrame part.fid (fun f => { f with wordsHeld := f.wordsHeld + part.words }) (cellTaken c s))

/-- What a cell's storing leaves of the frames, the classes, the pairs' places and the cells. -/
structure CellStored (c : Cell) (part : Part) (f : Frame) (s t : State) : Prop where
  frame : frameOf t part.fid = some { f with wordsHeld := f.wordsHeld + part.words }
  others : ∀ n, n ≠ part.fid → frameOf t n = frameOf s n
  words : classWords t f.cls = classWords s f.cls + part.words
  reseq : ∀ k, reseqOf t k = reseqOf s k
  cells : t.fabric.cells = s.fabric.cells.filter (fun x => x != c)

theorem classWords_setClassWords (c n : Nat) (s : State) : classWords (setClassWords c n s) c = n := by
  match c with
  | 0 => rfl
  | 1 => rfl
  | 2 => rfl
  | 3 => rfl
  | _ + 4 => rfl

theorem classWords_setReseq (k : Nat) (v : Reseq) (s : State) (c : Nat) : classWords (setReseq k v s) c = classWords s c := by
  unfold classWords setReseq
  split <;> rfl

theorem classWords_modFrame (n : Nat) (g : Frame → Frame) (s : State) (c : Nat) : classWords (modFrame n g s) c = classWords s c := by
  unfold classWords modFrame
  split <;> rfl

theorem setClassWords_rest (c n : Nat) (s : State) : (setClassWords c n s).fabric.frames = s.fabric.frames ∧
    (setClassWords c n s).fabric.reseq = s.fabric.reseq ∧ (setClassWords c n s).fabric.cells = s.fabric.cells := by
  unfold setClassWords
  split <;> exact ⟨rfl, rfl, rfl⟩

theorem classWords_of_fabric {s t : State} (h : t.fabric = s.fabric) (c : Nat) : classWords t c = classWords s c := by
  unfold classWords
  rw [h]

theorem frameOf_cellTaken (c : Cell) (s : State) (n : Nat) : frameOf (cellTaken c s) n = frameOf s n := by
  simp only [frameOf, cellTaken_fabric]

theorem reseqOf_cellTaken (c : Cell) (s : State) (k : Nat) : reseqOf (cellTaken c s) k = reseqOf s k := by
  simp only [reseqOf, cellTaken_fabric]

theorem cellStored_of_frame {c : Cell} {part : Part} {f : Frame} {s : State} (hframe : frameOf s part.fid = some f) :
    CellStored c part f s (cellStored c part f s) := by
  have hfabric := cellTaken_fabric c s
  have hbase := frameOf_cellTaken c s
  have hreseq' := reseqOf_cellTaken c s
  unfold cellStored
  generalize cellTaken c s = u at hfabric hbase hreseq'
  obtain ⟨hframes, hreseq, hcells⟩ := setClassWords_rest f.cls (classWords u f.cls + part.words)
    (modFrame part.fid (fun f => { f with wordsHeld := f.wordsHeld + part.words }) u)
  refine ⟨?_, fun n hn => ?_, ?_, fun k => ?_, ?_⟩
  · rw [frameOf, hframes]
    exact frameOf_modFrame_same ((hbase _).trans hframe) _
  · rw [frameOf, hframes]
    exact (frameOf_modFrame_ne hn _ _).trans (hbase n)
  · rw [classWords_setClassWords]
    exact congrArg (· + part.words) (classWords_of_fabric (s := { s with fabric := u.fabric }) rfl f.cls |>.trans (by rw [hfabric]; rfl))
  · rw [reseqOf, hreseq]
    exact hreseq' k
  · rw [hcells]
    exact congrArg Fabric.cells hfabric

theorem cellIn_of_turn {c : Cell} {part : Part} {f : Frame} {s : State} (hheld : (reseqOf s (streamKey c.input c.output)).held = [])
    (hseq : c.seq = (reseqOf s (streamKey c.input c.output)).expected) (hparts : c.parts = [part])
    (hframe : frameOf s part.fid = some f) (hkept : f.dropped = false) :
    cellIn c s = advanceReseq (streamKey c.input c.output) 2 (setReseq (streamKey c.input c.output)
      { reseqOf s (streamKey c.input c.output) with held := [c] } (cellStored c part f s)) := by
  have hu : frameOf (cellTaken c s) part.fid = some f := (frameOf_cellTaken ..).trans hframe
  have hstore : c.parts.foldl storePart (cellTaken c s) = cellStored c part f s := by
    simp only [hparts, List.foldl_cons, List.foldl_nil, storePart, hu, hkept, Bool.false_eq_true, if_false, holdWords, cellStored]
  rw [cellIn_eq]
  dsimp only
  rw [reseqOf_cellTaken, hseq, olderSeq_self, if_neg Bool.false_ne_true, hstore, hheld]
  rfl

/-! ## A frame discarded (R285) -/

/-- From `s` to `t` nothing has changed but frames' records, their classes' words, and their places in leaves and at egress ports. -/
structure Unplaced (s t : State) : Prop where
  rest : t = { s with
    sched := t.sched
    fabric := { s.fabric with frames := t.fabric.frames, egress := t.fabric.egress, words0 := t.fabric.words0, words1 := t.fabric.words1
                              words2 := t.fabric.words2, words3 := t.fabric.words3, words4 := t.fabric.words4 } }
  transmits : ∀ q, (egressOf t q).tx = (egressOf s q).tx
  waits : ∀ q, (egressOf t q).generated = (egressOf s q).generated

theorem Unplaced.trans {s t u : State} (h : Unplaced s t) (k : Unplaced t u) : Unplaced s u := by
  refine ⟨?_, fun q => (k.transmits q).trans (h.transmits q), fun q => (k.waits q).trans (h.waits q)⟩
  have hk := k.rest
  rw [h.rest] at hk
  exact hk

theorem egressOf_setEgress (q r : Nat) (e : Egress) (s : State) : egressOf (setEgress q e s) r = if r = q then e else egressOf s r := by
  split_ifs with h
  · rw [h]
    exact Table.get_put_same s.fabric.egress {} q e
  · exact Table.get_put_ne h s.fabric.egress {} {} e

theorem unplaced_setEgress {q : Nat} {e : Egress} {s : State} (htx : e.tx = (egressOf s q).tx)
    (hwaits : e.generated = (egressOf s q).generated) : Unplaced s (setEgress q e s) := by
  refine ⟨rfl, fun r => ?_, fun r => ?_⟩
  · rw [egressOf_setEgress]
    split_ifs with hr
    · rw [htx, hr]
    · rfl
  · rw [egressOf_setEgress]
    split_ifs with hr
    · rw [hwaits, hr]
    · rfl

theorem unplaced_modLeaf (n : Nat) (g : Leaf → Leaf) (s : State) : Unplaced s (modLeaf n g s) := ⟨rfl, fun _ => rfl, fun _ => rfl⟩

theorem unplaced_modFrame (n : Nat) (g : Frame → Frame) (s : State) : Unplaced s (modFrame n g s) := ⟨rfl, fun _ => rfl, fun _ => rfl⟩

theorem Unplaced.refl (s : State) : Unplaced s s := ⟨rfl, fun _ => rfl, fun _ => rfl⟩

theorem unplaced_setClassWords (c n : Nat) (s : State) : Unplaced s (setClassWords c n s) := by
  unfold setClassWords
  split <;> exact ⟨rfl, fun _ => rfl, fun _ => rfl⟩

/-- A frame's places are given up: its record stays. -/
theorem unlinkFrame_cases (fid : Nat) (s : State) : Unplaced s (unlinkFrame fid s) ∧
    (unlinkFrame fid s).fabric.frames = s.fabric.frames := by
  unfold unlinkFrame
  split
  · exact ⟨.refl s, rfl⟩
  · dsimp only
    split_ifs
    · exact ⟨unplaced_setEgress rfl rfl, rfl⟩
    · exact ⟨(unplaced_modLeaf ..).trans (unplaced_setEgress rfl rfl), rfl⟩

theorem freeWords_of_some {fid : Nat} {f : Frame} {s : State} (h : frameOf s fid = some f) : freeWords fid s =
    setClassWords f.cls (classWords s f.cls - f.wordsHeld) (modFrame fid (fun f => { f with wordsHeld := 0 }) s) := by
  simp only [freeWords, h]

/-- A frame's record is gone, and every other frame's is as it was. -/
structure Removed (fid : Nat) (s t : State) : Prop extends Unplaced s t where
  gone : frameOf t fid = none
  others : ∀ n, n ≠ fid → frameOf t n = frameOf s n

theorem removed_removeFrame {fid : Nat} {f : Frame} {s : State} (h : frameOf s fid = some f) (hdone : s.fabric.rx.find f.ingress ≠ some fid) :
    Removed fid s (removeFrame fid s) := by
  obtain ⟨hframes, -, -⟩ := setClassWords_rest f.cls (classWords s f.cls - f.wordsHeld) (modFrame fid (fun f => { f with wordsHeld := 0 }) s)
  have hunplaced : Unplaced s (freeWords fid s) := by
    rw [freeWords_of_some h]
    exact (unplaced_modFrame ..).trans (unplaced_setClassWords ..)
  have hframe : frameOf (freeWords fid s) fid = some { f with wordsHeld := 0 } := by
    rw [freeWords_of_some h, frameOf, hframes]
    exact frameOf_modFrame_same h _
  have hothers (n : Nat) (hn : n ≠ fid) : frameOf (freeWords fid s) n = frameOf s n := by
    rw [freeWords_of_some h, frameOf, hframes]
    exact frameOf_modFrame_ne hn _ _
  have hrx : (freeWords fid s).fabric.rx = s.fabric.rx := by rw [hunplaced.rest]
  have hreceiving : receiving (freeWords fid s) fid = false := by
    simp only [receiving, hframe, hrx]
    exact beq_false_of_ne hdone
  have hremove : removeFrame fid s =
      { freeWords fid s with fabric := { (freeWords fid s).fabric with frames := (freeWords fid s).fabric.frames.erase fid } } := by
    simp only [removeFrame, hreceiving, Bool.false_eq_true, if_false]
  rw [hremove]
  refine ⟨hunplaced.trans ⟨rfl, fun _ => rfl, fun _ => rfl⟩, Table.find_erase_same .., fun n hn => ?_⟩
  exact (Table.find_erase_ne hn _).trans (hothers n hn)

theorem removed_discard {fid : Nat} {f : Frame} {s : State} (h : frameOf s fid = some f) (hsource : f.source = none)
    (hdone : s.fabric.rx.find f.ingress ≠ some fid) : Removed fid s (discard fid s) := by
  obtain ⟨hunplaced, hframes⟩ := unlinkFrame_cases fid s
  have hsame (n : Nat) : frameOf (unlinkFrame fid s) n = frameOf s n := by simp only [frameOf, hframes]
  have hrx : (unlinkFrame fid s).fabric.rx = s.fabric.rx := by rw [hunplaced.rest]
  have hremoved := removed_removeFrame ((hsame fid).trans h) (hrx ▸ hdone)
  have hdiscard : discard fid s = removeFrame fid (unlinkFrame fid s) := by simp only [discard, h, hsource]
  rw [hdiscard]
  exact ⟨hunplaced.trans hremoved.toUnplaced, hremoved.gone, fun n hn => (hremoved.others n hn).trans (hsame n)⟩

/-! ## The end of a gap (R282) -/

theorem logTail_of_off {s : State} (hoff : s.pair.mode = .off) (f : Frame) (stomped : Bool) (reason : Nat) : logTail f stomped reason s = s := by
  have hactive : pairActive s = false := by simp [pairActive, hoff]
  unfold logTail logExc
  rw [hactive, if_neg Bool.false_ne_true, ite_self]

theorem failFrame_of_buffered {output fid : Nat} {f : Frame} {s : State} (h : frameOf s fid = some f) (hoff : s.pair.mode = .off)
    (hexpress : f.express = false) (hmcast : f.mcast = false) : failFrame output fid s = discard fid (fabOutCount output 1 s) := by
  have htold := told_countBy (0x4c00 + 0x40 * output + 8 * 1) 1 s
  have hframe : frameOf (fabOutCount output 1 s) fid = some f := (frameOf_of_fabric htold.fabric fid).trans h
  have hlog : logTail f f.headLeft 4 (fabOutCount output 1 s) = fabOutCount output 1 s :=
    logTail_of_off ((congrArg Pair.mode htold.pair).trans hoff) ..
  simp only [failFrame, hframe, hlog, hexpress, Bool.false_and, Bool.false_eq_true, if_false, dropWhole, hmcast]

theorem reseqOf_of_fabric {s t : State} (h : t.fabric = s.fabric) (k : Nat) : reseqOf t k = reseqOf s k := by simp only [reseqOf, h]

/-- A gap before a pair's only held cell, whose part goes on with the only frame of the device. -/
structure GapBefore (i o k : Nat) (v : Reseq) (c : Cell) (part : Part) (fid : Nat) (f : Frame) (s : State) : Prop where
  off : s.pair.mode = .off
  key : k = streamKey i o
  reseq : v = reseqOf s k
  runs : v.deadlineRuns = true
  held : v.held = [c]
  parts : c.parts = [part]
  belongs : part.fid = fid
  first : part.first = false
  last : part.last = false
  number : part.number = f.number
  frames : s.fabric.frames.cells = [(fid, f)]
  done : s.fabric.rx.find f.ingress ≠ some fid
  source : f.source = none
  kept : f.dropped = false
  express : f.express = false
  mcast : f.mcast = false
  sent : f.wordsSent ≠ 0
  input : ingressPipe f.ingress = i
  output : f.output = o
  order : v.inProgress ≤ f.number

theorem GapBefore.frame {i o k fid : Nat} {v : Reseq} {c : Cell} {part : Part} {f : Frame} {s : State}
    (h : GapBefore i o k v c part fid f s) : frameOf s fid = some f := by
  rw [frameOf, Table.find, h.frames, cellsFind, if_pos rfl]

/-- The state in which the frame with missing bytes has failed and this is told. -/
def gapTold (i o fid : Nat) (s : State) : State := raiseHeld 0 0x0704 2 o (detailOf [(20, i), (24, 1)]) (failFrame o fid s)

theorem reseqTimeout_of_gap {i o k fid : Nat} {v : Reseq} {c : Cell} {part : Part} {f : Frame} {s : State}
    (h : GapBefore i o k v c part fid f s) : reseqTimeout i o s = advanceReseq k 2 (setReseq k
      { reseqOf (gapTold i o fid s) k with expected := c.seq, deadlineRuns := false } (gapTold i o fid s)) := by
  have hmine : (f.source.isNone && !f.dropped && f.wordsSent != 0 && ingressPipe f.ingress == i && f.output == o &&
      decide (v.inProgress ≤ f.number) && decide (f.number < part.number + 1)) = true := by
    simp [h.source, h.kept, h.sent, h.input, h.output, h.order, h.number]
  have hkeys : s.fabric.frames.keysIf (fun _ f => f.source.isNone && !f.dropped && f.wordsSent != 0 && ingressPipe f.ingress == i &&
      f.output == o && decide (v.inProgress ≤ f.number) && decide (f.number < part.number + 1)) = [fid] := by
    simp only [Table.keysIf, h.frames, List.filter_cons, hmine, if_true, List.filter_nil, List.map_cons, List.map_nil]
  have hv := h.reseq
  rw [h.key] at hv
  simp only [reseqTimeout, ← hv, h.runs, Bool.not_true, Bool.false_eq_true, if_false, h.held, List.foldl_cons, List.foldl_nil, h.parts, h.first,
    hkeys, List.length_cons, List.length_nil, h.key]
  rfl

theorem removed_gapTold {i o k fid : Nat} {v : Reseq} {c : Cell} {part : Part} {f : Frame} {s : State}
    (h : GapBefore i o k v c part fid f s) : frameOf (gapTold i o fid s) fid = none ∧ reseqOf (gapTold i o fid s) k = v := by
  have htold : Told (failFrame o fid s) (gapTold i o fid s) := (Told.refl _).raiseHeld ..
  have hcount := told_countBy (0x4c00 + 0x40 * o + 8 * 1) 1 s
  have hfabric : (fabOutCount o 1 s).fabric = s.fabric := hcount.fabric
  have hremoved := removed_discard ((frameOf_of_fabric hfabric fid).trans h.frame) h.source (hfabric ▸ h.done)
  have hreseq : (discard fid (fabOutCount o 1 s)).fabric.reseq = s.fabric.reseq := by rw [hremoved.rest, hfabric]
  rw [frameOf_of_fabric htold.fabric, reseqOf_of_fabric htold.fabric, failFrame_of_buffered h.frame h.off h.express h.mcast]
  exact ⟨hremoved.gone, (congrArg (fun r : Table Reseq => r.get {} k) hreseq).trans h.reseq.symm⟩

theorem frameOf_setReseq (k : Nat) (v : Reseq) (s : State) (n : Nat) : frameOf (setReseq k v s) n = frameOf s n := rfl

theorem gives_reseqTimeout {i o k fid : Nat} {v : Reseq} {c : Cell} {part : Part} {f : Frame} {s : State} (hlive : s.live = true)
    (h : GapBefore i o k v c part fid f s) : Gives (exec (.reseqTimeout i o) s) (fun t => frameOf t fid = none ∧
      reseqOf t k = { v with expected := (c.seq + 1) % 65536, held := [], deadlineRuns := false, inProgress := part.number }) := by
  obtain ⟨hgone, hreseq⟩ := removed_gapTold h
  refine ⟨_, act_of_live hlive _, ?_⟩
  rw [reseqTimeout_of_gap h, hreseq]
  generalize gapTold i o fid s = u at hgone
  have hset : reseqOf (setReseq k { v with expected := c.seq, deadlineRuns := false } u) k =
      { v with expected := c.seq, deadlineRuns := false } := reseqOf_setReseq_same ..
  rw [advanceReseq_of_one (c := c) (part := part) (by rw [hset]; exact h.held) (by rw [hset]) h.parts h.last, hset]
  refine ⟨?_, reseqOf_setReseq_same ..⟩
  rw [frameOf_setReseq, h.belongs, frameOf_modFrame, if_pos rfl, frameOf_setReseq, frameOf_setReseq, hgone]
  rfl

/-! ## Express heads and multicast copies (R288, R290, R291) -/

/-- An express head that may join its queue. -/
structure HeadReady (fid : Nat) (f : Frame) (s : State) : Prop where
  frame : frameOf s fid = some f
  express : f.express = true
  kept : f.dropped = false
  head : f.headLeft = false
  words : f.wordsIn ≠ 0
  merge : f.mergeWait = 0
  whole : f.storeWhole = true → f.stored = true
  fresh : fid ∉ (egressOf s f.egress).express

/-- An express head has joined its port's queue. -/
def headJoined (fid : Nat) (f : Frame) (s : State) : State :=
  setEgress f.egress { egressOf s f.egress with express := (egressOf s f.egress).express ++ [fid] } s

/-- Whether an express head goes cut-through. -/
def cutsThrough (f : Frame) (s : State) : Bool :=
  (egressOf s f.egress).express == [] && (egressOf s f.egress).tx.isNone && (egressOf s f.egress).generated == []

theorem expressAssembled_of_ready {fid : Nat} {f : Frame} {s : State} (h : HeadReady fid f s) : expressAssembled fid s =
    if cutsThrough f s then fabPortCount f.egress 1 (headJoined fid f s) else headJoined fid f s := by
  have hwhole : (f.storeWhole && !f.stored) = false := by
    cases hs : f.storeWhole with
    | false => rfl
    | true => simp [h.whole hs]
  have hcontains : (egressOf s f.egress).express.contains fid = false := by simpa using h.fresh
  have hwords : (f.wordsIn == 0) = false := by simpa using h.words
  simp only [expressAssembled, h.frame, h.express, h.kept, h.head, hwords, h.merge, hwhole, hcontains, Bool.not_true, Bool.or_self,
    bne_self_eq_false, Bool.false_eq_true, if_false]
  rfl

theorem counter_of_counted {off n : Nat} {s t : State} (h : Told (State.plus off n s) t) (hoff : off ≠ 0xd138) :
    counter t off = counter s off + BitVec.ofNat 64 n := by rw [h.counters off hoff, counter_plus_same]

theorem Told.egress {s t : State} (h : Told s t) : t.fabric.egress = s.fabric.egress := congrArg Fabric.egress h.fabric

theorem gives_expressFrameAssembled {fid : Nat} {f : Frame} {s : State} (hlive : s.live = true) (h : HeadReady fid f s) :
    Gives (exec (.expressFrameAssembled fid) s) (fun t =>
      egressOf t f.egress = { egressOf s f.egress with express := (egressOf s f.egress).express ++ [fid] } ∧
      Told { s with fabric := { s.fabric with egress := t.fabric.egress }, counters := t.counters } t ∧
      ((egressOf s f.egress).express = [] → (egressOf s f.egress).tx = none → (egressOf s f.egress).generated = [] →
        counter t (0x5400 + 0x20 * f.egress + 8) = counter s (0x5400 + 0x20 * f.egress + 8) + 1)) := by
  have hjoined : egressOf (headJoined fid f s) f.egress =
      { egressOf s f.egress with express := (egressOf s f.egress).express ++ [fid] } := by rw [headJoined, egressOf_setEgress, if_pos rfl]
  refine ⟨_, act_of_live hlive _, ?_⟩
  rw [expressAssembled_of_ready h]
  cases hcut : cutsThrough f s with
  | false =>
    rw [if_neg Bool.false_ne_true]
    refine ⟨hjoined, Told.refl (headJoined fid f s), fun hnone htx hgen => absurd hcut ?_⟩
    simp [cutsThrough, hnone, htx, hgen]
  | true =>
    have hcount : Told (State.plus (0x5400 + 0x20 * f.egress + 8) 1 (headJoined fid f s)) (fabPortCount f.egress 1 (headJoined fid f s)) :=
      told_countBy ..
    rw [if_pos rfl]
    generalize fabPortCount f.egress 1 (headJoined fid f s) = t at hcount
    refine ⟨?_, ?_, fun _ _ _ => counter_of_counted (s := headJoined fid f s) hcount (by omega)⟩
    · rw [egressOf, hcount.egress]
      exact hjoined
    · rw [hcount.egress]
      exact ⟨hcount.rest, hcount.regs, fun _ _ => rfl, hcount.out, hcount.fns⟩

/-- A frame whose head has been read at its output. -/
def Frame.read (f : Frame) : Frame := { f with headLeft := true }

theorem rawLength_read (fid : Nat) (s : State) (f : Frame) : rawLength (modFrame fid Frame.read s) f = rawLength s f := by
  have hraw (n : Nat) : (frameOf (modFrame fid Frame.read s) n).map (·.raw) = (frameOf s n).map (·.raw) := by
    rw [frameOf_modFrame]
    split_ifs with hn
    · rw [hn, Option.map_map]
      rfl
    · rfl
  unfold rawLength
  cases f.source with
  | none => rfl
  | some g =>
    have hg := hraw g
    cases h1 : frameOf (modFrame fid Frame.read s) g <;> cases h2 : frameOf s g <;> simp_all

theorem depthOf_read (fid leaf : Nat) (s : State) : depthOf (modFrame fid Frame.read s) leaf = depthOf s leaf := by
  have hbytes (l : List Nat) : bytesOf (modFrame fid Frame.read s) l = bytesOf s l := by
    unfold bytesOf
    congr 1
    funext n m
    rw [frameOf_modFrame]
    split_ifs with hm
    · rw [hm]
      cases frameOf s fid with
      | none => rfl
      | some f =>
        show (if f.stored = true then n + (rawLength (modFrame fid Frame.read s) f.read + 4) else n) = _
        rw [rawLength_read]
        rfl
    · cases frameOf s m with
      | none => rfl
      | some f =>
        show (if f.stored = true then n + (rawLength (modFrame fid Frame.read s) f + 4) else n) = _
        rw [rawLength_read]
        rfl
  have hleaf : leafOf (modFrame fid Frame.read s) leaf = leafOf s leaf := rfl
  unfold depthOf
  rw [hleaf]
  cases leafOf s leaf with
  | none => rfl
  | some l => exact hbytes _

theorem queueCheck_read (fid leaf ingress colour : Nat) (s : State) :
    queueCheck (modFrame fid Frame.read s) leaf ingress colour true = queueCheck s leaf ingress colour true := by
  unfold queueCheck
  rw [depthOf_read]
  rfl

/-- A multicast head that makes one copy, for a member whose leaf takes it. -/
structure CopyReady (fid : Nat) (f : Frame) (m : Nat) (e : McEntry) (leaf : Nat) (l : Leaf) (n : Nat) (s : State) : Prop where
  off : s.pair.mode = .off
  frame : frameOf s fid = some f
  mcast : f.mcast = true
  source : f.source = none
  kept : f.dropped = false
  head : f.headLeft = false
  words : f.wordsIn ≠ 0
  stored : f.stored = false
  member : groupMembers (groupOf s f.queue).data = [m]
  entry : e = memberOf s m
  good : e.parityFailed = false
  queue : leaf = memberQueue e.data
  found : leafOf s leaf = some l
  enabled : nodeEnabled s (64 + memberPort e.data) = true
  check : queueCheck s leaf f.ingress f.colour true = none
  number : n = s.fabric.nextFrame
  fresh : frameOf s n = none

/-- A copy of a multicast frame for a member. -/
def copyOf (fid : Nat) (f : Frame) (e : McEntry) (q : Nat) : Frame :=
  { f with
    source := some fid, txSc := memberSc e.data, queue := memberQueue e.data, output := outputOf q, egress := q, refs := 0, wordsHeld := 0
    stored := false, headLeft := false }

/-- A copy's record is made, and the stored frame has one more reference. -/
def copyMade (fid n : Nat) (c : Frame) (s : State) : State :=
  modFrame fid (fun f => { f with refs := f.refs + 1 })
    { s with fabric := { s.fabric with frames := s.fabric.frames.set n c, nextFrame := n + 1 } }

/-- The copy has joined its leaf. -/
def copyJoined (fid n : Nat) (c : Frame) (e : McEntry) (s : State) : State :=
  fabPortCount (64 + memberPort e.data) 2 (joinCopy n (memberQueue e.data) (copyMade fid n c s))

theorem makeCopy_of_ready {fid m leaf n : Nat} {f : Frame} {e : McEntry} {l : Leaf} {s : State} (h : CopyReady fid f m e leaf l n s) :
    ∃ q, makeCopy fid m (modFrame fid Frame.read s) = copyJoined fid n (copyOf fid f.read e q) e (modFrame fid Frame.read s) := by
  have hframe := frameOf_modFrame_same h.frame Frame.read
  have hentry : memberOf (modFrame fid Frame.read s) m = e := h.entry.symm
  have hfollows : pairFollows (modFrame fid Frame.read s) = false := by simp [pairFollows, modFrame, h.off]
  have henabled : nodeEnabled (modFrame fid Frame.read s) (64 + memberPort e.data) = true := h.enabled
  have hcheck := (queueCheck_read fid leaf f.ingress f.colour s).trans h.check
  rw [h.queue] at hcheck
  have hcheck' : queueCheck (modFrame fid Frame.read s) (memberQueue e.data) f.read.ingress f.read.colour true = none := hcheck
  have hstored : f.read.stored = false := h.stored
  refine ⟨(nodeOfLeaf (modFrame fid Frame.read s) (memberQueue e.data)).getD (64 + memberPort e.data), ?_⟩
  simp only [makeCopy, hframe, hentry, h.good, hfollows, henabled, hcheck', Option.isSome_none, Bool.or_self, Bool.not_true,
    Bool.false_eq_true, if_false, hstored, h.number]
  rfl

theorem leafOf_joinCopy (n leaf : Nat) (s : State) :
    leafOf (joinCopy n leaf s) leaf = (leafOf s leaf).map (fun l => { l with onDie := l.onDie ++ [n] }) := by
  have hsched : (schCount ((nodeOfLeaf s leaf).getD 128) 0 s).sched = s.sched := (told_countBy ..).sched
  have hmodify := Table.find_modify (schCount ((nodeOfLeaf s leaf).getD 128) 0 s).sched.leaves leaf leaf
    (fun l => { l with onDie := l.onDie ++ [n] })
  rw [if_pos rfl, hsched] at hmodify
  rw [← hsched] at hmodify
  exact hmodify.trans (by rw [hsched]; rfl)

/-- What a copy leaves: its leaf has it last, the stored frame has its reference, and the copy its record. -/
theorem copyJoined_spec {fid m leaf n : Nat} {f c : Frame} {e : McEntry} {l : Leaf} {s : State} (h : CopyReady fid f m e leaf l n s) :
    leafOf (copyJoined fid n c e (modFrame fid Frame.read s)) leaf = some { l with onDie := l.onDie ++ [n] } ∧
      frameOf (copyJoined fid n c e (modFrame fid Frame.read s)) fid = some { f.read with refs := f.refs + 1 } ∧
      frameOf (copyJoined fid n c e (modFrame fid Frame.read s)) n = some c := by
  have hne : fid ≠ n := by
    rintro rfl
    exact absurd (h.fresh.symm.trans h.frame) (by simp)
  obtain ⟨u, hu⟩ : ∃ u, copyMade fid n c (modFrame fid Frame.read s) = u := ⟨_, rfl⟩
  have hfid : frameOf u fid = some { f.read with refs := f.refs + 1 } := by
    rw [← hu, copyMade]
    refine frameOf_modFrame_same (f := f.read) ?_ (fun f => { f with refs := f.refs + 1 })
    exact (Table.find_set_ne hne _ _).trans (frameOf_modFrame_same h.frame Frame.read)
  have hn : frameOf u n = some c := by
    rw [← hu, copyMade, frameOf_modFrame_ne hne.symm]
    exact Table.find_set_same ..
  have hleaf : leafOf u leaf = some l := by
    rw [← hu]
    exact h.found
  rw [copyJoined, hu]
  have hjoin := told_countBy (0x8400 + 0x40 * ((nodeOfLeaf u (memberQueue e.data)).getD 128) + 8 * 0) 1 u
  have hport := told_countBy (0x5400 + 0x20 * (64 + memberPort e.data) + 8 * 2) 1 (joinCopy n (memberQueue e.data) u)
  have hframes (k : Nat) : frameOf (fabPortCount (64 + memberPort e.data) 2 (joinCopy n (memberQueue e.data) u)) k = frameOf u k :=
    (frameOf_of_fabric hport.fabric k).trans (frameOf_of_fabric hjoin.fabric k)
  refine ⟨?_, (hframes fid).trans hfid, (hframes n).trans hn⟩
  have hjoined := (leafOf_joinCopy n leaf u).trans (congrArg (Option.map _) hleaf)
  rw [h.queue] at hjoined ⊢
  exact (congrArg (fun x : Scheduling => x.leaves.find (memberQueue e.data)) hport.sched).trans hjoined

theorem multicastHead_of_ready {fid m leaf n : Nat} {f : Frame} {e : McEntry} {l : Leaf} {s : State} (h : CopyReady fid f m e leaf l n s) :
    ∃ q, multicastHead fid [] s = copyJoined fid n (copyOf fid f.read e q) e (modFrame fid Frame.read s) := by
  obtain ⟨q, hcopy⟩ := makeCopy_of_ready h
  obtain ⟨-, hfid, -⟩ := copyJoined_spec (c := copyOf fid f.read e q) h
  have hwords : (f.wordsIn == 0) = false := by simpa using h.words
  have hstored : f.read.stored = false := h.stored
  have hmember : groupMembers (groupOf (modFrame fid Frame.read s) f.queue).data = [m] := h.member
  refine ⟨q, ?_⟩
  rw [← hcopy] at hfid ⊢
  unfold multicastHead
  rw [h.frame]
  simp only [h.mcast, h.source, h.kept, h.head, hwords, Bool.not_true, Option.isSome_none, Bool.or_self, Bool.false_eq_true, if_false,
    applyUpsets, List.foldl_nil]
  show (match frameOf ((groupMembers (groupOf (modFrame fid Frame.read s) f.queue).data).foldl (fun s m => makeCopy fid m s)
      (modFrame fid Frame.read s)) fid with
    | some f => _
    | none => _) = _
  rw [hmember, List.foldl_cons, List.foldl_nil, hfid]
  simp only [hstored, Bool.false_and, Bool.false_eq_true, if_false]
  exact congrArg (List.foldl (fun s m => makeCopy fid m s) (modFrame fid Frame.read s)) hmember

/-! ## The obligation -/

theorem exec_fabricMatch {p : Nat} {s : State} (hlive : s.live = true) (hp : p < 2) : exec (.fabricMatch p) s = .next (fabricMatch p s) := by
  have hexec : execFabricMatch p s = .next (if p < 2 then fabricMatch p s else s) := act_of_live hlive _
  rwa [if_pos hp] at hexec

theorem exec_cellArrival {c : Cell} {ok : Bool} {s : State} (hlive : s.live = true)
    (h : s.fabric.cells.find? (fun x => x.input == c.input && x.output == c.output && x.plane == c.plane && x.flying) = some c) :
    exec (.cellArrival c.input c.output c.plane ok) s = .next (if ok then cellIn c s else cellFailed c s) := by
  have hexec : execCellArrival c.input c.output c.plane ok s = .next _ := act_of_live hlive _
  rw [h] at hexec
  exact hexec

/-- Settles O47: the only request is the only match; a cell, a gap and a head each touch one frame, and a copy its leaf. -/
theorem framesCross : Obligations.FramesCross := by
  unfold Obligations.FramesCross
  intro s hlive
  refine ⟨?_, ?_, fun c hfind => ⟨?_, ?_⟩, ?_, ?_, ?_⟩
  · intro p hp hdown
    rw [exec_fabricMatch hlive hp, fabricMatch, hdown]
    rfl
  · rintro p i o v w hp hi ho rfl hup rfl hresend hrequests
    have honly : OnlyRequest s p i o (List.range 16) (List.range 18) := fun i' hi' o' ho' =>
      hrequests i' o' (List.mem_range.mp hi') (List.mem_range.mp ho')
    have hresend' : resendOf (setPlane p ((planeOf s p).matched i o) s) i o p = none := by rw [fabric_of_setPlane]; exact hresend
    refine ⟨_, exec_fabricMatch hlive hp, ?_⟩
    rw [fabricMatch_of_only hup hi ho honly, transfer_of_stream hresend' hi]
    have hstream : streamOf (setPlane p ((planeOf s p).matched i o) s) (streamKey i o) = streamOf s (streamKey i o) := by
      rw [fabric_of_setPlane]
      rfl
    have hplanes : p = 0 ∨ p = 1 := by omega
    refine ⟨?_, ?_, ?_⟩
    · refine (Table.get_put_same ..).trans ?_
      rw [hstream]
    · exact planeOf_setPlane ..
    · rcases hplanes with rfl | rfl <;> rfl
  · rintro fails hplane hup hfails hfew
    rw [exec_cellArrival hlive hfind, if_neg Bool.false_ne_true, cellFailed_of_few hup hfails hfew hplane]
  · rintro k v part f rfl rfl hheld hseq hparts hlast hframe hkept
    have hstored := cellStored_of_frame (c := c) hframe
    refine ⟨_, exec_cellArrival hlive hfind, ?_⟩
    rw [if_pos rfl, cellIn_of_turn hheld hseq hparts hframe hkept]
    have hset : reseqOf (setReseq (streamKey c.input c.output) { reseqOf s (streamKey c.input c.output) with held := [c] }
        (cellStored c part f s)) (streamKey c.input c.output) = { reseqOf s (streamKey c.input c.output) with held := [c] } :=
      reseqOf_setReseq_same ..
    rw [advanceReseq_of_one (n := 0) (c := c) (part := part) (by rw [hset]) (by rw [hset]; exact hseq) hparts hlast, hset]
    generalize cellStored c part f s = u at hstored
    refine ⟨?_, fun n hn => ?_, ?_, ?_, hstored.cells⟩
    · rw [frameOf_setReseq, frameOf_modFrame, if_pos rfl, frameOf_setReseq, frameOf_setReseq, hstored.frame]
      rfl
    · rw [frameOf_setReseq, frameOf_modFrame_ne hn, frameOf_setReseq, frameOf_setReseq, hstored.others n hn]
    · rw [classWords_setReseq, classWords_modFrame, classWords_setReseq, classWords_setReseq, hstored.words]
    · rw [reseqOf_setReseq_same, hheld, hseq]
  · intro i o k v c part f fid hoff hk hv hruns hheld hparts hfid hfirst hlast hnumber hframes hdone hsource hkept hexpress hmcast hsent
      hinput houtput horder
    exact gives_reseqTimeout hlive ⟨hoff, hk, hv, hruns, hheld, hparts, hfid, hfirst, hlast, hnumber, hframes, hdone, hsource, hkept,
      hexpress, hmcast, hsent, hinput, houtput, horder⟩
  · rintro fid f e hframe rfl hexpress hkept hhead hwords hmerge hwhole hfresh
    exact gives_expressFrameAssembled hlive ⟨hframe, hexpress, hkept, hhead, hwords, hmerge, hwhole, hfresh⟩
  · intro fid f m e l leaf n hoff hframe hmcast hsource hkept hhead hwords hstored hmember hentry hgood hleaf hfound henabled hcheck hn hfresh
    have hready : CopyReady fid f m e leaf l n s := ⟨hoff, hframe, hmcast, hsource, hkept, hhead, hwords, hstored, hmember, hentry, hgood,
      hleaf, hfound, henabled, hcheck, hn, hfresh⟩
    obtain ⟨q, hcopy⟩ := multicastHead_of_ready hready
    obtain ⟨hjoined, hrefs, hrecord⟩ := copyJoined_spec (c := copyOf fid f.read e q) hready
    refine ⟨_, act_of_live hlive _, ?_⟩
    rw [hcopy]
    exact ⟨hjoined, hrefs, _, hrecord, rfl, rfl, hleaf.symm, rfl, rfl, rfl⟩

end Sys2Proof.Machine
end

section
/-!
PROOFS. Frames that go out, outside a pair (05_secure_channels R157, R163, R172; 09_fabric_and_buffers R288, R289, R295, R296): the end of a
transmission, what a head starts, and the host rings.
-/
namespace Sys2Proof.Machine

open Sys2Proof

/-! ## What counting leaves alone -/

/-- A port apart from its counters. -/
def Port.uncounted (v : Port) : Port := { v with counters := .empty }

/-- From `s` to `t` the fabric, the pair, the tamper sources, the loops of ports, the numbers of SAs and the SCs to rekey are as they were,
registers but for reporting's too, and output has only been added. -/
structure Passing (s t : State) : Prop where
  fabric : t.fabric = s.fabric
  pair : t.pair = s.pair
  tamper : t.tamper = s.tamper
  regs : ∀ a, isReportReg a = false → reg t a = reg s a
  ports : ∀ p, (portOf t p).map Port.uncounted = (portOf s p).map Port.uncounted
  pns : ∀ n, (saOf t n).map (·.nextPn) = (saOf s n).map (·.nextPn)
  rekeys : t.channels.rekeyDue = s.channels.rekeyDue
  out : ∃ b, t.out = b ++ s.out

theorem Passing.refl (s : State) : Passing s s := ⟨rfl, rfl, rfl, fun _ _ => rfl, fun _ => rfl, fun _ => rfl, rfl, ⟨[], rfl⟩⟩

theorem Passing.trans {s t u : State} (h : Passing s t) (k : Passing t u) : Passing s u := by
  refine ⟨k.fabric.trans h.fabric, k.pair.trans h.pair, k.tamper.trans h.tamper, fun a ha => (k.regs a ha).trans (h.regs a ha),
    fun p => (k.ports p).trans (h.ports p), fun n => (k.pns n).trans (h.pns n), k.rekeys.trans h.rekeys, ?_⟩
  obtain ⟨a, ha⟩ := h.out
  obtain ⟨b, hb⟩ := k.out
  exact ⟨b ++ a, by rw [hb, ha, List.append_assoc]⟩

theorem Told.passing {s t : State} (h : Told s t) : Passing s t := by
  refine ⟨h.fabric, h.pair, h.tamper, h.regs, fun p => ?_, fun n => ?_, congrArg Channels.rekeyDue h.channels, h.out⟩
  · rw [h.portOf]
  · rw [saOf_of_channels h.channels]

theorem passing_plus (off n : Nat) (s : State) : Passing s (State.plus off n s) :=
  ⟨rfl, rfl, rfl, fun _ _ => rfl, fun _ => rfl, fun _ => rfl, rfl, ⟨[], rfl⟩⟩

theorem passing_countBy (off n : Nat) (s : State) : Passing s (countBy off n s) := (passing_plus off n s).trans (told_countBy off n s).passing

theorem passing_fabOutCount (output i : Nat) (s : State) : Passing s (fabOutCount output i s) := passing_countBy (0x4c00 + 0x40 * output + 8 * i) 1 s

theorem passing_setSa {n : Nat} {a b : Sa} {s : State} (h : saOf s n = some a) (hpn : b.nextPn = a.nextPn) : Passing s (setSa n b s) := by
  refine ⟨rfl, rfl, rfl, fun _ _ => rfl, fun _ => rfl, fun m => ?_, rfl, ⟨[], rfl⟩⟩
  by_cases hm : m = n
  · rw [hm, h]
    refine (congrArg (Option.map _) (Table.find_set_same s.channels.sas n b)).trans ?_
    rw [Option.map_some, Option.map_some, hpn]
  · rw [saOf_setSa_ne hm]

/-- An SA whose delta has risen (R172). -/
def Sa.counted (a : Sa) (i k : Nat) : Sa :=
  { a with deltas := a.deltas.put i (satAdd deltaTop (a.deltas.at i) k), statsIncomplete := a.statsIncomplete || deltaTop ≤ a.deltas.at i + k }

theorem passing_withSaturated (m : Nat) (s : State) : Passing s { s with channels := { s.channels with saturated := m } } :=
  ⟨rfl, rfl, rfl, fun _ _ => rfl, fun _ => rfl, fun _ => rfl, rfl, ⟨[], rfl⟩⟩

theorem passing_countDelta (n i k : Nat) (s : State) : Passing s (countDelta n i k s) := by
  unfold countDelta
  split
  · exact .refl s
  · next a ha =>
    have hset : Passing s (setSa n (a.counted i k) s) := passing_setSa ha rfl
    have htold : Passing s (raiseSc a.sc a.an 0x0409 1 (detailOf [(20, n), (24, i)]) (setSa n (a.counted i k) s)) :=
      hset.trans ((Told.refl _).raiseScoped ..).passing
    dsimp only
    split_ifs
    · exact htold
    · exact htold.trans (passing_withSaturated ..)
    · exact hset

theorem passing_countLeft (port : Nat) (x : Tx) (f : Frame) (octets : Nat) (s : State) : Passing s (countLeft port x f octets s) := by
  unfold countLeft
  dsimp only
  split
  · split_ifs
    · exact (passing_countDelta ..).trans (passing_countBy ..)
    · exact passing_countDelta ..
    · exact ((passing_countDelta ..).trans (passing_countDelta ..)).trans (passing_countBy ..)
  · split_ifs
    · exact passing_countBy ..
    · exact .refl s

theorem passing_pcsPass (tx : Bool) (p bytes : Nat) (s : State) : Passing s (pcsPass tx p bytes s) := by
  have hrun (r : Table Nat) : Passing s { s with pmc := { s.pmc with running := r } } :=
    ⟨rfl, rfl, rfl, fun _ _ => rfl, fun _ => rfl, fun _ => rfl, rfl, ⟨[], rfl⟩⟩
  exact (hrun _).trans (((Told.refl _).pmcEvent _ _ _).pmcEvent _ _ _).passing

theorem passing_portCountBy (p i n : Nat) (s : State) : Passing s (portCountBy p i n s) := by
  have hport : Passing s (modPort p (fun v => { v with counters := v.counters.put 0 i (v.counters.get 0 i + BitVec.ofNat 64 n) }) s) := by
    refine ⟨rfl, rfl, rfl, fun _ _ => rfl, fun q => ?_, fun _ => rfl, rfl, ⟨[], rfl⟩⟩
    rw [portOf, modPort, Table.find_modify]
    split_ifs with hq
    · rw [hq, Option.map_map]
      rfl
    · rfl
  unfold portCountBy
  dsimp only
  split
  · exact hport.trans ((Told.refl _).pmcEvent _ _ _).passing
  · exact hport

theorem Passing.unlooped {p : Nat} {v : Port} {s t : State} (h : Passing s t) (hport : portOf s p = some v) (hloop : v.loopback = 0) :
    ∃ w, portOf t p = some w ∧ w.loopback = 0 := by
  have hsame := h.ports p
  rw [hport, Option.map_some] at hsame
  obtain ⟨w, hw, hwv⟩ := Option.map_eq_some_iff.mp hsame
  have hloops : w.uncounted.loopback = v.uncounted.loopback := congrArg Port.loopback hwv
  exact ⟨w, hw, Eq.trans hloops hloop⟩

/-- A port of no loop puts the frame on the wire, after what its counting told. -/
theorem transmitted_of_unlooped {p : Nat} {v : Port} {s : State} (hport : portOf s p = some v) (hloop : v.loopback = 0) (data : Bytes)
    (stomped : Bool) : ∃ u, Passing s u ∧ transmitted p data stomped s = emit (.frame p data stomped false) u := by
  have hcounted : Passing s (if stomped then portCount p 11 (pcsPass true p (data.length + 4) s)
      else portCountBy p 10 (data.length + 4) (portCount p 9 (pcsPass true p (data.length + 4) s))) := by
    split_ifs
    · exact (passing_pcsPass ..).trans (passing_portCountBy ..)
    · exact ((passing_pcsPass ..).trans (passing_portCountBy ..)).trans (passing_portCountBy ..)
  refine ⟨_, hcounted, ?_⟩
  obtain ⟨w, hw, hunlooped⟩ := hcounted.unlooped hport hloop
  unfold transmitted
  dsimp only
  generalize (if stomped then portCount p 11 (pcsPass true p (data.length + 4) s)
      else portCountBy p 10 (data.length + 4) (portCount p 9 (pcsPass true p (data.length + 4) s))) = u at hw
  have hnear : w.nearLoop = false := by simp [Port.nearLoop, hunlooped]
  simp only [onWire, hw, hnear, Bool.false_eq_true, if_false]

/-! ## The end of a transmission -/

/-- The bytes of a frame in transmission as they leave. -/
def leavingData (x : Tx) (f : Frame) : Bytes :=
  match x.sa with
  | some _ => sealFrame x.key x.iv x.co x.tag x.clear f.raw
  | none => f.raw

/-- A frame has left a port: its record is gone, the port is free, its bytes are on the wire, and SAs' numbers are as they were. -/
structure LeftPort (p fid : Nat) (data : Bytes) (stomped : Bool) (s t : State) : Prop where
  gone : frameOf t fid = none
  free : (egressOf t p).tx = none
  out : ∃ a b, t.out = a ++ .frame p data stomped false :: (b ++ s.out)
  pns : ∀ n, (saOf t n).map (·.nextPn) = (saOf s n).map (·.nextPn)
  rekeys : t.channels.rekeyDue = s.channels.rekeyDue

/-- A frame of no copy is in transmission on a port of no loop; its record may go, and nothing of the device's own waits. -/
structure InTransmission (p : Nat) (v : Port) (x : Tx) (f : Frame) (s : State) : Prop where
  found : portOf s p = some v
  loop : v.loopback = 0
  tx : (egressOf s p).tx = some x
  waits : (egressOf s p).generated = []
  frame : frameOf s x.fid = some f
  source : f.source = none
  done : s.fabric.rx.find f.ingress ≠ some x.fid
  plain : regBit s 0xe010 2 = false

theorem sendWaiting_of_none {p : Nat} {s : State} (h : (egressOf s p).generated = []) : Unplaced s (sendWaiting p s) ∧
    (sendWaiting p s).fabric.frames = s.fabric.frames := by
  unfold sendWaiting
  dsimp only
  split_ifs
  · exact ⟨.refl s, rfl⟩
  · rw [h, List.foldl_nil]
    exact ⟨unplaced_setEgress rfl h.symm, rfl⟩

/-- The port is free for its next frame. -/
def portFreed (p : Nat) (s : State) : State := setEgress p { egressOf s p with tx := none } s

/-- The counters of a frame that leaves, on the line side alone. -/
def leftCounted (p : Nat) (x : Tx) (f : Frame) (s : State) : State :=
  if 64 ≤ p then countLeft p x f (f.raw.length - 12 - 4 * x.clear) s else s

theorem passing_leftCounted (p : Nat) (x : Tx) (f : Frame) (s : State) : Passing s (leftCounted p x f s) := by
  unfold leftCounted
  split_ifs
  · exact passing_countLeft ..
  · exact .refl s

theorem finishTx_of_whole {p : Nat} {v : Port} {x : Tx} {f : Frame} {s : State} (h : InTransmission p v x f s) : finishTx p s =
    sendWaiting p (discard x.fid (transmitted p (leavingData x f) f.stomp (leftCounted p x f (portFreed p s)))) := by
  have hframe : frameOf (portFreed p s) x.fid = some f := h.frame
  have hplain : regBit (portFreed p s) 0xe010 2 = false := h.plain
  have hraw : frameData (portFreed p s) f = f.raw := by simp only [frameData, h.source]
  unfold finishTx
  rw [h.tx]
  dsimp only
  rw [show setEgress p { egressOf s p with tx := none } s = portFreed p s from rfl, hframe]
  dsimp only
  rw [hraw, hplain]
  cases hsa : x.sa <;> simp only [leavingData, hsa, clearData, leftCounted, Bool.false_eq_true, if_false]

theorem leftPort_finishTx {p : Nat} {v : Port} {x : Tx} {f : Frame} {s : State} (h : InTransmission p v x f s) :
    LeftPort p x.fid (leavingData x f) f.stomp s (finishTx p s) := by
  rw [finishTx_of_whole h]
  have hcount := passing_leftCounted p x f (portFreed p s)
  obtain ⟨w, hw, hloop⟩ := hcount.unlooped (p := p) (v := v) h.found h.loop
  obtain ⟨u, hu, hsent⟩ := transmitted_of_unlooped hw hloop (leavingData x f) f.stomp
  rw [hsent]
  have hpass := hcount.trans hu
  have hfabric : (emit (.frame p (leavingData x f) f.stomp false) u).fabric = (portFreed p s).fabric := hpass.fabric
  have hremoved := removed_discard (s := emit (.frame p (leavingData x f) f.stomp false) u)
    ((frameOf_of_fabric hfabric x.fid).trans h.frame) h.source (by rw [hfabric]; exact h.done)
  have hfreed : egressOf (portFreed p s) p = { egressOf s p with tx := none } := by rw [portFreed, egressOf_setEgress, if_pos rfl]
  have hegress (q : Nat) : egressOf (emit (.frame p (leavingData x f) f.stomp false) u) q = egressOf (portFreed p s) q :=
    congrArg (fun y : Fabric => y.egress.get {} q) hfabric
  obtain ⟨hlast, hframes⟩ := sendWaiting_of_none (p := p) (s := discard x.fid (emit (.frame p (leavingData x f) f.stomp false) u))
    (by rw [hremoved.waits, hegress, hfreed]; exact h.waits)
  have hunplaced := hremoved.toUnplaced.trans hlast
  have hsame := hunplaced.rest
  refine ⟨?_, ?_, ?_, fun n => ?_, ?_⟩
  · rw [frameOf, hframes]
    exact hremoved.gone
  · rw [hunplaced.transmits, hegress, hfreed]
  · obtain ⟨b, hb⟩ := hpass.out
    exact ⟨[], b, by rw [hsame]; exact congrArg (Output.frame p (leavingData x f) f.stomp false :: ·) hb⟩
  · rw [hsame]
    exact hpass.pns n
  · rw [hsame]
    exact hpass.rekeys

/-! ## A head starts a transmission -/

/-- A whole frame of no copy at the head of a port's express queue, on a port of no loop that may transmit. -/
structure HeadOut (p : Nat) (v : Port) (fid : Nat) (f : Frame) (rest : List Nat) (s : State) : Prop where
  live : s.live = true
  off : s.pair.mode = .off
  plain : regBit s 0xe010 2 = false
  rekeys : s.channels.rekeyDue = []
  found : portOf s p = some v
  loop : v.loopback = 0
  may : mayTransmit s p = true
  queue : (egressOf s p).express = fid :: rest
  tx : (egressOf s p).tx = none
  waits : (egressOf s p).generated = []
  frame : frameOf s fid = some f
  stored : f.stored = true
  source : f.source = none
  late : f.early = false
  done : s.fabric.rx.find f.ingress ≠ some fid

theorem nextOut_of_headOut {p fid : Nat} {v : Port} {f : Frame} {rest : List Nat} {s : State} (h : HeadOut p v fid f rest s) :
    nextOut s p = some (fid, true) := by
  have hstart : mayStart f = true := by simp [mayStart, h.stored]
  simp only [nextOut, h.tx, Option.isSome_none, Bool.false_eq_true, if_false, h.queue, h.frame, hstart, if_true]

/-- The state in which the frame has left its queue. -/
structure QueueLeft (p : Nat) (fid : Nat) (f : Frame) (s : State) : Prop where
  found : ∃ w, portOf s p = some w ∧ w.loopback = 0
  frame : frameOf s fid = some f
  stored : f.stored = true
  source : f.source = none
  waits : (egressOf s p).generated = []
  done : s.fabric.rx.find f.ingress ≠ some fid
  plain : regBit s 0xe010 2 = false

theorem QueueLeft.passing {p fid : Nat} {f : Frame} {s t : State} (h : QueueLeft p fid f s) (k : Passing s t) :
    QueueLeft p fid f t := by
  obtain ⟨w, hw, hloop⟩ := h.found
  refine ⟨k.unlooped hw hloop, (frameOf_of_fabric k.fabric fid).trans h.frame, h.stored, h.source, ?_, by rw [k.fabric]; exact h.done, ?_⟩
  · rw [egressOf, k.fabric]
    exact h.waits
  · have hreg := k.regs 0xe010 (by decide)
    rw [regBit, hreg]
    exact h.plain


theorem queueLeft_takeOut {p fid : Nat} {v : Port} {f : Frame} {rest : List Nat} {s : State} (h : HeadOut p v fid f rest s) :
    QueueLeft p fid f (takeOut p true s) := by
  refine ⟨⟨v, h.found, h.loop⟩, h.frame, h.stored, h.source, ?_, h.done, h.plain⟩
  rw [takeOut, egressOf_setEgress, if_pos rfl]
  exact h.waits

theorem QueueLeft.takeOutNo {p fid : Nat} {f : Frame} {s : State} (h : QueueLeft p fid f s) (q : Nat) :
    QueueLeft p fid f (takeOutNo q s).2 := ⟨h.found, h.frame, h.stored, h.source, h.waits, h.done, h.plain⟩

theorem QueueLeft.setSa {p fid : Nat} {f : Frame} {s : State} (h : QueueLeft p fid f s) (n : Nat) (a : Sa) :
    QueueLeft p fid f (setSa n a s) := ⟨h.found, h.frame, h.stored, h.source, h.waits, h.done, h.plain⟩

/-- A whole frame leaves within the step that starts it. -/
theorem leftPort_startTx {p fid : Nat} {f : Frame} {s : State} (h : QueueLeft p fid f s) (x : Tx) (hx : x.fid = fid) :
    LeftPort p fid (leavingData x f) f.stomp s (startTx p x s) := by
  subst hx
  obtain ⟨w, hw, hloop⟩ := h.found
  have hframe : frameOf (setEgress p { egressOf s p with tx := some x } s) x.fid = some f := h.frame
  have hwhole : wholeAt (modFrame x.fid Frame.read (setEgress p { egressOf s p with tx := some x } s)) f = true := by
    simp only [wholeAt, h.source, h.stored]
  have hstart : startTx p x s = finishTx p (modFrame x.fid Frame.read (setEgress p { egressOf s p with tx := some x } s)) := by
    simp only [startTx, hframe]
    exact if_pos hwhole
  have hegress : egressOf (modFrame x.fid Frame.read (setEgress p { egressOf s p with tx := some x } s)) p =
      { egressOf s p with tx := some x } := (egressOf_setEgress p p _ s).trans (if_pos rfl)
  have hin : InTransmission p w x f.read (modFrame x.fid Frame.read (setEgress p { egressOf s p with tx := some x } s)) :=
    ⟨hw, hloop, by rw [hegress], by rw [hegress]; exact h.waits, frameOf_modFrame_same hframe _, h.source, h.done, h.plain⟩
  have hleft := leftPort_finishTx hin
  rw [hstart]
  exact ⟨hleft.gone, hleft.free, hleft.out, hleft.pns, hleft.rekeys⟩

theorem mayTransmit_of_passing {s t : State} (h : Passing s t) (p : Nat) : mayTransmit t p = mayTransmit s p := by
  have hsources : sourceOf t = sourceOf s := funext fun n => sourceOf_of_sources (congrArg Tamper.sources h.tamper) n
  have hlock : tamperLock t = tamperLock s := by rw [tamperLock, tamperLock, tamperRank, tamperRank, hsources]
  have hgated (n : Nat) : lineGated t n = lineGated s n := by
    unfold lineGated
    rw [h.pair]
  have hsquelched : squelched t p = squelched s p := by rw [squelched, squelched, hlock, hgated]
  have hmerged : mergedB t p = mergedB s p := by rw [mergedB, mergedB, h.pair]
  have hport := h.ports p
  unfold mayTransmit
  rw [hsquelched, hmerged]
  cases hs : portOf s p with
  | none =>
    rw [hs] at hport
    rw [Option.map_eq_none_iff.mp hport]
  | some v =>
    rw [hs, Option.map_some] at hport
    obtain ⟨w, hw, hwv⟩ := Option.map_eq_some_iff.mp hport
    rw [hw]
    have hparts : w.uncounted.linkUp = v.uncounted.linkUp ∧ w.uncounted.adminUp = v.uncounted.adminUp ∧
        w.uncounted.idleForRemote = v.uncounted.idleForRemote ∧ w.uncounted.loopback = v.uncounted.loopback := by
      rw [hwv]
      exact ⟨rfl, rfl, rfl, rfl⟩
    obtain ⟨hup, hadmin, hidle, hloop⟩ := hparts
    have hup' : w.linkUp = v.linkUp := hup
    have hadmin' : w.adminUp = v.adminUp := hadmin
    have hidle' : w.idleForRemote = v.idleForRemote := hidle
    have hloop' : w.loopback = v.loopback := hloop
    simp only [Port.nearLoop, hup', hadmin', hidle', hloop']

/-! ### The client side -/

theorem logEarly_of_late {f : Frame} (h : f.early = false) (p : Nat) (sc : Option Nat) (s : State) : logEarly p f sc s = s := by
  rw [logEarly, h, if_neg Bool.false_ne_true]

theorem pairFollows_of_off {s : State} (h : s.pair.mode = .off) : pairFollows s = false := by simp [pairFollows, h]

/-- The number that a port's next frame takes. -/
def nextOutNo (p : Nat) (s : State) : Nat := s.pair.outNo.get 0 p

theorem exec_ceFrameHead {p fid : Nat} {v : Port} {f : Frame} {rest : List Nat} {s : State} (h : HeadOut p v fid f rest s) (hp : p < 64)
    (hlock : tamperLock s = false) : exec (.ceFrameHead p false) s =
      .next (startTx p { fid, outNo := nextOutNo p s } (takeOutNo p (takeOut p true s)).2) := by
  have hexec : execCeFrameHead p false s = .next (if p < 64 then
      match nextOut s p with
      | none => s
      | some (fid, express) => if express && false then breakExpress p s else clientOut p fid (takeOut p express s)
      else s) := act_of_live h.live _
  rw [if_pos hp, nextOut_of_headOut h] at hexec
  have hfollows : pairFollows (takeOut p true s) = false := pairFollows_of_off h.off
  have hframe : frameOf (takeOut p true s) fid = some f := h.frame
  have hlock' : tamperLock (takeOut p true s) = false := hlock
  have hmay : mayTransmit (takeOut p true s) p = true := h.may
  have hout : clientOut p fid (takeOut p true s) =
      startTx p { fid, outNo := nextOutNo p s } (takeOutNo p (takeOut p true s)).2 := by
    simp only [clientOut, hfollows, Bool.false_eq_true, if_false, hframe, hlock', Option.isSome_none, hmay, Bool.not_true, Bool.or_self,
      logEarly_of_late h.late]
    rfl
  rw [← hout]
  exact hexec

/-! ### The line side -/

theorem toldOf_of_off {s : State} (hoff : s.pair.mode = .off) {line fid : Nat} {f : Frame} (hframe : frameOf s fid = some f)
    (hmay : mayTransmit s (64 + line) = true) (hlate : f.early = false) : lineOut line fid [] s =
      if f.bypass then
        if mayTransmit (scCount (line / 8) 1 (takeOutNo (64 + line) s).2) (64 + line) then
          startTx (64 + line) { fid, outNo := nextOutNo (64 + line) s } (scCount (line / 8) 1 (takeOutNo (64 + line) s).2)
        else discard fid (portCount (64 + line) 12 (scCount (line / 8) 1 (takeOutNo (64 + line) s).2))
      else
        match txChecks line f.txSc s with
        | (.drop, s) => dropOut (64 + line) fid f false s
        | (.go c n a, t) => encryptOut fid line (nextOutNo (64 + line) s) f c n a (takeOutNo (64 + line) t).2 := by
  have hfollows := pairFollows_of_off hoff
  have hearly (sc : Option Nat) (u : State) : logEarly (64 + line) f sc u = u := logEarly_of_late hlate _ _ u
  simp only [lineOut, hfollows, Bool.false_eq_true, if_false, applyUpsets, List.foldl_nil, hframe, Option.isSome_none, hmay, Bool.not_true,
    Bool.false_and, hearly]
  rfl

theorem exec_leFrameHead {line fid : Nat} {v : Port} {f : Frame} {rest : List Nat} {s : State} (h : HeadOut (64 + line) v fid f rest s)
    (hline : line < 64) : exec (.leFrameHead line [] false) s =
      .next (serveRekeyDue (lineOut line fid [] (takeOut (64 + line) true s))) := by
  have hexec : execLeFrameHead line [] false s = .next (if line < 64 then
      match nextOut s (64 + line) with
      | none => s
      | some (fid, express) =>
        if express && false then breakExpress (64 + line) s
        else serveRekeyDue (lineOut line fid [] (takeOut (64 + line) express s))
      else s) := act_of_live h.live _
  rw [if_pos hline, nextOut_of_headOut h] at hexec
  exact hexec

theorem lineOut_of_bypass {line fid : Nat} {v : Port} {f : Frame} {rest : List Nat} {s : State} (h : HeadOut (64 + line) v fid f rest s)
    (hbypass : f.bypass = true) : lineOut line fid [] (takeOut (64 + line) true s) =
      startTx (64 + line) { fid, outNo := nextOutNo (64 + line) s }
        (scCount (line / 8) 1 (takeOutNo (64 + line) (takeOut (64 + line) true s)).2) := by
  have hmay : mayTransmit (scCount (line / 8) 1 (takeOutNo (64 + line) (takeOut (64 + line) true s)).2) (64 + line) = true :=
    (mayTransmit_of_passing (passing_countBy ..) _).trans h.may
  have hout := toldOf_of_off (s := takeOut (64 + line) true s) (line := line) (fid := fid) h.off h.frame h.may h.late
  rw [if_pos hbypass, if_pos hmay] at hout
  exact hout

theorem assignPn_of_untold {sc n : Nat} {a : Sa} {s : State} (h : a.nextPn ≠ a.low) :
    assignPn sc n a s = setSa n { a with nextPn := a.nextPn + 1, thresholdTold := a.thresholdTold || false } s := by
  have hlow : (a.nextPn == a.low) = false := by simpa using h
  simp only [assignPn, hlow, Bool.false_and, Bool.false_eq_true, if_false]

/-- The transmission of a frame sealed under an SA (R150, R157). -/
def sealedTx (fid outNo : Nat) (f : Frame) (c : Sc) (n : Nat) (a : Sa) : Tx :=
  { fid, sa := some n, key := a.key, iv := cipherIv c a a.nextPn, co := coBytes c.co
    tag := makeSecTag c a.an a.nextPn (f.raw.length - 12 - 4 * clearTags c f.raw), clear := clearTags c f.raw, outNo }

theorem encryptOut_of_whole {line fid outNo n : Nat} {f : Frame} {c : Sc} {a : Sa} {s : State} (h : QueueLeft (64 + line) fid f s)
    (hmay : mayTransmit s (64 + line) = true) (hlow : a.nextPn ≠ a.low) : encryptOut fid line outNo f c n a s =
      startTx (64 + line) (sealedTx fid outNo f c n a)
        (setSa n { a with nextPn := a.nextPn + 1, thresholdTold := a.thresholdTold || false } s) := by
  have hmay' : mayTransmit (setSa n { a with nextPn := a.nextPn + 1, thresholdTold := a.thresholdTold || false } s) (64 + line) = true := hmay
  have hraw (u : State) : frameData u f = f.raw := by simp only [frameData, h.source]
  have hwhole (u : State) : wholeAt u f = true := by simp only [wholeAt, h.source, h.stored]
  simp only [encryptOut, assignPn_of_untold hlow, hmay', if_true, hraw, hwhole, sealedTx]

theorem lineOut_of_sealed {line fid n : Nat} {v : Port} {f : Frame} {rest : List Nat} {c : Sc} {a : Sa} {s : State}
    (h : HeadOut (64 + line) v fid f rest s) (hbypass : f.bypass = false)
    (hchecks : txChecks line f.txSc (takeOut (64 + line) true s) = (.go c n a, takeOut (64 + line) true s)) (hlow : a.nextPn ≠ a.low) :
    lineOut line fid [] (takeOut (64 + line) true s) =
      startTx (64 + line) (sealedTx fid (nextOutNo (64 + line) s) f c n a)
        (setSa n { a with nextPn := a.nextPn + 1, thresholdTold := a.thresholdTold || false }
          (takeOutNo (64 + line) (takeOut (64 + line) true s)).2) := by
  have hout := toldOf_of_off (s := takeOut (64 + line) true s) (line := line) (fid := fid) h.off h.frame h.may h.late
  rw [if_neg (by simp [hbypass]), hchecks] at hout
  exact hout.trans (encryptOut_of_whole ((queueLeft_takeOut h).takeOutNo _) h.may hlow)

theorem rekeyDue_of_leftPort {p fid : Nat} {data : Bytes} {stomped : Bool} {s t : State} (h : LeftPort p fid data stomped s t)
    (hnone : s.channels.rekeyDue = []) : serveRekeyDue t = t := serveRekeyDue_of_none (h.rekeys.trans hnone)

/-- A missing word stomps the frame in transmission (R289). -/
theorem leftPort_underrun {p : Nat} {v : Port} {x : Tx} {f : Frame} {s : State} (h : InTransmission p v x f s) :
    LeftPort p x.fid (leavingData x f) true s (stompTx p (fabOutCount (outputOf p) 4 s)) := by
  have hcount : Passing s (fabOutCount (outputOf p) 4 s) := passing_countBy ..
  obtain ⟨w, hw, hloop⟩ := hcount.unlooped h.found h.loop
  have hegress : egressOf (fabOutCount (outputOf p) 4 s) p = egressOf s p := congrArg (fun y : Fabric => y.egress.get {} p) hcount.fabric
  have htx : (egressOf (fabOutCount (outputOf p) 4 s) p).tx = some x := by rw [hegress, h.tx]
  have hin : InTransmission p w x { f with stomp := true } (modFrame x.fid (fun f => { f with stomp := true }) (fabOutCount (outputOf p) 4 s)) := by
    refine ⟨hw, hloop, htx, (congrArg Egress.generated hegress).trans h.waits,
      frameOf_modFrame_same ((frameOf_of_fabric hcount.fabric _).trans h.frame) _, h.source, ?_, ?_⟩
    · have hrx := congrArg Fabric.rx hcount.fabric
      exact fun hfound => h.done (hrx ▸ hfound)
    · have hreg := hcount.regs 0xe010 (by decide)
      exact (congrArg (fun w : Word => bitOf w.toNat 2) hreg).trans h.plain
  have hleft := leftPort_finishTx hin
  have hstomp : stompTx p (fabOutCount (outputOf p) 4 s) =
      finishTx p (modFrame x.fid (fun f => { f with stomp := true }) (fabOutCount (outputOf p) 4 s)) := by simp only [stompTx, htx]
  obtain ⟨b, hb⟩ := hcount.out
  obtain ⟨c, d, hd⟩ := hleft.out
  rw [hstomp]
  refine ⟨hleft.gone, hleft.free, ⟨c, d ++ b, ?_⟩, fun n => (hleft.pns n).trans (hcount.pns n), hleft.rekeys.trans hcount.rekeys⟩
  rw [hd, List.append_assoc]
  exact congrArg (fun o => c ++ _ :: (d ++ o)) hb

/-! ## Host rings (R294 to R296) -/

theorem hostRing_of_fabric {s t : State} (h : t.fabric = s.fabric) (n : Nat) : hostRing t n = hostRing s n := by
  unfold hostRing
  rw [h]

theorem hostRing_setHostRing (n : Nat) (v : HostRing) (s : State) : hostRing (setHostRing n v s) n = v := by
  match n with
  | 0 => rfl
  | 1 => rfl
  | 2 => rfl
  | _ + 3 => rfl

/-- A ring written, and nothing else. -/
theorem setHostRing_rest (n : Nat) (v : HostRing) (s : State) : setHostRing n v s = { s with
    fabric := { s.fabric with ring0 := (setHostRing n v s).fabric.ring0, ring1 := (setHostRing n v s).fabric.ring1
                              ring2 := (setHostRing n v s).fabric.ring2, ring3 := (setHostRing n v s).fabric.ring3 } } := by
  unfold setHostRing
  split <;> rfl

theorem Unplaced.hostRing {s t : State} (h : Unplaced s t) (n : Nat) : hostRing t n = hostRing s n := by
  unfold Machine.hostRing
  rw [h.rest]

theorem chargeNode_rest (node length : Nat) (s : State) : chargeNode node length s = { s with sched := (chargeNode node length s).sched } := by
  have hset (h : Shaper) : setShaper node h s = { s with sched := (setShaper node h s).sched } := by
    unfold setShaper
    split_ifs <;> rfl
  have hrefile (u : State) : refile node u = { u with sched := (refile node u).sched } := by
    unfold refile
    split
    · dsimp only
      split_ifs <;> rfl
    · rfl
  unfold chargeNode
  split
  · rfl
  · rw [hrefile, hset]

/-- A ring's first frame is taken from its leaf and charged to it. -/
def hostTaken (leaf fid : Nat) (f : Frame) (s : State) : State :=
  schCount 128 4 (chargeNode (leafNode leaf) (f.raw.length + 4)
    (modLeaf leaf (fun l => { l with onDie := l.onDie.filter (· != fid) }) s))

theorem passing_withSched (x : Scheduling) (s : State) : Passing s { s with sched := x } :=
  ⟨rfl, rfl, rfl, fun _ _ => rfl, fun _ => rfl, fun _ => rfl, rfl, ⟨[], rfl⟩⟩

theorem passing_hostTaken (leaf fid : Nat) (f : Frame) (s : State) : Passing s (hostTaken leaf fid f s) := by
  have hcharged : Passing s (chargeNode (leafNode leaf) (f.raw.length + 4)
      (modLeaf leaf (fun l => { l with onDie := l.onDie.filter (· != fid) }) s)) := by
    rw [chargeNode_rest]
    exact passing_withSched ..
  unfold hostTaken schCount count
  exact hcharged.trans (passing_countBy ..)

theorem counter_hostTaken (leaf fid : Nat) (f : Frame) (s : State) : counter (hostTaken leaf fid f s) 0x5068 = counter s 0x5068 := by
  refine ((told_countBy ..).counters 0x5068 (by decide)).trans ((counter_plus_ne (by decide) ..).trans ?_)
  rw [chargeNode_rest]
  rfl

/-- A ring that takes the first frame of its leaf. -/
structure RingTakes (ring : Nat) (r : HostRing) (leaf : Nat) (l : Leaf) (fid : Nat) (f : Frame) (rest : List Nat) (s : State) : Prop where
  live : s.live = true
  off : s.pair.mode = .off
  lt : ring < 4
  state : r = hostRing s ring
  bound : leaf = regField s (ringCtrl ring) 12 17
  enabled : ringEnabled s ring = true
  runs : r.stopped = false
  ready : leafReady s leaf = true
  found : leafOf s leaf = some l
  first : l.onDie = fid :: rest
  frame : frameOf s fid = some f
  source : f.source = none
  done : s.fabric.rx.find f.ingress ≠ some fid
  open_ : tamperLock s = false

theorem exec_hostFrameDeliver {ring leaf fid : Nat} {r : HostRing} {l : Leaf} {f : Frame} {rest : List Nat} {s : State}
    (h : RingTakes ring r leaf l fid f rest s) (buf : Nat) : exec (.hostFrameDeliver ring buf true) s = .next (
      if r.tail = r.limit then discard fid (fabOutCount 17 5 (hostTaken leaf fid f s))
      else if 2 ^ regField s (ringCtrl ring) 8 4 < f.raw.length + 4 then discard fid (fabOutCount 17 6 (hostTaken leaf fid f s))
      else writeHostFrame ring buf fid f true (hostTaken leaf fid f s)) := by
  have hpass := passing_hostTaken leaf fid f s
  have hexec : execHostFrameDeliver ring buf true s = .next (if ring < 4 then deliverHost ring buf true s else s) := act_of_live h.live _
  have hsources : sourceOf (hostTaken leaf fid f s) = sourceOf s :=
    funext fun n => sourceOf_of_sources (congrArg Tamper.sources hpass.tamper) n
  have hlock : tamperLock (hostTaken leaf fid f s) = false := by
    have hopen := h.open_
    rw [tamperLock, tamperRank] at hopen ⊢
    rw [hsources]
    exact hopen
  have hctrl : regField (hostTaken leaf fid f s) (ringCtrl ring) 8 4 = regField s (ringCtrl ring) 8 4 := by
    have hreg := hpass.regs (ringCtrl ring) (by
      have hlt := h.lt
      unfold isReportReg ringCtrl
      rw [decide_eq_false (by omega)]
      rfl)
    rw [regField, hreg]
    rfl
  have hdeliver : deliverHost ring buf true s = (
      if r.tail = r.limit then discard fid (fabOutCount 17 5 (hostTaken leaf fid f s))
      else if 2 ^ regField s (ringCtrl ring) 8 4 < f.raw.length + 4 then discard fid (fabOutCount 17 6 (hostTaken leaf fid f s))
      else writeHostFrame ring buf fid f true (hostTaken leaf fid f s)) := by
    rw [← hctrl]
    unfold hostTaken at hlock ⊢
    simp only [deliverHost, ← h.state, ← h.bound, h.enabled, h.runs, pairFollows_of_off h.off, h.ready, h.found, h.first, h.frame, hlock,
      Bool.not_true, Bool.or_self, Bool.false_eq_true, if_false]
  rw [if_pos h.lt, hdeliver] at hexec
  exact hexec

/-- A frame discarded after it was taken and counted: its record is gone, and the rings, registers and counters are as counting left them. -/
theorem hostDropped {leaf fid ring : Nat} {f : Frame} {r : HostRing} {l : Leaf} {rest : List Nat} {s t : State}
    (h : RingTakes ring r leaf l fid f rest s) (k : Passing (hostTaken leaf fid f s) t) :
    Removed fid t (discard fid t) ∧ hostRing (discard fid t) ring = r := by
  have hpass := (passing_hostTaken leaf fid f s).trans k
  have hremoved := removed_discard ((frameOf_of_fabric hpass.fabric fid).trans h.frame) h.source (by rw [hpass.fabric]; exact h.done)
  refine ⟨hremoved, ?_⟩
  rw [hremoved.toUnplaced.hostRing, hostRing_of_fabric hpass.fabric, h.state]

theorem told_tellHostFrames (ring k : Nat) (s : State) :
    Told (setHostRing ring { hostRing s ring with windowCount := 0, windowRuns := true } s) (tellHostFrames ring k s) :=
  (Told.refl _).post ..

/-- What a ring holds after a frame is written to it (R295). -/
def HostRing.advanced (r : HostRing) (size : Nat) : HostRing :=
  { r with tail := (r.tail + 1) % size, phase := if (r.tail + 1) % size = 0 then !r.phase else r.phase, windowCount := r.windowCount + 1 }

/-- The frame and its descriptor written to host memory. -/
def hostWritten (ring buf : Nat) (f : Frame) (r : HostRing) (s : State) : State :=
  emit (.busWrite (busBase s (0x4100 + 0x20 * ring) + 32 * r.tail + 8) (descriptor f r.phase)) (emit (.busWrite buf (f.raw ++ fcsBytes f.raw)) s)

/-- The state in which a ring's frame has been written, counted and discarded. -/
def hostAdvanced (ring buf fid : Nat) (f : Frame) (r : HostRing) (size : Nat) (s : State) : State :=
  discard fid (fabOutCount 17 7 (setHostRing ring (r.advanced size) (hostWritten ring buf f r s)))

theorem writeHostFrame_eq {ring buf fid : Nat} {f : Frame} {r : HostRing} {s : State} (h : hostRing s ring = r) :
    writeHostFrame ring buf fid f true s =
      (let t := hostAdvanced ring buf fid f r (2 ^ regField s (ringCtrl ring) 4 4) s
       if (hostRing t ring).windowRuns then t else tellHostFrames ring 1 t) := by
  subst h
  rfl

/-- What a delivery leaves: the frame is gone, the ring has moved on and its window runs, and host memory has the frame and its descriptor. -/
structure Delivered (ring buf fid : Nat) (f : Frame) (r : HostRing) (size : Nat) (base : Nat) (s t : State) : Prop where
  gone : frameOf t fid = none
  ring : ∃ q, hostRing t ring = q ∧ q.tail = (r.tail + 1) % size ∧ q.limit = r.limit ∧ q.phase = (if q.tail = 0 then !r.phase else r.phase) ∧
    q.windowRuns = true
  out : ∃ a b, t.out = a ++ .busWrite (base + 32 * r.tail + 8) (descriptor f r.phase) :: .busWrite buf (f.raw ++ fcsBytes f.raw) :: (b ++ s.out)

theorem delivered_of_window {ring buf fid size : Nat} {f : Frame} {r : HostRing} {s t : State} {base : Nat} (hgone : frameOf t fid = none)
    (hring : hostRing t ring = r.advanced size)
    (hout : ∃ a b, t.out = a ++ .busWrite (base + 32 * r.tail + 8) (descriptor f r.phase) :: .busWrite buf (f.raw ++ fcsBytes f.raw) :: (b ++ s.out)) :
    Delivered ring buf fid f r size base s (if (hostRing t ring).windowRuns then t else tellHostFrames ring 1 t) := by
  cases hruns : (hostRing t ring).windowRuns with
  | true =>
    rw [if_pos rfl]
    refine ⟨hgone, ⟨_, rfl, ?_⟩, hout⟩
    rw [hring] at hruns ⊢
    exact ⟨rfl, rfl, rfl, hruns⟩
  | false =>
    rw [if_neg Bool.false_ne_true]
    have htold := told_tellHostFrames ring 1 t
    have hset := setHostRing_rest ring { hostRing t ring with windowCount := 0, windowRuns := true } t
    refine ⟨?_, ⟨_, rfl, ?_⟩, ?_⟩
    · rw [frameOf_of_fabric htold.fabric, hset]
      exact hgone
    · rw [hostRing_of_fabric htold.fabric, hostRing_setHostRing, hring]
      exact ⟨rfl, rfl, rfl, rfl⟩
    · obtain ⟨os, hos⟩ := htold.out
      obtain ⟨a, b, hab⟩ := hout
      refine ⟨os ++ a, b, ?_⟩
      rw [hos, hset, List.append_assoc]
      exact congrArg (os ++ ·) hab


theorem ringCtrl_unreported {ring : Nat} (h : ring < 4) : isReportReg (ringCtrl ring) = false := by
  unfold isReportReg ringCtrl
  rw [decide_eq_false (by omega)]
  rfl

theorem ringBase_unreported {ring : Nat} (h : ring < 4) (k : Nat) (hk : k < 8) : isReportReg (0x4100 + 0x20 * ring + k) = false := by
  unfold isReportReg
  rw [decide_eq_false (by omega)]
  rfl

theorem busBase_of_regs {s t : State} {lo : Nat} (h : reg t lo = reg s lo) (k : reg t (lo + 4) = reg s (lo + 4)) : busBase t lo = busBase s lo := by
  rw [busBase, busBase, h, k]

/-- The frame taken, counted, written with its descriptor and discarded (R295). -/
theorem delivered_hostFrame {ring buf leaf fid : Nat} {r : HostRing} {l : Leaf} {f : Frame} {rest : List Nat} {s : State}
    (h : RingTakes ring r leaf l fid f rest s) : Delivered ring buf fid f r (2 ^ regField s (ringCtrl ring) 4 4) (busBase s (0x4100 + 0x20 * ring)) s
      (writeHostFrame ring buf fid f true (hostTaken leaf fid f s)) := by
  have htaken := passing_hostTaken leaf fid f s
  have hring : hostRing (hostTaken leaf fid f s) ring = r := (hostRing_of_fabric htaken.fabric ring).trans h.state.symm
  have hctrl : regField (hostTaken leaf fid f s) (ringCtrl ring) 4 4 = regField s (ringCtrl ring) 4 4 := by
    rw [regField, htaken.regs _ (ringCtrl_unreported h.lt)]
    rfl
  have hbase : busBase (hostTaken leaf fid f s) (0x4100 + 0x20 * ring) = busBase s (0x4100 + 0x20 * ring) :=
    busBase_of_regs (htaken.regs _ (ringBase_unreported h.lt 0 (by decide))) (htaken.regs _ (ringBase_unreported h.lt 4 (by decide)))
  rw [writeHostFrame_eq hring, hctrl]
  generalize hsize : 2 ^ regField s (ringCtrl ring) 4 4 = size
  have hset := setHostRing_rest ring (r.advanced size) (hostWritten ring buf f r (hostTaken leaf fid f s))
  have hcount : Passing _ (fabOutCount 17 7 (setHostRing ring (r.advanced size) (hostWritten ring buf f r (hostTaken leaf fid f s)))) :=
    passing_fabOutCount ..
  have hrx : (setHostRing ring (r.advanced size) (hostWritten ring buf f r (hostTaken leaf fid f s))).fabric.rx = s.fabric.rx := by
    have hsame := congrArg (fun y : Fabric => y.rx) htaken.fabric
    rw [hset]
    exact hsame
  have hframe : frameOf (setHostRing ring (r.advanced size) (hostWritten ring buf f r (hostTaken leaf fid f s))) fid = some f := by
    have hsame := (frameOf_of_fabric htaken.fabric fid).trans h.frame
    rw [hset]
    exact hsame
  have hremoved := removed_discard ((frameOf_of_fabric hcount.fabric fid).trans hframe) h.source
    (by rw [hcount.fabric, hrx]; exact h.done)
  refine delivered_of_window hremoved.gone ?_ ?_
  · refine (hremoved.toUnplaced.hostRing ring).trans ((hostRing_of_fabric hcount.fabric ring).trans ?_)
    exact hostRing_setHostRing ..
  · obtain ⟨a, ha⟩ := hcount.out
    obtain ⟨b, hb⟩ := htaken.out
    refine ⟨a, b, ?_⟩
    rw [hostAdvanced, hremoved.rest]
    refine ha.trans (congrArg (a ++ ·) ?_)
    rw [hset, ← hbase]
    exact congrArg (fun o => Output.busWrite _ _ :: Output.busWrite _ _ :: o) hb

/-- With no descriptor ready the frame is dropped and counted (R296). -/
theorem dropped_hostFrame {ring leaf fid : Nat} {r : HostRing} {l : Leaf} {f : Frame} {rest : List Nat} {s : State}
    (h : RingTakes ring r leaf l fid f rest s) :
    frameOf (discard fid (fabOutCount 17 5 (hostTaken leaf fid f s))) fid = none ∧
      hostRing (discard fid (fabOutCount 17 5 (hostTaken leaf fid f s))) ring = r ∧
      counter (discard fid (fabOutCount 17 5 (hostTaken leaf fid f s))) 0x5068 = counter s 0x5068 + 1 := by
  obtain ⟨hremoved, hring⟩ := hostDropped (t := fabOutCount 17 5 (hostTaken leaf fid f s)) h (passing_fabOutCount ..)
  refine ⟨hremoved.gone, hring, ?_⟩
  have hcounter : counter (fabOutCount 17 5 (hostTaken leaf fid f s)) 0x5068 = counter (hostTaken leaf fid f s) 0x5068 + 1 :=
    ((told_countBy ..).counters 0x5068 (by decide)).trans (counter_plus_same ..)
  rw [hremoved.rest]
  exact hcounter.trans (by rw [counter_hostTaken])

theorem exec_fabHostFramesWindow {ring : Nat} {s : State} (hlive : s.live = true) (hlt : ring < 4) (hruns : (hostRing s ring).windowRuns = true) :
    exec (.fabHostFramesWindow ring) s = .next (
      if (hostRing s ring).windowCount = 0 then setHostRing ring { hostRing s ring with windowRuns := false } s
      else tellHostFrames ring (hostRing s ring).windowCount s) := by
  refine (act_of_live hlive _).trans (congrArg _ ?_)
  simp only [hlt, decide_true, hruns, Bool.and_self, if_true]

theorem told_tellHostFrames_running {ring : Nat} {s : State} (hruns : (hostRing s ring).windowRuns = true) (k : Nat) :
    Told (setHostRing ring { hostRing s ring with windowCount := 0 } s) (tellHostFrames ring k s) := by
  have hring : { hostRing s ring with windowCount := 0, windowRuns := true } = ({ hostRing s ring with windowCount := 0 } : HostRing) := by
    rw [← hruns]
  exact hring ▸ told_tellHostFrames ring k s

/-! ## The obligation -/

/-- What the statement says of a frame that has left. -/
theorem LeftPort.left {p fid : Nat} {data : Bytes} {stomped : Bool} {s u t : State} (h : LeftPort p fid data stomped u t)
    (hout : ∃ b, u.out = b ++ s.out) : frameOf t fid = none ∧ (egressOf t p).tx = none ∧
      ∃ a b, t.out = a ++ .frame p data stomped false :: (b ++ s.out) := by
  obtain ⟨a, b, hab⟩ := h.out
  obtain ⟨c, hc⟩ := hout
  exact ⟨h.gone, h.free, a, b ++ c, by rw [hab, hc, List.append_assoc]⟩

theorem clientLeft {p fid : Nat} {v : Port} {f : Frame} {rest : List Nat} {s : State} (h : HeadOut p v fid f rest s) :
    LeftPort p fid f.raw f.stomp (takeOutNo p (takeOut p true s)).2 (startTx p { fid, outNo := nextOutNo p s } (takeOutNo p (takeOut p true s)).2) :=
  leftPort_startTx ((queueLeft_takeOut h).takeOutNo p) { fid, outNo := nextOutNo p s } rfl

theorem bypassLeft {line fid : Nat} {v : Port} {f : Frame} {rest : List Nat} {s : State} (h : HeadOut (64 + line) v fid f rest s)
    (hline : line < 64) (hbypass : f.bypass = true) : Gives (exec (.leFrameHead line [] false) s) (fun t => frameOf t fid = none ∧
      (egressOf t (64 + line)).tx = none ∧ ∃ a b, t.out = a ++ .frame (64 + line) f.raw f.stomp false :: (b ++ s.out)) := by
  have hcount : Passing (takeOutNo (64 + line) (takeOut (64 + line) true s)).2
      (scCount (line / 8) 1 (takeOutNo (64 + line) (takeOut (64 + line) true s)).2) := passing_countBy ..
  have hleft := leftPort_startTx (((queueLeft_takeOut h).takeOutNo (64 + line)).passing hcount) { fid, outNo := nextOutNo (64 + line) s } rfl
  refine ⟨_, exec_leFrameHead h hline, ?_⟩
  rw [lineOut_of_bypass h hbypass, rekeyDue_of_leftPort hleft (hcount.rekeys.trans h.rekeys)]
  exact hleft.left hcount.out

theorem sealedLeft {line fid n : Nat} {v : Port} {f : Frame} {rest : List Nat} {c : Sc} {a : Sa} {s : State}
    (h : HeadOut (64 + line) v fid f rest s) (hline : line < 64) (hbypass : f.bypass = false)
    (hchecks : txChecks line f.txSc (takeOut (64 + line) true s) = (.go c n a, takeOut (64 + line) true s)) (hlow : a.nextPn ≠ a.low) :
    Gives (exec (.leFrameHead line [] false) s) (fun t => (frameOf t fid = none ∧ (egressOf t (64 + line)).tx = none ∧
      ∃ p b, t.out = p ++ .frame (64 + line) (leavingData (sealedTx fid (nextOutNo (64 + line) s) f c n a) f) f.stomp false :: (b ++ s.out)) ∧
      ∃ b, saOf t n = some b ∧ b.nextPn = a.nextPn + 1) := by
  have hleft := leftPort_startTx (((queueLeft_takeOut h).takeOutNo (64 + line)).setSa n
    { a with nextPn := a.nextPn + 1, thresholdTold := a.thresholdTold || false }) (sealedTx fid (nextOutNo (64 + line) s) f c n a) rfl
  refine ⟨_, exec_leFrameHead h hline, ?_⟩
  rw [lineOut_of_sealed h hbypass hchecks hlow, rekeyDue_of_leftPort hleft h.rekeys]
  refine ⟨hleft.left ⟨[], rfl⟩, ?_⟩
  have hpn := hleft.pns n
  rw [show saOf (setSa n _ _) n = some _ from Table.find_set_same ..] at hpn
  exact Option.map_eq_some_iff.mp hpn

theorem underrunLeft {p : Nat} {v : Port} {x : Tx} {f : Frame} {s : State} (hlive : s.live = true) (h : InTransmission p v x f s)
    (hplain : x.sa = none) : Gives (exec (.expressUnderrun p) s) (fun t => frameOf t x.fid = none ∧ (egressOf t p).tx = none ∧
      ∃ a b, t.out = a ++ .frame p f.raw true false :: (b ++ s.out)) := by
  have hleft := leftPort_underrun h
  have hdata : leavingData x f = f.raw := by rw [leavingData, hplain]
  refine ⟨_, act_of_live hlive _, ?_⟩
  rw [if_pos (by rw [h.tx]; rfl)]
  rw [hdata] at hleft
  exact hleft.left ⟨[], rfl⟩

/-- Settles O48: a head or an underrun takes the frame through the end of its transmission, and a ring through one of its three outcomes. -/
theorem framesSent : Obligations.FramesSent := by
  unfold Obligations.FramesSent
  intro s hlive hoff hplain hrekeys
  refine ⟨?_, ?_, ?_⟩
  · intro P v e fid f rest u hport hloop hmay he hqueue htx hwaits hframe hstored hsource hlate hdone hu
    subst he hu
    have h : HeadOut P v fid f rest s :=
      ⟨hlive, hoff, hplain, hrekeys, hport, hloop, hmay, hqueue, htx, hwaits, hframe, hstored, hsource, hlate, hdone⟩
    refine ⟨fun hclient hlock => ⟨_, exec_ceFrameHead h hclient hlock, (clientLeft h).left ⟨[], rfl⟩⟩, fun hline hlt hbypass => ?_,
      fun c n a clear hline hlt hbypass hchecks hlow hclear => ?_⟩
    · obtain ⟨line, rfl⟩ := Nat.exists_eq_add_of_le hline
      rw [Nat.add_sub_cancel_left]
      exact bypassLeft h (by omega) hbypass
    · obtain ⟨line, rfl⟩ := Nat.exists_eq_add_of_le hline
      rw [Nat.add_sub_cancel_left] at hchecks ⊢
      rw [hclear]
      exact sealedLeft h (by omega) hbypass hchecks hlow
  · intro P v x f hport hloop htx hwaits hsa hframe hsource hdone
    exact underrunLeft hlive ⟨hport, hloop, htx, hwaits, hframe, hsource, hdone, hplain⟩ hsa
  · intro ring r hlt hr
    refine ⟨?_, fun hruns hzero => ?_, fun hruns hsome => ?_⟩
    · intro leaf l fid f rest buf hleaf henabled hrun hready hl hfirst hframe hsource hdone hlock
      have h : RingTakes ring r leaf l fid f rest s :=
        ⟨hlive, hoff, hlt, hr, hleaf, henabled, hrun, hready, hl, hfirst, hframe, hsource, hdone, hlock⟩
      refine ⟨fun hfull => ⟨_, exec_hostFrameDeliver h buf, ?_⟩, fun hroom hfits => ⟨_, exec_hostFrameDeliver h buf, ?_⟩⟩
      · rw [if_pos hfull]
        exact dropped_hostFrame h
      · rw [if_neg hroom, if_neg (by omega)]
        obtain ⟨hgone, hring, hout⟩ := delivered_hostFrame (buf := buf) h
        exact ⟨hgone, hring, hout⟩
    · subst hr
      rw [exec_fabHostFramesWindow hlive hlt hruns, if_pos hzero]
    · subst hr
      exact ⟨_, exec_fabHostFramesWindow hlive hlt hruns, by rw [if_neg hsome]; exact told_tellHostFrames_running hruns _⟩

end Sys2Proof.Machine
end

section
/-!
PROOFS. The fabric's registers, rings, audits and commands (09_fabric_and_buffers R293, R297 to R302).
-/
namespace Sys2Proof.Machine

open Sys2Proof

/-! ## Multicast entries (R293, R300, R301) -/

theorem actGated_of_live {addr : Nat} {s : State} (hlive : s.live = true) (hallow : GateAllows s 0 addr true) (body : State → State) :
    act (gatedWrite addr body) s = .next (body s) :=
  (act_of_live hlive _).trans (congrArg _ (gated_of_allows hallow body))

theorem exec_fabMcRead_member {s : State} {w : Word} (hlive : s.live = true) (hallow : GateAllows s 0 0x4050 true) (htable : mcTable w = true)
    (hsound : (memberOf s (mcIndex w)).parityFailed = false) : exec (.fabMcRead w false) s =
      .next (mcDone w 0 (setMcData ((memberOf s (mcIndex w)).data + b2n (memberInUse s (mcIndex w)) * 2 ^ 55) s)) := by
  refine (actGated_of_live hlive hallow _).trans (congrArg _ ?_)
  simp only [mcRead, htable, if_true, Bool.false_eq_true, if_false, hsound]

theorem exec_fabMcRead_group {s : State} {w : Word} (hlive : s.live = true) (hallow : GateAllows s 0 0x4050 true) (htable : mcTable w = false)
    (hlt : mcIndex w < 8192) (hsound : (groupOf s (mcIndex w)).parityFailed = false) : exec (.fabMcRead w false) s =
      .next (mcDone w 0 (setReg 0x4054 (BitVec.ofNat 32 (groupOf s (mcIndex w)).data) s)) := by
  refine (actGated_of_live hlive hallow _).trans (congrArg _ ?_)
  simp only [mcRead, htable, Bool.false_eq_true, if_false, hsound, Nat.not_le.mpr hlt]

theorem exec_fabMcWrite_member {s : State} {w : Word} (hlive : s.live = true) (hallow : GateAllows s 0 0x4050 true) (htable : mcTable w = true) :
    exec (.fabMcWrite w) s = .next (if memberInUse s (mcIndex w) then mcDone w 2 s else
      mcDone w 0 (markDirty 1 (7 * 2 ^ 24 + mcIndex w) (setMember (mcIndex w)
        { data := ((reg s 0x4054).toNat + 2 ^ 32 * (reg s 0x4058).toNat) &&& memberMask } s))) := by
  refine (actGated_of_live hlive hallow _).trans (congrArg _ ?_)
  simp only [mcWrite, htable, if_true]

/-- A group's fields are below the bits that are reserved. -/
theorem groupFields_masked (d : Nat) : groupValid (d % 2 ^ 24) = groupValid d ∧ groupCount (d % 2 ^ 24) = groupCount d ∧
    groupFirst (d % 2 ^ 24) = groupFirst d := by
  refine ⟨?_, ?_, ?_⟩
  · simp only [groupValid, bitOf]
    rw [show d % 2 ^ 24 / 2 ^ 23 % 2 = d / 2 ^ 23 % 2 by omega]
  · simp only [groupCount, bitsOf]
    omega
  · simp only [groupFirst, bitsOf]
    omega

theorem exec_fabMcWrite_group {s : State} {w : Word} {d : Nat} (hlive : s.live = true) (hallow : GateAllows s 0 0x4050 true)
    (hd : d = (reg s 0x4054).toNat + 2 ^ 32 * (reg s 0x4058).toNat) (htable : mcTable w = false) (hlt : mcIndex w < 8192)
    (hfree : groupValid (groupOf s (mcIndex w)).data = false) (hlow : 1 ≤ groupCount d) (hhigh : groupCount d ≤ 64)
    (hrange : groupFirst d + groupCount d ≤ 65536) : exec (.fabMcWrite w) s =
      .next (mcDone w 0 (markDirty 1 (6 * 2 ^ 24 + mcIndex w) (setGroup (mcIndex w) { data := d % 2 ^ 24 } s))) := by
  obtain ⟨hvalid, hcount, hfirst⟩ := groupFields_masked d
  have hmask : d &&& groupMask = d % 2 ^ 24 := Nat.and_two_pow_sub_one_eq_mod d 24
  have hbad : (decide (8192 ≤ mcIndex w) || (groupValid (d % 2 ^ 24) && (groupCount (d % 2 ^ 24) == 0 || decide (64 < groupCount (d % 2 ^ 24)) ||
      decide (65536 < groupFirst (d % 2 ^ 24) + groupCount (d % 2 ^ 24))))) = false := by
    rw [hcount, hfirst, decide_eq_false (Nat.not_le.mpr hlt), decide_eq_false (Nat.not_lt.mpr hhigh), decide_eq_false (Nat.not_lt.mpr hrange),
      beq_eq_false_iff_ne.mpr (by omega)]
    simp
  refine (actGated_of_live hlive hallow _).trans (congrArg _ ?_)
  simp only [mcWrite, htable, ← hd, hmask, hbad, hfree, Bool.false_eq_true, if_false, List.filter_nil, List.append_nil]

theorem told_failMc_member {m : Nat} {s : State} (h : (memberOf s m).parityFailed = false) (how : Nat) :
    Told (setMember m { memberOf s m with parityFailed := true } s) (failMc true m how s) := by
  simp only [failMc, if_true, h, Bool.false_eq_true, if_false]
  exact (Told.refl _).raiseHeld ..

theorem told_failMc_group {m : Nat} {s : State} (h : (groupOf s m).parityFailed = false) (how : Nat) :
    Told (setGroup m { groupOf s m with parityFailed := true } s) (failMc false m how s) := by
  simp only [failMc, h, Bool.false_eq_true, if_false]
  exact (Told.refl _).raiseHeld ..

theorem gives_mcScrub_member {m : Nat} {s : State} (hlive : s.live = true) (hup : s.watchdog.hk.up = true)
    (h : (memberOf s m).parityFailed = false) :
    Gives (exec (.mcScrub [(true, m)]) s) (Told (setMember m { memberOf s m with parityFailed := true } s)) := by
  refine ⟨_, act_of_live hlive _, ?_⟩
  simp only [hkUp, hup, if_true, List.foldl_cons, List.foldl_nil, Bool.true_or]
  exact told_failMc_member h 1

theorem gives_mcScrub_group {m : Nat} {s : State} (hlive : s.live = true) (hup : s.watchdog.hk.up = true) (hlt : m < 8192)
    (h : (groupOf s m).parityFailed = false) :
    Gives (exec (.mcScrub [(false, m)]) s) (Told (setGroup m { groupOf s m with parityFailed := true } s)) := by
  refine ⟨_, act_of_live hlive _, ?_⟩
  simp only [hkUp, hup, if_true, List.foldl_cons, List.foldl_nil, Bool.false_or, decide_eq_true hlt]
  exact told_failMc_group h 1

theorem gives_mcParityRestore_member {m : Nat} {s : State} (hlive : s.live = true) (hup : s.watchdog.hk.up = true)
    (h : (memberOf s m).parityFailed = true) (copy : Bool) : Gives (exec (.mcParityRestore true m copy) s) (Told (
      if copy then setMember m { memberOf s m with parityFailed := false } s else s)) := by
  refine ⟨_, act_of_live hlive _, ?_⟩
  cases copy <;> simp only [mcRestore, hkUp, hup, h, Bool.not_true, Bool.not_false, Bool.or_self, Bool.false_eq_true, if_false, if_true] <;>
    exact (Told.refl _).raiseHeld ..

theorem gives_mcParityRestore_group {m : Nat} {s : State} (hlive : s.live = true) (hup : s.watchdog.hk.up = true)
    (h : (groupOf s m).parityFailed = true) (copy : Bool) : Gives (exec (.mcParityRestore false m copy) s) (Told (
      if copy then setGroup m { groupOf s m with parityFailed := false } s else s)) := by
  refine ⟨_, act_of_live hlive _, ?_⟩
  cases copy <;> simp only [mcRestore, hkUp, hup, h, Bool.not_true, Bool.not_false, Bool.or_self, Bool.false_eq_true, if_false, if_true] <;>
    exact (Told.refl _).raiseHeld ..

theorem exec_memberInUseClear {s : State} (hlive : s.live = true) (m : Nat) : exec (.memberInUseClear m) s =
    .next { s with fabric := { s.fabric with clearing := s.fabric.clearing.filter (· != m) } } :=
  act_of_live hlive fun t => { t with fabric := { t.fabric with clearing := t.fabric.clearing.filter (· != m) } }

/-! ## Host rings (R302) -/

/-- What FAB_HRn_CTRL keeps of its value and a write, ENABLE apart. -/
def ringKept (s : State) (n : Nat) (w : Word) : Word := (w &&& 0x1ffffff2) ||| (reg s (ringCtrl n) &&& ~~~w &&& 0xc)

theorem ringBits_enabled (s : State) (n : Nat) (w : Word) : ringBits s n w true = ringKept s n w ||| 1 := rfl

theorem ringBits_disabled (s : State) (n : Nat) (w : Word) : ringBits s n w false = ringKept s n w := BitVec.or_zero

theorem exec_fabHrEnable {n : Nat} {w : Word} {s : State} (hlive : s.live = true) (hlt : n < 4) (hallow : GateAllows s 0 (ringCtrl n) true)
    (hoff : ringEnabled s n = false) : exec (.fabHrEnable n w) s = .next (
      if ringValid s n w then setHostRing n { hostRing s n with tail := 0, limit := 0, phase := true, stopped := false }
        (setReg (ringCtrl n) (ringKept s n w ||| 1) s)
      else setReg (ringCtrl n) (ringKept s n w ||| 8) s) := by
  refine (act_of_live hlive _).trans (congrArg _ ?_)
  rw [if_pos hlt, gatedWrite, gated_of_allows hallow, ringEnable, if_neg (by simp [hoff]), ringBits_enabled, ringBits_disabled]

theorem exec_fabHrDisable {n : Nat} {w : Word} {l : Leaf} {s : State} (hlive : s.live = true) (hlt : n < 4)
    (hallow : GateAllows s 0 (ringCtrl n) true) (hleaf : leafOf s (regField s (ringCtrl n) 12 17) = some l) (hempty : l.onDie = []) :
    exec (.fabHrDisable n w) s = .next (setReg (ringCtrl n) (ringKept s n w) s) := by
  have hleaf' : leafOf (setReg (ringCtrl n) (ringKept s n w) s) (regField s (ringCtrl n) 12 17) = some l := hleaf
  refine (act_of_live hlive _).trans (congrArg _ ?_)
  rw [if_pos hlt, gatedWrite, gated_of_allows hallow]
  simp only [ringDisable, ringBits_disabled, hleaf', hempty, List.foldl_nil, ite_self]

theorem exec_fabHrLimitWrite {n : Nat} {w : Word} {s : State} (hlive : s.live = true) (hlt : n < 4)
    (hallow : GateAllows s 0 (ringCtrl n + 4) true) : exec (.fabHrLimitWrite n w) s =
      .next (setHostRing n { hostRing s n with limit := w.toNat % 4096 } s) := by
  have hlimit : bitsOf w.toNat 0 12 = w.toNat % 4096 := by simp [bitsOf]
  refine (act_of_live hlive _).trans (congrArg _ ?_)
  rw [if_pos hlt, gatedWrite, gated_of_allows hallow, ringLimit, hlimit]

/-! ## Audits (R297, R299) -/

/-- The counters of the audits and of the lost cells are none of those that PMC slots follow. -/
theorem fabDevCount_plus {i : Nat} (hi : i < 4) (n : Nat) (s : State) : fabDevCount i n s = State.plus (0x4200 + 8 * i) n s := by
  refine countBy_uncounted ?_ n s
  unfold pmcOfCounter
  simp only [if_neg (show ¬(0x200 ≤ 0x4200 + 8 * i ∧ 0x4200 + 8 * i < 0xa00) by omega),
    if_neg (show ¬(0x1000 ≤ 0x4200 + 8 * i ∧ 0x4200 + 8 * i < 0x1800) by omega),
    if_neg (show ¬(0x2100 ≤ 0x4200 + 8 * i ∧ 0x4200 + 8 * i < 0x2180) by omega),
    if_neg (show ¬(0x4c00 ≤ 0x4200 + 8 * i ∧ 0x4200 + 8 * i < 0x5080) by omega),
    if_neg (show ¬(0x5400 ≤ 0x4200 + 8 * i ∧ 0x4200 + 8 * i < 0x6400) by omega),
    if_neg (show ¬(0x7100 ≤ 0x4200 + 8 * i ∧ 0x4200 + 8 * i < 0x7168) by omega),
    if_neg (show ¬(0x8400 ≤ 0x4200 + 8 * i ∧ 0x4200 + 8 * i < 0xa440) by omega),
    if_neg (show ¬(0xb100 ≤ 0x4200 + 8 * i ∧ 0x4200 + 8 * i < 0xb300) by omega)]

theorem map_of_absent {c : Cmd} {l : List Running} (h : ∀ r ∈ l, r.cmd ≠ c) (f : Running → Running) (hf : ∀ r, r.cmd ≠ c → f r = r) :
    l.map f = l :=
  (List.map_congr_left fun r hr => hf r (h r hr)).trans (List.map_id _)

/-- An audit latches nothing of commands that do not run. -/
theorem latchAudit_of_absent {c : Cmd} {s : State} (h : ∀ r ∈ s.running, r.cmd ≠ c) (held : Nat) : latchAudit c held s = s := by
  rw [latchAudit, map_of_absent h _ fun r hr => if_neg fun hcmd => hr hcmd.1]

/-- FAB_AUDIT as it begins. -/

theorem exec_fabAudit {c : Cmd} {s : State} (hpass : Passes 0x0702 specFabAudit c s) :
    exec (.fabAudit c) s = .next (latchAudit c (heldCells s) (runOp specFabAudit c s)) := by
  obtain ⟨-, hserving, -⟩ := hpass
  obtain ⟨hlive, hready⟩ := State.serving_iff.mp hserving
  exact (act_of_live hlive _).trans (congrArg _ (if_pos hready))

theorem heldCells_plus (off n : Nat) (s : State) : heldCells (State.plus off n s) = heldCells s := rfl

theorem specFabAudit_counts {c : Cmd} {s : State} (hsweep : s.fabric.sweep = none) (hflag : c.flag 8 0 = false) (hleaked : s.fabric.leaked = 0) :
    specFabAudit.effect c s = (State.plus 0x4208 1 s, ok (heldCells s)) := by
  have hleaked' : (State.plus 0x4208 1 s).fabric.leaked = 0 := hleaked
  simp only [specFabAudit, hsweep, Option.isSome_none, Bool.false_eq_true, if_false, fabDevCount_plus (show 1 < 4 by decide), hflag,
    Bool.false_or, hleaked', bne_self_eq_false, resultOf_byte8, heldCells_plus]

theorem specFabAudit_sweeps {c : Cmd} {s : State} (hsweep : s.fabric.sweep = none) (h : c.flag 8 0 = true ∨ s.fabric.leaked ≠ 0) :
    specFabAudit.effect c s = (State.plus 0x4208 1 { s with fabric := { s.fabric with sweep := some 2 } }, .wait .work) := by
  have hany : (c.flag 8 0 || (State.plus 0x4208 1 s).fabric.leaked != 0) = true := by
    rw [show (State.plus 0x4208 1 s).fabric.leaked = s.fabric.leaked from rfl]
    simpa using h
  simp only [specFabAudit, hsweep, Option.isSome_none, Bool.false_eq_true, if_false, fabDevCount_plus (show 1 < 4 by decide), hany, if_true]
  rfl

theorem fabAudit_counts {c : Cmd} {s : State} (hpass : Passes 0x0702 specFabAudit c s) (habsent : ∀ r ∈ s.running, r.cmd ≠ c)
    (hsweep : s.fabric.sweep = none) (hflag : c.flag 8 0 = false) (hleaked : s.fabric.leaked = 0) :
    Answers c (heldCells s) (State.plus 0x4208 1 s) (exec (.fabAudit c) s) := by
  have hrun := runOp_of_done hpass (specFabAudit_counts hsweep hflag hleaked)
  rw [mirrorCommand_of_unmirrored (by rw [hpass.opcode]; decide), finish_without_data] at hrun
  have hans := answered_postCompletion c stOk 0 (heldCells s) (State.plus 0x4208 1 s)
  refine ⟨_, exec_fabAudit hpass, ?_⟩
  rw [hrun, latchAudit_of_absent (by rw [hans.told.running]; exact habsent)]
  exact hans

/-- The audit that waits for the end of its sweep. -/
def waitingAudit (c : Cmd) (held : Nat) : Running :=
  { cmd := c, cls := .b, locks := [], wait := .work, reply := some { status := stOk, result := held } }

theorem latchAudit_of_held {c : Cmd} {s : State} (hop : c.opcode = 0x0702) (habsent : ∀ r ∈ s.running, r.cmd ≠ c) (held : Nat) :
    latchAudit c held (hold specFabAudit c .work s) = { s with running := s.running ++ [waitingAudit c held] } := by
  have his : (c.opcode == 0x0702) = true := beq_iff_eq.mpr hop
  rw [latchAudit, hold, List.map_append, map_of_absent habsent]
  · simp only [List.map_cons, List.map_nil, Running.isOp, his, and_self, if_true, resultOf_byte8]
    rfl
  · exact fun r hr => if_neg fun h => hr h.1

theorem fabAudit_sweeps {c : Cmd} {s : State} (hpass : Passes 0x0702 specFabAudit c s) (habsent : ∀ r ∈ s.running, r.cmd ≠ c)
    (hsweep : s.fabric.sweep = none) (h : c.flag 8 0 = true ∨ s.fabric.leaked ≠ 0) :
    exec (.fabAudit c) s = .next (State.plus 0x4208 1
      { s with fabric := { s.fabric with sweep := some 2 }, running := s.running ++ [waitingAudit c (heldCells s)] }) := by
  rw [exec_fabAudit hpass, runOp_of_wait hpass (specFabAudit_sweeps hsweep h), latchAudit_of_held (s := State.plus 0x4208 1 { s with fabric := { s.fabric with sweep := some 2 } }) hpass.opcode habsent]
  rfl

theorem exec_fabAuditPeriod {s : State} (hlive : s.live = true) (hup : s.watchdog.hk.up = true) (hon : regBit s 0x4004 16 = true)
    (hsweep : s.fabric.sweep = none) : exec .fabAuditPeriod s = .next (State.plus 0x4208 1
      { s with fabric := { s.fabric with sweep := if s.fabric.leaked = 0 then none else some 0 } }) := by
  have hleaked : (State.plus 0x4208 1 s).fabric.leaked = s.fabric.leaked := rfl
  refine (act_of_live hlive _).trans (congrArg _ ?_)
  simp only [hkUp, hup, hon, hsweep, Option.isNone_none, Bool.and_self, if_true, fabDevCount_plus (show 1 < 4 by decide), hleaked]
  split_ifs
  · rw [← hsweep]
  · rfl

/-- What the end of a sweep leaves before it is told (R299). -/
def sweptCells (n : Nat) (s : State) : State :=
  setReg 0x4008 (reg s 0x4008 ||| 0x80000000) (State.plus 0x4200 n { s with
    fabric := { s.fabric with sweep := none, leaked := 0, lastReturned := n } })

/-- The end of a sweep with its event told. -/
def sweepTold (cause n : Nat) (s : State) : State := raiseHeld 0 0x0701 1 0 (detailOf [(20, n), (24, cause)]) (sweptCells n s)

theorem told_sweepTold (cause n : Nat) (s : State) : Told (sweptCells n s) (sweepTold cause n s) := (Told.refl _).raiseHeld ..

theorem exec_fabSweepEnd {cause : Nat} {s : State} (hlive : s.live = true) (hup : s.watchdog.hk.up = true) (hsweep : s.fabric.sweep = some cause)
    (hsome : s.fabric.leaked ≠ 0) : exec .fabSweepEnd s = .next (completeRunning (fun r => r.isOp 0x0702)
      (fun r => { status := stOk, result := (match r.reply with | some p => p.result | none => 0) + resultOf [(12, s.fabric.leaked)] })
      (sweepTold cause s.fabric.leaked s)) := by
  have hexec : execFabSweepEnd s = .next (match s.fabric.sweep with
      | some cause => if hkUp s then sweepEnd cause s else s
      | none => s) := act_of_live hlive _
  refine hexec.trans (congrArg _ ?_)
  simp only [hsweep, hkUp, hup, if_true, sweepEnd, if_neg hsome, fabDevCount_plus (show 0 < 4 by decide)]
  rfl

theorem completeRunning_of_none {s : State} (h : s.running = []) (p : Running → Bool) (reply : Running → Reply) :
    completeRunning p reply s = s := by
  simp only [completeRunning, h, List.filter_nil, List.foldl_nil]
  rw [← h]

theorem sweepEnd_alone {cause : Nat} {s : State} (hlive : s.live = true) (hup : s.watchdog.hk.up = true)
    (hsweep : s.fabric.sweep = some cause) (hsome : s.fabric.leaked ≠ 0) (hnone : s.running = []) :
    Gives (exec .fabSweepEnd s) (Told { sweptCells s.fabric.leaked s with running := [] }) := by
  have hrunning : (sweptCells s.fabric.leaked s).running = [] := hnone
  have hkept : ({ sweptCells s.fabric.leaked s with running := [] } : State) = sweptCells s.fabric.leaked s := by rw [← hrunning]
  have htold := told_sweepTold cause s.fabric.leaked s
  refine ⟨_, exec_fabSweepEnd hlive hup hsweep hsome, ?_⟩
  rw [completeRunning_of_none (htold.running.trans hrunning), hkept]
  exact htold

theorem sweepEnd_answers {cause : Nat} {r : Running} {p : Reply} {s : State} (hlive : s.live = true) (hup : s.watchdog.hk.up = true)
    (hsweep : s.fabric.sweep = some cause) (hsome : s.fabric.leaked ≠ 0) (hrun : s.running = [r]) (hop : r.cmd.opcode = 0x0702)
    (hreply : r.reply = some p) (hxfer : r.xfer = none) : Gives (exec .fabSweepEnd s) (fun t =>
      ∃ u, Told { sweptCells s.fabric.leaked s with running := [] } u ∧ Answered r.cmd stOk 0 (p.result + 2 ^ 32 * s.fabric.leaked) u t) := by
  have htold := told_sweepTold cause s.fabric.leaked s
  have his : r.isOp 0x0702 = true := beq_iff_eq.mpr hop
  have hresult : resultOf [(12, s.fabric.leaked)] = 2 ^ 32 * s.fabric.leaked := by
    simp only [resultOf_cons, resultOf_nil]
    omega
  refine ⟨_, exec_fabSweepEnd hlive hup hsweep hsome, _, htold.withRunning [], ?_⟩
  rw [completeRunning_only (htold.running.trans hrun) his, hreply, hresult]
  exact answered_finishRunning hxfer ..

/-! ## The obligation -/

theorem settles_fabBufferPartition {c : Cmd} {s : State} (hpass : Passes 0x0701 specFabBufferPartition c s) :
    Settles c (freeCells s) { s with fabric := { s.fabric with
      quota0 := c.u32 8, quota1 := c.u32 12, quota2 := c.u32 16, quota3 := c.u32 20, quota4 := c.u32 24
      expressLimit := if c.u16 28 = 0 then 1024 else c.u16 28 } } (exec (.fabBufferPartition c) s) := by
  refine settles_of_done hpass ?_
  simp only [specFabBufferPartition, resultOf_byte8]
  rfl

/-- Settles O49: each register, ring, audit and command takes the one way through its row that its premises leave. -/
theorem fabricControl : Obligations.FabricControl := by
  unfold Obligations.FabricControl
  intro s hlive
  refine ⟨?_, exec_memberInUseClear hlive, fun m hup => ⟨gives_mcScrub_member hlive hup, gives_mcScrub_group hlive hup,
    gives_mcParityRestore_member hlive hup, gives_mcParityRestore_group hlive hup⟩, ?_, fun c => settles_fabBufferPartition, ?_, fun hup => ?_⟩
  · intro w i d hallow hi hd
    subst hi
    refine ⟨exec_fabMcRead_member hlive hallow, exec_fabMcRead_group hlive hallow, fun htable => ?_,
      fun htable hlt hfree _ hlow hhigh hrange => exec_fabMcWrite_group hlive hallow hd htable hlt hfree hlow hhigh hrange⟩
    rw [hd]
    exact exec_fabMcWrite_member hlive hallow htable
  · intro n w kept hlt hkept
    subst hkept
    refine ⟨fun hallow => ⟨exec_fabHrEnable hlive hlt hallow, fun l => exec_fabHrDisable hlive hlt hallow⟩, fun hallow => ?_⟩
    have haddr : ringCtrl n + 4 = 0x410c + 0x20 * n := by
      unfold ringCtrl
      omega
    exact exec_fabHrLimitWrite hlive hlt (haddr ▸ hallow)
  · intro c hpass habsent hsweep
    exact ⟨fabAudit_counts hpass habsent hsweep, fabAudit_sweeps hpass habsent hsweep⟩
  · refine ⟨exec_fabAuditPeriod hlive hup, ?_⟩
    intro cause n base hsweep hn hsome hbase
    subst hn hbase
    exact ⟨sweepEnd_alone hlive hup hsweep hsome, fun r p => sweepEnd_answers hlive hup hsweep hsome⟩

end Sys2Proof.Machine
end

section
/-!
PROOFS. The redundant pair (12_redundant_pair): a CLAIM that leaves on a line port passes the port's PCS and counts in its bandwidth window
(20_counters R574), which the statements' frame `PairWork` does not allow.
-/
namespace Sys2Proof.Machine

open Sys2Proof

theorem PairWork.window {s t : State} (h : PairWork s t) : t.pmc.running = s.pmc.running := congrArg (fun u => u.pmc.running) h

/-- A device of a pair whose community is there and whose line port 0 may transmit. -/
def claimer (p : Pair) : State := { busy with pair := p, accord := { linked.accord with peers := .empty } }

/-! ## CLAIMs in their interval -/

/-- The active device. -/
def claimingActive : State := claimer paired.pair

theorem window_of_claimInterval : windowAfter (exec .claimInterval claimingActive) ≠ claimingActive.pmc.running := by decide +kernel

/-- Refutes O52: the CLAIM that leaves on line port 0 counts in the port's window. -/
theorem not_pairCommands : ¬ Obligations.PairCommands := by
  intro h
  obtain ⟨-, -, hclocks⟩ := h
  obtain ⟨-, -, hclaims, -⟩ := hclocks claimingActive (by decide +kernel)
  have hgives := hclaims (by decide +kernel)
  exact window_of_claimInterval (windowAfter_of_gives hgives fun t ht => ht.1.window)

/-! ## CLAIMs of a device that takes over -/

/-- A standby that follows. -/
def claimingStandby : State := claimer (pairDev .standby).pair

/-- A STATUS with FAULT. -/
def faultStatus : Bytes := statusOf 0 12 7

theorem window_of_statusRx : windowAfter (exec (.pairStatusRx faultStatus true) claimingStandby) ≠ claimingStandby.pmc.running := by
  decide +kernel

/-- Refutes O53: a standby that takes over at a STATUS with FAULT sends its CLAIM on line port 0, which counts in the port's window. -/
theorem not_pairMessages : ¬ Obligations.PairMessages := by
  intro h
  obtain ⟨-, -, hstatus, -⟩ := h claimingStandby (by decide +kernel)
  obtain ⟨htakes, -⟩ := hstatus (by decide +kernel) faultStatus _ _ (by decide +kernel) (by decide +kernel) (by decide +kernel) rfl
    (by decide +kernel) (by decide +kernel) rfl
  have hgives := htakes (by decide +kernel) (by decide +kernel)
  exact window_of_statusRx (windowAfter_of_gives hgives fun t ht => ht.1.window)

/-- A standby whose link is silent. -/
def claimingSilent : State := claimer (silent .standby true).pair

theorem window_of_silence : windowAfter (exec (.pairSilenceTimeout true) claimingSilent) ≠ claimingSilent.pmc.running := by decide +kernel

/-- Refutes O54: a standby whose partner is silent on pin and link takes over and sends its CLAIM on line port 0, which counts in the port's
window. -/
theorem not_pairTakeover : ¬ Obligations.PairTakeover := by
  intro h
  obtain ⟨hquiet, -⟩ := h claimingSilent (by decide +kernel)
  obtain ⟨-, htakes, -⟩ := hquiet (by decide +kernel)
  have hgives := htakes (by decide +kernel) (by decide +kernel)
  exact window_of_silence (windowAfter_of_gives hgives fun t ht => ht.1.window)

end Sys2Proof.Machine
end

section
/-!
PROOFS. Tamper (16_tamper): an alarm of rank ERASE SESSION orphans the session's keys, and Accord then wishes to rekey its peers (08_attar_key_store
R262), which the statement's clause on ERASE SESSION does not allow.
-/
namespace Sys2Proof.Machine

open Sys2Proof

/-- The wishes for a rekey of the peers that an outcome leaves. -/
def wishesAfter : Host.Outcome State Fault Refusal → List Nat
  | .next t => t.accord.peers.keysIf fun _ p => p.wish.isSome || p.exchange.isSome
  | _ => []

theorem wishesAfter_of_gives {o : Host.Outcome State Fault Refusal} {p : State → Prop} {x : Accord} (h : Gives o p)
    (hp : ∀ t, p t → t.accord = x) : wishesAfter o = x.peers.keysIf fun _ p => p.wish.isSome || p.exchange.isSome := by
  obtain ⟨t, rfl, ht⟩ := h
  rw [← hp t ht]
  rfl

/-- A device with a community and a peer that holds keys, whose pin source 6 alarms with rank ERASE SESSION. -/
def erasing : State := { sensed 6 (armedAt 3) with accord := linked.accord }

theorem wishes_of_erasing : wishesAfter (exec (.tamperOnset [6]) erasing) ≠
    erasing.accord.peers.keysIf fun _ p => p.wish.isSome || p.exchange.isSome := by decide +kernel

/-- Refutes O59: the onset of a source with rank ERASE SESSION leaves a wish to rekey the peer that holds keys. -/
theorem not_tampering : ¬ Obligations.Tampering := by
  intro h
  obtain ⟨-, -, honset⟩ := h
  obtain ⟨-, -, halarm, -⟩ := honset erasing 6 _ _ _ (by decide +kernel) (by decide) rfl rfl rfl
  obtain ⟨-, herase, -⟩ := halarm (by decide +kernel) (by decide +kernel) (by decide +kernel) (by decide +kernel) (by decide +kernel)
    (by decide +kernel) (by decide +kernel)
  have hgives := herase (by decide +kernel) (by decide +kernel)
  refine wishes_of_erasing (wishesAfter_of_gives hgives fun t ht => ?_)
  obtain ⟨-, -, htold⟩ := ht
  exact htold.accord

end Sys2Proof.Machine
end

section
/-!
PROOFS. Scheduling (11_scheduling_and_policing): a release is an event that a programmable counter may count (20_counters R570), whose wrap is told
(R572); the statement's frame of a release admits no event.
-/
namespace Sys2Proof.Machine

open Sys2Proof

/-- The coalescing holds that an outcome leaves. -/
def holdsAfter : Host.Outcome State Fault Refusal → Nat
  | .next t => t.holds.length
  | _ => 0

theorem holdsAfter_of_gives {o : Host.Outcome State Fault Refusal} {p : State → Prop} {n : Nat} (h : Gives o p)
    (hp : ∀ t, p t → t.holds.length = n) : holdsAfter o = n := by
  obtain ⟨t, rfl, ht⟩ := h
  exact hp t ht

/-- Line port 8's port node has a frame to release, and programmable counter 0 counts its releases, one before its wrap. -/
def wrapping : State :=
  { waitingOut with pmc := { waitingOut.pmc with
    counters := ⟨[(0, { enable := true, event := 0x134, filterAll := true, value := 2 ^ 48 - 1 })]⟩ } }

theorem holds_of_wrapping : holdsAfter (exec (.schedulerRelease 72 [] false) wrapping) ≠ wrapping.holds.length := by decide +kernel

/-- Refutes O51: the release that makes a programmable counter wrap is told with PMC_OVERFLOW, which opens a hold. -/
theorem not_scheduling : ¬ Obligations.Scheduling := by
  intro h
  obtain ⟨-, -, -, hruns⟩ := h wrapping
  obtain ⟨hrelease, -⟩ := hruns (by decide +kernel)
  obtain ⟨hchosen, -⟩ := hrelease 72 (by decide) (by decide +kernel) (by decide +kernel) (by decide +kernel) (by decide +kernel) (by decide +kernel)
  obtain ⟨-, -, hgives⟩ := hchosen 0 0 0 _ leafBusy { parent := 72, weight := 1, shaper := {}, deficit := 0 } 0 [] _ _ rfl (by decide +kernel)
    (by decide +kernel) rfl rfl rfl
  refine holds_of_wrapping (holdsAfter_of_gives hgives fun t ht => ?_)
  obtain ⟨-, -, -, -, -, ht⟩ := ht
  rw [ht]

end Sys2Proof.Machine
end

section
/-!
PROOFS. Time (14_time): the states of the tracked domains and of output time, PPS, timers and the commands.
-/
namespace Sys2Proof.Machine

open Sys2Proof

/-! ## Domains -/

/-- Time with one of its domains written. -/
def Time.withDomain (x : Time) (b : Bool) (d : TimeDomain) : Time := if b then { x with tb := d } else { x with ta := d }

theorem setDomain_eq (b : Bool) (d : TimeDomain) (s : State) : setDomain b d s = { s with time := s.time.withDomain b d } := by
  cases b <;> rfl

theorem domainOf_of_time {s t : State} (h : t.time = s.time) (b : Bool) : domainOf t b = domainOf s b := by rw [domainOf, domainOf, h]

theorem domainOf_setDomain_same (b : Bool) (d : TimeDomain) (s : State) : domainOf (setDomain b d s) b = d := by cases b <;> rfl

theorem domainOf_setDomain_other (b : Bool) (d : TimeDomain) (s : State) : domainOf (setDomain b d s) (!b) = domainOf s (!b) := by
  cases b <;> rfl

theorem setDomain_setDomain (b : Bool) (d e : TimeDomain) (s : State) : setDomain b e (setDomain b d s) = setDomain b e s := by cases b <;> rfl

theorem setDomain_same (b : Bool) (s : State) : setDomain b (domainOf s b) s = s := by cases b <;> rfl

theorem Told.withTime {s t : State} (h : Told s t) (x : Time) : Told { s with time := x } { t with time := x } := by
  obtain ⟨hrest, hregs, hcounters, hout, hfns⟩ := h
  exact ⟨by rw [hrest], hregs, hcounters, hout, hfns⟩

/-- Output time after a change of what it follows. -/
def Time.follows (x : Time) (state : ToState) (selected : Bool) (rate : Nat) (clock : Clock) : Time := { x with state, selected, rate, clock }

theorem timeMoves_of_told {b : Bool} {d : TimeDomain} {s u : State} {state : ToState} {selected : Bool} {rate : Nat} {clock : Clock}
    (h : Told { s with time := (s.time.withDomain b d).follows state selected rate clock } u) : TimeMoves b d s u := by
  have htime : u.time = (s.time.withDomain b d).follows state selected rate clock := h.time
  refine ⟨?_, ?_, htime ▸ h, ?_⟩
  · rw [domainOf_of_time (s := { s with time := (s.time.withDomain b d).follows state selected rate clock }) htime]
    cases b <;> rfl
  · rw [domainOf_of_time (s := { s with time := (s.time.withDomain b d).follows state selected rate clock }) htime]
    cases b <;> rfl
  · rw [htime]
    cases b <;> rfl

/-- A domain written, and output time left alone. -/
theorem told_setDomain {b : Bool} {d : TimeDomain} {s u : State} (h : Told (setDomain b d s) u) :
    Told { s with time := (s.time.withDomain b d).follows s.time.state s.time.selected s.time.rate s.time.clock } u := by
  have hsame : (s.time.withDomain b d).follows s.time.state s.time.selected s.time.rate s.time.clock = s.time.withDomain b d := by
    cases b <;> rfl
  rw [hsame, ← setDomain_eq]
  exact h

/-- Output time as a domain written leaves it. -/
theorem toTime_setDomain (b : Bool) (d : TimeDomain) (s : State) : (setDomain b d s).time.state = s.time.state ∧
    (setDomain b d s).time.selected = s.time.selected ∧ (setDomain b d s).time.rate = s.time.rate ∧ (setDomain b d s).time.clock = s.time.clock ∧
    (setDomain b d s).time.failover = s.time.failover := by
  cases b <;> exact ⟨rfl, rfl, rfl, rfl, rfl⟩

/-! ## What output time does (R432, R433) -/

theorem told_enterTo {s t : State} (h : Told s t) (st : ToState) (x : Time) :
    Told { s with time := { x with state := st } } (enterTo st { t with time := x }) := (h.withTime { x with state := st }).raiseHeld ..

/-- A domain that was LOCKED is written with another state, told, and output time follows. -/
theorem timeLoses_toFollowsLoss {b : Bool} {d : TimeDomain} {s u : State} (h : Told (setDomain b d s) u) :
    TimeLoses b d s (toFollowsLoss b u) := by
  obtain ⟨hstate, hselected, hrate, hclock, hfailover⟩ := toTime_setDomain b d s
  have htime : u.time = (setDomain b d s).time := h.time
  have hthis : domainOf u b = d := (domainOf_of_time htime b).trans (domainOf_setDomain_same b d s)
  have hother : domainOf u (!b) = domainOf s (!b) := (domainOf_of_time htime _).trans (domainOf_setDomain_other b d s)
  have hkept := timeMoves_of_told (told_setDomain h)
  rw [← htime] at hstate hselected hrate hclock hfailover
  by_cases hsel : s.time.selected = b
  · have hbne : (u.time.selected != b) = false := by simp [hselected, hsel]
    by_cases hfollows : s.time.state = .tracking ∨ s.time.state = .slewing
    · have hloss : toFollowsLoss b u = if u.time.failover && (domainOf u !b).state == .locked then
          enterTo .slewing { u with time := { u.time with selected := !b } }
          else enterTo .holdover { u with time := { u.time with rate := (domainOf u b).rate } } := by
        rcases hfollows with hst | hst <;> simp only [toFollowsLoss, hbne, hstate, hst, Bool.false_eq_true, if_false]
      rw [hloss, hfailover, hthis, hother]
      by_cases hover : s.time.failover = true ∧ (domainOf s !b).state = .locked
      · obtain ⟨hfail, hlocked⟩ := hover
        have htold := told_enterTo h .slewing { u.time with selected := !b }
        rw [if_pos (by simp [hfail, hlocked])]
        have hu : ({ u.time with selected := !b, state := ToState.slewing } : Time) =
            (s.time.withDomain b d).follows .slewing (!b) s.time.rate s.time.clock := by
          rw [htime]
          cases b <;> rfl
        have hat := htold.time
        rw [setDomain_eq] at htold
        refine ⟨timeMoves_of_told (hu ▸ htold), ?_, ?_⟩
        · rw [hat]
          exact hclock
        · rw [if_pos ⟨hsel, hfollows⟩, if_pos ⟨hfail, hlocked⟩, hat]
          exact ⟨rfl, rfl, hrate⟩
      · have htold := told_enterTo h .holdover { u.time with rate := d.rate }
        rw [if_neg (by simpa using hover)]
        have hu : ({ u.time with rate := d.rate, state := ToState.holdover } : Time) =
            (s.time.withDomain b d).follows .holdover s.time.selected d.rate s.time.clock := by
          rw [htime]
          cases b <;> rfl
        have hat := htold.time
        rw [setDomain_eq] at htold
        refine ⟨timeMoves_of_told (hu ▸ htold), ?_, ?_⟩
        · rw [hat]
          exact hclock
        · rw [if_pos ⟨hsel, hfollows⟩, if_neg hover, hat]
          exact ⟨rfl, hselected.trans hsel, rfl⟩
    · have hloss : toFollowsLoss b u = u := by
        rw [toFollowsLoss, hbne, hstate]
        cases hst : s.time.state <;> simp_all
      rw [hloss]
      exact ⟨hkept, hclock, by rw [if_neg fun hboth => hfollows hboth.2]; exact ⟨hstate, hselected, hrate⟩⟩
  · have hloss : toFollowsLoss b u = u := by
      rw [toFollowsLoss, hselected, if_pos (by simpa using hsel)]
    rw [hloss]
    exact ⟨hkept, hclock, by rw [if_neg fun hboth => hsel hboth.1]; exact ⟨hstate, hselected, hrate⟩⟩

theorem enterTo_moves {b : Bool} {d : TimeDomain} {s u : State} (h : Told (setDomain b d s) u) {x : Time} {st : ToState} {selected : Bool}
    {rate : Nat} {clock : Clock} (hx : { x with state := st } = (s.time.withDomain b d).follows st selected rate clock) :
    TimeMoves b d s (enterTo st { u with time := x }) ∧
      (enterTo st { u with time := x }).time = (s.time.withDomain b d).follows st selected rate clock := by
  have htold := told_enterTo h st x
  have hat := htold.time
  rw [setDomain_eq] at htold
  exact ⟨timeMoves_of_told (hx ▸ htold), hat.trans hx⟩

/-- A domain is written LOCKED, told, and output time follows (R432, R433). -/
theorem timeGains_toFollowsLock {b : Bool} {d : TimeDomain} {s u : State} (h : Told (setDomain b d s) u) :
    TimeGains b d s (toFollowsLock b u) := by
  obtain ⟨hstate, hselected, hrate, hclock, -⟩ := toTime_setDomain b d s
  have htime : u.time = (setDomain b d s).time := h.time
  have hthis : domainOf u b = d := (domainOf_of_time htime b).trans (domainOf_setDomain_same b d s)
  have hkept := timeMoves_of_told (told_setDomain h)
  rw [← htime] at hstate hselected hrate hclock
  by_cases hunset : s.time.state = .unset
  · have hlock : toFollowsLock b u = enterTo .tracking { u with time := { u.time with clock := d.clock, rate := d.rate, selected := b } } := by
      simp only [toFollowsLock, hstate, hunset, hthis]
    obtain ⟨hmoves, hat⟩ := enterTo_moves h (x := { u.time with clock := d.clock, rate := d.rate, selected := b }) (st := .tracking) (selected := b)
      (rate := d.rate) (clock := d.clock) (by rw [htime]; cases b <;> rfl)
    rw [hlock]
    refine ⟨hmoves, ?_⟩
    rw [if_pos hunset, hat]
    exact ⟨rfl, rfl, rfl, rfl⟩
  · by_cases hslews : s.time.state = .holdover ∧ s.time.selected = b
    · obtain ⟨hhold, hsel⟩ := hslews
      have hlock : toFollowsLock b u = enterTo .slewing { u with time := u.time } := by
        simp only [toFollowsLock, hstate, hhold, hselected, hsel, if_true]
      obtain ⟨hmoves, hat⟩ := enterTo_moves h (x := u.time) (st := .slewing) (selected := s.time.selected) (rate := s.time.rate)
        (clock := s.time.clock) (by rw [htime]; cases b <;> rfl)
      rw [hlock]
      refine ⟨hmoves, ?_⟩
      rw [if_neg hunset, if_pos ⟨hhold, hsel⟩, hat]
      exact ⟨rfl, rfl, rfl, rfl⟩
    · have hlock : toFollowsLock b u = u := by
        rw [toFollowsLock, hstate]
        cases hst : s.time.state <;> simp_all
      rw [hlock]
      refine ⟨hkept, ?_⟩
      rw [if_neg hunset, if_neg hslews]
      exact ⟨hselected, hclock, hrate, hstate⟩

/-! ## A domain enters a state (R429) -/

theorem enterDomain_of_same {b : Bool} {st : DomState} {s : State} (h : (domainOf s b).state = st) (cause : Nat) :
    enterDomain b st cause s = s := by
  simp only [enterDomain, h, if_true]

/-- A domain other than LOCKED becomes LOCKED. -/
theorem timeGains_enterDomain {b : Bool} {d : TimeDomain} {s : State} (h : d.state ≠ .locked) (cause : Nat) :
    TimeGains b { d with state := .locked } s (enterDomain b .locked cause (setDomain b d s)) := by
  have hthis := domainOf_setDomain_same b d s
  have htold : Told (setDomain b { d with state := .locked } s) (raiseDomain b cause (setDomain b { d with state := .locked } s)) :=
    (Told.refl _).raiseHeld ..
  have henter : enterDomain b .locked cause (setDomain b d s) =
      toFollowsLock b (raiseDomain b cause (setDomain b { d with state := .locked } s)) := by
    simp only [enterDomain, hthis, h, if_false, if_true, setDomain_setDomain]
  rw [henter]
  exact timeGains_toFollowsLock htold

/-- A LOCKED domain leaves that state. -/
theorem timeLoses_enterDomain {b : Bool} {st : DomState} {d : TimeDomain} {s : State} (h : d.state = .locked) (hst : st ≠ .locked) (cause : Nat) :
    TimeLoses b { d with state := st } s (enterDomain b st cause (setDomain b d s)) := by
  have hthis := domainOf_setDomain_same b d s
  have htold : Told (setDomain b { d with state := st } s) (raiseDomain b cause (setDomain b { d with state := st } s)) :=
    (Told.refl _).raiseHeld ..
  have henter : enterDomain b st cause (setDomain b d s) = toFollowsLoss b (raiseDomain b cause (setDomain b { d with state := st } s)) := by
    simp only [enterDomain, hthis, h, Ne.symm hst, hst, if_false, if_true, setDomain_setDomain]
  rw [henter]
  exact timeLoses_toFollowsLoss htold

/-- A domain that was not LOCKED enters another such state: output time does not move. -/
theorem timeMoves_enterDomain {b : Bool} {st : DomState} {d : TimeDomain} {s : State} (h : d.state ≠ .locked) (hst : st ≠ .locked) (cause : Nat) :
    TimeMoves b { d with state := st } s (enterDomain b st cause (setDomain b d s)) ∧
      (enterDomain b st cause (setDomain b d s)).time = (setDomain b { d with state := st } s).time := by
  have hthis := domainOf_setDomain_same b d s
  by_cases hsame : d.state = st
  · have hd : ({ d with state := st } : TimeDomain) = d := by rw [← hsame]
    rw [enterDomain_of_same (by rw [hthis, hsame]), hd]
    exact ⟨timeMoves_of_told (told_setDomain (Told.refl _)), rfl⟩
  · have htold : Told (setDomain b { d with state := st } s) (raiseDomain b cause (setDomain b { d with state := st } s)) :=
      (Told.refl _).raiseHeld ..
    have henter : enterDomain b st cause (setDomain b d s) = raiseDomain b cause (setDomain b { d with state := st } s) := by
      simp only [enterDomain, hthis, h, hst, hsame, if_false, setDomain_setDomain]
    rw [henter]
    exact ⟨timeMoves_of_told (told_setDomain htold), htold.time⟩

/-! ## TIM_STEP and TIM_RATE (R447, R448) -/

theorem specTimStep_reset {c : Cmd} {s : State} (h : c.flag 8 1 = true) : specTimStep.effect c s = (timeReset (c.flag 8 0) s, ok 0) := by
  simp only [specTimStep, h, if_true, timDomain]

theorem specTimStep_pending {c : Cmd} {s : State} (h : c.flag 8 1 = false) (hpps : c.flag 8 2 = true) : specTimStep.effect c s =
    (setDomain (c.flag 8 0) { domainOf s (c.flag 8 0) with step := some (c.get ⟨12, 0, 48⟩, c.u32 18) } s, ok 0) := by
  simp only [specTimStep, h, hpps, Bool.false_eq_true, if_false, if_true, timDomain]

theorem specTimStep_now {c : Cmd} {s : State} (h : c.flag 8 1 = false) (hpps : c.flag 8 2 = false) : specTimStep.effect c s =
    (applyStep (c.flag 8 0) (c.get ⟨12, 0, 48⟩) (c.u32 18) s, ok 0) := by
  simp only [specTimStep, h, hpps, Bool.false_eq_true, if_false, timDomain]

/-- A time-reset (R429). -/
theorem timeReset_moves (b : Bool) (s : State) :
    let d := { domainOf s b with state := .unset, step := none }
    if (domainOf s b).state = .locked then TimeLoses b d s (timeReset b s)
    else TimeMoves b d s (timeReset b s) ∧ (timeReset b s).time.state = s.time.state ∧ (timeReset b s).time.selected = s.time.selected ∧
      (timeReset b s).time.clock = s.time.clock := by
  intro d
  split_ifs with hlocked
  · exact timeLoses_enterDomain (d := { domainOf s b with step := none }) hlocked (by decide) 1
  · obtain ⟨hmoves, htime⟩ := timeMoves_enterDomain (b := b) (st := .unset) (d := { domainOf s b with step := none }) (s := s) hlocked (by decide) 1
    obtain ⟨hstate, hselected, -, hclock, -⟩ := toTime_setDomain b d s
    exact ⟨hmoves, (congrArg Time.state htime).trans hstate, (congrArg Time.selected htime).trans hselected,
      (congrArg Time.clock htime).trans hclock⟩

/-- A domain that a step has set (R429, R430). -/
def TimeDomain.stepped (d : TimeDomain) (sec ns : Nat) : TimeDomain := { d with clock := { sec, ns }, step := none, state := .locked }

theorem timeGains_applyStep {b : Bool} {s : State} (h : (domainOf s b).state ≠ .locked) (sec ns : Nat) :
    TimeGains b ((domainOf s b).stepped sec ns) s (applyStep b sec ns s) :=
  timeGains_enterDomain (d := { domainOf s b with clock := { sec, ns }, step := none }) h 3

theorem timeMoves_applyStep (b : Bool) (sec ns : Nat) (s : State) : TimeMoves b ((domainOf s b).stepped sec ns) s (applyStep b sec ns s) := by
  by_cases hlocked : (domainOf s b).state = .locked
  · have hthis := domainOf_setDomain_same b { domainOf s b with clock := { sec, ns }, step := none } s
    have hd : (domainOf s b).stepped sec ns = { domainOf s b with clock := { sec, ns }, step := none } := by
      rw [TimeDomain.stepped, ← hlocked]
    rw [applyStep, enterDomain_of_same (by rw [hthis]; exact hlocked), hd]
    exact timeMoves_of_told (told_setDomain (Told.refl _))
  · exact (timeGains_applyStep hlocked sec ns).1

theorem specTimRate_effect (c : Cmd) (s : State) : specTimRate.effect c s =
    (enterDomain (c.flag 8 0) .locked 4 (setDomain (c.flag 8 0) { domainOf s (c.flag 8 0) with
      hold := if c.u16 10 = 0 then 20 else c.u16 10
      rate := toSigned 32 ((nominalRate : Int) + signedOf 32 (c.u32 12)) } s), ok 0) := by
  simp only [specTimRate, applyRate, timDomain, domainOf_setDomain_same, setDomain_setDomain]

/-! ## PPS and timers (R441 to R446) -/

/-- A domain after the step that waits for an edge, if one does. -/
def TimeDomain.atEdge (d : TimeDomain) : TimeDomain :=
  match d.step with
  | none => d
  | some (sec, ns) => d.stepped sec ns

theorem timeMoves_pendingStep (b : Bool) (s : State) : TimeMoves b (domainOf s b).atEdge s (pendingStep b s) := by
  unfold pendingStep TimeDomain.atEdge
  cases (domainOf s b).step with
  | none =>
    refine timeMoves_of_told (told_setDomain ?_)
    rw [setDomain_same]
    exact Told.refl s
  | some step => exact timeMoves_applyStep b step.1 step.2 s

/-- The fields of time that no domain and no state of output time touches. -/
theorem TimeMoves.rest {b : Bool} {d : TimeDomain} {s u : State} (h : TimeMoves b d s u) :
    u.time.ppsSeq = s.time.ppsSeq ∧ u.time.timers = s.time.timers ∧ u.time.rolls = s.time.rolls := by
  obtain ⟨-, -, -, htime⟩ := h
  have hseq := congrArg Time.ppsSeq htime
  have htimers := congrArg Time.timers htime
  have hrolls := congrArg Time.rolls htime
  exact ⟨hseq, htimers, hrolls⟩

theorem TimeMoves.told {b : Bool} {d : TimeDomain} {s u : State} (h : TimeMoves b d s u) : Told { s with time := u.time } u := h.2.2.1

/-- A state that reporting has changed since `s` with another clock, taken as one that it has changed since `t`. -/
theorem Told.retimed {s t u : State} (h : Told { s with time := t.time } t) (h' : Told { t with time := u.time } u) :
    Told { s with time := u.time } u := (h.withTime u.time).trans h'

/-- The records of an accepted edge (R441). -/
def ppsRecorded (tick : Nat) (s : State) : State :=
  { s with time := { s.time with
    ppsSeq := (s.time.ppsSeq + 1) % 2 ^ 32, ppsTo := stamp s, ppsTa := domainStamp s false, ppsTb := domainStamp s true
    ppsGapRuns := true, ppsTick := some tick } }

/-- What PPS_IN_EDGE leaves of an accepted edge (R441). -/
structure PpsAccepted (s u : State) : Prop where
  domains : ∀ b, domainOf u b = (domainOf s b).atEdge
  seq : u.time.ppsSeq = (s.time.ppsSeq + 1) % 2 ^ 32
  output : u.time.ppsTo = stamp u
  ta : u.time.ppsTa = domainStamp u false
  tb : u.time.ppsTb = domainStamp u true
  gap : u.time.ppsGapRuns = true
  tick : u.time.ppsTick = some s.tick
  told : Told { s with time := u.time } u

theorem ppsAccepted (s : State) : PpsAccepted s (ppsRecorded s.tick (pendingStep true (pendingStep false s))) := by
  have hfirst := timeMoves_pendingStep false s
  have hsecond := timeMoves_pendingStep true (pendingStep false s)
  have hta : domainOf (pendingStep true (pendingStep false s)) false = (domainOf s false).atEdge := hsecond.2.1.trans hfirst.1
  have htb : domainOf (pendingStep true (pendingStep false s)) true = (domainOf s true).atEdge := by
    rw [hsecond.1, show domainOf (pendingStep false s) true = domainOf s true from hfirst.2.1]
  have hseq := hsecond.rest.1.trans hfirst.rest.1
  have htold := Told.retimed hfirst.told hsecond.told
  refine ⟨fun b => ?_, congrArg (fun n => (n + 1) % 2 ^ 32) hseq, rfl, rfl, rfl, rfl, rfl, htold.withTime _⟩
  cases b with
  | false => exact hta
  | true => exact htb

/-- An edge is not used at a pin that is no PPS_IN, or within 900 ms of the last one used. -/
theorem ppsEdge_of_unused {g : Nat} {s : State}
    (h : (pinOf s g).function ≠ 2 ∨ ∃ t, s.time.ppsTick = some t ∧ s.tick < t + 562500000) : ppsEdge g s = s := by
  unfold ppsEdge
  obtain hpin | ⟨t, htick, hearly⟩ := h
  · simp only [hpin, true_or, ne_eq, not_false_eq_true, if_true]
  · simp only [htick, ppsGuard, hearly, decide_true, or_true, if_true]

theorem ppsEdge_of_used {g : Nat} {s : State} (h : (pinOf s g).function = 2)
    (htick : ∀ t, s.time.ppsTick = some t → t + 562500000 ≤ s.tick) :
    ppsEdge g s = ppsRecorded s.tick (pendingStep true (pendingStep false s)) := by
  have hpend : (pendingStep true (pendingStep false s)).tick = s.tick := by
    have htold := Told.retimed (timeMoves_pendingStep false s).told (timeMoves_pendingStep true (pendingStep false s)).told
    exact htold.tick
  refine (if_neg ?_).trans (by rw [ppsRecorded, hpend])
  cases hlast : s.time.ppsTick with
  | none => simp [h]
  | some t =>
    have hlate : decide (s.tick < t + ppsGuard) = false := decide_eq_false (not_lt.mpr (htick t hlast))
    simp [h, hlate]

/-- Every pin of a function is driven: one output each. -/
theorem driveAll_out (function : Nat) (level : Bool) (s : State) (h : pinsOf s function ≠ []) :
    ∃ o, (driveAll function level s).out = o ++ s.out ∧ o ≠ [] := by
  have hmore : ∀ (l : List Nat) (t : State), ∃ o, (l.foldl (fun s g => drive g level s) t).out = o ++ t.out ∧ (l ≠ [] → o ≠ []) := by
    intro l
    induction l with
    | nil => exact fun t => ⟨[], rfl, fun hl => absurd rfl hl⟩
    | cons g l ih =>
      intro t
      obtain ⟨o, ho, -⟩ := ih (drive g level t)
      refine ⟨o ++ [.pin g (level != (pinOf t g).invert)], ?_, fun _ => by simp⟩
      rw [List.foldl_cons, ho, List.append_assoc]
      rfl
  obtain ⟨o, ho, hne⟩ := hmore (pinsOf s function) s
  exact ⟨o, ho, hne h⟩

/-! ## TIM_SELECT and TIM_SCHEDULE (R445, R449) -/

/-- What TIM_SELECT sets (R449). -/
def Time.select (x : Time) (c : Cmd) (b : Bool) : Time :=
  { x with selected := b, failover := c.flag 8 1, slewPpm := if c.u16 10 = 0 then 100 else c.u16 10 }

/-- Output time once TIM_SELECT has named a domain: a new one is slewed to (R433). -/
def Time.selecting (x : Time) (c : Cmd) (b : Bool) : Time :=
  { x.select c b with state := if x.selected = b ∨ x.state = .unset then x.state else .slewing }

theorem specTimSelect_effect {c : Cmd} {s : State} {b : Bool} (hb : b = c.flag 8 0) :
    ∃ u, specTimSelect.effect c s = (u, ok (toCode u.time.state + 2 ^ 32 * offsetNs u b)) ∧
      u.time = s.time.selecting c b ∧ Told { s with time := u.time } u := by
  subst hb
  have hresult : ∀ x y : Nat, resultOf [(8, x), (12, y)] = x + 2 ^ 32 * y := fun x y => by
    simp only [resultOf_cons, resultOf_nil]; omega
  simp only [specTimSelect, hresult, timDomain]
  refine ⟨_, rfl, ?_⟩
  by_cases hsame : s.time.selected = c.flag 8 0
  · simp only [hsame, beq_self_eq_true, if_true]
    refine ⟨?_, Told.refl _⟩
    simp only [Time.selecting, Time.select, hsame, true_or, if_true]
  · have hnew : (s.time.selected == c.flag 8 0) = false := by simpa using hsame
    simp only [hnew, Bool.false_eq_true, if_false]
    cases hstate : s.time.state with
    | unset => exact ⟨by simp only [Time.selecting, Time.select, hstate, or_true, if_true], Told.refl _⟩
    | slewing => exact ⟨by simp [Time.selecting, Time.select, hstate], Told.refl _⟩
    | _ =>
      have htold := told_enterTo (Told.refl { s with time := s.time.select c (c.flag 8 0) }) .slewing (s.time.select c (c.flag 8 0))
      have htime := htold.time
      refine ⟨htime.trans ?_, ?_⟩
      · simp [Time.selecting, Time.select, hstate, hsame]
      · exact (htold.withTime _)

theorem specTimSchedule_cancel {c : Cmd} {s : State} (h : c.flag 8 0 = true) (ha : c.get ⟨8, 1, 3⟩ ≠ 1) :
    specTimSchedule.effect c s =
      ({ s with time := { s.time with timers := s.time.timers.erase (c.get ⟨12, 0, 17⟩) } }, ok 0) := by
  simp only [specTimSchedule, schedCancel, schedAction, schedTarget, h]

/-- The timer that TIM_SCHEDULE describes (R445). -/
def timerGiven (c : Cmd) : TimerAction :=
  { owner := c.fn, action := c.get ⟨8, 1, 3⟩, pin := c.get ⟨9, 0, 4⟩, sec := c.get ⟨16, 0, 48⟩, ns := c.u32 22 }

theorem specTimSchedule_set {c : Cmd} {s : State} (h : c.flag 8 0 = false) (ha : c.get ⟨8, 1, 3⟩ ≠ 1) :
    specTimSchedule.effect c s =
      ({ s with time := { s.time with timers := s.time.timers.set (c.get ⟨12, 0, 17⟩) (timerGiven c) } }, ok 0) := by
  simp only [specTimSchedule, schedCancel, schedAction, schedTarget, schedSec, schedNs, h]
  rfl

theorem specTimSchedule_cancelRoll {c : Cmd} {s : State} (h : c.flag 8 0 = true) (ha : c.get ⟨8, 1, 3⟩ = 1) :
    specTimSchedule.effect c s = ({ s with time := { s.time with rolls := s.time.rolls.erase (c.get ⟨12, 0, 17⟩) } }, ok 0) := by
  simp only [specTimSchedule, schedCancel, schedAction, schedTarget, h, ha]

theorem specTimSchedule_roll {c : Cmd} {s : State} (h : c.flag 8 0 = false) (ha : c.get ⟨8, 1, 3⟩ = 1) :
    specTimSchedule.effect c s =
      ({ s with time := { s.time with rolls := s.time.rolls.set (c.get ⟨12, 0, 17⟩) (c.get ⟨16, 0, 48⟩, c.u32 22) } }, ok 0) := by
  simp only [specTimSchedule, schedCancel, schedAction, schedTarget, schedSec, schedNs, h, ha]

/-- TIM_STEP sets a clock of a domain that is UNSET only (R447). -/
theorem unset_of_timStep {c : Cmd} {s : State} (h : Passes 0x0b01 specTimStep c s) (hset : c.flag 8 1 = false) :
    (domainOf s (c.flag 8 0)).state = .unset := by
  have hstate : (!c.flag 8 1 && ((domainOf s (c.flag 8 0)).state != .unset || (c.flag 8 2 && pinsOf s 2 == []))) = false := h.clear.state
  simp only [hset, Bool.not_false, Bool.true_and, Bool.or_eq_false_iff] at hstate
  simpa using hstate.1

/-- A domain with the parameters that TIM_RATE gives (R448). -/
def TimeDomain.rated (d : TimeDomain) (c : Cmd) : TimeDomain :=
  { d with
    hold := if c.u16 10 = 0 then 20 else c.u16 10, state := .locked
    rate := toSigned 32 (0x9999999a + signedOf 32 (c.u32 12)) }

theorem specTimRate_moves (c : Cmd) (s : State) : ∃ u, specTimRate.effect c s = (u, ok 0) ∧
    if (domainOf s (c.flag 8 0)).state = .locked then u = setDomain (c.flag 8 0) ((domainOf s (c.flag 8 0)).rated c) s
    else TimeGains (c.flag 8 0) ((domainOf s (c.flag 8 0)).rated c) s u := by
  refine ⟨_, specTimRate_effect c s, ?_⟩
  by_cases hlocked : (domainOf s (c.flag 8 0)).state = .locked
  · rw [if_pos hlocked, enterDomain_of_same (by rw [domainOf_setDomain_same]; exact hlocked), TimeDomain.rated, ← hlocked]
    rfl
  · rw [if_neg hlocked]
    exact timeGains_enterDomain (d := { domainOf s (c.flag 8 0) with
      hold := if c.u16 10 = 0 then 20 else c.u16 10
      rate := toSigned 32 ((nominalRate : Int) + signedOf 32 (c.u32 12)) }) hlocked 4

/-! ## Rows of time (R429, R433, R441, R444) -/

section
variable {s : State} (hlive : s.live = true)
include hlive

theorem execTimeDomainHoldExpiry_of_live {n : Nat} {b : Bool} (hn : n < 2) (hb : b = (n == 1)) :
    if (domainOf s b).state = .locked then
      Gives (exec (.timeDomainHoldExpiry n) s) (TimeLoses b { domainOf s b with state := .lost } s)
    else exec (.timeDomainHoldExpiry n) s = .next s := by
  have hexec : exec (.timeDomainHoldExpiry n) s =
      .next (if n < 2 && (domainOf s (n == 1)).state == .locked then enterDomain (n == 1) .lost 0 s else s) := act_of_live hlive _
  rw [hexec]
  subst hb
  split_ifs with hlocked hguard hguard
  · refine ⟨_, rfl, ?_⟩
    have hloses := timeLoses_enterDomain (b := n == 1) (st := .lost) (s := s) hlocked (by decide) 0
    rwa [setDomain_same] at hloses
  · simp [hn, hlocked] at hguard
  · simp [hlocked] at hguard
  · rfl

theorem execToSlewConverged_of_live :
    if s.time.state = .slewing ∧ 5 * (offsetUnits s s.time.selected).natAbs < 8 * 2 ^ 32 then
      Gives (exec .toSlewConverged s) (Told { s with time := { s.time with
        state := .tracking, clock := (domainOf s s.time.selected).clock } })
    else exec .toSlewConverged s = .next s := by
  have hexec : exec .toSlewConverged s =
      .next (if s.time.state = .slewing ∧ 5 * (offsetUnits s s.time.selected).natAbs < 8 * nsUnits then
        enterTo .tracking { s with time := { s.time with clock := (domainOf s s.time.selected).clock } } else s) := act_of_live hlive _
  rw [hexec, nsUnits]
  split_ifs with hnear
  · exact ⟨_, rfl, told_enterTo (Told.refl s) .tracking { s.time with clock := (domainOf s s.time.selected).clock }⟩
  · rfl

theorem execPpsMissing_of_live :
    if pinsOf s 2 ≠ [] ∧ s.time.ppsGapRuns = true then
      Gives (exec .ppsMissing s) (Told { s with time := { s.time with ppsGapRuns := false } })
    else exec .ppsMissing s = .next s := by
  rw [show exec .ppsMissing s = execPpsMissing s from rfl, execPpsMissing, act_of_live hlive]
  cases hpins : pinsOf s 2 with
  | nil => simp
  | cons g l =>
    by_cases hgap : s.time.ppsGapRuns = true
    · rw [if_pos ⟨List.cons_ne_nil g l, hgap⟩]
      refine ⟨_, rfl, ?_⟩
      simp only [hgap, if_true]
      exact (Told.refl _).raiseHeld ..
    · rw [if_neg fun h => hgap h.2]
      exact congrArg _ (if_neg hgap)

theorem execPpsOutSecond_of_live :
    if s.time.state ≠ .unset ∧ pinsOf s 1 ≠ [] then
      Gives (exec .ppsOutSecond s) (fun t => Told { s with time := { s.time with ppsOut := true } } t ∧ ∃ o, t.out = o ++ s.out ∧ o ≠ [])
    else exec .ppsOutSecond s = .next s := by
  have hexec : exec .ppsOutSecond s = .next (if s.time.state ≠ .unset ∧ pinsOf s 1 ≠ [] then
      driveAll 1 true { s with time := { s.time with ppsOut := true } } else s) := act_of_live hlive _
  rw [hexec]
  split_ifs with hpins
  · exact ⟨_, rfl, (Told.refl _).driveAll 1 true, driveAll_out 1 true { s with time := { s.time with ppsOut := true } } hpins.2⟩
  · rfl

theorem execPpsOutWidthEnd_of_live :
    if s.time.ppsOut = true then Gives (exec .ppsOutWidthEnd s) (Told { s with time := { s.time with ppsOut := false } })
    else exec .ppsOutWidthEnd s = .next s := by
  have hexec : exec .ppsOutWidthEnd s = .next (if s.time.ppsOut then
      driveAll 1 false { s with time := { s.time with ppsOut := false } } else s) := act_of_live hlive _
  rw [hexec]
  split_ifs with hhigh
  · exact ⟨_, rfl, (Told.refl _).driveAll 1 false⟩
  · rfl

theorem execTimerFire_of_none {n : Nat} (h : s.time.timers.find n = none) : exec (.timerFire n) s = .next s := by
  refine (act_of_live hlive _).trans (congrArg _ ?_)
  rw [timerFire, h]

theorem execTimerFire_of_early {n : Nat} {t : TimerAction} (h : s.time.timers.find n = some t) (hearly : toTotal s < instantNs t.sec t.ns) :
    exec (.timerFire n) s = .next s := by
  refine (act_of_live hlive _).trans (congrArg _ ?_)
  simp only [timerFire, h, if_pos hearly]

theorem execTimerFire_of_due {n : Nat} {t : TimerAction} (h : s.time.timers.find n = some t) (hdue : instantNs t.sec t.ns ≤ toTotal s) :
    Gives (exec (.timerFire n) s) (fun u =>
      if t.action = 2 then Told { s with time := { s.time with timers := s.time.timers.erase n } } u
      else (pinOf u t.pin).level = decide (t.action = 3) ∧ (∀ g, g ≠ t.pin → pinOf u g = pinOf s g) ∧
        u = { s with time := { s.time with timers := s.time.timers.erase n }, tamper := u.tamper, out := u.out }) := by
  refine ⟨_, act_of_live hlive _, ?_⟩
  simp only [timerFire, h, if_neg (Nat.not_lt.mpr hdue)]
  split_ifs with haction
  · exact (Told.refl _).raiseFor ..
  · refine ⟨congrArg Pin.level (Table.get_put_same ..), fun g hg => Table.get_put_ne hg .., rfl⟩

end

/-- Settles O57: a domain that enters or leaves LOCKED is told and output time follows; edges, timers and pins act on the clocks alone. -/
theorem timeKeeping : Obligations.TimeKeeping := by
  refine ⟨fun c s b hb => ⟨fun h => ⟨fun hreset => ?_, fun hset hpps => ?_, fun hset hpps => ?_⟩, fun h => ?_, fun h => ?_, ?_⟩,
    fun s hlive => ⟨fun n b hn hb => execTimeDomainHoldExpiry_of_live hlive hn hb, execToSlewConverged_of_live hlive, fun g hpin => ?_,
      fun g hpin htick => ?_, execPpsMissing_of_live hlive, execPpsOutSecond_of_live hlive, execPpsOutWidthEnd_of_live hlive,
      fun n hn => execTimerFire_of_none hlive hn,
      fun n t hn => ⟨execTimerFire_of_early hlive hn, execTimerFire_of_due hlive hn⟩⟩⟩
  · subst hb
    exact ⟨_, answers_of_done h (by decide) (specTimStep_reset hreset), timeReset_moves (c.flag 8 0) s⟩
  · subst hb
    exact answers_of_done h (by decide) (specTimStep_pending hset hpps)
  · subst hb
    have hunset := unset_of_timStep h hset
    exact ⟨_, answers_of_done h (by decide) (specTimStep_now hset hpps), timeGains_applyStep (by rw [hunset]; decide) _ _⟩
  · subst hb
    obtain ⟨u, heff, hmoves⟩ := specTimRate_moves c s
    exact ⟨u, _, answers_of_done h (by decide) heff, rfl, hmoves⟩
  · obtain ⟨u, heff, htime, htold⟩ := specTimSelect_effect (s := s) hb
    exact ⟨u, answers_of_done h (by decide) heff, htime, htold⟩
  · rintro h a n e rfl rfl rfl
    exact ⟨fun ha hc => answers_of_done h (by decide) (specTimSchedule_cancelRoll hc ha),
      fun ha hc => answers_of_done h (by decide) (specTimSchedule_roll hc ha),
      fun ha hc => answers_of_done h (by decide) (specTimSchedule_cancel hc ha),
      fun ha hc => answers_of_done h (by decide) (specTimSchedule_set hc ha)⟩
  · exact (act_of_live hlive _).trans (congrArg _ (ppsEdge_of_unused hpin))
  · refine ⟨_, act_of_live hlive _, ?_⟩
    rw [ppsEdge_of_used hpin htick]
    obtain ⟨hdomains, hseq, hout, hta, htb, hgap, hlast, htold⟩ := ppsAccepted s
    exact ⟨hdomains, hseq, hout, hta, htb, hgap, hlast, htold⟩

end Sys2Proof.Machine
end

section
/-!
PROOFS. The entropy unit (15_entropy).
-/
namespace Sys2Proof.Machine

open Sys2Proof

/-! ## Work of the entropy unit -/

/-- The fields of `s`, with those that the entropy unit may change taken from `t`. -/
def entPatch (s t : State) : State :=
  { s with
    entropy := t.entropy, accord := { s.accord with paused := t.accord.paused }, freeIx := t.freeIx, out := t.out, regs := t.regs
    fns := t.fns, counters := t.counters, holds := t.holds, heldEvents := t.heldEvents, pmc := { s.pmc with counters := t.pmc.counters }
    domain := { s.domain with reports := t.domain.reports } }

theorem EntWork.refl (s : State) : EntWork s s := rfl

theorem EntWork.trans {s t u : State} (h : EntWork s t) (k : EntWork t u) : EntWork s u := by
  have hpatch := congrArg (fun x => entPatch x u) h
  exact Eq.trans k hpatch

theorem entWork_of_told {s t : State} (h : Told s t) : EntWork s t := by
  unfold EntWork
  rw [h.entropy, h.accord, h.freeIx]
  exact h.rest

theorem entWork_entropy (s : State) (x : Entropy) : EntWork s { s with entropy := x } := rfl

theorem EntWork.peers {s t : State} (h : EntWork s t) : t.accord.peers = s.accord.peers := by
  have hfield := congrArg (fun x => x.accord.peers) h
  exact hfield

theorem EntWork.running {s t : State} (h : EntWork s t) : t.running = s.running := by
  have hfield := congrArg State.running h
  exact hfield

theorem EntWork.tick {s t : State} (h : EntWork s t) : t.tick = s.tick := by
  have hfield := congrArg State.tick h
  exact hfield

theorem EntWork.withRunning {s t : State} (h : EntWork s t) (l : List Running) :
    EntWork { s with running := l } { t with running := l } := by
  have hfield := congrArg (fun x : State => { x with running := l }) h
  exact hfield

/-! ## Counters of the entropy unit (R465) -/

theorem entCount_eq (i n : Nat) (s : State) : entCount i n s = State.plus (0xf100 + 8 * i) n s :=
  countBy_uncounted (by simp only [pmcOfCounter]; repeat rw [if_neg (by omega)]) n s

theorem entWork_entCount (i n : Nat) (s : State) : EntWork s (entCount i n s) := by
  rw [entCount_eq]
  rfl

@[simp] theorem entCount_entropy (i n : Nat) (s : State) : (entCount i n s).entropy = s.entropy := by rw [entCount_eq]; rfl

@[simp] theorem entCount_tick (i n : Nat) (s : State) : (entCount i n s).tick = s.tick := by rw [entCount_eq]; rfl

theorem counter_entCount_same (i n : Nat) (s : State) :
    counter (entCount i n s) (0xf100 + 8 * i) = counter s (0xf100 + 8 * i) + BitVec.ofNat 64 n := by
  rw [entCount_eq, counter_plus_same]

theorem counter_entCount_ne {i off : Nat} (h : off ≠ 0xf100 + 8 * i) (n : Nat) (s : State) :
    counter (entCount i n s) off = counter s off := by
  rw [entCount_eq, counter_plus_ne h]

/-! ## Sources -/

theorem setEs_entropy (n : Nat) (e : Source) (s : State) : setEs n e s = { s with entropy := (setEs n e s).entropy } := by
  unfold setEs
  split <;> rfl

theorem esOf_of_entropy {s t : State} (h : t.entropy = s.entropy) (n : Nat) : esOf t n = esOf s n := by
  unfold esOf
  rw [h]

theorem esOf_setEs_same {n : Nat} (h : n < 4) (e : Source) (s : State) : esOf (setEs n e s) n = e := by
  interval_cases n <;> rfl

theorem esOf_setEs_ne {n m : Nat} (hn : n < 4) (hm : m < 4) (h : m ≠ n) (e : Source) (s : State) : esOf (setEs n e s) m = esOf s m := by
  interval_cases n <;> interval_cases m <;> trivial

/-! ## Changes of state (R456) -/

theorem serveWishes_of_no_peers {s : State} (h : s.accord.peers = .empty) : serveWishes s = s := by
  simp [serveWishes, h, Table.keysIf, Table.empty]

/-- Accord without peers sees a change of state in its pause alone. -/
theorem reviewEntropy_of_no_peers {s : State} (h : s.accord.peers = .empty) :
    ∃ paused, Told { s with accord := { s.accord with paused } } (reviewEntropy s) := by
  have htold (paused : Bool) (detail : Nat) : Told { s with accord := { s.accord with paused } }
      (if s.accord.enable then raise 0x0605 1 0 detail { s with accord := { s.accord with paused } }
        else { s with accord := { s.accord with paused } }) := by
    split_ifs
    · exact (Told.refl _).raise ..
    · exact Told.refl _
  unfold reviewEntropy
  dsimp only
  split_ifs with hpause henable hresume henable
  · exact ⟨true, (Told.refl _).raise ..⟩
  · exact ⟨true, Told.refl _⟩
  · have hpeers := (htold false 0).accord
    rw [if_pos henable] at hpeers
    rw [serveWishes_of_no_peers (by rw [hpeers]; exact h)]
    exact ⟨false, (Told.refl _).raise ..⟩
  · rw [serveWishes_of_no_peers (s := { s with accord := { s.accord with paused := false } }) h]
    exact ⟨false, Told.refl _⟩
  · exact ⟨s.accord.paused, Told.refl s⟩

/-- The unit has entered a state and told it, and nothing else of it has changed. -/
structure Entered (st : EntState) (s u : State) : Prop where
  work : EntWork s u
  entropy : u.entropy = { s.entropy with state := st, changedMs := msNow s }
  counters : ∀ off, off ≠ 0xd138 → counter u off = counter s off

theorem Entered.told {st : EntState} {s u v : State} (h : Entered st s u) (k : Told u v) : Entered st s v :=
  ⟨h.work.trans (entWork_of_told k), k.entropy.trans h.entropy, fun off hoff => (k.counters off hoff).trans (h.counters off hoff)⟩

theorem entered_enterEnt {s t : State} (h : Told s t) (hpeers : s.accord.peers = .empty) (st : EntState) : Entered st s (enterEnt st t) := by
  have htick : msNow t = msNow s := by unfold msNow; rw [h.tick]
  have hstart : Entered st s { t with entropy := { t.entropy with state := st, changedMs := msNow t } } :=
    ⟨(entWork_of_told h).trans (entWork_entropy t _), by rw [h.entropy, htick], h.counters⟩
  obtain ⟨paused, htold⟩ := reviewEntropy_of_no_peers
    (s := { t with entropy := { t.entropy with state := st, changedMs := msNow t } }) (by rw [h.accord]; exact hpeers)
  have hpaused : Entered st s { t with
      entropy := { t.entropy with state := st, changedMs := msNow t }, accord := { t.accord with paused } } :=
    ⟨hstart.work.trans rfl, hstart.entropy, hstart.counters⟩
  exact hpaused.told htold

theorem entered_changeEnt {s : State} (hpeers : s.accord.peers = .empty) (st : EntState) (cause source : Nat) :
    Entered st s (changeEnt st cause source s) := entered_enterEnt ((Told.refl s).raiseHeld ..) hpeers st

/-- A source that starts its windows afresh. -/
def Source.fresh (e : Source) (n : Nat) : Source := { e with passes := 0, needs := n }

/-- The unit's records with the generator discarded and every source's windows started afresh. -/
def Entropy.restarted (x : Entropy) (n : Nat) : Entropy :=
  { x with
    bits := 0, seeds := 0, requests := 0, es0 := x.es0.fresh n, es1 := x.es1.fresh n, es2 := x.es2.fresh n, es3 := x.es3.fresh n }

/-- The state in which RETEST is told. -/
def sourcesRestarted (s : State) : State := entCount 5 1 { s with entropy := s.entropy.restarted 2 }

theorem restartWindows_eq (n : Nat) (s : State) : restartWindows n s = { s with entropy := { s.entropy with
    es0 := s.entropy.es0.fresh n, es1 := s.entropy.es1.fresh n, es2 := s.entropy.es2.fresh n, es3 := s.entropy.es3.fresh n } } := by
  simp only [restartWindows, allSources, List.foldl_cons, List.foldl_nil, modEs, setEs, esOf, Source.fresh]

theorem enterRetest_eq (cause source : Nat) (s : State) : enterRetest cause source s = changeEnt .retest cause source (sourcesRestarted s) := by
  rw [enterRetest, restartWindows_eq, sourcesRestarted, Entropy.restarted, discardGenerator]

theorem sourcesRestarted_work (s : State) : EntWork s (sourcesRestarted s) := (entWork_entropy s _).trans (entWork_entCount 5 1 _)

theorem sourcesRestarted_entropy (s : State) : (sourcesRestarted s).entropy = s.entropy.restarted 2 := entCount_entropy ..

theorem counter_restarted (s : State) : counter (sourcesRestarted s) 0xf128 = counter s 0xf128 + 1 := counter_entCount_same 5 1 _

theorem retests_enterRetest {s : State} (hpeers : s.accord.peers = .empty) (cause source : Nat) :
    Retests s (enterRetest cause source s) ∧ ∀ n, n < 4 → (esOf (enterRetest cause source s) n).healthy = (esOf s n).healthy := by
  obtain ⟨hchange, hent, hcounters⟩ := entered_changeEnt (s := sourcesRestarted s) (by rw [(sourcesRestarted_work s).peers]; exact hpeers) .retest cause source
  rw [← enterRetest_eq] at hchange hent hcounters
  rw [sourcesRestarted_entropy] at hent
  have hsource (n : Nat) (hn : n < 4) : esOf (enterRetest cause source s) n = (esOf s n).fresh 2 := by
    unfold esOf
    rw [hent]
    interval_cases n <;> rfl
  have hcount := (hcounters 0xf128 (by decide)).trans (counter_restarted s)
  refine ⟨⟨(sourcesRestarted_work s).trans hchange, ?_, ?_, ?_, ?_, fun n hn => ?_, hcount⟩, fun n hn => ?_⟩
  · rw [hent]
  · rw [hent]; rfl
  · rw [hent]; rfl
  · rw [hent]; rfl
  · rw [hsource n hn]
    exact ⟨rfl, rfl, rfl⟩
  · rw [hsource n hn]
    rfl

/-! ## Health tests (R452, R453) -/

/-- A source that has failed a test. -/
def Source.failed (e : Source) (rct : Bool) : Source :=
  { e with
    healthy := false, passes := 0, needs := 2
    rctMax := if rct then max e.rctMax 41 else e.rctMax, aptMax := if rct then e.aptMax else max e.aptMax 792 }

/-- The state in which a source has failed a test, before what the unit does about it. -/
def sourceFailed (n : Nat) (rct : Bool) (s : State) : State :=
  let t := modEs n (·.failed rct) (entCount (if rct then 3 else 4) 1 s)
  { t with entropy := { t.entropy with bits := 0 } }

theorem setEs_state (n : Nat) (e : Source) (s : State) : (setEs n e s).entropy.state = s.entropy.state := by
  unfold setEs
  split <;> rfl

theorem esOf_sourceFailed_same {n : Nat} (h : n < 4) (rct : Bool) (s : State) : esOf (sourceFailed n rct s) n = (esOf s n).failed rct := by
  refine (esOf_setEs_same h _ _).trans ?_
  rw [esOf_of_entropy (entCount_entropy _ _ s)]

theorem esOf_sourceFailed_ne {n m : Nat} (hn : n < 4) (hm : m < 4) (h : m ≠ n) (rct : Bool) (s : State) :
    esOf (sourceFailed n rct s) m = esOf s m := by
  refine (esOf_setEs_ne hn hm h _ _).trans ?_
  rw [esOf_of_entropy (entCount_entropy _ _ s)]

theorem entWork_setEs (n : Nat) (e : Source) (s : State) : EntWork s (setEs n e s) := by
  rw [setEs_entropy]
  exact entWork_entropy s _

theorem entWork_sourceFailed (n : Nat) (rct : Bool) (s : State) : EntWork s (sourceFailed n rct s) :=
  (entWork_entCount _ 1 s).trans ((entWork_setEs n _ _).trans (entWork_entropy _ _))

theorem sourceFailed_state (n : Nat) (rct : Bool) (s : State) : (sourceFailed n rct s).entropy.state = s.entropy.state := by
  refine (setEs_state n _ _).trans ?_
  rw [entCount_entropy]

theorem counter_sourceFailed (n : Nat) (rct : Bool) (s : State) (off : Nat) :
    counter (sourceFailed n rct s) off = counter (entCount (if rct then 3 else 4) 1 s) off := by
  unfold sourceFailed modEs
  rw [setEs_entropy]
  rfl

/-- RETEST seen from a state before it. -/
theorem Retests.after {s t u : State} (h : EntWork s t) (hexcluded : ∀ n, n < 4 → (esOf t n).excluded = (esOf s n).excluded)
    (hcount : counter t 0xf128 = counter s 0xf128) (k : Retests t u) : Retests s u := by
  obtain ⟨hwork, hstate, hseeds, hbits, hrequests, hsources, hretests⟩ := k
  refine ⟨h.trans hwork, hstate, hseeds, hbits, hrequests, fun n hn => ?_, hretests.trans (by rw [hcount])⟩
  obtain ⟨hpasses, hneeds, hexcl⟩ := hsources n hn
  exact ⟨hpasses, hneeds, hexcl.trans (hexcluded n hn)⟩

theorem healthFail_eq (n : Nat) (rct : Bool) (s : State) : healthFail n rct s =
    if s.entropy.state = .test ∧ s.entropy.mode = 1 then s
    else if (sourceFailed n rct s).entropy.state = .ready ∧ !(esOf (sourceFailed n rct s) n).excluded then
      enterRetest (if rct then 1 else 2) n (sourceFailed n rct s)
    else sourceFailed n rct s := rfl

theorem healthFail_of_ready {n : Nat} {rct : Bool} {s : State} (hn : n < 4) (hready : s.entropy.state = .ready)
    (hin : (esOf s n).excluded = false) :
    healthFail n rct s = enterRetest (if rct then 1 else 2) n (sourceFailed n rct s) := by
  have hexcluded : (esOf (sourceFailed n rct s) n).excluded = false := by
    rw [esOf_sourceFailed_same hn]
    exact hin
  rw [healthFail_eq, if_neg (by rw [hready]; simp), if_pos ⟨(sourceFailed_state n rct s).trans hready, by rw [hexcluded]; rfl⟩]

theorem retests_healthFail {n : Nat} {rct : Bool} {s : State} (hpeers : s.accord.peers = .empty) (hn : n < 4)
    (hready : s.entropy.state = .ready) (hin : (esOf s n).excluded = false) :
    Retests s (healthFail n rct s) ∧ (esOf (healthFail n rct s) n).healthy = false := by
  have hwork := entWork_sourceFailed n rct s
  obtain ⟨hretests, hhealthy⟩ := retests_enterRetest (s := sourceFailed n rct s) (by rw [hwork.peers]; exact hpeers) (if rct then 1 else 2) n
  rw [healthFail_of_ready hn hready hin]
  refine ⟨hretests.after hwork (fun m hm => ?_) ?_, (hhealthy n hn).trans ?_⟩
  · by_cases hmn : m = n
    · rw [hmn, esOf_sourceFailed_same hn]; rfl
    · rw [esOf_sourceFailed_ne hn hm hmn]
  · rw [counter_sourceFailed, counter_entCount_ne (by split_ifs <;> decide)]
  · rw [esOf_sourceFailed_same hn]; rfl

theorem counter_healthFail {n : Nat} {rct : Bool} {s : State} (hpeers : s.accord.peers = .empty) (hn : n < 4)
    (hready : s.entropy.state = .ready) (hin : (esOf s n).excluded = false) :
    counter (healthFail n rct s) (if rct then 0xf118 else 0xf120) = counter s (if rct then 0xf118 else 0xf120) + 1 := by
  have hwork := entWork_sourceFailed n rct s
  have hchange := entered_changeEnt (s := sourcesRestarted (sourceFailed n rct s))
    (by rw [(hwork.trans (sourcesRestarted_work _)).peers]; exact hpeers) .retest (if rct then 1 else 2) n
  have hcount : counter (sourcesRestarted (sourceFailed n rct s)) (if rct then 0xf118 else 0xf120) =
      counter (sourceFailed n rct s) (if rct then 0xf118 else 0xf120) := counter_entCount_ne (by split_ifs <;> decide) 1 _
  have hoff : (if rct then 0xf118 else 0xf120) = 0xf100 + 8 * (if rct then 3 else 4) := by split_ifs <;> rfl
  rw [healthFail_of_ready hn hready hin, enterRetest_eq, hchange.counters _ (by split_ifs <;> decide), hcount, counter_sourceFailed, hoff,
    counter_entCount_same]
  rfl

/-! ## Windows (R452 to R456) -/

/-- A source whose window has passed. -/
def Source.passed (e : Source) (apt run : Nat) : Source :=
  { e with healthy := !e.excluded, passes := e.passes + 1, aptMax := max e.aptMax apt, rctMax := max e.rctMax run }

/-- Bits released into the conditioner. -/
def releaseBits (n : Nat) (s : State) : State := { s with entropy := { s.entropy with bits := s.entropy.bits + n } }

/-- The state after a window that passes. -/
def windowPassed (n apt run : Nat) (s : State) : State :=
  releaseBits (if (esOf s n).excluded then 0 else 1024) (setEs n ((esOf s n).passed apt run) s)

theorem windowEnd_of_passed {n apt run : Nat} {s : State} (hn : n < 4) (hmode : s.entropy.state ≠ .test) (hretest : s.entropy.state ≠ .retest)
    (hapt : apt < 792) (hrun : run < 41) :
    windowEnd n apt run s = windowPassed n apt run s := by
  have hstate := setEs_state n ((esOf s n).passed apt run) s
  have hexcluded : (esOf (setEs n ((esOf s n).passed apt run) s) n).excluded = (esOf s n).excluded := by rw [esOf_setEs_same hn]; rfl
  have heq : windowEnd n apt run s =
      if 4 ≤ n ∨ (s.entropy.state = .test ∧ s.entropy.mode = 1) then s
      else if 792 ≤ apt then healthFail n false s
      else if 41 ≤ run then healthFail n true s
      else if (esOf (setEs n ((esOf s n).passed apt run) s) n).excluded &&
          (setEs n ((esOf s n).passed apt run) s).entropy.state != .retest then setEs n ((esOf s n).passed apt run) s
      else releaseBits 1024 (setEs n ((esOf s n).passed apt run) s) := rfl
  rw [heq, if_neg (by rintro (h | ⟨h, -⟩); exacts [by omega, hmode h]), if_neg (by omega), if_neg (by omega), hexcluded, hstate]
  have hnot : (s.entropy.state != .retest) = true := by simpa using hretest
  rw [hnot, Bool.and_true, windowPassed]
  split_ifs <;> rfl

theorem windowPassed_state (n apt run : Nat) (s : State) : (windowPassed n apt run s).entropy.state = s.entropy.state := setEs_state ..

theorem windowPassed_rest (n apt run : Nat) (s : State) :
    windowPassed n apt run s = { s with entropy := (windowPassed n apt run s).entropy } := by
  rw [windowPassed, releaseBits, setEs_entropy]

theorem esOf_windowPassed_same {n : Nat} (hn : n < 4) (apt run : Nat) (s : State) :
    esOf (windowPassed n apt run s) n = (esOf s n).passed apt run := esOf_setEs_same hn ..

theorem esOf_windowPassed_ne {n m : Nat} (hn : n < 4) (hm : m < 4) (h : m ≠ n) (apt run : Nat) (s : State) :
    esOf (windowPassed n apt run s) m = esOf s m := esOf_setEs_ne hn hm h ..

/-- What a write of a source leaves of the generator. -/
theorem setEs_generator (n : Nat) (e : Source) (s : State) : (setEs n e s).entropy.bits = s.entropy.bits ∧
    (setEs n e s).entropy.seeds = s.entropy.seeds ∧ (setEs n e s).entropy.katFailed = s.entropy.katFailed := by
  unfold setEs
  split <;> exact ⟨rfl, rfl, rfl⟩

theorem windowPassed_generator (n apt run : Nat) (s : State) :
    (windowPassed n apt run s).entropy.bits = s.entropy.bits + (if (esOf s n).excluded then 0 else 1024) ∧
      (windowPassed n apt run s).entropy.seeds = s.entropy.seeds ∧ (windowPassed n apt run s).entropy.katFailed = s.entropy.katFailed := by
  obtain ⟨hbits, hseeds, hkat⟩ := setEs_generator n ((esOf s n).passed apt run) s
  exact ⟨congrArg (· + _) hbits, hseeds, hkat⟩

theorem reviewWindows_of_ready {s : State} (h : s.entropy.state = .ready) : reviewWindows s = makeSeeds s := by
  simp only [reviewWindows, h]

/-- Right after RETEST has begun no source has the windows that it needs. -/
theorem reviewWindows_of_retests {s t : State} (h : Retests s t) : reviewWindows t = t := by
  obtain ⟨-, hstate, -, -, -, hsources, -⟩ := h
  have hnone : allSources.filter (fun n => decide (2 ≤ (esOf t n).passes)) = [] := by
    refine List.filter_eq_nil_iff.mpr fun n hn => ?_
    have hlt : n < 4 := by simp [allSources] at hn; omega
    rw [(hsources n hlt).1]
    decide
  simp only [reviewWindows, hstate, hnone]
  rfl

/-- The generator has been instantiated, and the unit is READY. -/
structure Readied (s u : State) : Prop where
  work : EntWork s u
  state : u.entropy.state = .ready
  requests : u.entropy.requests = 0
  seeds : u.entropy.seeds = s.entropy.seeds + min (4 - s.entropy.seeds) ((s.entropy.bits - 4096) / 2048)
  sources : ∀ n, esOf u n = esOf s n

/-- Bits have been taken for an instantiation (R455). -/
def spentBits (k : Nat) (s : State) : State := { s with entropy := { s.entropy with bits := s.entropy.bits - k, requests := 0 } }

theorem spentBits_seeds (k : Nat) (s : State) : (spentBits k s).entropy.seeds = s.entropy.seeds := rfl

theorem spentBits_bits (k : Nat) (s : State) : (spentBits k s).entropy.bits = s.entropy.bits - k := rfl

theorem esOf_spentBits (k n : Nat) (s : State) : esOf (spentBits k s) n = esOf s n := rfl

theorem entWork_spentBits (k : Nat) (s : State) : EntWork s (spentBits k s) := rfl

theorem entWork_makeSeeds (s : State) : EntWork s (makeSeeds s) := rfl

theorem instantiate_eq (s : State) : instantiate s = entCount 2 1 (makeSeeds (spentBits 4096 s)) := by
  unfold instantiate spentBits
  rfl

theorem makeSeeds_requests (s : State) : (makeSeeds s).entropy.requests = s.entropy.requests := rfl

theorem makeSeeds_seeds (s : State) :
    (makeSeeds s).entropy.seeds = s.entropy.seeds + min (4 - s.entropy.seeds) (s.entropy.bits / 2048) := rfl

theorem esOf_makeSeeds (n : Nat) (s : State) : esOf (makeSeeds s) n = esOf s n := rfl

theorem readied_changeEnt {s : State} (hpeers : s.accord.peers = .empty) (cause source : Nat) :
    Readied s (changeEnt .ready cause source (instantiate s)) := by
  have hwork : EntWork s (instantiate s) := by
    rw [instantiate_eq]
    exact ((entWork_spentBits 4096 s).trans (entWork_makeSeeds _)).trans (entWork_entCount 2 1 _)
  have hent : (instantiate s).entropy = (makeSeeds (spentBits 4096 s)).entropy := by rw [instantiate_eq, entCount_entropy]
  obtain ⟨hchange, hentropy, -⟩ := entered_changeEnt (s := instantiate s) (by rw [hwork.peers]; exact hpeers) .ready cause source
  rw [hent] at hentropy
  refine ⟨hwork.trans hchange, by rw [hentropy], ?_, ?_, fun n => ?_⟩
  · rw [hentropy, makeSeeds_requests, spentBits]
  · rw [hentropy, makeSeeds_seeds, spentBits_seeds, spentBits_bits]
  · have hsame : esOf (changeEnt .ready cause source (instantiate s)) n = esOf (makeSeeds (spentBits 4096 s)) n := by
      unfold esOf
      rw [hentropy]
    rw [hsame, esOf_makeSeeds, esOf_spentBits]

/-- Start-up that every source has passed ends in READY (R456). -/
theorem readied_reviewWindows {s : State} (hpeers : s.accord.peers = .empty) (hstate : s.entropy.state = .starting)
    (hkat : s.entropy.katFailed = false) (hpassed : ∀ n, n < 4 → (esOf s n).needs ≤ (esOf s n).passes) :
    Readied s (reviewWindows s) := by
  have hall : (!s.entropy.katFailed && allSources.all (fun n => decide ((esOf s n).needs ≤ (esOf s n).passes))) = true := by
    simp [hkat, allSources, hpassed]
  simp only [reviewWindows, hstate]
  rw [if_pos hall]
  exact readied_changeEnt hpeers 0 0

section
variable {s : State} (hlive : s.live = true) (hpeers : s.accord.peers = .empty)

include hlive in
theorem execEntWindowEnd_eq (l : List (Nat × Nat × Nat)) :
    exec (.entWindowEnd l) s = .next (reviewWindows (l.foldl (fun s w => windowEnd w.1 w.2.1 w.2.2 s) s)) := by
  rw [show exec (.entWindowEnd l) s = execEntWindowEnd l s from rfl, execEntWindowEnd, act_of_live hlive]

include hlive in
theorem windowPasses {n apt run : Nat} (hn : n < 4) (hready : s.entropy.state = .ready) (hapt : apt < 792) (hrun : run < 41) :
    Gives (exec (.entWindowEnd [(n, apt, run)]) s) (fun t => t = { s with entropy := t.entropy } ∧
      esOf t n = (esOf s n).passed apt run ∧ (∀ m, m < 4 → m ≠ n → esOf t m = esOf s m) ∧
      t.entropy.seeds = s.entropy.seeds + min (4 - s.entropy.seeds)
        ((s.entropy.bits + (if (esOf s n).excluded then 0 else 1024)) / 2048)) := by
  refine ⟨_, execEntWindowEnd_eq hlive _, ?_⟩
  have hstate := (windowPassed_state n apt run s).trans hready
  obtain ⟨hbits, hseeds, -⟩ := windowPassed_generator n apt run s
  have hsources (m : Nat) : esOf (makeSeeds (windowPassed n apt run s)) m = esOf (windowPassed n apt run s) m := rfl
  rw [List.foldl_cons, List.foldl_nil,
    windowEnd_of_passed hn (by rw [hready]; decide) (by rw [hready]; decide) hapt hrun, reviewWindows_of_ready hstate]
  refine ⟨?_, (hsources n).trans (esOf_windowPassed_same hn ..), fun m hm hne => (hsources m).trans (esOf_windowPassed_ne hn hm hne ..), ?_⟩
  · have hrest := congrArg makeSeeds (windowPassed_rest n apt run s)
    exact hrest
  · rw [← hbits, ← hseeds]
    rfl

include hlive hpeers in
theorem windowFails {n apt run : Nat} (hn : n < 4) (hready : s.entropy.state = .ready) (hin : (esOf s n).excluded = false)
    (hfail : 792 ≤ apt ∨ 41 ≤ run) :
    Gives (exec (.entWindowEnd [(n, apt, run)]) s) (fun t => Retests s t ∧ (esOf t n).healthy = false) := by
  have hend : ∃ rct, windowEnd n apt run s = healthFail n rct s := by
    unfold windowEnd
    rw [if_neg (by rw [hready]; simp; omega)]
    by_cases hapt : 792 ≤ apt
    · exact ⟨false, if_pos hapt⟩
    · exact ⟨true, (if_neg hapt).trans (if_pos (hfail.resolve_left hapt))⟩
  obtain ⟨rct, hrct⟩ := hend
  obtain ⟨hretests, hhealthy⟩ := retests_healthFail (rct := rct) hpeers hn hready hin
  refine ⟨_, execEntWindowEnd_eq hlive _, ?_⟩
  rw [List.foldl_cons, List.foldl_nil, hrct, reviewWindows_of_retests hretests]
  exact ⟨hretests, hhealthy⟩

end

/-! ## Start-up, retests and waits (R456 to R460) -/

/-- The four windows that end together at start-up. -/
def fourPassed (a b c d : Nat × Nat) (s : State) : State :=
  windowPassed 3 d.1 d.2 (windowPassed 2 c.1 c.2 (windowPassed 1 b.1 b.2 (windowPassed 0 a.1 a.2 s)))

/-- The counts of the four windows, by source. -/
def fourCounts (a b c d : Nat × Nat) (n : Nat) : Nat × Nat := [a, b, c, d].getD n a

theorem esOf_fourPassed (a b c d : Nat × Nat) {n : Nat} (hn : n < 4) (s : State) :
    esOf (fourPassed a b c d s) n = (esOf s n).passed (fourCounts a b c d n).1 (fourCounts a b c d n).2 := by
  unfold fourPassed
  interval_cases n
  · rw [esOf_windowPassed_ne, esOf_windowPassed_ne, esOf_windowPassed_ne, esOf_windowPassed_same]
    · rfl
    all_goals decide
  · rw [esOf_windowPassed_ne, esOf_windowPassed_ne, esOf_windowPassed_same, esOf_windowPassed_ne]
    · rfl
    all_goals decide
  · rw [esOf_windowPassed_ne, esOf_windowPassed_same, esOf_windowPassed_ne, esOf_windowPassed_ne]
    · rfl
    all_goals decide
  · rw [esOf_windowPassed_same, esOf_windowPassed_ne, esOf_windowPassed_ne, esOf_windowPassed_ne]
    · rfl
    all_goals decide

theorem fourPassed_state (a b c d : Nat × Nat) (s : State) : (fourPassed a b c d s).entropy.state = s.entropy.state := by
  simp only [fourPassed, windowPassed_state]

theorem fourPassed_rest (a b c d : Nat × Nat) (s : State) :
    fourPassed a b c d s = { s with entropy := (fourPassed a b c d s).entropy } := by
  unfold fourPassed
  rw [windowPassed_rest 3, windowPassed_rest 2, windowPassed_rest 1, windowPassed_rest 0]

/-- What start-up has gathered where no source is excluded: 1,024 bits of each. -/
theorem fourPassed_generator {a b c d : Nat × Nat} {s : State} (hin : ∀ n, n < 4 → (esOf s n).excluded = false) :
    (fourPassed a b c d s).entropy.bits = s.entropy.bits + 1024 + 1024 + 1024 + 1024 ∧
      (fourPassed a b c d s).entropy.seeds = s.entropy.seeds ∧ (fourPassed a b c d s).entropy.katFailed = s.entropy.katFailed := by
  have h0 := windowPassed_generator 0 a.1 a.2 s
  have h1 := windowPassed_generator 1 b.1 b.2 (windowPassed 0 a.1 a.2 s)
  have h2 := windowPassed_generator 2 c.1 c.2 (windowPassed 1 b.1 b.2 (windowPassed 0 a.1 a.2 s))
  have h3 := windowPassed_generator 3 d.1 d.2 (windowPassed 2 c.1 c.2 (windowPassed 1 b.1 b.2 (windowPassed 0 a.1 a.2 s)))
  have e1 : (esOf (windowPassed 0 a.1 a.2 s) 1).excluded = false := by
    rw [esOf_windowPassed_ne (by decide) (by decide) (by decide)]
    exact hin 1 (by decide)
  have e2 : (esOf (windowPassed 1 b.1 b.2 (windowPassed 0 a.1 a.2 s)) 2).excluded = false := by
    rw [esOf_windowPassed_ne (by decide) (by decide) (by decide), esOf_windowPassed_ne (by decide) (by decide) (by decide)]
    exact hin 2 (by decide)
  have e3 : (esOf (windowPassed 2 c.1 c.2 (windowPassed 1 b.1 b.2 (windowPassed 0 a.1 a.2 s))) 3).excluded = false := by
    rw [esOf_windowPassed_ne (by decide) (by decide) (by decide), esOf_windowPassed_ne (by decide) (by decide) (by decide),
      esOf_windowPassed_ne (by decide) (by decide) (by decide)]
    exact hin 3 (by decide)
  simp only [hin 0 (by decide), e1, e2, e3, Bool.false_eq_true, if_false] at h0 h1 h2 h3
  obtain ⟨hbits0, hseeds0, hkat0⟩ := h0
  obtain ⟨hbits1, hseeds1, hkat1⟩ := h1
  obtain ⟨hbits2, hseeds2, hkat2⟩ := h2
  obtain ⟨hbits3, hseeds3, hkat3⟩ := h3
  unfold fourPassed
  rw [hbits3, hbits2, hbits1, hbits0, hseeds3, hseeds2, hseeds1, hseeds0, hkat3, hkat2, hkat1, hkat0]
  exact ⟨rfl, rfl, rfl⟩

theorem startUpEnds {s : State} (hlive : s.live = true) (hpeers : s.accord.peers = .empty) (a b c d : Nat × Nat)
    (hstate : s.entropy.state = .starting) (hkat : s.entropy.katFailed = false) (hbits : s.entropy.bits = 0) (hseeds : s.entropy.seeds = 0)
    (hsources : ∀ n, n < 4 → (esOf s n).excluded = false ∧ (esOf s n).needs ≤ (esOf s n).passes + 1)
    (hcounts : ∀ x, x = a ∨ x = b ∨ x = c ∨ x = d → x.1 < 792 ∧ x.2 < 41) :
    Gives (exec (.entWindowEnd [(0, a.1, a.2), (1, b.1, b.2), (2, c.1, c.2), (3, d.1, d.2)]) s) (fun t => EntWork s t ∧
      t.entropy.state = .ready ∧ t.entropy.seeds = 0 ∧ t.entropy.requests = 0 ∧ ∀ n, n < 4 → (esOf t n).healthy = true) := by
  have hwindow (n : Nat) (x : Nat × Nat) (t : State) (ht : t.entropy.state = .starting) (hn : n < 4) (hx : x = a ∨ x = b ∨ x = c ∨ x = d) :
      windowEnd n x.1 x.2 t = windowPassed n x.1 x.2 t :=
    windowEnd_of_passed hn (by rw [ht]; decide) (by rw [ht]; decide) (hcounts x hx).1 (hcounts x hx).2
  have hfold : [(0, a.1, a.2), (1, b.1, b.2), (2, c.1, c.2), (3, d.1, d.2)].foldl (fun s w => windowEnd w.1 w.2.1 w.2.2 s) s =
      fourPassed a b c d s := by
    simp only [List.foldl_cons, List.foldl_nil, fourPassed]
    rw [hwindow 0 a s hstate (by decide) (by simp), hwindow 1 b _ (by simpa only [windowPassed_state]) (by decide) (by simp),
      hwindow 2 c _ (by simpa only [windowPassed_state]) (by decide) (by simp),
      hwindow 3 d _ (by simpa only [windowPassed_state]) (by decide) (by simp)]
  obtain ⟨hbits', hseeds', hkat'⟩ := fourPassed_generator (a := a) (b := b) (c := c) (d := d) fun n hn => (hsources n hn).1
  have hwork : EntWork s (fourPassed a b c d s) := by
    rw [fourPassed_rest]
    exact entWork_entropy s _
  obtain ⟨hready, hnow, hrequests, hgot, hkept⟩ := readied_reviewWindows (s := fourPassed a b c d s) (by rw [hwork.peers]; exact hpeers)
    ((fourPassed_state ..).trans hstate) (hkat'.trans hkat) fun n hn => by
      rw [esOf_fourPassed a b c d hn]
      exact (hsources n hn).2
  refine ⟨_, execEntWindowEnd_eq hlive _, ?_⟩
  rw [hfold]
  refine ⟨hwork.trans hready, hnow, ?_, hrequests, fun n hn => ?_⟩
  · rw [hgot, hseeds', hbits', hseeds, hbits]
    rfl
  · rw [hkept, esOf_fourPassed a b c d hn, Source.passed, (hsources n hn).1]
    rfl

theorem healthFailOf {s : State} (hlive : s.live = true) (hpeers : s.accord.peers = .empty) {n : Nat} (rct : Bool) (hn : n < 4) :
    (s.entropy.state = .test → s.entropy.mode = 1 → exec (.entHealthFail n rct) s = .next s) ∧
    (s.entropy.state = .ready → (esOf s n).excluded = false → Gives (exec (.entHealthFail n rct) s) (fun t => Retests s t ∧
      (esOf t n).healthy = false ∧ counter t (if rct then 0xf118 else 0xf120) = counter s (if rct then 0xf118 else 0xf120) + 1)) := by
  have hexec : exec (.entHealthFail n rct) s = .next (healthFail n rct s) := by
    refine (act_of_live hlive fun s => if n < 4 then healthFail n rct s else s).trans ?_
    rw [if_pos hn]
  rw [hexec]
  refine ⟨fun htest hmode => congrArg _ (if_pos ⟨htest, hmode⟩), fun hready hin => ⟨_, rfl, ?_⟩⟩
  obtain ⟨hretests, hhealthy⟩ := retests_healthFail (rct := rct) hpeers hn hready hin
  exact ⟨hretests, hhealthy, counter_healthFail hpeers hn hready hin⟩

/-! ## Failure (R456, R459) -/

/-- The unit has failed: the generator is discarded and the failure told. -/
def failedTold (why : Nat) (s : State) : State :=
  let t := enterEnt .failed (discardGenerator s)
  raiseHeld 0 0x0c03 3 0 (detailOf [(20, why), (24, 16 * esMask t (·.healthy) + esMask t (·.excluded))]) t

theorem entered_failedTold {s : State} (hpeers : s.accord.peers = .empty) (why : Nat) :
    Entered .failed (discardGenerator s) (failedTold why s) :=
  (entered_enterEnt (Told.refl (discardGenerator s)) hpeers .failed).told ((Told.refl _).raiseHeld ..)

/-- The consumers that a failure ends. -/
def failsNow (r : Running) : Bool := r.wait == .entropy && !r.isOp 0x0d04

theorem finishRunning_accord (r : Running) (reply : Reply) (s : State) : (finishRunning r reply s).accord = s.accord := by
  unfold finishRunning
  split
  · exact ((Told.refl s).finish ..).accord
  · split_ifs
    · exact ((Told.refl s).finish ..).accord
    · rfl

theorem completeRunning_accord (p : Running → Bool) (reply : Running → Reply) (s : State) :
    (completeRunning p reply s).accord = s.accord :=
  foldl_keeps State.accord (fun t r => finishRunning_accord r (reply r) t) _ _

theorem failWaiting_of_no_peers {s : State} (h : s.accord.peers = .empty) :
    failWaiting s = completeRunning failsNow (fun _ => { status := stEntropyFail })
      (entCount 6 (s.running.countP (fun r => failsNow r && r.isOp 0x0c01)) s) := by
  have hkeys : (completeRunning failsNow (fun _ => { status := stEntropyFail })
      (entCount 6 (s.running.countP (fun r => failsNow r && r.isOp 0x0c01)) s)).accord.peers.keys = [] := by
    rw [completeRunning_accord, (entWork_entCount ..).peers, h]
    rfl
  unfold failWaiting
  dsimp only
  exact (congrArg (List.foldl _ _) hkeys).trans rfl

theorem completeRunning_of_unmatched {s : State} {p : Running → Bool} (h : ∀ r ∈ s.running, p r = false) (reply : Running → Reply) :
    completeRunning p reply s = s := by
  have hnone : s.running.filter p = [] := List.filter_eq_nil_iff.mpr fun r hr => by simp [h r hr]
  have hall : s.running.filter (fun r => !p r) = s.running := List.filter_eq_self.mpr fun r hr => by simp [h r hr]
  simp only [completeRunning, hnone, hall, List.foldl_nil]

theorem execEntRetestTimeout_of_retest {s : State} (hlive : s.live = true) (hpeers : s.accord.peers = .empty)
    (hstate : s.entropy.state = .retest) :
    exec .entRetestTimeout s = .next (completeRunning failsNow (fun _ => { status := stEntropyFail })
      (entCount 6 (s.running.countP (fun r => failsNow r && r.isOp 0x0c01)) (failedTold 1 s))) := by
  have hwork := (entered_failedTold hpeers 1).work
  refine (act_of_live hlive fun s => if s.entropy.state = .retest then failEnt 1 s else s).trans (congrArg _ ?_)
  rw [if_pos hstate, show failEnt 1 s = failWaiting (failedTold 1 s) from rfl, failWaiting_of_no_peers (by rw [hwork.peers]; exact hpeers),
    hwork.running]
  rfl

/-- A retest takes too long, and nobody waits. -/
theorem retestTimesOut {s : State} (hlive : s.live = true) (hpeers : s.accord.peers = .empty) (hstate : s.entropy.state = .retest)
    (hnone : s.running.all (fun r => r.wait != .entropy) = true) :
    Gives (exec .entRetestTimeout s) (fun t => EntWork s t ∧ t.entropy.state = .failed ∧ t.entropy.seeds = 0) := by
  obtain ⟨hwork, hentropy, -⟩ := entered_failedTold hpeers 1
  have hcount := entWork_entCount 6 (s.running.countP (fun r => failsNow r && r.isOp 0x0c01)) (failedTold 1 s)
  have hunmatched : ∀ r ∈ s.running, failsNow r = false := fun r hr => by
    have hwait := List.all_eq_true.mp hnone r hr
    simp only [bne, Bool.not_eq_true'] at hwait
    simp only [failsNow, hwait, Bool.false_and]
  rw [execEntRetestTimeout_of_retest hlive hpeers hstate,
    completeRunning_of_unmatched (by rw [hcount.running, hwork.running]; exact hunmatched)]
  refine ⟨_, rfl, ((entWork_entropy s _).trans hwork).trans hcount, ?_, ?_⟩
  · rw [entCount_entropy, hentropy]
  · rw [entCount_entropy, hentropy]
    rfl

/-- A retest takes too long while an ENT_READ waits. -/
theorem retestFailsRead {s : State} (hlive : s.live = true) (hpeers : s.accord.peers = .empty) (hstate : s.entropy.state = .retest)
    {r : Running} (hrunning : s.running = [r]) (hwait : r.wait = .entropy) (hread : r.isOp 0x0c01 = true) (hxfer : r.xfer = none) :
    Gives (exec .entRetestTimeout s) (fun t => ∃ v, EntWork { s with running := [] } v ∧ v.entropy.state = .failed ∧
      counter v 0xf130 = counter s 0xf130 + 1 ∧ Answered r.cmd stEntropyFail 0 0 v t) := by
  obtain ⟨hwork, hentropy, hcounters⟩ := entered_failedTold hpeers 1
  have hcount := entWork_entCount 6 1 (failedTold 1 s)
  have hfails : failsNow r = true := by
    have hop : r.isOp 0x0d04 = false := by
      simp only [Running.isOp, beq_iff_eq] at hread
      simp [Running.isOp, hread]
    simp [failsNow, hwait, hop]
  have hone : [r].countP (fun r => failsNow r && r.isOp 0x0c01) = 1 := by simp [hfails, hread]
  rw [execEntRetestTimeout_of_retest hlive hpeers hstate, hrunning, hone,
    completeRunning_only (by rw [hcount.running, hwork.running]; exact hrunning) hfails]
  refine ⟨_, rfl, _, (((entWork_entropy s _).trans hwork).trans hcount).withRunning [], ?_, ?_, answered_finishRunning hxfer ..⟩
  · exact (congrArg Entropy.state (entCount_entropy ..)).trans (congrArg Entropy.state hentropy)
  · exact (counter_entCount_same 6 1 (failedTold 1 s)).trans (congrArg (· + BitVec.ofNat 64 1) (hcounters 0xf130 (by decide)))

/-! ## Retests of a unit or a source (R456, R457) -/

/-- Every source's health has been set by a list of those that passed. -/
def healthSet (good : List Nat) (s : State) : State := allSources.foldl (fun s n => modEs n (fun e => { e with healthy := good.contains n }) s) s

theorem healthSet_rest (good : List Nat) (s : State) : healthSet good s = { s with entropy := { s.entropy with
    es0 := { s.entropy.es0 with healthy := good.contains 0 }, es1 := { s.entropy.es1 with healthy := good.contains 1 }
    es2 := { s.entropy.es2 with healthy := good.contains 2 }, es3 := { s.entropy.es3 with healthy := good.contains 3 } } } := by
  simp only [healthSet, allSources, List.foldl_cons, List.foldl_nil, modEs, setEs, esOf]

theorem esOf_healthSet (good : List Nat) {n : Nat} (hn : n < 4) (s : State) : (esOf (healthSet good s) n).healthy = good.contains n := by
  rw [healthSet_rest]
  interval_cases n <;> rfl

/-- Bits that a retest has gathered. -/
def bitsGathered (n : Nat) (s : State) : State := { s with entropy := { s.entropy with bits := n } }

theorem entWork_bitsGathered (n : Nat) (s : State) : EntWork s (bitsGathered n s) := rfl

theorem esOf_bitsGathered (k n : Nat) (s : State) : esOf (bitsGathered k s) n = esOf s n := rfl

theorem failedUnitRetests {s : State} (hlive : s.live = true) (hpeers : s.accord.peers = .empty) {passed good : List Nat}
    (hgood : good = [0, 1, 2, 3].filter (fun n => !(esOf s n).excluded && passed.contains n)) :
    if s.entropy.state = .failed ∧ s.entropy.katFailed = false ∧ 2 ≤ good.length then
      Gives (exec (.entFailedRetest passed) s) (fun t => EntWork s t ∧ t.entropy.state = .ready ∧
        ∀ n, n < 4 → (esOf t n).healthy = good.contains n)
    else exec (.entFailedRetest passed) s = .next s := by
  have hgood' : (taking s).filter (passed.contains ·) = good := by
    rw [hgood, taking, List.filter_filter]
    exact List.filter_congr fun n _ => Bool.and_comm _ _
  have hexec : exec (.entFailedRetest passed) s = .next (if s.entropy.state = .failed ∧ !s.entropy.katFailed ∧ 2 ≤ good.length then
      changeEnt .ready 3 0 (instantiate (bitsGathered (2048 * good.length) (healthSet good s))) else s) := by
    refine (act_of_live hlive _).trans (congrArg _ ?_)
    rw [← hgood']
    rfl
  have hiff : (s.entropy.state = .failed ∧ !s.entropy.katFailed ∧ 2 ≤ good.length) ↔
      (s.entropy.state = .failed ∧ s.entropy.katFailed = false ∧ 2 ≤ good.length) := by simp
  rw [hexec]
  by_cases hok : s.entropy.state = .failed ∧ s.entropy.katFailed = false ∧ 2 ≤ good.length
  · rw [if_pos hok, if_pos (hiff.mpr hok)]
    have hwork : EntWork s (bitsGathered (2048 * good.length) (healthSet good s)) := by
      rw [healthSet_rest]
      exact (entWork_entropy s _).trans (entWork_bitsGathered ..)
    obtain ⟨hready, hnow, -, -, hsources⟩ := readied_changeEnt (s := bitsGathered (2048 * good.length) (healthSet good s))
      (by rw [hwork.peers]; exact hpeers) 3 0
    refine ⟨_, rfl, hwork.trans hready, hnow, fun n hn => ?_⟩
    rw [hsources, esOf_bitsGathered, esOf_healthSet good hn]
  · rw [if_neg hok, if_neg (mt hiff.mp hok)]

theorem sourceRetests {s : State} (hlive : s.live = true) {n : Nat} (hn : n < 4) (passed : Bool) :
    if (esOf s n).excluded = true ∧ passed = true then
      Gives (exec (.entSourceRetest n passed) s) (Told (setEs n { esOf s n with excluded := false, healthy := true } s))
    else exec (.entSourceRetest n passed) s = .next s := by
  have hexec : exec (.entSourceRetest n passed) s = .next (if n < 4 ∧ (esOf s n).excluded ∧ passed then
      raiseExcluded n false (setEs n { esOf s n with excluded := false, healthy := true } s) else s) := act_of_live hlive _
  rw [hexec]
  split_ifs with hgood hguard hguard
  · exact ⟨_, rfl, (Told.refl _).raiseHeld ..⟩
  · exact absurd ⟨hn, hgood⟩ hguard
  · exact absurd hguard.2 hgood
  · rfl

/-! ## ENT_READ (R455, R459 to R462) -/

theorem length_leBytes (n x : Nat) : (leBytes n x).length = n := by
  induction n generalizing x with
  | zero => rfl
  | succ n ih => rw [leBytes, List.length_cons, ih]

/-- What an ENT_READ that is served draws: as many bytes as it asks for, and nothing but the unit's work. -/
structure ReadServed (n : Nat) (s : State) (r : Bytes × State) : Prop where
  length : r.1.length = n
  work : EntWork s r.2
  nextFn : r.2.entropy.nextFn = s.entropy.nextFn

theorem ReadServed.of_work {n : Nat} {s u : State} (h : EntWork s u) (hnext : u.entropy.nextFn = s.entropy.nextFn) (x : Nat) :
    ReadServed n s (leBytes n x, u) := ⟨length_leBytes n x, h, hnext⟩

theorem entWork_drawFree (bits : Nat) (s : State) : EntWork s (drawFree bits s).2 := rfl

/-- A value drawn last changes no record of the unit. -/
theorem ReadServed.of_draw {n : Nat} {s u : State} (h : EntWork s u) (hnext : u.entropy.nextFn = s.entropy.nextFn) (bits : Nat) :
    ReadServed n s (leBytes n (drawFree bits u).1, (drawFree bits u).2) := ⟨length_leBytes .., h.trans (entWork_drawFree bits u), hnext⟩

theorem entWork_entServe (n bytes : Nat) (s : State) : EntWork s (entServe n bytes s) := by
  rw [entServe_rest]
  rfl

theorem entServe_nextFn (n bytes : Nat) (s : State) : (entServe n bytes s).entropy.nextFn = s.entropy.nextFn := by
  simp only [entServe, entCount_entropy]

theorem entWork_reseedNow (s : State) : EntWork s (reseedNow s) := (entWork_entropy s _).trans (entWork_entCount ..)

theorem reseedNow_nextFn (s : State) : (reseedNow s).entropy.nextFn = s.entropy.nextFn := by
  simp only [reseedNow, entCount_entropy]

theorem entWork_patternServe (c : Cmd) (s : State) : EntWork s (patternServe c s).2 := by
  unfold patternServe
  exact ((entWork_entropy s _).trans (entWork_entCount 1 (readRequests c) _)).trans (entWork_entCount 2 _ _)

theorem patternServe_nextFn (c : Cmd) (s : State) : (patternServe c s).2.entropy.nextFn = s.entropy.nextFn := by
  simp only [patternServe, entCount_entropy]

theorem readServed (c : Cmd) (s : State) : ReadServed (readLength c) s (readBytes c s) := by
  have hpattern := (entWork_patternServe c s).trans (entWork_entCount 0 (readLength c) _)
  have hraw := (entWork_drawFree (8 * readLength c) s).trans (entWork_entCount 0 (readLength c) _)
  have hreseed := (entWork_reseedNow s).trans (entWork_entServe (readRequests c) (readLength c) _)
  have hserve := entWork_entServe (readRequests c) (readLength c) s
  unfold readBytes
  dsimp only
  split_ifs
  · exact .of_work hpattern ((congrArg Entropy.nextFn (entCount_entropy ..)).trans (patternServe_nextFn c s)) _
  · exact .of_work hraw (congrArg Entropy.nextFn (entCount_entropy ..)) _
  · exact .of_draw hreseed ((entServe_nextFn ..).trans (reseedNow_nextFn s)) _
  · exact .of_draw hserve (entServe_nextFn ..) _

theorem finish_of_data {c : Cmd} {status result : Nat} {data : Bytes} (h : data ≠ []) (s : State) :
    Answered c status 0 result (emit (.hostWrite c.fn c.dataPtr data) s) (finish c { status, result, data } s) := by
  simp only [finish, if_neg h]
  exact answered_postCompletion ..

theorem readReply_eq (c : Cmd) (s : State) : readReply c s =
    ({ status := stOk, result := readLength c + 2 ^ 16 * b2n (s.entropy.state == .test), data := (readBytes c s).1 }, (readBytes c s).2) := by
  have hresult : resultOf [(8, readLength c), (10, b2n (s.entropy.state == .test))] =
      readLength c + 2 ^ 16 * b2n (s.entropy.state == .test) := by
    simp only [resultOf_cons, resultOf_nil]
    omega
  rw [readReply, hresult]

/-- A read that asks for bytes returns some. -/
theorem ReadServed.ne_nil {n : Nat} {s : State} {r : Bytes × State} (h : ReadServed n s r) (hn : 0 < n) : r.1 ≠ [] := by
  intro hnil
  have hlength := h.length
  rw [hnil] at hlength
  exact absurd hlength (by simp; omega)

theorem entRead {c : Cmd} {s : State} {n : Nat} (h : Passes 0x0c01 specEntRead c s) (hn : n = c.get ⟨8, 0, 13⟩) :
    (readServes s c = true → ∃ (bs : Bytes) (v : State), bs.length = n ∧ EntWork s v ∧
      Answers c (n + 2 ^ 16 * b2n (s.entropy.state == .test)) (emit (.hostWrite c.fn c.dataPtr bs) v) (exec (.entRead c) s)) ∧
    (readServes s c = false → exec (.entRead c) s =
      .next { s with running := s.running ++ [{ cmd := c, cls := .b, locks := [], wait := .entropy }] }) := by
  subst hn
  have hserved := readServed c s
  have hpositive : 0 < readLength c := by
    have hown := h.clear.own (readLength c == 0 || 4096 < readLength c, 8) (by simp [specEntRead])
    simp only [Bool.or_eq_false_iff, beq_eq_false_iff_ne] at hown
    omega
  refine ⟨fun hserves => ⟨(readBytes c s).1, (readBytes c s).2, hserved.length, hserved.work, ?_⟩, fun hwaits => ?_⟩
  · have heff : specEntRead.effect c s = ((readReply c s).2, .done (readReply c s).1) := if_pos hserves
    have hunmirrored : mirroredCommands.contains c.opcode = false := by rw [h.opcode]; decide
    rw [readReply_eq] at heff
    refine ⟨_, hostOp_of_done h heff, ?_⟩
    rw [mirrorCommand_of_unmirrored hunmirrored]
    exact finish_of_data (hserved.ne_nil hpositive) _
  · exact hostOp_of_wait h (if_neg (by rw [hwaits]; decide))

theorem entStatus {c : Cmd} {s : State} (h : Passes 0x0c02 specEntStatus c s) :
    Answers c (entState s + 2 ^ 32 * min (2 ^ 32 - 1) (msNow s - s.entropy.changedMs)) s (exec (.entStatus c) s) := by
  have hresult (x y : Nat) : resultOf [(8, x), (12, y)] = x + 2 ^ 32 * y := by
    simp only [resultOf_cons, resultOf_nil]
    omega
  rw [← hresult]
  exact answers_of_done h (by decide) rfl

/-! ## ENT_TEST_PATTERN (R461, R464) -/

/-- The records with no test mode. -/
def Entropy.untested (x : Entropy) : Entropy := { x with mode := 0, testSource := 0, pattern := [] }

theorem specEntTestPattern_leave {c : Cmd} (h : c.get ⟨8, 0, 2⟩ = 0) (s : State) :
    specEntTestPattern.effect c s = (leaveTest s, ok 0) := by
  simp only [specEntTestPattern, h]

theorem specEntTestPattern_enter {c : Cmd} {m : Nat} (hm : m = c.get ⟨8, 0, 2⟩) (h : m ≠ 0) (s : State) : specEntTestPattern.effect c s =
    (enterTest m (if m = 1 then 0 else c.get ⟨8, 2, 2⟩) (if m = 1 then c.payload else []) s, ok 0) := by
  simp only [specEntTestPattern, ← hm]
  by_cases hone : m = 1
  · subst hone
    rfl
  · rw [if_neg hone, if_neg hone]
    split
    · contradiction
    · contradiction
    · rfl

theorem retests_leaveTest {s : State} (hpeers : s.accord.peers = .empty) (htest : s.entropy.state = .test) :
    Retests s (leaveTest s) ∧ (leaveTest s).entropy.mode = 0 := by
  have hleave : leaveTest s = enterRetest 4 0 { s with entropy := s.entropy.untested } := if_pos htest
  have hretests := (retests_enterRetest (s := { s with entropy := s.entropy.untested }) hpeers 4 0).1
  have hentropy := (entered_changeEnt (s := sourcesRestarted { s with entropy := s.entropy.untested })
    (by rw [(sourcesRestarted_work _).peers]; exact hpeers) .retest 4 0).entropy
  rw [hleave]
  refine ⟨hretests.after (entWork_entropy s _) (fun n _ => rfl) rfl, ?_⟩
  rw [enterRetest_eq, hentropy, sourcesRestarted_entropy]
  rfl

/-- The records in a test mode, nothing kept. -/
def Entropy.testing (x : Entropy) (mode source : Nat) (pattern : Bytes) : Entropy :=
  { x with mode, testSource := source, pattern, bits := 0, seeds := 0, requests := 0 }

/-- The state in which a test mode is entered. -/
def testPrepared (mode source : Nat) (pattern : Bytes) (s : State) : State :=
  if mode = 1 then entCount 2 1 { s with entropy := s.entropy.testing mode source pattern }
  else { s with entropy := s.entropy.testing mode source pattern }

theorem testPrepared_entropy (mode source : Nat) (pattern : Bytes) (s : State) :
    (testPrepared mode source pattern s).entropy = s.entropy.testing mode source pattern := by
  unfold testPrepared
  split_ifs
  · exact entCount_entropy ..
  · rfl

theorem entWork_testPrepared (mode source : Nat) (pattern : Bytes) (s : State) : EntWork s (testPrepared mode source pattern s) := by
  unfold testPrepared
  split_ifs
  · exact (entWork_entropy s _).trans (entWork_entCount ..)
  · exact entWork_entropy s _

theorem enterTest_entered {s : State} (hpeers : s.accord.peers = .empty) (mode source : Nat) (pattern : Bytes) :
    EntWork s (enterTest mode source pattern s) ∧ ∃ ms, (enterTest mode source pattern s).entropy =
      { s.entropy.testing mode source pattern with state := .test, changedMs := ms } := by
  have hwork := entWork_testPrepared mode source pattern s
  have hentropy := testPrepared_entropy mode source pattern s
  have henter : enterTest mode source pattern s = if (testPrepared mode source pattern s).entropy.state = .test then
      testPrepared mode source pattern s else changeEnt .test 4 0 (testPrepared mode source pattern s) := rfl
  rw [henter]
  split_ifs with htest
  · rw [hentropy] at htest
    refine ⟨hwork, s.entropy.changedMs, ?_⟩
    rw [hentropy, ← htest]
    rfl
  · obtain ⟨hchange, hafter, -⟩ := entered_changeEnt (by rw [hwork.peers]; exact hpeers) .test 4 0
    rw [hentropy] at hafter
    exact ⟨hwork.trans hchange, _, hafter⟩

/-! ## Serving (R459, R460) -/

section
variable {s : State} (hready : s.entropy.state = .ready) (hsession : s.attar.sessionReady = true) (hkeeper : s.attar.keeper.isSome = true)
  (hstorage : s.attar.storageKey.isSome = true) (hepoch : s.accord.epoch.isSome = true) (hpeers : s.accord.peers = .empty)

include hsession hkeeper hstorage in
theorem serveKeys_of_present : serveKeys s = s := by
  have hkept : s.attar.keeper.isNone = false := by
    rw [Option.isSome_iff_exists] at hkeeper
    obtain ⟨k, hk⟩ := hkeeper
    rw [hk]
    rfl
  simp only [serveKeys, hsession, if_true, hkept, Bool.and_false, Bool.false_and, Bool.false_eq_true, if_false, needStorage, hstorage]

include hepoch hpeers in
theorem serveAccord_of_no_peers : serveAccord s = s := by
  have hkept : s.accord.epoch.isNone = false := by
    rw [Option.isSome_iff_exists] at hepoch
    obtain ⟨e, he⟩ := hepoch
    rw [he]
    rfl
  have hkeys : s.accord.peers.keys = [] := by rw [hpeers]; rfl
  simp only [serveAccord, hkept, Bool.false_and, Bool.false_eq_true, if_false, hkeys, List.foldl_nil, serveWishes_of_no_peers hpeers]

theorem serveCommands_of_none (h : ∀ r ∈ s.running, (r.wait == .entropy && !r.isOp 0x0c01) = false) : serveCommands s = s := by
  have hnone : s.running.filter (fun r => r.wait == .entropy && !r.isOp 0x0c01) = [] :=
    List.filter_eq_nil_iff.mpr fun r hr => by simp [h r hr]
  simp only [serveCommands, hnone, List.foldl_nil]

include hready hsession hkeeper hstorage hepoch hpeers in
/-- With every key there and no peer, READY serves only the ENT_READs. -/
theorem serveRequests_of_reads (h : ∀ r ∈ s.running, (r.wait == .entropy && !r.isOp 0x0c01) = false) :
    serveRequests s = serveReads s.running.length s := by
  simp only [serveRequests, hready, if_true, serveKeys_of_present hsession hkeeper hstorage, serveAccord_of_no_peers hepoch hpeers,
    serveCommands_of_none h]

end

/-- The only read that waits is the next one, whoever's turn it is. -/
theorem nextRead_only {s : State} {r : Running} (hrunning : s.running = [r]) (hwait : r.wait = .entropy) (hread : r.isOp 0x0c01 = true)
    (hfn : r.cmd.fn < 32) : nextRead s = some r := by
  have hturn : ∃ k ∈ List.range 32, (s.entropy.nextFn + k) % 32 = r.cmd.fn := by
    refine ⟨(r.cmd.fn + 32 - s.entropy.nextFn % 32) % 32, List.mem_range.mpr (Nat.mod_lt _ (by decide)), ?_⟩
    omega
  have hfind (f : Nat) : s.running.find? (fun r => r.wait == .entropy && r.isOp 0x0c01 && r.cmd.fn == f) =
      if r.cmd.fn = f then some r else none := by
    by_cases h : r.cmd.fn = f
    · simp [hrunning, hwait, hread, h]
    · simp [hrunning, h]
  unfold nextRead
  simp only [hfind]
  cases hfound : List.findSome? (fun f => if r.cmd.fn = f then some r else none)
      ((List.range 32).map (fun k => (s.entropy.nextFn + k) % 32)) with
  | none =>
    obtain ⟨k, hk, hturn⟩ := hturn
    have hmiss := List.findSome?_eq_none_iff.mp hfound _ (List.mem_map_of_mem hk)
    rw [hturn, if_pos rfl] at hmiss
    exact absurd hmiss (by simp)
  | some x =>
    obtain ⟨f, -, hf⟩ := List.exists_of_findSome?_eq_some hfound
    split_ifs at hf
    exact hf.symm

theorem serveRead {s : State} {r : Running} (hrunning : s.running = [r]) (hwait : r.wait = .entropy) (hread : r.isOp 0x0c01 = true)
    (hfn : r.cmd.fn < 32) (hserves : readServes s r.cmd = true) :
    serveReads s.running.length s = finishRunning r (readReply r.cmd { s with
        running := [], entropy := { s.entropy with nextFn := (r.cmd.fn + 1) % 32 } }).1
      (readReply r.cmd { s with running := [], entropy := { s.entropy with nextFn := (r.cmd.fn + 1) % 32 } }).2 := by
  have hlength : s.running.length = 1 := by rw [hrunning]; rfl
  have hnone : s.running.filter (fun x => x != r) = [] := by simp [hrunning]
  simp only [hlength, serveReads, nextRead_only hrunning hwait hread hfn, hserves, if_true, hnone]

theorem requestServed {s : State} (hlive : s.live = true) (hready : s.entropy.state = .ready)
    (hreads : serveRequests s = serveReads s.running.length s) {r : Running} {n : Nat} (hrunning : s.running = [r]) (hwait : r.wait = .entropy)
    (hread : r.isOp 0x0c01 = true) (hxfer : r.xfer = none) (hfn : r.cmd.fn < 32) (hserves : readServes s r.cmd = true)
    (hn : n = r.cmd.get ⟨8, 0, 13⟩) (hpositive : 0 < n) :
    Gives (exec .entRequestServe s) (fun t => ∃ bs v, bs.length = n ∧
      EntWork { s with running := [] } v ∧ v.entropy.nextFn = (r.cmd.fn + 1) % 32 ∧
      Answered r.cmd stOk 0 n (emit (.hostWrite r.cmd.fn r.cmd.dataPtr bs) v) t) := by
  subst hn
  have hserved := readServed r.cmd { s with running := [], entropy := { s.entropy with nextFn := (r.cmd.fn + 1) % 32 } }
  have hquiet : b2n (s.entropy.state == .test) = 0 := by rw [hready]; rfl
  refine ⟨_, act_of_live hlive _, _, _, hserved.length, (entWork_entropy { s with running := [] } _).trans hserved.work, hserved.nextFn, ?_⟩
  rw [hreads, serveRead hrunning hwait hread hfn hserves, readReply_eq]
  simp only [finishRunning, hxfer, hquiet, Nat.mul_zero, Nat.add_zero]
  exact finish_of_data (hserved.ne_nil hpositive) _

theorem entropyExpiry_of_read {s : State} {i : Nat} {r : Running} (hr : s.running[i]? = some r) (hwait : r.wait = .entropy)
    (hread : r.isOp 0x0c01 = true) : entropyExpiry i s =
      if s.entropy.state = .ready ∨ s.entropy.state = .test then s
      else finish r.cmd { status := if s.entropy.state = .starting then stNotReady else stEntropyFail }
        (State.plus 0xf130 1 { s with running := s.running.eraseIdx i }) := by
  have hop : r.isOp 0x0d04 = false ∧ r.isOp 0x0a02 = false := by
    simp only [Running.isOp, beq_iff_eq] at hread
    simp [Running.isOp, hread]
  obtain ⟨hadvance, hglobal⟩ := hop
  simp only [entropyExpiry, hr, hwait, hread, hadvance, hglobal, entCount_eq]
  cases hstate : s.entropy.state <;> simp

/-- Settles O58: each row changes the unit's own records, and its changes of state are told. -/
theorem entropyUnit : Obligations.EntropyUnit := by
  refine ⟨fun c s => ⟨fun n h hn => entRead h hn, entStatus, fun m h hm hpeers => ⟨fun hleave hstate => ?_, fun hleave htest => ?_, fun henter => ?_⟩⟩,
    fun s hlive hpeers => ⟨fun n apt run hn hready hapt hrun => windowPasses hlive hn hready hapt hrun,
      fun n apt run hn hready hin hfail => windowFails hlive hpeers hn hready hin hfail, startUpEnds hlive hpeers,
      fun n rct hn => healthFailOf hlive hpeers rct hn, fun hstate => ?_, retestTimesOut hlive hpeers,
      fun r hstate hrunning hwait hread hxfer => retestFailsRead hlive hpeers hstate hrunning hwait hread hxfer,
      fun passed good hgood => failedUnitRetests hlive hpeers hgood, fun n passed hn => sourceRetests hlive hn passed,
      fun hready hsession hkeeper hstorage hepoch => ⟨fun hnone => ?_, fun r n hrunning hwait hread hxfer hfn hserves hn hpositive => ?_⟩,
      fun i hnone => ?_, fun i r hr hwait hread => ⟨fun hserves => ?_, fun hfails => ?_⟩⟩⟩
  · have heff : leaveTest s = { s with entropy := s.entropy.untested } := if_neg hstate
    refine answers_of_done h (by decide) ((specEntTestPattern_leave (hm.symm.trans hleave) s).trans ?_)
    rw [heff]
    rfl
  · exact ⟨_, answers_of_done h (by decide) (specEntTestPattern_leave (hm.symm.trans hleave) s), retests_leaveTest hpeers htest⟩
  · obtain ⟨hwork, ms, hentropy⟩ := enterTest_entered hpeers m (if m = 1 then 0 else c.get ⟨8, 2, 2⟩) (if m = 1 then c.payload else [])
    refine ⟨_, answers_of_done h (by decide) (specEntTestPattern_enter hm henter s), hwork, ?_⟩
    rw [hentropy]
    exact ⟨rfl, rfl, rfl, rfl, rfl, rfl⟩
  · exact (act_of_live hlive fun s => if s.entropy.state = .retest then failEnt 1 s else s).trans (congrArg _ (if_neg hstate))
  · refine (act_of_live hlive serveRequests).trans (congrArg _ ?_)
    rw [serveRequests_of_reads hready hsession hkeeper hstorage hepoch hpeers (by simp [hnone]), hnone]
    rfl
  · have hreads := serveRequests_of_reads hready hsession hkeeper hstorage hepoch hpeers (by simp [hrunning, hread])
    exact requestServed hlive hready hreads hrunning hwait hread hxfer hfn hserves hn hpositive
  · refine (act_of_live hlive (entropyExpiry i)).trans (congrArg _ ?_)
    simp only [entropyExpiry, hnone]
  · refine (act_of_live hlive (entropyExpiry i)).trans (congrArg _ ?_)
    rw [entropyExpiry_of_read hr hwait hread, if_pos hserves]
  · refine ⟨_, act_of_live hlive (entropyExpiry i), ?_⟩
    have hout : ¬(s.entropy.state = .ready ∨ s.entropy.state = .test) := by rcases hfails with h | h | h <;> simp [h]
    rw [entropyExpiry_of_read hr hwait hread, if_neg hout, finish_without_data]
    exact answered_postCompletion ..

end Sys2Proof.Machine
end

section
/-!
PROOFS. Domain links, and what a member does with them (13_domain).
-/
namespace Sys2Proof.Machine

open Sys2Proof

/-! ## Work of the domain -/

/-- The fields of `s`, with those that the domain may change taken from `t`. -/
def domPatch (s t : State) : State :=
  { s with
    domain := t.domain, entropy := t.entropy, freeIx := t.freeIx, out := t.out, regs := t.regs, fns := t.fns, counters := t.counters
    holds := t.holds, heldEvents := t.heldEvents, pmc := { s.pmc with counters := t.pmc.counters } }

theorem DomainWork.refl (s : State) : DomainWork s s := rfl

theorem DomainWork.trans {s t u : State} (h : DomainWork s t) (k : DomainWork t u) : DomainWork s u := by
  have hpatch := congrArg (fun x => domPatch x u) h
  exact Eq.trans k hpatch

theorem domainWork_domain (s : State) (x : Domain) : DomainWork s { s with domain := x } := rfl

theorem domainWork_of_told {s t : State} (h : Told s t) : DomainWork s t := by
  unfold DomainWork
  rw [h.entropy, h.freeIx, show t.domain = { s.domain with reports := t.domain.reports } from congrArg State.domain h.rest]
  exact h.rest

/-- Told of a state whose domain has changed since `s`. -/
theorem domainWork_of_toldDomain {s t : State} {x : Domain} (h : Told { s with domain := x } t) : DomainWork s t :=
  (domainWork_domain s x).trans (domainWork_of_told h)

theorem domainWork_plus (off n : Nat) (s : State) : DomainWork s (State.plus off n s) := rfl

/-- Fields that the domain's work leaves. -/
theorem DomainWork.fixed {s t : State} (h : DomainWork s t) : t.attar = s.attar ∧ t.accord = s.accord ∧ t.time = s.time ∧
    t.running = s.running ∧ t.boot = s.boot ∧ t.pair = s.pair ∧ t.tick = s.tick := by
  have hattar := congrArg State.attar h
  have haccord := congrArg State.accord h
  have htime := congrArg State.time h
  have hrunning := congrArg State.running h
  have hboot := congrArg State.boot h
  have hpair := congrArg State.pair h
  have htick := congrArg State.tick h
  exact ⟨hattar, haccord, htime, hrunning, hboot, hpair, htick⟩

theorem DomainWork.withAttar {s t : State} (h : DomainWork s t) (x : Attar) : DomainWork { s with attar := x } { t with attar := x } := by
  have hfield := congrArg (fun y : State => { y with attar := x }) h
  exact hfield

theorem DomainWork.withRunning {s t : State} (h : DomainWork s t) (l : List Running) :
    DomainWork { s with running := l } { t with running := l } := by
  have hfield := congrArg (fun y : State => { y with running := l }) h
  exact hfield

/-- A command that waits. -/
theorem DomainWork.appends {s t : State} (h : DomainWork s t) (r : Running) :
    DomainWork { s with running := s.running ++ [r] } { t with running := t.running ++ [r] } := by
  obtain ⟨-, -, -, hrun, -⟩ := h.fixed
  rw [hrun]
  exact h.withRunning _

theorem DomainWork.withKeys {s t : State} (h : DomainWork s t) (slots : Table Slot) (dirty : List (Nat × Nat)) :
    DomainWork { s with attar := { s.attar with slots }, pair := { s.pair with dirty } }
      { t with attar := { t.attar with slots }, pair := { t.pair with dirty } } := by
  have hfield := congrArg (fun y : State => { y with attar := { y.attar with slots }, pair := { y.pair with dirty } }) h
  exact hfield

/-! ## Links and counters (R402, R425) -/

theorem domCount_eq (i n : Nat) (s : State) : domCount i n s = State.plus (0xd100 + 8 * i) n s :=
  countBy_uncounted (by simp only [pmcOfCounter]; repeat rw [if_neg (by omega)]) n s

theorem dxOf_setDx_same (n : Nat) (v : DomLink) (s : State) : dxOf (setDx n v s) n = v := by
  unfold dxOf setDx modDomain
  split_ifs <;> rfl

theorem dxOf_setDx_ne {n m : Nat} (h : m ≠ n) (hsome : m < 2 ∨ n < 2) (v : DomLink) (s : State) : dxOf (setDx n v s) m = dxOf s m := by
  unfold dxOf setDx modDomain
  grind

theorem setDx_domain (n : Nat) (v : DomLink) (s : State) : setDx n v s =
    { s with domain := { s.domain with
      dx0 := (setDx n v s).domain.dx0, dx1 := (setDx n v s).domain.dx1, dx2 := (setDx n v s).domain.dx2 } } := by
  unfold setDx modDomain
  split_ifs <;> rfl

/-- What a write of a link leaves of the domain's records. -/
theorem setDx_kept (n : Nat) (v : DomLink) (s : State) : (setDx n v s).domain.role = s.domain.role ∧
    (setDx n v s).domain.joined = s.domain.joined ∧ (setDx n v s).domain.member = s.domain.member ∧
    (setDx n v s).domain.members = s.domain.members ∧ (setDx n v s).domain.ops = s.domain.ops ∧
    (setDx n v s).domain.barrier = s.domain.barrier ∧ (setDx n v s).domain.timeB = s.domain.timeB := by
  unfold setDx modDomain
  dsimp only
  split_ifs <;> exact ⟨rfl, rfl, rfl, rfl, rfl, rfl, rfl⟩

theorem counter_setDx (n : Nat) (v : DomLink) (s : State) (off : Nat) : counter (setDx n v s) off = counter s off := by
  unfold setDx modDomain
  rfl

/-- What reporting leaves of the domain's records. -/
theorem domain_of_told {s t : State} (h : Told s t) : t.domain = { s.domain with reports := t.domain.reports } := by
  have hdomain := congrArg State.domain h.rest
  exact hdomain

theorem dxOf_of_domain {s t : State} (h : t.domain = s.domain) (n : Nat) : dxOf t n = dxOf s n := by
  unfold dxOf
  rw [h]

/-- From `s` to `t` nothing has changed but the messages that have left on domain links: their numbers, their copies and the counters. -/
structure LinksSend (s t : State) : Prop where
  rest : t = { s with
    domain := { s.domain with dx0 := t.domain.dx0, dx1 := t.domain.dx1, dx2 := t.domain.dx2 }, out := t.out, counters := t.counters }
  links : ∀ n, dxOf t n = { dxOf s n with seqTx := (dxOf t n).seqTx, sent := (dxOf t n).sent }

theorem LinksSend.refl (s : State) : LinksSend s s := ⟨rfl, fun _ => rfl⟩

/-- The fields of `s`, with the links and the counters of `t`. -/
def linksPatch (s t : State) : State :=
  { s with domain := { s.domain with dx0 := t.domain.dx0, dx1 := t.domain.dx1, dx2 := t.domain.dx2 }, out := t.out, counters := t.counters }

theorem LinksSend.trans {s t u : State} (h : LinksSend s t) (k : LinksSend t u) : LinksSend s u := by
  have hpatch := congrArg (fun x => linksPatch x u) h.rest
  refine ⟨k.rest.trans hpatch, fun n => (k.links n).trans ?_⟩
  rw [h.links n]

theorem LinksSend.work {s t : State} (h : LinksSend s t) : DomainWork s t := by
  have hwork := congrArg (fun x => domPatch s x) h.rest
  exact h.rest.trans (Eq.trans rfl hwork.symm)

theorem LinksSend.domain {s t : State} (h : LinksSend s t) :
    t.domain = { s.domain with dx0 := t.domain.dx0, dx1 := t.domain.dx1, dx2 := t.domain.dx2 } := by
  have hfield := congrArg State.domain h.rest
  exact hfield

theorem linksSend_plus (off n : Nat) (s : State) : LinksSend s (State.plus off n s) := ⟨rfl, fun _ => rfl⟩

theorem linksSend_emit (o : Output) (s : State) : LinksSend s (emit o s) := ⟨rfl, fun _ => rfl⟩

/-- A link whose next number and copies are rewritten. -/
theorem linksSend_setDx {n : Nat} (hn : n ≤ 2) (seq : Nat) (sent : List (Nat × Bytes)) (s : State) :
    LinksSend s (setDx n { dxOf s n with seqTx := seq, sent } s) := by
  refine ⟨?_, fun m => ?_⟩
  · have hdomain := setDx_domain n { dxOf s n with seqTx := seq, sent } s
    exact hdomain
  · by_cases hm : m < 2 ∨ n < 2
    · by_cases hmn : m = n
      · rw [hmn, dxOf_setDx_same]
      · rw [dxOf_setDx_ne hmn hm]
    · have hsame (t : State) : dxOf t m = dxOf t n := by unfold dxOf; grind
      rw [hsame, hsame, dxOf_setDx_same]

/-- Whether a message of a type leaves on a link. -/
def sends (s : State) (n type : Nat) : Bool := (dxOf s n).epochOwn.isSome && ((dxOf s n).up || type == 1)

theorem domSend_of_silent {s : State} {n type : Nat} (h : sends s n type = false) (dst : Nat) (body : Bytes) :
    domSend n type dst body s = s := by
  cases hown : (dxOf s n).epochOwn with
  | none => simp only [domSend, hown]
  | some e =>
    have hsilent : !(dxOf s n).up ∧ type ≠ 1 := by simpa [sends, hown] using h
    simp only [domSend, hown, if_pos hsilent]

theorem domSend_of_sends {s : State} {n type : Nat} (h : sends s n type = true) (dst : Nat) (body : Bytes) : ∃ m : Bytes,
    domSend n type dst body s = State.plus 0xd100 1 (emit (.message (1 + n) m) (setDx n { dxOf s n with
      seqTx := ((dxOf s n).seqTx + 1) % 2 ^ 32, sent := keepBytes 16384 (((dxOf s n).seqTx, m) :: (dxOf s n).sent) } s)) := by
  cases hown : (dxOf s n).epochOwn with
  | none => simp [sends, hown] at h
  | some e =>
    have hspeaks : (dxOf s n).up = true ∨ type = 1 := by simpa [sends, hown] using h
    have hnot : ¬(!(dxOf s n).up ∧ type ≠ 1) := by
      rcases hspeaks with hup | htype
      · simp [hup]
      · simp [htype]
    simp only [domSend, hown, if_neg hnot, domCount_eq]
    exact ⟨domMessage s type 0 (dxOf s n).seqTx e dst body, rfl⟩

/-- What a message leaves of its link, and of the others. -/
theorem domSend_links {n type : Nat} (hn : n ≤ 2) (dst : Nat) (body : Bytes) (s : State) :
    LinksSend s (domSend n type dst body s) ∧ (sends s n type = true →
      (dxOf (domSend n type dst body s) n).seqTx = ((dxOf s n).seqTx + 1) % 2 ^ 32) ∧
    ∀ m, m ≠ n → m ≤ 2 → dxOf (domSend n type dst body s) m = dxOf s m := by
  cases hsends : sends s n type with
  | false =>
    rw [domSend_of_silent hsends]
    exact ⟨.refl s, fun h => absurd h Bool.false_ne_true, fun _ _ _ => rfl⟩
  | true =>
    obtain ⟨b, hb⟩ := domSend_of_sends hsends dst body
    rw [hb]
    have hwrite := linksSend_setDx hn (((dxOf s n).seqTx + 1) % 2 ^ 32) (keepBytes 16384 (((dxOf s n).seqTx, b) :: (dxOf s n).sent)) s
    refine ⟨(hwrite.trans (linksSend_emit _ _)).trans (linksSend_plus ..), fun _ => ?_, fun m hmn hm => ?_⟩
    · have hself := dxOf_setDx_same n { dxOf s n with
        seqTx := ((dxOf s n).seqTx + 1) % 2 ^ 32, sent := keepBytes 16384 (((dxOf s n).seqTx, b) :: (dxOf s n).sent) } s
      exact congrArg DomLink.seqTx hself
    · have hother := dxOf_setDx_ne hmn (by omega) { dxOf s n with
        seqTx := ((dxOf s n).seqTx + 1) % 2 ^ 32, sent := keepBytes 16384 (((dxOf s n).seqTx, b) :: (dxOf s n).sent) } s
      exact hother

theorem linksSend_domSend {n : Nat} (hn : n ≤ 2) (type dst : Nat) (body : Bytes) (s : State) : LinksSend s (domSend n type dst body s) :=
  (domSend_links hn dst body s).1

theorem linksSend_domUp (type : Nat) (body : Bytes) (s : State) : LinksSend s (domUp type body s) := linksSend_domSend (Nat.zero_le 2) ..

/-- What sending leaves of the tree. -/
theorem LinksSend.links_eq {s t : State} (h : LinksSend s t) : domLinks t = domLinks s ∧ childLinks t = childLinks s ∧
    inDomain t = inDomain s ∧ (∀ n, below t n = below s n) ∧ ∀ n, childOf t n = childOf s n := by
  have hdomain := h.domain
  have hrole : t.domain.role = s.domain.role := by rw [hdomain]
  have hjoined : t.domain.joined = s.domain.joined := by rw [hdomain]
  have hmember : t.domain.member = s.domain.member := by rw [hdomain]
  have hlinks : domLinks t = domLinks s := by rw [domLinks, domLinks, hrole]
  have hflags (n : Nat) : (dxOf t n).up = (dxOf s n).up ∧ (dxOf t n).joined = (dxOf s n).joined := by rw [h.links n]; exact ⟨rfl, rfl⟩
  have hchild (n : Nat) : childOf t n = childOf s n := by rw [childOf, childOf, hmember]
  refine ⟨hlinks, ?_, by rw [inDomain, inDomain, hrole, hjoined], fun n => by rw [below, below, hchild], hchild⟩
  unfold childLinks
  rw [hlinks]
  exact List.filter_congr fun n _ => by rw [(hflags n).1, (hflags n).2]

theorem mem_childLinks {s : State} {n : Nat} (h : n ∈ childLinks s) : (n = 1 ∨ n = 2) ∧ (dxOf s n).up = true ∧ (dxOf s n).joined = true := by
  unfold childLinks at h
  rw [List.mem_filter] at h
  obtain ⟨hmem, hcond⟩ := h
  simp only [Bool.and_eq_true] at hcond
  exact ⟨by simpa using hmem, hcond.1.2, hcond.2⟩

theorem domDown_of_none {s : State} (h : childLinks s = []) (type : Nat) (body : Bytes) : domDown type body s = s := by
  rw [domDown, h, List.foldl_nil]

/-- Messages on several links: each that may send on its link sends once. -/
theorem domSends_links {type dst : Nat} {l : List Nat} (hl : ∀ n ∈ l, n ≤ 2) (hnodup : l.Nodup) (body : Bytes) (s : State) :
    LinksSend s (l.foldl (fun s n => domSend n type dst body s) s) ∧
      (∀ n ∈ l, sends s n type = true →
        (dxOf (l.foldl (fun s n => domSend n type dst body s) s) n).seqTx = ((dxOf s n).seqTx + 1) % 2 ^ 32) ∧
      ∀ m, m ∉ l → m ≤ 2 → dxOf (l.foldl (fun s n => domSend n type dst body s) s) m = dxOf s m := by
  induction l generalizing s with
  | nil => exact ⟨.refl s, fun _ h => absurd h List.not_mem_nil, fun _ _ _ => rfl⟩
  | cons k l ih =>
    obtain ⟨hk, hrest⟩ := List.nodup_cons.mp hnodup
    have hkle : k ≤ 2 := hl k List.mem_cons_self
    obtain ⟨hsend, hseq, hothers⟩ := domSend_links (type := type) hkle dst body s
    obtain ⟨hmore, hmoreSeq, hmoreOthers⟩ := ih (fun n hn => hl n (List.mem_cons_of_mem _ hn)) hrest (domSend k type dst body s)
    rw [List.foldl_cons]
    refine ⟨hsend.trans hmore, fun n hn hsends => ?_, fun m hm hle => ?_⟩
    · rcases List.mem_cons.mp hn with rfl | hmem
      · rw [hmoreOthers n hk hkle]
        exact hseq hsends
      · have hne : n ≠ k := fun h => hk (h ▸ hmem)
        have hsame := hothers n hne (hl n hn)
        rw [hmoreSeq n hmem (by rw [sends, hsame]; exact hsends), hsame]
    · rw [hmoreOthers m (fun h => hm (List.mem_cons_of_mem _ h)) hle, hothers m (fun h => hm (h ▸ List.mem_cons_self)) hle]

theorem nodup_childLinks (s : State) : (childLinks s).Nodup := List.Nodup.filter _ (by decide)

theorem domDown_links (type : Nat) (body : Bytes) (s : State) : LinksSend s (domDown type body s) ∧
    ∀ n e, n ∈ childLinks s → (dxOf s n).epochOwn = some e → (dxOf (domDown type body s) n).seqTx = ((dxOf s n).seqTx + 1) % 2 ^ 32 := by
  obtain ⟨hlinks, hseq, -⟩ := domSends_links (type := type) (dst := 255) (l := childLinks s)
    (fun n hn => by obtain ⟨h, -⟩ := mem_childLinks hn; omega) (nodup_childLinks s) body s
  refine ⟨hlinks, fun n e hn hown => hseq n hn ?_⟩
  obtain ⟨-, hup, -⟩ := mem_childLinks hn
  simp [sends, hown, hup]

/-! ## The clocks of links (R407, R409, R413, R419) -/

theorem linksSend_foldl {α : Type} {f : State → α → State} (h : ∀ s x, LinksSend s (f s x)) (l : List α) (s : State) :
    LinksSend s (l.foldl f s) := by
  induction l generalizing s with
  | nil => exact .refl s
  | cons x l ih => exact (h s x).trans (ih (f s x))

/-- A value that the unit has served is the domain's work, and none of its records. -/
theorem drawn_domain (bits n bytes : Nat) (s : State) : DomainWork s (drawFree bits (entServe n bytes s)).2 ∧
    (drawFree bits (entServe n bytes s)).2.domain = s.domain ∧ (drawFree bits (entServe n bytes s)).1 < 2 ^ bits := by
  have hserve := entServe_rest n bytes s
  have hwork : DomainWork s (entServe n bytes s) := by
    rw [hserve]
    rfl
  have hdomain : (entServe n bytes s).domain = s.domain := by rw [hserve]
  have hdraw (t : State) : DomainWork t (drawFree bits t).2 := rfl
  exact ⟨hwork.trans (hdraw _), hdomain, Nat.mod_lt _ (Nat.two_pow_pos bits)⟩

/-- This end's EPOCH stays, or is drawn on a link that has none. -/
theorem drawEpoch_cases (n : Nat) (s : State) : drawEpoch n s = s ∨ ((dxOf s n).epochOwn = none ∧ ∃ e t, DomainWork s t ∧
    t.domain = s.domain ∧ drawEpoch n s = setDx n { dxOf s n with epochOwn := some e } t) := by
  unfold drawEpoch
  split_ifs with hdraws
  · have hnone : (dxOf s n).epochOwn = none := by
      simp only [Bool.and_eq_true] at hdraws
      exact Option.isNone_iff_eq_none.mp hdraws.1
    obtain ⟨hwork, hdomain, -⟩ := drawn_domain 32 1 4 s
    refine .inr ⟨hnone, (drawFree 32 (entServe 1 4 s)).1, _, hwork, hdomain, ?_⟩
    rw [← dxOf_of_domain hdomain]
  · exact .inl rfl

/-- A write of a link is the domain's work. -/
theorem domainWork_setDx (n : Nat) (v : DomLink) (s : State) : DomainWork s (setDx n v s) := by
  unfold setDx modDomain
  split_ifs <;> rfl

/-- What a KEEPALIVE interval keeps: the roles, whether links are up, and every link that it does not send on. -/
structure Beats (n : Nat) (s t : State) : Prop where
  work : DomainWork s t
  role : t.domain.role = s.domain.role
  joined : t.domain.joined = s.domain.joined
  up : ∀ m, m ≤ 2 → (dxOf t m).up = (dxOf s m).up
  own : ∀ m e, m ≤ 2 → (dxOf s m).epochOwn = some e → (dxOf t m).epochOwn = some e
  seq : ∀ e, (dxOf s n).epochOwn = some e → (dxOf t n).seqTx = ((dxOf s n).seqTx + 1) % 2 ^ 32
  others : ∀ m, m ≠ n → m ≤ 2 → dxOf t m = dxOf s m

/-- One link's part of a KEEPALIVE interval. -/
def beat (s : State) (n : Nat) : State := domSend n 1 255 (keepaliveBody (drawEpoch n s) n) (drawEpoch n s)

theorem beats_beat {n : Nat} (hn : n ≤ 2) (s : State) : Beats n s (beat s n) := by
  obtain ⟨hsend, hseq, hothers⟩ := domSend_links (type := 1) hn 255 (keepaliveBody (drawEpoch n s) n) (drawEpoch n s)
  have hdrawn : Beats n s (domSend n 1 255 (keepaliveBody (drawEpoch n s) n) (drawEpoch n s)) := by
    obtain heq | ⟨hnone, e, t, hwork, hdomain, heq⟩ := drawEpoch_cases n s
    · rw [heq] at hsend hseq hothers ⊢
      refine ⟨hsend.work, by rw [hsend.domain], by rw [hsend.domain], fun m _ => by rw [hsend.links m], fun m e _ he => by rw [hsend.links m]; exact he,
        fun e he => hseq (by simp [sends, he]), hothers⟩
    · have hset := setDx_domain n { dxOf s n with epochOwn := some e } t
      have hrole : (drawEpoch n s).domain.role = s.domain.role := by rw [heq, hset, hdomain]
      have hjoined : (drawEpoch n s).domain.joined = s.domain.joined := by rw [heq, hset, hdomain]
      have hsame (m : Nat) (hm : m ≠ n) (hle : m ≤ 2) : dxOf (drawEpoch n s) m = dxOf s m := by
        rw [heq, dxOf_setDx_ne hm (by omega), dxOf_of_domain hdomain]
      have hup (m : Nat) (hle : m ≤ 2) : (dxOf (drawEpoch n s) m).up = (dxOf s m).up := by
        by_cases hm : m = n
        · rw [hm, heq, dxOf_setDx_same]
        · rw [hsame m hm hle]
      have hdrew : DomainWork s (drawEpoch n s) := by
        rw [heq]
        exact hwork.trans (domainWork_setDx ..)
      refine ⟨hdrew.trans hsend.work, ?_, ?_, fun m hm => ?_, fun m e' hm he => ?_, fun e' he => ?_, fun m hm hle => (hothers m hm hle).trans (hsame m hm hle)⟩
      · rw [hsend.domain]; exact hrole
      · rw [hsend.domain]; exact hjoined
      · rw [hsend.links m]; exact hup m hm
      · have hne : m ≠ n := fun h => by rw [h, hnone] at he; exact absurd he (by simp)
        rw [hsend.links m]
        exact (congrArg DomLink.epochOwn (hsame m hne hm)).trans he
      · rw [hnone] at he
        exact absurd he (by simp)
  exact hdrawn

/-- The REPORTs that wait have gone up. -/
theorem sendReports_work (s : State) : DomainWork s (sendReports s) ∧ (sendReports s).domain.role = s.domain.role ∧
    (s.domain.role = 2 → inDomain s = true → s.domain.dx0.up = true → (sendReports s).domain.reports = []) := by
  unfold sendReports
  split_ifs with hgoes
  · have hsends : LinksSend s (s.domain.reports.foldl (fun s e => domUp 8 (beBytes 1 (s.domain.member.getD 0) ++ beBytes 7 0 ++ e) s) s) :=
      linksSend_foldl (fun t e => linksSend_domUp ..) _ s
    refine ⟨hsends.work.trans (domainWork_domain ..), ?_, fun _ _ _ => rfl⟩
    have hrole := congrArg Domain.role hsends.domain
    exact hrole
  · exact ⟨.refl s, rfl, fun h1 h2 h3 => absurd ⟨h1, h2, h3⟩ hgoes⟩

/-- The state after a KEEPALIVE interval. -/
def keepaliveInterval (s : State) : State := sendReports ((domLinks s).foldl beat s)

theorem execDomKeepaliveInterval_of_live {s : State} (hlive : s.live = true) :
    exec .domKeepaliveInterval s = .next (keepaliveInterval s) := act_of_live hlive keepaliveInterval

theorem keepaliveInterval_unconfigured {s : State} (h : s.domain.role = 0) : keepaliveInterval s = s := by
  simp only [keepaliveInterval, domLinks, h, List.foldl_nil, sendReports]
  simp

theorem keepaliveInterval_manager {s : State} (h : s.domain.role = 1) : DomainWork s (keepaliveInterval s) ∧
    ∀ n e, n = 1 ∨ n = 2 → (dxOf s n).epochOwn = some e → (dxOf (keepaliveInterval s) n).seqTx = ((dxOf s n).seqTx + 1) % 2 ^ 32 := by
  have hfirst := beats_beat (n := 1) (by decide) s
  have hsecond := beats_beat (n := 2) (by decide) (beat s 1)
  have hrole : (beat (beat s 1) 2).domain.role = 1 := hsecond.role.trans (hfirst.role.trans h)
  have heq : keepaliveInterval s = beat (beat s 1) 2 := by
    simp only [keepaliveInterval, domLinks, h, List.foldl_cons, List.foldl_nil, sendReports, hrole]
    simp
  rw [heq]
  refine ⟨hfirst.work.trans hsecond.work, fun n e hn he => ?_⟩
  rcases hn with rfl | rfl
  · rw [hsecond.others 1 (by decide) (by decide), hfirst.seq e he]
  · rw [hsecond.seq e (hfirst.own 2 e (by decide) he), hfirst.others 2 (by decide) (by decide)]

theorem keepaliveInterval_worker {s : State} (h : s.domain.role = 2) : DomainWork s (keepaliveInterval s) ∧ (keepaliveInterval s).domain.role = 2 ∧
    (inDomain s = true → s.domain.dx0.up = true → (keepaliveInterval s).domain.reports = []) := by
  have h0 := beats_beat (n := 0) (by decide) s
  have h1 := beats_beat (n := 1) (by decide) (beat s 0)
  have h2 := beats_beat (n := 2) (by decide) (beat (beat s 0) 1)
  have hrole : (beat (beat (beat s 0) 1) 2).domain.role = 2 := h2.role.trans (h1.role.trans (h0.role.trans h))
  have hjoined : (beat (beat (beat s 0) 1) 2).domain.joined = s.domain.joined := h2.joined.trans (h1.joined.trans h0.joined)
  have hup : (dxOf (beat (beat (beat s 0) 1) 2) 0).up = (dxOf s 0).up :=
    (h2.up 0 (by decide)).trans ((h1.up 0 (by decide)).trans (h0.up 0 (by decide)))
  obtain ⟨hwork, hsame, hreports⟩ := sendReports_work (beat (beat (beat s 0) 1) 2)
  have heq : keepaliveInterval s = sendReports (beat (beat (beat s 0) 1) 2) := by
    simp only [keepaliveInterval, domLinks, h, List.foldl_cons, List.foldl_nil]
  rw [heq]
  refine ⟨((h0.work.trans h1.work).trans h2.work).trans hwork, hsame.trans hrole, fun hin hlink => hreports hrole ?_ (hup.trans hlink)⟩
  simpa only [inDomain, hrole, hjoined, h] using hin

/-! ## Leaving, and DOMAIN_GEN (R405, R410, R411) -/

/-- A worker's records once it has left. -/
def Domain.left (d : Domain) : Domain := { d with joined := false, member := none, stepped := false, retry := true, ops := [] }

theorem told_raiseDomState {s t : State} (h : Told s t) (what : Nat) : Told s (raiseDomState what t) := h.raiseHeld ..

theorem told_leaveDomain {s : State} (h : (domainOf s s.domain.timeB).agent = false) :
    Told { s with domain := s.domain.left } (leaveDomain s) := by
  have heq : leaveDomain s = raiseDomState 1 (if (domainOf s s.domain.timeB).agent && (domainOf s s.domain.timeB).state == .locked then
      enterDomain s.domain.timeB .lost 2 { s with domain := s.domain.left } else { s with domain := s.domain.left }) := rfl
  rw [heq, h, Bool.false_and, if_neg Bool.false_ne_true]
  exact told_raiseDomState (.refl _) 1

theorem mem_of_cellsFind {α : Type} {k : Nat} {v : α} {l : List (Nat × α)} (h : cellsFind k l = some v) : (k, v) ∈ l := by
  induction l with
  | nil => exact absurd h (by simp [cellsFind])
  | cons c rest ih =>
    simp only [cellsFind] at h
    split_ifs at h with hk
    · rw [← hk, ← Option.some.inj h]
      exact List.mem_cons_self
    · exact List.mem_cons_of_mem _ (ih h)

theorem reviewCommunities_of_settled {s : State} (h : s.keysSettled = true) : reviewCommunities s = s := by
  have hentry : ∀ ci m, s.accord.communities.find ci = some m → keySlotUsable s m.keySlot = !m.keyLost := fun ci m hm => by
    have hmem : (ci, m) ∈ s.accord.communities.cells := mem_of_cellsFind hm
    simpa using List.all_eq_true.mp h (ci, m) hmem
  unfold reviewCommunities
  generalize s.accord.communities.keys = l
  induction l with
  | nil => rfl
  | cons ci l ih =>
    rw [List.foldl_cons]
    cases hm : commOf s ci with
    | none => exact ih
    | some m =>
      have hkey := hentry ci m hm
      cases hlost : m.keyLost with
      | false => simp only [hkey, hlost]; exact ih
      | true => simp only [hkey, hlost]; exact ih

/-- DOMAIN_GEN has taken a value and k_dom has been derived. -/
structure Regenerated (gen : Nat) (s u : State) : Prop where
  attar : u.attar = { s.attar with domainGen := gen, domainKey := some (domKey s.domain.cak s.domain.domainId gen) }
  told : Told { s with attar := u.attar, pair := { s.pair with dirty := u.pair.dirty } } u

theorem Regenerated.work {gen : Nat} {s u : State} (h : Regenerated gen s u) :
    DomainWork { s with attar := u.attar, pair := { s.pair with dirty := u.pair.dirty } } u := domainWork_of_told h.told

theorem Regenerated.and_told {gen : Nat} {s u v : State} (h : Regenerated gen s u) (k : Told u v) : Regenerated gen s v := by
  refine ⟨k.attar.trans h.attar, ?_⟩
  rw [k.attar, k.pair]
  exact h.told.trans k

/-- The state in which DOMAIN_GEN and k_dom have been written. -/
def regenerated (gen : Nat) (s : State) : State :=
  markDirty 7 0 { s with attar := { s.attar with domainGen := gen, domainKey := some (domKey s.domain.cak s.domain.domainId gen) } }

theorem regenerated_regenerated (gen : Nat) (s : State) : Regenerated gen s (regenerated gen s) := by
  unfold regenerated markDirty modPair
  split_ifs <;> exact ⟨rfl, .refl _⟩

theorem setDomainGen_of_none {s : State} (h : s.accord.communities = .empty) (gen : Nat) : setDomainGen gen s = regenerated gen s := by
  refine reviewCommunities_of_none ?_
  rw [markDirty_rest]
  exact h

theorem regenerated_rotate {s : State} (h : s.accord.communities = .empty) :
    Regenerated (min genLimit (s.attar.domainGen + 1)) s (rotate s) := by
  rw [rotate, setDomainGen_of_none h]
  exact (regenerated_regenerated _ s).and_told (told_raiseDomState (.refl _) 2)

/-! ## Distributed keys (R412) -/

/-- A distributed key in a slot. -/
def sharedSlot (s : State) (slot key : Nat) (persist : Bool) : Slot :=
  { key, type := 1, usage := 1, persist, parent := domainSlot, parentGen := s.attar.domainGen, gen := (slotOf s slot).gen }

/-- A key has been written: slot `n`, what a pair is told, and the counters. -/
structure KeyWritten (n : Nat) (v : Slot) (s u : State) : Prop where
  slot : slotOf u n = v
  others : ∀ m, m ≠ n → slotOf u m = slotOf s m
  domain : u.domain = s.domain
  work : DomainWork { s with attar := { s.attar with slots := u.attar.slots }, pair := { s.pair with dirty := u.pair.dirty } } u

theorem keyWritten_setSlot (n : Nat) (v : Slot) (s : State) : KeyWritten n v s (State.plus 0x3120 1 (setSlot n v s)) := by
  refine ⟨slotOf_setSlot_same n v s, fun m hm => slotOf_setSlot_ne hm v s, ?_, ?_⟩
  · have hset := congrArg State.domain (setSlot_rest n v s)
    exact hset
  · unfold setSlot markDirty modPair
    split_ifs <;> rfl

theorem writeShared_eq {s : State} (h : s.accord.communities = .empty) (slot key : Nat) (persist : Bool) :
    writeShared slot key persist s = State.plus 0x3120 1 (setSlot slot (sharedSlot s slot key persist) s) := by
  have hcount : attCount 4 (setSlot slot (sharedSlot s slot key persist) s) =
      State.plus 0x3120 1 (setSlot slot (sharedSlot s slot key persist) s) :=
    countBy_uncounted (off := 0x3100 + 8 * 4) (by decide) 1 _
  have hnone : (setSlot slot (sharedSlot s slot key persist) s).accord.communities = .empty := by
    rw [setSlot_rest]
    exact h
  rw [← hcount]
  refine reviewCommunities_of_none (s := attCount 4 (setSlot slot (sharedSlot s slot key persist) s)) ?_
  rw [hcount]
  exact hnone

theorem keyWritten_writeShared {s : State} (h : s.accord.communities = .empty) (slot key : Nat) (persist : Bool) :
    KeyWritten slot (sharedSlot s slot key persist) s (writeShared slot key persist s) := by
  rw [writeShared_eq h]
  exact keyWritten_setSlot ..

theorem takeKey_of_free {s : State} {slot : Nat} (hrange : inRange s slot = true) (hfree : occupied s slot = false) (key : Nat) (persist : Bool) :
    takeKey slot key persist s = (true, writeShared slot key persist s) := by
  simp only [occupied, Bool.or_eq_false_iff, bne_eq_false_iff_eq] at hfree
  simp only [takeKey, hrange, hfree.1, hfree.2, Bool.not_true, Bool.false_eq_true, if_false, if_true]

theorem deleteKey_of_distributed {s : State} {slot : Nat} (hrange : inRange s slot = true) (h : distributed s slot = true) :
    deleteKey slot s = (true, invalidateSlot slot 0 s) := by
  simp only [deleteKey, hrange, h, Bool.not_true, Bool.false_eq_true, if_false, if_true]

/-- A distributed key has been deleted: its slot, what is kept of it, and what is told. -/
structure KeyDeleted (n : Nat) (s u : State) : Prop where
  slot : slotOf u n = { gen := min genLimit ((slotOf s n).gen + 1) }
  others : ∀ m, m ≠ n → slotOf u m = slotOf s m
  domain : u.domain = { s.domain with reports := u.domain.reports }
  work : DomainWork { s with attar := u.attar, pair := { s.pair with dirty := u.pair.dirty } } u

/-- Counters are the domain's work. -/
theorem domainWork_of_toldCounters {s u : State} {x : Table Quad} (h : Told { s with counters := x } u) : DomainWork s u := by
  have hcounters : DomainWork s { s with counters := x } := rfl
  exact hcounters.trans (domainWork_of_told h)

theorem keyDeleted_invalidateSlot {s : State} (h : s.accord.communities = .empty) (n : Nat) :
    KeyDeleted n s (invalidateSlot n 0 s) := by
  have hwork := slotWork_invalidateSlot (n := n) (cause := 0) h
  have hdomain := congrArg State.domain hwork.rest
  refine ⟨slotOf_invalidateSlot h, hwork.others, hdomain, ?_⟩
  have hattar : (invalidateSlot n 0 s).attar = { s.attar with
      slots := (invalidateSlot n 0 s).attar.slots, tombstones := (invalidateSlot n 0 s).attar.tombstones
      floor := (invalidateSlot n 0 s).attar.floor } := congrArg State.attar hwork.rest
  rw [hattar]
  exact domainWork_of_toldCounters hwork.told

/-! ## Operations (R414, R416) -/

theorem rekeyAt_of_no_peers {s : State} (h : s.accord.peers = .empty) (ci sec ns : Nat) : rekeyAt ci sec ns s = s := by
  have hsame : ∀ x : Table Peer, x = s.accord.peers → { s with accord := { s.accord with peers := x } } = s := fun x hx => by rw [hx]
  unfold rekeyAt
  rw [hsame _ (by rw [h]; rfl), serveWishes_of_no_peers h]

/-- A schedule has been taken in place of one of the same operation and ID (R414). -/
def scheduleTaken (op id sec ns : Nat) (s : State) : State :=
  { s with domain := { s.domain with
    schedules := s.domain.schedules.filter (fun x => !(x.op == op && x.id == id)) ++ [{ op, id, sec, ns }] } }

theorem takeSchedule_of_no_peers {s : State} (h : s.accord.peers = .empty) (op id sec ns : Nat) :
    takeSchedule op id sec ns s = scheduleTaken op id sec ns s := by
  unfold takeSchedule modDomain
  dsimp only
  split_ifs
  · exact rekeyAt_of_no_peers (s := scheduleTaken op id sec ns s) h id sec ns
  · rfl

end Sys2Proof.Machine
end

section
/-!
PROOFS. The domain's commands, intervals and instants (13_domain).
-/
namespace Sys2Proof.Machine

open Sys2Proof

/-! ## DOM_CONFIG (R420, R421) -/

theorem specDomConfig_worker {c : Cmd} (h : c.get ⟨8, 0, 2⟩ = 2) (s : State) : specDomConfig.effect c s =
    (if c.flag 8 4 then { setDomain (c.flag 8 3) { domainOf s (c.flag 8 3) with agent := true } s with domain := domSettings c s }
      else { s with domain := domSettings c s }, ok 0) := by
  have hrole : domRole c = 2 := h
  simp only [specDomConfig, hrole]
  cases c.flag 8 4 with
  | false => simp
  | true =>
    simp only [and_self, if_true]
    cases c.flag 8 3 <;> rfl

/-- The manager's records of a new domain (R409, R420). -/
def Domain.formed (d : Domain) (deviceId ms : Nat) : Domain :=
  { d with joined := true, member := some 0, stepped := false, members := d.members.set 0 { deviceId, sinceMs := ms } }

theorem specDomConfig_manager {c : Cmd} (h : c.get ⟨8, 0, 2⟩ = 1) (s : State) : specDomConfig.effect c s =
    (raiseDomState 0 (setDomainGen s.attar.domainGen { s with domain := (domSettings c s).formed s.boot.deviceId (msNow s) }), ok 0) := by
  have hrole : domRole c = 1 := h
  simp only [specDomConfig, hrole]
  rfl

theorem told_of_toldDomain {s u : State} {x : Domain} (h : Told { s with domain := x } u) : Told { s with domain := u.domain } u := by
  have hdomain : u.domain = { x with reports := u.domain.reports } := congrArg State.domain h.rest
  have hrest := h.rest
  refine ⟨?_, h.regs, h.counters, h.out, h.fns⟩
  exact hrest.trans (by rw [← hdomain])

theorem keysSettled_of_attar {s t : State} (hattar : t.attar = s.attar) (haccord : t.accord = s.accord) : t.keysSettled = s.keysSettled := by
  have hslot (n : Nat) : keySlotUsable t n = keySlotUsable s n := by
    simp only [keySlotUsable, slotOf_of_attar hattar, slotUsable_of_attar hattar]
  simp only [State.keysSettled, haccord, hslot]

theorem domConfig_manager {c : Cmd} {s : State} (hpass : Passes 0x0a01 specDomConfig c s) (hrole : c.get ⟨8, 0, 2⟩ = 1)
    (hsettled : ∀ k, State.keysSettled { s with attar := { s.attar with domainKey := some k } } = true) :
    ∃ u : State, Answers c 0 u (exec (.domConfig c) s) ∧
      u.domain = { domSettings c s with joined := true, member := some 0, stepped := false, reports := u.domain.reports
                                        members := s.domain.members.set 0 { deviceId := s.boot.deviceId, sinceMs := msNow s } } ∧
      u.attar = { s.attar with domainKey := some (domKey (domSettings c s).cak (c.u32 12) s.attar.domainGen) } ∧
      Told { s with domain := u.domain, attar := u.attar, pair := { s.pair with dirty := u.pair.dirty } } u := by
  have hregen := regenerated_regenerated s.attar.domainGen { s with domain := (domSettings c s).formed s.boot.deviceId (msNow s) }
  have heq : setDomainGen s.attar.domainGen { s with domain := (domSettings c s).formed s.boot.deviceId (msNow s) } =
      regenerated s.attar.domainGen { s with domain := (domSettings c s).formed s.boot.deviceId (msNow s) } := by
    refine reviewCommunities_of_settled ((keysSettled_of_attar (markDirty_attar ..) ?_).trans (hsettled _))
    rw [markDirty_rest]
  have htold := hregen.and_told (told_raiseDomState (.refl _) 0)
  rw [← heq] at htold
  refine ⟨_, answers_of_done hpass (by decide) (specDomConfig_manager hrole s), ?_, htold.attar, ?_⟩
  · have hdomain := congrArg State.domain htold.told.rest
    exact hdomain
  · exact told_of_toldDomain (s := { s with attar := _, pair := _ }) htold.told

/-- With no operation and no barrier a lost child fails nothing. -/
theorem failChild_of_idle {s : State} (hops : s.domain.ops = []) (hbarrier : s.domain.barrier = none) (n : Nat) : failChild n s = s := by
  have hsame : modDomain (fun d => { d with
      barrier := d.barrier.map (fun b => if b.links.contains n then b else { b with failed := b.failed ||| bitmap (below s n) }) }) s = s := by
    have hmap : s.domain.barrier.map (fun b => if b.links.contains n then b else { b with failed := b.failed ||| bitmap (below s n) }) =
        s.domain.barrier := by rw [hbarrier]; rfl
    rw [modDomain, hmap]
  simp only [failChild, hops, List.filter_nil, List.foldl_nil, hsame, reviewBarrier, hbarrier]

/-- The time domain is given back (R411). -/
def timeReturned (s : State) : State :=
  if s.domain.timeEnable then setDomain s.domain.timeB { domainOf s s.domain.timeB with agent := false } s else s

theorem timeReturned_rest (s : State) : timeReturned s = { s with time := (timeReturned s).time } := by
  unfold timeReturned
  split_ifs
  · cases s.domain.timeB <;> rfl
  · rfl

/-- The state once the domain has ended, before it is told. -/
def domainEnded (s : State) : State :=
  { timeReturned s with
    domain := { minSeverity := s.domain.minSeverity, nextOpid := s.domain.nextOpid, broadcast := s.domain.broadcast }
    attar := { (timeReturned s).attar with
      domainKey := none
      domainGen := if s.domain.role = 2 then min genLimit ((timeReturned s).attar.domainGen + 1) else (timeReturned s).attar.domainGen } }

theorem domainEnded_rest (s : State) : domainEnded s = { s with
    time := (timeReturned s).time
    domain := { minSeverity := s.domain.minSeverity, nextOpid := s.domain.nextOpid, broadcast := s.domain.broadcast }
    attar := { s.attar with
      domainKey := none, domainGen := if s.domain.role = 2 then min genLimit (s.attar.domainGen + 1) else s.attar.domainGen } } := by
  rw [domainEnded, timeReturned_rest]

theorem endDomain_eq {s : State} (hops : s.domain.ops = []) (hbarrier : s.domain.barrier = none) (hnone : s.accord.communities = .empty) :
    endDomain s = if s.domain.role = 0 then domainEnded s else raiseDomState 1 (markDirty 7 0 (domainEnded s)) := by
  have heq : endDomain s = if s.domain.role = 0 then domainEnded s else
      raiseDomState 1 (reviewCommunities (markDirty 7 0 (domainEnded s))) := by
    unfold endDomain
    rw [failChild_of_idle hops hbarrier, failChild_of_idle hops hbarrier]
    rfl
  rw [heq, reviewCommunities_of_none]
  rw [markDirty_rest, domainEnded_rest]
  exact hnone

theorem told_of_toldMarkDirty {kind index : Nat} {s u : State} (h : Told (markDirty kind index s) u) :
    Told { s with pair := { s.pair with dirty := u.pair.dirty } } u := by
  rw [h.pair]
  unfold markDirty modPair at h ⊢
  split_ifs at h ⊢ <;> exact h

/-- Ending the domain: what it leaves, and that the rest is told. -/
theorem told_endDomain {s : State} (hops : s.domain.ops = []) (hbarrier : s.domain.barrier = none) (hnone : s.accord.communities = .empty) :
    Told { domainEnded s with pair := { s.pair with dirty := (endDomain s).pair.dirty } } (endDomain s) := by
  have hpair : (domainEnded s).pair = s.pair := by rw [domainEnded_rest]
  rw [endDomain_eq hops hbarrier hnone, ← hpair]
  split_ifs
  · exact .refl _
  · exact told_of_toldMarkDirty (told_raiseDomState (.refl _) 1)

theorem domConfig_off {c : Cmd} {s : State} (hpass : Passes 0x0a01 specDomConfig c s) (hrole : c.get ⟨8, 0, 2⟩ = 0)
    (hops : s.domain.ops = []) (hbarrier : s.domain.barrier = none) (hnone : s.accord.communities = .empty) :
    ∃ u : State, Answers c 0 u (exec (.domConfig c) s) ∧ u.domain.role = 0 ∧ u.domain.joined = false ∧ u.domain.member = none ∧
      u.attar = { s.attar with domainKey := none
                               domainGen := if s.domain.role = 2 then min genLimit (s.attar.domainGen + 1) else s.attar.domainGen } ∧
      u.time = (if s.domain.timeEnable then setDomain s.domain.timeB { domainOf s s.domain.timeB with agent := false } s else s).time ∧
      DomainWork { s with attar := u.attar, time := u.time, pair := { s.pair with dirty := u.pair.dirty } } u := by
  have heff : specDomConfig.effect c s = (endDomain s, ok 0) := by
    have hoff : domRole c = 0 := hrole
    simp only [specDomConfig, hoff]
  have htold := told_endDomain hops hbarrier hnone
  rw [domainEnded_rest] at htold
  have hdomain := congrArg State.domain htold.rest
  refine ⟨_, answers_of_done hpass (by decide) heff, ?_, ?_, ?_, htold.attar, htold.time, ?_⟩
  · rw [hdomain]
  · rw [hdomain]
  · rw [hdomain]
  · rw [htold.attar, htold.time]
    exact domainWork_of_toldDomain (s := { s with attar := _, time := _, pair := _ }) htold

/-! ## DOM_GLOBAL (R416, R422, R423) -/

/-- The manager's records once an operation has its number. -/
def numbered (s : State) : State := { s with domain := { s.domain with nextOpid := max 1 ((s.domain.nextOpid + 1) % 2 ^ 32) } }

/-- An operation waits for its acknowledgements. -/
def opWaiting (o : DomOp) (t : State) : State := { t with domain := { t.domain with ops := t.domain.ops ++ [o] } }

theorem domainWork_opWaiting (o : DomOp) (t : State) : DomainWork t (opWaiting o t) := rfl

/-- The end of a DOM_GLOBAL once the manager has done its own part: it completes, or waits for its children. -/
def globalEnd (c : Cmd) (opid : Nat) (good : Bool) (t : State) : State × Result :=
  if childLinks t = [] then
    (if c.get ⟨8, 0, 4⟩ = 4 ∧ c.flag 8 4 then { t with power := { t.power with wish := some { full := c.u8 9 == 0, byDomain := true } } }
      else t, ok (resultOf [(8, if good then 0 else 1)]))
  else (opWaiting { op := c.get ⟨8, 0, 4⟩, opid, waiting := childLinks t, failed := if good then 0 else 1 } t, .wait .work)

theorem globalEffect_eq {c : Cmd} {s : State} (hbarrier : c.get ⟨8, 0, 4⟩ ≠ 1)
    (hserves : c.get ⟨8, 0, 4⟩ = 5 → entServes s 1 = true) : globalEffect c s =
      globalEnd c s.domain.nextOpid (managerOp c s.domain.nextOpid (numbered s)).1 (managerOp c s.domain.nextOpid (numbered s)).2 := by
  have hop : globalOp c ≠ 1 := hbarrier
  have hwait : ¬(globalOp c = 5 ∧ !entServes s 1) := by
    rintro ⟨h5, hout⟩
    rw [hserves h5] at hout
    exact absurd hout (by decide)
  refine (if_neg hop).trans ((if_neg hwait).trans ?_)
  rfl

theorem globalEnd_childless {c : Cmd} {opid : Nat} {good : Bool} {t : State} (hnone : childLinks t = []) (hreset : c.get ⟨8, 0, 4⟩ ≠ 4) :
    globalEnd c opid good t = (t, ok (if good then 0 else 1)) := by
  rw [globalEnd, if_pos hnone, if_neg fun h => hreset h.1, resultOf_byte8]

theorem childLinks_of_domain {s t : State} (hrole : t.domain.role = s.domain.role) (h1 : t.domain.dx1 = s.domain.dx1)
    (h2 : t.domain.dx2 = s.domain.dx2) : childLinks t = childLinks s := by
  have hlinks : domLinks t = domLinks s := by rw [domLinks, domLinks, hrole]
  have hsame : ∀ n ∈ [1, 2], dxOf t n = dxOf s n := by
    simp only [List.mem_cons, List.not_mem_nil, or_false, forall_eq_or_imp, forall_eq]
    exact ⟨h1, h2⟩
  unfold childLinks
  rw [hlinks]
  exact List.filter_congr fun n hn => by rw [hsame n hn]

theorem childLinks_of_told {s t : State} (h : Told s t) : childLinks t = childLinks s := by
  have hdomain : t.domain = { s.domain with reports := t.domain.reports } := congrArg State.domain h.rest
  exact childLinks_of_domain (by rw [hdomain]) (by rw [hdomain]) (by rw [hdomain])

/-- A manager without children answers an operation of its own with the state that its part leaves. -/
theorem answers_domGlobal {c : Cmd} {s : State} {good : Bool} {t : State} (hpass : Passes 0x0a02 specDomGlobal c s)
    (hbarrier : c.get ⟨8, 0, 4⟩ ≠ 1) (hreset : c.get ⟨8, 0, 4⟩ ≠ 4) (hserves : c.get ⟨8, 0, 4⟩ = 5 → entServes s 1 = true)
    (hop : managerOp c s.domain.nextOpid (numbered s) = (good, t)) (hnone : childLinks t = []) :
    Answers c (if good then 0 else 1) t (exec (.domGlobal c) s) := by
  refine answers_of_done hpass (by decide) ((globalEffect_eq hbarrier hserves).trans ?_)
  rw [hop]
  exact globalEnd_childless hnone hreset

/-- A latch of SNAPSHOT or RESET that the manager keeps for its instant. -/
def Domain.latched (d : Domain) (sec ns : Nat) (snapshot : Bool) : Domain :=
  { d with latches := d.latches ++ [{ sec, ns, snapshot, resetKind := none }] }

/-- The state with such a latch at an instant. -/
def latchKept (at_ : Nat) (snapshot : Bool) (s : State) : State :=
  { s with domain := s.domain.latched (at_ / 10 ^ 9) (at_ % 10 ^ 9) snapshot }

theorem managerOp_broadcast {c : Cmd} (hop : c.get ⟨8, 0, 4⟩ = 2) (opid : Nat) (t : State) :
    ∃ body, managerOp c opid t = (true, domDown 6 body t) := by
  have hop' : globalOp c = 2 := hop
  simp only [managerOp, hop']
  exact ⟨_, rfl⟩

theorem managerOp_snapshot {c : Cmd} (hop : c.get ⟨8, 0, 4⟩ = 3) (opid : Nat) (t : State) :
    ∃ body, managerOp c opid t = (true, domDown 6 body (latchKept (latchAt t) true t)) := by
  have hop' : globalOp c = 3 := hop
  simp only [managerOp, hop', actGlobal]
  exact ⟨_, rfl⟩

theorem managerOp_reset {c : Cmd} (hop : c.get ⟨8, 0, 4⟩ = 4) (opid : Nat) (t : State) :
    ∃ body, managerOp c opid t = (true, domDown 6 body (latchKept (latchAt t) false t)) := by
  have hop' : globalOp c = 4 := hop
  simp only [managerOp, hop']
  exact ⟨_, rfl⟩

theorem managerOp_create {c : Cmd} (hop : c.get ⟨8, 0, 4⟩ = 5) (opid : Nat) (t : State) : managerOp c opid t = createKey c opid t := by
  have hop' : globalOp c = 5 := hop
  simp only [managerOp, hop']

theorem managerOp_delete {c : Cmd} (hop : c.get ⟨8, 0, 4⟩ = 6) (opid : Nat) (t : State) :
    ∃ body, managerOp c opid t = ((deleteKey (c.u16 10) t).1, domDown 4 body (deleteKey (c.u16 10) t).2) := by
  have hop' : globalOp c = 6 := hop
  simp only [managerOp, hop']
  exact ⟨_, rfl⟩

theorem managerOp_rotate {c : Cmd} (hop : c.get ⟨8, 0, 4⟩ = 7) (opid : Nat) (t : State) :
    ∃ body, managerOp c opid t = (true, domDown 6 body (rotate t)) := by
  have hop' : globalOp c = 7 := hop
  simp only [managerOp, hop', actGlobal]
  exact ⟨_, rfl⟩

theorem managerOp_schedule {c : Cmd} (hop : c.get ⟨8, 0, 4⟩ = 8 ∨ c.get ⟨8, 0, 4⟩ = 9) (opid : Nat) (t : State) :
    ∃ body, managerOp c opid t = (c.get ⟨8, 0, 4⟩ != 9 || t.gate.loaded,
      domDown 6 body (takeSchedule (c.get ⟨8, 0, 4⟩) (c.u32 12) (c.get ⟨16, 0, 48⟩) (c.u32 22) t)) := by
  rcases hop with hop | hop
  · have hop' : globalOp c = 8 := hop
    simp only [managerOp, hop', actGlobal, hop]
    exact ⟨_, rfl⟩
  · have hop' : globalOp c = 9 := hop
    simp only [managerOp, hop', actGlobal, hop]
    exact ⟨_, rfl⟩

theorem createKey_of_free {c : Cmd} {opid : Nat} {t : State} (hrange : inRange (drawFree 256 (entServe 1 32 t)).2 (c.u16 10) = true)
    (hfree : occupied (drawFree 256 (entServe 1 32 t)).2 (c.u16 10) = false) : ∃ body, createKey c opid t = (true, domDown 4 body
      (writeShared (c.u16 10) (drawFree 256 (entServe 1 32 t)).1 (c.flag 8 5) (drawFree 256 (entServe 1 32 t)).2)) := by
  have htake := takeKey_of_free hrange hfree (drawFree 256 (entServe 1 32 t)).1 (c.flag 8 5)
  unfold createKey
  dsimp only
  rw [show globalSlot c = c.u16 10 from rfl, htake]
  exact ⟨_, rfl⟩

/-- The state with another barrier, or none. -/
def withBarrier (b : Option Barrier) (s : State) : State := { s with domain := { s.domain with barrier := b } }

theorem arrive_of_free {id : Nat} {s : State} (hbarrier : s.domain.barrier = none)
    (hfree : s.running.any (fun r => r.isOp 0x0a02 && globalOp r.cmd == 1) = false) : arrive id s =
      if s.domain.role = 1 ∧ (childLinks (withBarrier (some { id, own := true }) s)).all (fun n => [].contains n) then
        (domDown 6 (globalBody 1 0 0 id (knownMask s 0) 0 0 []) (withBarrier none s), ok (resultOf [(8, knownMask s 0)]))
      else (reviewBarrier (withBarrier (some { id, own := true }) s), .wait .work) := by
  simp only [arrive, hbarrier, Option.getD_none, hfree, ne_eq, not_true_eq_false, Bool.false_eq_true, or_self, if_false]
  rfl

section
variable {c : Cmd} {s : State} (hpass : Passes 0x0a02 specDomGlobal c s) (hnone : childLinks s = [])
include hpass hnone

/-- BARRIER at a manager without children is released at once. -/
theorem domGlobal_barrier (hop : c.get ⟨8, 0, 4⟩ = 1) (hrole : s.domain.role = 1) (hbarrier : s.domain.barrier = none)
    (hfree : s.running.all (fun r => !r.isOp 0x0a02) = true) : Answers c 0 s (exec (.domGlobal c) s) := by
  have hfree' : s.running.any (fun r => r.isOp 0x0a02 && globalOp r.cmd == 1) = false := by
    rw [List.any_eq_false]
    intro r hr
    have hr' := List.all_eq_true.mp hfree r hr
    simp only [Bool.not_eq_true'] at hr'
    simp [hr']
  have hmask : knownMask s 0 = 0 := by simp [knownMask, bitOf, bitmap]
  have hback : withBarrier none s = s := by rw [withBarrier, ← hbarrier]
  have heff : globalEffect c s = arrive (c.u32 12) s := if_pos hop
  have hchildren : childLinks (withBarrier (some { id := c.u32 12, own := true }) s) = [] := hnone
  have harrive : arrive (c.u32 12) s = (s, ok 0) := by
    rw [arrive_of_free hbarrier hfree', if_pos ⟨hrole, by rw [hchildren]; rfl⟩, hmask, domDown_of_none (s := withBarrier none s) hnone, hback,
      resultOf_byte8]
  exact answers_of_done hpass (by decide) (heff.trans harrive)

/-- BROADCAST (R416). -/
theorem domGlobal_broadcast (hop : c.get ⟨8, 0, 4⟩ = 2) : Answers c 0 (numbered s) (exec (.domGlobal c) s) := by
  obtain ⟨body, hbody⟩ := managerOp_broadcast hop s.domain.nextOpid (numbered s)
  rw [domDown_of_none (s := numbered s) hnone] at hbody
  exact answers_domGlobal hpass (by rw [hop]; decide) (by rw [hop]; decide) (fun h => absurd (hop.symm.trans h) (by decide)) hbody hnone

/-- SNAPSHOT (R416). -/
theorem domGlobal_snapshot (hop : c.get ⟨8, 0, 4⟩ = 3) : Answers c 0 (latchKept (latchAt s) true (numbered s)) (exec (.domGlobal c) s) := by
  obtain ⟨body, hbody⟩ := managerOp_snapshot hop s.domain.nextOpid (numbered s)
  rw [domDown_of_none (s := latchKept (latchAt (numbered s)) true (numbered s)) hnone] at hbody
  exact answers_domGlobal hpass (by rw [hop]; decide) (by rw [hop]; decide) (fun h => absurd (hop.symm.trans h) (by decide)) hbody hnone

/-- RESET: with INCLUDE_MANAGER the manager itself resets after it (R416). -/
theorem domGlobal_reset (hop : c.get ⟨8, 0, 4⟩ = 4) : Answers c 0 { s with
    domain := (numbered s).domain.latched (latchAt s / 10 ^ 9) (latchAt s % 10 ^ 9) false
    power := { s.power with wish := if c.flag 8 4 then some { full := c.u8 9 == 0, byDomain := true } else s.power.wish } }
    (exec (.domGlobal c) s) := by
  obtain ⟨body, hbody⟩ := managerOp_reset hop s.domain.nextOpid (numbered s)
  rw [domDown_of_none (s := latchKept (latchAt (numbered s)) false (numbered s)) hnone] at hbody
  refine answers_of_done hpass (by decide)
    ((globalEffect_eq (by rw [hop]; decide) (fun h => absurd (hop.symm.trans h) (by decide))).trans ?_)
  rw [hbody, globalEnd, if_pos (show childLinks (latchKept (latchAt (numbered s)) false (numbered s)) = [] from hnone), hop]
  cases c.flag 8 4 <;> simp [latchKept, numbered, latchAt, toTotal]

/-- ROTATE (R405, R416). -/
theorem domGlobal_rotate (hop : c.get ⟨8, 0, 4⟩ = 7) (hempty : s.accord.communities = .empty) :
    ∃ u : State, Answers c 0 u (exec (.domGlobal c) s) ∧ u.attar = { s.attar with
        domainGen := s.attar.domainGen + 1, domainKey := some (domKey s.domain.cak s.domain.domainId (s.attar.domainGen + 1)) } ∧
      DomainWork { s with attar := u.attar, pair := { s.pair with dirty := u.pair.dirty } } u := by
  obtain ⟨body, hbody⟩ := managerOp_rotate hop s.domain.nextOpid (numbered s)
  have hregen := regenerated_rotate (s := numbered s) hempty
  have hchildren : childLinks (rotate (numbered s)) = [] := (childLinks_of_told hregen.told).trans hnone
  have hgen : min genLimit (s.attar.domainGen + 1) = s.attar.domainGen + 1 := by
    have hstate := hpass.clear.state
    have hop' : globalOp c = 7 := hop
    simp only [specDomGlobal, hop', Bool.or_eq_false_iff, Bool.and_eq_false_iff, decide_eq_false_iff_not, beq_self_eq_true] at hstate
    have hlow : ¬genLimit ≤ s.attar.domainGen := by simpa using hstate.2
    omega
  rw [domDown_of_none hchildren] at hbody
  have hattar := hregen.attar
  refine ⟨_, answers_domGlobal hpass (by rw [hop]; decide) (by rw [hop]; decide) (fun h => absurd (hop.symm.trans h) (by decide)) hbody hchildren,
    ?_, ?_⟩
  · rw [hattar, ← hgen]
    rfl
  · exact (domainWork_domain { s with attar := _, pair := _ } _).trans hregen.work

/-- ROLL and GATE_EPOCH (R414, R416). -/
theorem domGlobal_schedule (hop : c.get ⟨8, 0, 4⟩ = 8 ∨ c.get ⟨8, 0, 4⟩ = 9) (hpeers : s.accord.peers = .empty) :
    Answers c (if c.get ⟨8, 0, 4⟩ = 9 ∧ s.gate.loaded = false then 1 else 0)
      (scheduleTaken (c.get ⟨8, 0, 4⟩) (c.u32 12) (c.get ⟨16, 0, 48⟩) (c.u32 22) (numbered s)) (exec (.domGlobal c) s) := by
  obtain ⟨body, hbody⟩ := managerOp_schedule hop s.domain.nextOpid (numbered s)
  rw [takeSchedule_of_no_peers (s := numbered s) hpeers, domDown_of_none (s := scheduleTaken _ _ _ _ (numbered s)) hnone] at hbody
  have hresult : (if c.get ⟨8, 0, 4⟩ = 9 ∧ s.gate.loaded = false then 1 else 0) =
      if (c.get ⟨8, 0, 4⟩ != 9 || (numbered s).gate.loaded) then 0 else 1 := by
    rw [show (numbered s).gate.loaded = s.gate.loaded from rfl]
    rcases hop with h | h <;> cases s.gate.loaded <;> simp [h]
  rw [hresult]
  exact answers_domGlobal hpass (by rcases hop with h | h <;> rw [h] <;> decide) (by rcases hop with h | h <;> rw [h] <;> decide)
    (fun h5 => by rcases hop with h | h <;> rw [h] at h5 <;> exact absurd h5 (by decide)) hbody hnone

omit hnone in
/-- Whether a slot lies in the range depends on the settings alone. -/
theorem inRange_of_passes (hop : c.get ⟨8, 0, 4⟩ = 5 ∨ c.get ⟨8, 0, 4⟩ = 6) : inRange s (c.u16 10) = true := by
  have hop' : globalOp c = 5 ∨ globalOp c = 6 := hop
  have hown := hpass.clear.own ((globalOp c == 5 || globalOp c == 6) && !inRange s (globalSlot c), 10) (by simp [specDomGlobal])
  have hin : (globalOp c == 5 || globalOp c == 6) = true := by simpa using hop'
  simp only [hin, Bool.true_and, Bool.not_eq_false'] at hown
  exact hown

/-- KEY_CREATE in a free slot of the range: the key is drawn and written (R412). -/
theorem domGlobal_create (hop : c.get ⟨8, 0, 4⟩ = 5) (hempty : s.accord.communities = .empty) (hserves : entServes s 1 = true)
    (hfree : occupied s (c.u16 10) = false) : ∃ u : State, Answers c 0 u (exec (.domGlobal c) s) ∧
      (∃ k, k < 2 ^ 256 ∧ slotOf u (c.u16 10) = {
        key := k, type := 1, usage := 1, persist := c.flag 8 5, parent := 0xfff2
        parentGen := s.attar.domainGen, gen := (slotOf s (c.u16 10)).gen }) ∧
      (∀ m, m ≠ c.u16 10 → slotOf u m = slotOf s m) ∧ DomainWork { s with
        attar := { s.attar with slots := u.attar.slots }, domain := (numbered s).domain, pair := { s.pair with dirty := u.pair.dirty } } u := by
  have hrange := inRange_of_passes hpass (.inl hop)
  obtain ⟨hwork, hdomain, hkey⟩ := drawn_domain 256 1 32 (numbered s)
  obtain ⟨hattar, haccord, -⟩ := hwork.fixed
  have hslot (m : Nat) : slotOf (drawFree 256 (entServe 1 32 (numbered s))).2 m = slotOf s m := slotOf_of_attar hattar m
  have hrange' : inRange (drawFree 256 (entServe 1 32 (numbered s))).2 (c.u16 10) = true := by
    rw [inRange, hdomain]
    exact hrange
  have hfree' : occupied (drawFree 256 (entServe 1 32 (numbered s))).2 (c.u16 10) = false := by
    rw [occupied, hslot]
    exact hfree
  have hwritten := keyWritten_writeShared (s := (drawFree 256 (entServe 1 32 (numbered s))).2)
    ((congrArg Accord.communities haccord).trans hempty) (c.u16 10) (drawFree 256 (entServe 1 32 (numbered s))).1 (c.flag 8 5)
  have hchildren := (childLinks_of_domain (congrArg Domain.role hwritten.domain) (congrArg Domain.dx1 hwritten.domain)
    (congrArg Domain.dx2 hwritten.domain)).trans ((childLinks_of_domain (congrArg Domain.role hdomain) (congrArg Domain.dx1 hdomain)
    (congrArg Domain.dx2 hdomain)).trans hnone)
  obtain ⟨body, hbody⟩ := createKey_of_free (opid := s.domain.nextOpid) hrange' hfree'
  rw [← managerOp_create hop, domDown_of_none hchildren] at hbody
  refine ⟨_, answers_domGlobal hpass (by rw [hop]; decide) (by rw [hop]; decide) (fun _ => hserves) hbody hchildren,
    ⟨_, hkey, ?_⟩, fun m hm => (hwritten.others m hm).trans (hslot m), ?_⟩
  · rw [hwritten.slot, sharedSlot, hslot, hattar]
    rfl
  · exact (hwork.withKeys _ _).trans hwritten.work

end

section
variable {c : Cmd} {s : State} (hpass : Passes 0x0a02 specDomGlobal c s)
include hpass

/-- KEY_DELETE of a distributed key (R412). -/
theorem domGlobal_delete (hnone : childLinks s = []) (hop : c.get ⟨8, 0, 4⟩ = 6) (hempty : s.accord.communities = .empty)
    (hkey : distributed s (c.u16 10) = true) : ∃ u : State, Answers c 0 u (exec (.domGlobal c) s) ∧
      slotOf u (c.u16 10) = { gen := min genLimit ((slotOf s (c.u16 10)).gen + 1) } ∧ (∀ m, m ≠ c.u16 10 → slotOf u m = slotOf s m) ∧
      DomainWork { s with attar := u.attar, pair := { s.pair with dirty := u.pair.dirty } } u := by
  have hdeleted := keyDeleted_invalidateSlot (s := numbered s) hempty (c.u16 10)
  have hchildren : childLinks (invalidateSlot (c.u16 10) 0 (numbered s)) = [] :=
    (childLinks_of_domain (s := numbered s) (by rw [hdeleted.domain]) (by rw [hdeleted.domain]) (by rw [hdeleted.domain])).trans hnone
  obtain ⟨body, hbody⟩ := managerOp_delete hop s.domain.nextOpid (numbered s)
  rw [deleteKey_of_distributed (s := numbered s) (inRange_of_passes hpass (.inr hop)) hkey, domDown_of_none hchildren] at hbody
  exact ⟨_, answers_domGlobal hpass (by rw [hop]; decide) (by rw [hop]; decide) (fun h => absurd (hop.symm.trans h) (by decide)) hbody hchildren,
    hdeleted.slot, hdeleted.others, (domainWork_domain { s with attar := _, pair := _ } _).trans hdeleted.work⟩

/-- BROADCAST, SNAPSHOT and RESET of a manager with children: the message goes down and the command waits (R416). -/
theorem domGlobal_waits (hsome : childLinks s ≠ [])
    (hop : c.get ⟨8, 0, 4⟩ = 2 ∨ c.get ⟨8, 0, 4⟩ = 3 ∨ c.get ⟨8, 0, 4⟩ = 4) : Gives (exec (.domGlobal c) s) (fun t =>
      DomainWork { s with running := s.running ++ [{ cmd := c, cls := .b, locks := [.domain], wait := .work }] } t ∧
      t.domain.ops = s.domain.ops ++ [{ op := c.get ⟨8, 0, 4⟩, opid := s.domain.nextOpid, waiting := childLinks s, failed := 0 }] ∧
      ∀ n v, n ∈ childLinks s → (dxOf s n).epochOwn = some v → (dxOf t n).seqTx = ((dxOf s n).seqTx + 1) % 2 ^ 32) := by
  have hpart : ∃ (d : Domain) (body : Bytes), managerOp c s.domain.nextOpid (numbered s) = (true, domDown 6 body { s with domain := d }) ∧
      d.role = s.domain.role ∧ d.dx0 = s.domain.dx0 ∧ d.dx1 = s.domain.dx1 ∧ d.dx2 = s.domain.dx2 ∧ d.ops = s.domain.ops := by
    rcases hop with h | h | h
    · obtain ⟨body, hbody⟩ := managerOp_broadcast h s.domain.nextOpid (numbered s)
      exact ⟨_, body, hbody, rfl, rfl, rfl, rfl, rfl⟩
    · obtain ⟨body, hbody⟩ := managerOp_snapshot h s.domain.nextOpid (numbered s)
      exact ⟨_, body, hbody, rfl, rfl, rfl, rfl, rfl⟩
    · obtain ⟨body, hbody⟩ := managerOp_reset h s.domain.nextOpid (numbered s)
      exact ⟨_, body, hbody, rfl, rfl, rfl, rfl, rfl⟩
  obtain ⟨d, body, hbody, hrole, h0, h1, h2, hops⟩ := hpart
  obtain ⟨hlinks, hseq⟩ := domDown_links 6 body { s with domain := d }
  have hchildren : childLinks { s with domain := d } = childLinks s := childLinks_of_domain hrole h1 h2
  have hafter : childLinks (domDown 6 body { s with domain := d }) = childLinks s := hlinks.links_eq.2.1.trans hchildren
  have hdx (n : Nat) : dxOf { s with domain := d } n = dxOf s n := by simp only [dxOf, h0, h1, h2]
  have hbarrier : c.get ⟨8, 0, 4⟩ ≠ 1 := by omega
  have heff := globalEffect_eq (s := s) hbarrier (fun h => by omega)
  rw [hbody, globalEnd, if_neg (by rw [hafter]; exact hsome), hafter] at heff
  have hlocks : specDomGlobal.locks c = [.domain] := if_neg hbarrier
  refine ⟨_, hostOp_of_wait hpass heff, ?_, ?_, fun n v hn hv => ?_⟩
  · rw [hold, hlocks]
    exact DomainWork.appends ((domainWork_domain s d).trans (hlinks.work.trans (domainWork_opWaiting _ _))) _
  · have hkept : (domDown 6 body { s with domain := d }).domain.ops = s.domain.ops := (congrArg Domain.ops hlinks.domain).trans hops
    rw [← hkept]
    rfl
  · have hnext := hseq n v (by rw [hchildren]; exact hn) (by rw [hdx]; exact hv)
    rw [hdx] at hnext
    exact hnext

end

/-! ## DOM_MEMBERS (R424) -/

/-- From `s` to `t` only values have been drawn. -/
def Draws (s t : State) : Prop := t = { s with freeIx := t.freeIx }

theorem Draws.trans {s t u : State} (h : Draws s t) (k : Draws t u) : Draws s u := by
  have hfield := congrArg (fun x : State => { x with freeIx := u.freeIx }) h
  exact Eq.trans k hfield

theorem Draws.outputs {s t : State} (h : Draws s t) : t = { s with freeIx := t.freeIx, out := t.out } := by
  have hout := congrArg State.out h
  rw [hout]
  exact h

theorem Draws.emitted {s t : State} (h : Draws s t) (o : Output) :
    emit o t = { s with freeIx := (emit o t).freeIx, out := (emit o t).out } := by
  have hfield := congrArg (fun x : State => { x with out := o :: t.out }) h
  exact hfield

theorem memberRecord_draws (m : Nat) (s : State) : (memberRecord m s).1 ≠ [] ∧ Draws s (memberRecord m s).2 := by
  unfold memberRecord
  cases s.domain.members.find m with
  | none => exact ⟨List.cons_ne_nil _ _, rfl⟩
  | some v =>
    dsimp only
    split_ifs <;> exact ⟨by simp [leBytes], rfl⟩

theorem memberRecords_draws (l : List Nat) (acc : Bytes × State) (s : State) (h : Draws s acc.2) :
    let r := l.foldl (fun (acc : Bytes × State) m => (acc.1 ++ (memberRecord m acc.2).1, (memberRecord m acc.2).2)) acc
    Draws s r.2 ∧ (acc.1 ≠ [] ∨ l ≠ [] → r.1 ≠ []) := by
  induction l generalizing acc with
  | nil => exact ⟨h, fun hsome => hsome.resolve_right (fun h => h rfl)⟩
  | cons m l ih =>
    obtain ⟨hne, hdraws⟩ := memberRecord_draws m acc.2
    obtain ⟨hrest, hdata⟩ := ih (acc.1 ++ (memberRecord m acc.2).1, (memberRecord m acc.2).2) (h.trans hdraws)
    exact ⟨hrest, fun _ => hdata (.inl (by simp [hne]))⟩

/-- RESULT of DOM_MEMBERS, which counts `n` members. -/
def membersResult (s t : State) (n : Nat) : Nat :=
  resultOf [(8, s.domain.role + 4 * b2n (inDomain t) + 8 * b2n s.domain.stepped), (9, s.domain.member.getD 255), (10, s.domain.depth),
    (11, n), (12, t.attar.domainGen)]

/-- DOM_MEMBERS: the records go to DATA_PTR, the rest is told in RESULT. -/
theorem domMembers {c : Cmd} {s : State} (hpass : Passes 0x0a03 specDomMembers c s) : ∃ (u : State) (n : Nat),
    (s.domain.role ≠ 2 → n = s.domain.members.countIf (fun _ v => v.joined)) ∧ u = { s with freeIx := u.freeIx, out := u.out } ∧
    Answers c (s.domain.role + 4 * b2n (inDomain s) + 8 * b2n s.domain.stepped + 2 ^ 8 * s.domain.member.getD 255 + 2 ^ 16 * s.domain.depth +
      2 ^ 24 * n + 2 ^ 32 * s.attar.domainGen) u (exec (.domMembers c) s) := by
  have hcount : ∃ (n : Nat) (t : State), (if s.domain.role = 2 then drawFree 6 s else (s.domain.members.countIf (fun _ v => v.joined), s)) = (n, t) ∧
      Draws s t ∧ (s.domain.role ≠ 2 → n = s.domain.members.countIf (fun _ v => v.joined)) := by
    split_ifs with hrole
    · exact ⟨_, _, rfl, rfl, fun h => absurd hrole h⟩
    · exact ⟨_, _, rfl, rfl, fun _ => rfl⟩
  obtain ⟨n, t, hn, hdraws, hjoined⟩ := hcount
  have hrecords : Draws t (memberRecords t).2 ∧ (memberRecords t).1 ≠ [] := by
    obtain ⟨hrest, hdata⟩ := memberRecords_draws (List.range 63) ([], t) t rfl
    exact ⟨hrest, hdata (.inr (by simp))⟩
  have hafter : Draws s (if c.dataPtr = 0 then ([], t) else memberRecords t).2 := by
    split_ifs
    · exact hdraws
    · exact hdraws.trans hrecords.1
  have hresult : membersResult s (if c.dataPtr = 0 then ([], t) else memberRecords t).2 n =
      s.domain.role + 4 * b2n (inDomain s) + 8 * b2n s.domain.stepped + 2 ^ 8 * s.domain.member.getD 255 + 2 ^ 16 * s.domain.depth +
        2 ^ 24 * n + 2 ^ 32 * s.attar.domainGen := by
    have hgen := congrArg (fun x => x.attar.domainGen) hafter
    have hin := congrArg inDomain hafter
    simp only [membersResult, resultOf_cons, resultOf_nil, hgen, hin]
    simp only [inDomain]
    omega
  have heff : specDomMembers.effect c s = ((if c.dataPtr = 0 then ([], t) else memberRecords t).2,
      .done { status := stOk, data := (if c.dataPtr = 0 then ([], t) else memberRecords t).1
              result := membersResult s (if c.dataPtr = 0 then ([], t) else memberRecords t).2 n }) := by
    simp only [specDomMembers, hn]
    rfl
  have hunmirrored : mirroredCommands.contains c.opcode = false := by rw [hpass.opcode]; decide
  refine ⟨if c.dataPtr = 0 then t else emit (.hostWrite c.fn c.dataPtr (memberRecords t).1) (memberRecords t).2, n, hjoined, ?_, ?_⟩
  · split_ifs
    · exact hdraws.outputs
    · exact (hdraws.trans hrecords.1).emitted _
  · refine ⟨_, hostOp_of_done hpass heff, ?_⟩
    rw [mirrorCommand_of_unmirrored hunmirrored, hresult]
    split_ifs with hptr
    · exact answered_postCompletion ..
    · exact finish_of_data hrecords.2 _

end Sys2Proof.Machine
end

section
/-!
PROOFS. The domain's intervals, timeouts and instants (13_domain).
-/
namespace Sys2Proof.Machine

open Sys2Proof

/-! ## Ends of operations (R416, R417) -/

/-- The command of an operation completes, and no reset is asked for. -/
theorem answered_completeGlobal {t : State} {r : Running} (hrunning : t.running = [r]) (hop : r.isOp 0x0a02 = true) (hwait : r.wait = .work)
    (hxfer : r.xfer = none) (hbarrier : r.cmd.get ⟨8, 0, 4⟩ ≠ 1) (hreset : r.cmd.get ⟨8, 0, 4⟩ ≠ 4) (failed : Nat) :
    Answered r.cmd stOk 0 failed { t with running := [] } (completeGlobal failed t) := by
  have hmatch : (r.isOp 0x0a02 && r.wait == .work && r.cmd.get ⟨8, 0, 4⟩ != 1) = true := by simp [hop, hwait, hbarrier]
  have hreset' : (r.cmd.get ⟨8, 0, 4⟩ == 4) = false := by simpa using hreset
  have hkeep : t.running.find? (fun r => (r.isOp 0x0a02 && r.wait == .work && r.cmd.get ⟨8, 0, 4⟩ != 1) && r.cmd.get ⟨8, 0, 4⟩ == 4 &&
      r.cmd.flag 8 4) = none := by
    rw [hrunning]
    simp [hreset']
  have heq : completeGlobal failed t = finishRunning r { status := stOk, result := failed } { t with running := [] } := by
    simp only [completeGlobal, hkeep, Option.map_none, resultOf_byte8]
    exact completeRunning_only hrunning hmatch _
  rw [heq]
  exact answered_finishRunning hxfer ..

/-- The manager's only operation has all its acknowledgements, and its command completes. -/
theorem answered_finishOp {s : State} {o : DomOp} {r : Running} (hops : s.domain.ops = [o]) (hrole : s.domain.role = 1)
    (hrunning : s.running = [r]) (hop : r.isOp 0x0a02 = true) (hwait : r.wait = .work) (hxfer : r.xfer = none)
    (hbarrier : r.cmd.get ⟨8, 0, 4⟩ ≠ 1) (hreset : r.cmd.get ⟨8, 0, 4⟩ ≠ 4) (x : DomOp) (hx : x.opid = o.opid) :
    Answered r.cmd stOk 0 (knownMask s x.failed) { s with running := [], domain := { s.domain with ops := [] } } (finishOp x s) := by
  have hnone : s.domain.ops.filter (fun y => y.opid != x.opid) = [] := by simp [hops, hx]
  have heq : finishOp x s = completeGlobal (knownMask s x.failed) { s with domain := { s.domain with ops := [] } } := by
    rw [finishOp, modDomain, hnone]
    exact if_pos hrole
  rw [heq]
  exact answered_completeGlobal (t := { s with domain := { s.domain with ops := [] } }) hrunning hop hwait hxfer hbarrier hreset _

section
variable {s : State} (hlive : s.live = true)
include hlive

/-! ## Intervals (R409, R413) -/

theorem execDomJoinRetry_of_live : if s.domain.role = 2 ∧ s.domain.retry = true ∧ s.domain.joined = false ∧ s.domain.dx0.up = true then
      Gives (exec .domJoinRetry s) (fun t => DomainWork s t ∧
        ∀ e, s.domain.dx0.epochOwn = some e → t.domain.dx0.seqTx = (s.domain.dx0.seqTx + 1) % 2 ^ 32)
    else exec .domJoinRetry s = .next s := by
  have hexec : exec .domJoinRetry s =
      .next (if s.domain.role = 2 ∧ s.domain.retry ∧ !s.domain.joined ∧ s.domain.dx0.up then sendJoin s else s) := act_of_live hlive _
  rw [hexec]
  simp only [Bool.not_eq_true']
  split_ifs with hasks
  · obtain ⟨-, -, -, hup⟩ := hasks
    obtain ⟨hsend, hseq, -⟩ := domSend_links (n := 0) (type := 2) (by decide) 0 (beBytes 8 s.boot.deviceId ++ beBytes 8 0) s
    exact ⟨_, rfl, hsend.work, fun e he => hseq (by simp [sends, show (dxOf s 0) = s.domain.dx0 from rfl, he, hup])⟩
  · rfl

theorem execDomTimeInterval_of_live : if s.domain.role = 1 ∧ s.time.state ≠ .unset then
      Gives (exec .domTimeInterval s) (fun t => DomainWork s t ∧
        ∀ n e, n ∈ childLinks s → (dxOf s n).epochOwn = some e → (dxOf t n).seqTx = ((dxOf s n).seqTx + 1) % 2 ^ 32)
    else exec .domTimeInterval s = .next s := by
  have hexec : exec .domTimeInterval s = .next (if s.domain.role = 1 ∧ s.time.state ≠ .unset then
      domDown 5 (beBytes 6 s.time.clock.sec ++ beBytes 4 s.time.clock.ns ++ beBytes 6 0) s else s) := act_of_live hlive _
  rw [hexec]
  split_ifs with hsends
  · obtain ⟨hlinks, hseq⟩ := domDown_links 5 (beBytes 6 s.time.clock.sec ++ beBytes 4 s.time.clock.ns ++ beBytes 6 0) s
    exact ⟨_, rfl, hlinks.work, hseq⟩
  · rfl

/-! ## Timeouts and reports (R416, R419) -/

theorem execDomAckTimeout_of_none (opid : Nat) (hnone : s.domain.ops = []) : exec (.domAckTimeout opid) s = .next s := by
  rw [show exec (.domAckTimeout opid) s = execDomAckTimeout opid s from rfl, execDomAckTimeout, act_of_live hlive]
  simp only [hnone, List.find?_nil]

theorem execDomAckTimeout_of_one {o : DomOp} {r : Running} {n : Nat} (hops : s.domain.ops = [o]) (hrole : s.domain.role = 1)
    (hwaiting : o.waiting = [n]) (hrunning : s.running = [r]) (hop : r.isOp 0x0a02 = true) (hwait : r.wait = .work) (hxfer : r.xfer = none)
    (hbarrier : r.cmd.get ⟨8, 0, 4⟩ ≠ 1) (hreset : r.cmd.get ⟨8, 0, 4⟩ ≠ 4) :
    Gives (exec (.domAckTimeout o.opid) s) (Answered r.cmd stOk 0 (knownMask s (o.failed ||| bitmap (below s n)))
      { s with running := [], domain := { s.domain with ops := [] } }) := by
  have hexec : exec (.domAckTimeout o.opid) s =
      .next (finishOp { o with waiting := [], failed := o.failed ||| bitmap (below s n) } s) := by
    rw [show exec (.domAckTimeout o.opid) s = execDomAckTimeout o.opid s from rfl, execDomAckTimeout, act_of_live hlive]
    simp only [hops, List.find?_cons, beq_self_eq_true, hwaiting, List.foldl_cons, List.foldl_nil, Nat.zero_or, updateOp, if_true]
  rw [hexec]
  exact ⟨_, rfl, answered_finishOp hops hrole hrunning hop hwait hxfer hbarrier hreset
    { o with waiting := [], failed := o.failed ||| bitmap (below s n) } rfl⟩

theorem execDomReportMerge_of_none {code object : Nat} (hnone : s.domain.merging.any (fun g => g.1 == code && g.2.1 == object) = false) :
    exec (.domReportMerge code object) s = .next s := by
  have hfind : s.domain.merging.find? (fun g => g.1 == code && g.2.1 == object) = none := by
    rw [List.find?_eq_none]
    exact fun g hg => by simpa using List.any_eq_false.mp hnone g hg
  rw [show exec (.domReportMerge code object) s = execDomReportMerge code object s from rfl, execDomReportMerge, act_of_live hlive]
  simp only [hfind]

theorem execDomReportMerge_of_first {code object severity mask k : Nat} {rest : List (Nat × Nat × Nat × Nat × Nat)}
    (hmerging : s.domain.merging = (code, object, severity, mask, k) :: rest)
    (hnone : rest.any (fun g => g.1 == code && g.2.1 == object) = false) :
    Gives (exec (.domReportMerge code object) s) (Told { s with domain := { s.domain with merging := rest } }) := by
  have hrest : rest.filter (fun g => !(g.1 == code && g.2.1 == object)) = rest :=
    List.filter_eq_self.mpr fun g hg => by
      have hother := Bool.eq_false_of_not_eq_true (List.any_eq_false.mp hnone g hg)
      rw [hother]
      rfl
  rw [show exec (.domReportMerge code object) s = execDomReportMerge code object s from rfl, execDomReportMerge, act_of_live hlive]
  refine ⟨_, rfl, ?_⟩
  simp only [hmerging, List.find?_cons, beq_self_eq_true, Bool.and_self, modDomain, List.filter_cons, Bool.not_true, Bool.false_eq_true, if_false,
    hrest]
  exact (Told.refl _).post ..

end

/-! ## Lost links (R410) -/

/-- A member's record once it has left. -/
def Member.lost (v : Member) (ms : Nat) : Member := { v with joined := false, sinceMs := ms }

/-- The records of several members that have left. -/
def membersLeft (l : List Nat) (s : State) : State :=
  l.foldl (fun s k =>
    match s.domain.members.find k with
    | some v => setMemberRecord k { v with joined := false, sinceMs := msNow s } s
    | none => s) s

theorem membersLeft_members (l : List Nat) (s : State) :
    membersLeft l s = { s with domain := { s.domain with members := (membersLeft l s).domain.members } } ∧
      ∀ m, (membersLeft l s).domain.members.find m =
        if m ∈ l then (s.domain.members.find m).map (·.lost (msNow s)) else s.domain.members.find m := by
  induction l generalizing s with
  | nil => exact ⟨rfl, fun _ => rfl⟩
  | cons k l ih =>
    cases hk : s.domain.members.find k with
    | none =>
      have heq : membersLeft (k :: l) s = membersLeft l s := by simp only [membersLeft, List.foldl_cons, hk]
      rw [heq]
      obtain ⟨hrest, hfind⟩ := ih s
      refine ⟨hrest, fun m => (hfind m).trans ?_⟩
      by_cases hm : m = k
      · simp [hm, hk]
      · simp [hm]
    | some v =>
      have heq : membersLeft (k :: l) s = membersLeft l (setMemberRecord k (v.lost (msNow s)) s) := by
        simp only [membersLeft, List.foldl_cons, hk]
        rfl
      rw [heq]
      obtain ⟨hrest, hfind⟩ := ih (setMemberRecord k (v.lost (msNow s)) s)
      have hset (m : Nat) : (setMemberRecord k (v.lost (msNow s)) s).domain.members.find m =
          if m = k then some (v.lost (msNow s)) else s.domain.members.find m := by
        by_cases hm : m = k
        · rw [if_pos hm, hm]
          exact Table.find_set_same ..
        · rw [if_neg hm]
          exact Table.find_set_ne hm ..
      have hms : msNow (setMemberRecord k (v.lost (msNow s)) s) = msNow s := rfl
      refine ⟨hrest, fun m => (hfind m).trans ?_⟩
      rw [hset, hms]
      by_cases hm : m = k
      · simp only [hm, List.mem_cons, true_or, if_true, hk, Option.map_some, Member.lost]
        split_ifs <;> rfl
      · simp only [hm, List.mem_cons, false_or, if_false]

/-- The members of a subtree are gone for the manager: none of them is joined, and no other record has changed. -/
structure MembersGone (n : Nat) (s t : State) : Prop where
  work : DomainWork s t
  links : ∀ m, dxOf t m = dxOf s m
  counters : ∀ off, off ≠ 0xd138 → counter t off = counter s off
  gone : ∀ m v, m ∈ subtree n → t.domain.members.find m = some v → v.joined = false
  others : ∀ m, m ∉ subtree n → t.domain.members.find m = s.domain.members.find m

/-- The manager's depth after its records have changed. -/
def depthKnown (s : State) : State := { s with domain := { s.domain with depth := domainDepth s } }

theorem membersGone_of_told {n : Nat} {s t : State} {l : List Nat} (hin : ∀ m, m ∈ l → m ∈ subtree n)
    (hstay : ∀ m v, m ∈ subtree n → m ∉ l → s.domain.members.find m = some v → v.joined = false)
    (h : Told (depthKnown (membersLeft l s)) t) : MembersGone n s t := by
  obtain ⟨hrest, hfind⟩ := membersLeft_members l s
  have hdomain := domain_of_told h
  have hmembers : t.domain.members = (membersLeft l s).domain.members := by rw [hdomain]; rfl
  have hwork : DomainWork s (depthKnown (membersLeft l s)) := by
    rw [hrest]
    exact domainWork_domain s _
  refine ⟨hwork.trans (domainWork_of_told h), fun m => ?_, fun off hoff => ?_, fun m v hm hv => ?_, fun m hm => ?_⟩
  · have hsame : dxOf t m = dxOf (membersLeft l s) m := by
      unfold dxOf
      rw [hdomain]
      rfl
    have hleft := congrArg (fun u => dxOf u m) hrest
    exact hsame.trans hleft
  · have hleft := congrArg (fun u => counter u off) hrest
    exact (h.counters off hoff).trans hleft
  · rw [hmembers, hfind] at hv
    split_ifs at hv with hml
    · obtain ⟨w, -, hw⟩ := Option.map_eq_some_iff.mp hv
      rw [← hw]
      rfl
    · exact hstay m v hm hml hv
  · rw [hmembers, hfind, if_neg fun h => hm (hin m h)]

theorem membersGone_membersLost {n : Nat} {s : State} (hrole : s.domain.role = 1) (hmember : s.domain.member = some 0) :
    MembersGone n s (membersLost n s) := by
  have hbelow : below s n = subtree n := by simp [below, childOf, hmember]
  have hjoined (m : Nat) (v : Member) (hm : m ∈ subtree n) (hout : m ∉ joinedOf s (subtree n)) (hv : s.domain.members.find m = some v) :
      v.joined = false := by
    simpa [joinedOf, hm, hv] using hout
  unfold membersLost
  rw [hbelow]
  dsimp only
  split_ifs with hnone
  · have hempty : joinedOf s (subtree n) = [] := hnone.resolve_left (fun h => h hrole)
    exact ⟨.refl s, fun _ => rfl, fun _ _ => rfl, fun m v hm hv => hjoined m v hm (by rw [hempty]; exact List.not_mem_nil) hv, fun _ _ => rfl⟩
  · obtain ⟨hrest, hfind⟩ := membersLeft_members (joinedOf s (subtree n)) s
    refine membersGone_of_told (s := s) (l := joinedOf s (subtree n)) (fun m hm => (List.mem_filter.mp hm).1) hjoined
      (h := (Told.refl (depthKnown (membersLeft (joinedOf s (subtree n)) s))).raiseHeld ..)

theorem execDomLinkLoss_of_none {s : State} (hlive : s.live = true) {n : Nat}
    (hnone : (domLinks s).contains n = false ∨ (dxOf s n).epochTheirs = none) : exec (.domLinkLoss n) s = .next s := by
  refine (act_of_live hlive fun s => if (domLinks s).contains n ∧ (dxOf s n).epochTheirs.isSome then
    loseLink n (wdCount 6 1 (lastLevel 7 s)) else s).trans (congrArg _ (if_neg ?_))
  rintro ⟨hlink, htheirs⟩
  rcases hnone with h | h
  · rw [h] at hlink
    exact Bool.false_ne_true hlink
  · rw [h] at htheirs
    exact absurd htheirs (by decide)

/-- The state in which a lost link has been counted. -/
def linkCounted (s : State) : State := State.plus 0x104b0 1 { s with watchdog := { s.watchdog with lastLevel := 7 } }

theorem execDomLinkLoss_of_live {s : State} (hlive : s.live = true) {n : Nat} (hlink : (domLinks s).contains n = true)
    (htheirs : (dxOf s n).epochTheirs.isSome = true) : exec (.domLinkLoss n) s = .next (loseLink n (linkCounted s)) := by
  have hcount : wdCount 6 1 (lastLevel 7 s) = linkCounted s := countBy_uncounted (off := 0x10480 + 8 * 6) (by decide) 1 _
  refine (act_of_live hlive fun s => if (domLinks s).contains n ∧ (dxOf s n).epochTheirs.isSome then
    loseLink n (wdCount 6 1 (lastLevel 7 s)) else s).trans (congrArg _ ?_)
  rw [if_pos ⟨hlink, htheirs⟩, hcount]

/-- The manager loses a link (R410). -/
theorem managerLosesLink {s : State} (hlive : s.live = true) {n : Nat} (hrole : s.domain.role = 1) (hmember : s.domain.member = some 0)
    (hn : n = 1 ∨ n = 2) (htheirs : (dxOf s n).epochTheirs.isSome = true) (hops : s.domain.ops = []) (hbarrier : s.domain.barrier = none) :
    Gives (exec (.domLinkLoss n) s) (fun t =>
      dxOf t n = {} ∧ (∀ m v, m ∈ subtree n → t.domain.members.find m = some v → v.joined = false) ∧
      (∀ m, m ∉ subtree n → t.domain.members.find m = s.domain.members.find m) ∧ counter t 0x104b0 = counter s 0x104b0 + 1 ∧
      DomainWork { s with watchdog := { s.watchdog with lastLevel := 7 } } t) := by
  have hlink : (domLinks s).contains n = true := by
    rw [domLinks, hrole]
    rcases hn with rfl | rfl <;> decide
  obtain ⟨hrole', -, hmember', hmembers, hops', hbarrier', -⟩ := setDx_kept n {} (linkCounted s)
  have hgone := membersGone_membersLost (n := n) (s := setDx n {} (linkCounted s)) (hrole'.trans hrole) (hmember'.trans hmember)
  have heq : loseLink n (linkCounted s) = membersLost n (setDx n {} (linkCounted s)) := by
    rw [loseLink, if_neg (by omega), failChild_of_idle (hops'.trans hops) (hbarrier'.trans hbarrier)]
  have hcount : counter (setDx n {} (linkCounted s)) 0x104b0 = counter s 0x104b0 + 1 :=
    (counter_setDx ..).trans (counter_plus_same ..)
  rw [execDomLinkLoss_of_live hlive hlink htheirs, heq]
  refine ⟨_, rfl, (hgone.links n).trans (dxOf_setDx_same ..), hgone.gone, fun m hm => (hgone.others m hm).trans (by rw [hmembers]; rfl),
    (hgone.counters _ (by decide)).trans hcount, ?_⟩
  exact ((domainWork_plus 0x104b0 1 _).trans (domainWork_setDx n {} (linkCounted s))).trans hgone.work

/-- A worker loses its parent (R410). -/
theorem workerLosesParent {s : State} (hlive : s.live = true) (hrole : s.domain.role = 2) (hjoined : s.domain.joined = true)
    (htheirs : s.domain.dx0.epochTheirs.isSome = true) (hagent : (domainOf s s.domain.timeB).agent = false) :
    Gives (exec (.domLinkLoss 0) s) (fun t =>
      t.domain.dx0 = {} ∧ t.domain.joined = false ∧ t.domain.member = none ∧ t.domain.retry = true ∧
      DomainWork { s with watchdog := { s.watchdog with lastLevel := 7 } } t) := by
  have hlink : (domLinks s).contains 0 = true := by
    rw [domLinks, hrole]
    decide
  have htold := told_leaveDomain (s := setDx 0 {} (linkCounted s)) hagent
  have hdomain := domain_of_told htold
  have heq : loseLink 0 (linkCounted s) = leaveDomain (setDx 0 {} (linkCounted s)) := by
    unfold loseLink
    exact (if_pos rfl).trans (if_pos hjoined)
  rw [execDomLinkLoss_of_live hlive hlink htheirs, heq]
  refine ⟨_, rfl, by rw [hdomain]; rfl, by rw [hdomain]; rfl, by rw [hdomain]; rfl, by rw [hdomain]; rfl, ?_⟩
  exact ((domainWork_plus 0x104b0 1 _).trans (domainWork_setDx 0 {} (linkCounted s))).trans (domainWork_of_toldDomain htold)

/-! ## Instants (R414) -/

theorem execDomScheduledInstant_of_none {s : State} (hlive : s.live = true) (op id : Nat) (hnone : s.domain.schedules = []) :
    exec (.domScheduledInstant op id) s = .next s := by
  rw [show exec (.domScheduledInstant op id) s = execDomScheduledInstant op id s from rfl, execDomScheduledInstant, act_of_live hlive]
  simp only [hnone, List.find?_nil]

/-- The state once the schedules are gone. -/
def unscheduled (s : State) : State := { s with domain := { s.domain with schedules := [] } }

theorem execDomScheduledInstant_of_one {s : State} (hlive : s.live = true) {x : Schedule} (hone : s.domain.schedules = [x]) :
    exec (.domScheduledInstant x.op x.id) s = .next (
      if toTotal s < instantNs x.sec x.ns then s
      else if x.op ≠ 9 then unscheduled s
      else if s.gate.loaded then
        { swapGate (unscheduled s) with running := (swapGate (unscheduled s)).running ++
          [{ cmd := { fn := 0, qp := 4, seq := 0, packet := 0x0f02, payload := [] }, cls := .b, locks := [.gate 0], wait := .work }] }
      else raiseDomState 3 (unscheduled s)) := by
  rw [show exec (.domScheduledInstant x.op x.id) s = execDomScheduledInstant x.op x.id s from rfl, execDomScheduledInstant, act_of_live hlive]
  simp only [hone, List.find?_cons, beq_self_eq_true, Bool.and_self, modDomain, List.filter_cons, Bool.not_true, Bool.false_eq_true, if_false,
    List.filter_nil]
  rfl

theorem swapGate_eq (s : State) : swapGate s = State.plus 0x10288 1 { s with
    gate := { s.gate with activeB := !s.gate.activeB, loaded := false, epoch := (s.gate.epoch + 1) % 2 ^ 32 } } :=
  countBy_uncounted (off := 0x10288) (by decide) 1 _

/-- GATE_EPOCH at its instant, with a loaded set (R414). -/
theorem gateEpochSwaps {s : State} (hlive : s.live = true) {x : Schedule} (hone : s.domain.schedules = [x])
    (hdue : instantNs x.sec x.ns ≤ toTotal s) (hop : x.op = 9) (hloaded : s.gate.loaded = true) :
    Gives (exec (.domScheduledInstant x.op x.id) s) (fun t => t.running.length = s.running.length + 1 ∧
      Told (State.plus 0x10288 1 { s with
        domain := { s.domain with schedules := [] }, running := t.running
        gate := { s.gate with activeB := !s.gate.activeB, loaded := false, epoch := (s.gate.epoch + 1) % 2 ^ 32 } }) t) := by
  rw [execDomScheduledInstant_of_one hlive hone, if_neg (Nat.not_lt.mpr hdue), if_neg (not_not.mpr hop), if_pos hloaded, swapGate_eq]
  exact ⟨_, rfl, by simp [State.plus, unscheduled], .refl _⟩

/-- The state in which the latches that are due are gone. -/
def unlatched (s : State) : State := { s with domain := { s.domain with latches := [] } }

theorem latchInstant_of_early {s : State} {l : Latch} (hone : s.domain.latches = [l]) (hearly : toTotal s < instantNs l.sec l.ns)
    (board : Board) : latchInstant board s = s := by
  have hkeep : { s with domain := { s.domain with latches := [l] } } = s := by rw [← hone]
  have hnot : decide (instantNs l.sec l.ns ≤ toTotal s) = false := decide_eq_false (Nat.not_le.mpr hearly)
  simp only [latchInstant, hone, modDomain, List.filter_cons, List.filter_nil, hnot, Bool.false_eq_true, if_false, List.foldl_nil, Bool.not_false,
    if_true, hkeep]

theorem latchInstant_of_due {s : State} {l : Latch} (hone : s.domain.latches = [l]) (hdue : instantNs l.sec l.ns ≤ toTotal s)
    (hreset : l.resetKind = none) (board : Board) : latchInstant board s =
      if l.snapshot then latchSnapshot true (driveAll 10 false (driveAll 10 true (unlatched s))) else
        driveAll 10 false (driveAll 10 true (unlatched s)) := by
  have hyes : decide (instantNs l.sec l.ns ≤ toTotal s) = true := decide_eq_true hdue
  simp only [latchInstant, hone, modDomain, List.filter_cons, List.filter_nil, hyes, if_true, List.foldl_cons, List.foldl_nil, Bool.not_true,
    Bool.false_eq_true, if_false, hreset]
  rfl

theorem told_unlatched (s : State) : Told (unlatched s) (driveAll 10 false (driveAll 10 true (unlatched s))) :=
  ((Told.refl _).driveAll 10 true).driveAll 10 false

/-- The counters apart, reporting leaves the PMC. -/
theorem pmc_of_told {s t : State} (h : Told s t) : t.pmc = { s.pmc with counters := t.pmc.counters } := by
  have hfield := congrArg State.pmc h.rest
  exact hfield

theorem told_of_toldPmc {s u : State} {x : Pmc} (h : Told { s with pmc := x } u) : Told { s with pmc := u.pmc } u := by
  have hpmc : u.pmc = { x with counters := u.pmc.counters } := pmc_of_told h
  have hrest := h.rest
  refine ⟨?_, h.regs, h.counters, h.out, h.fns⟩
  exact hrest.trans (by rw [← hpmc])

theorem Told.withPmc {s t : State} (h : Told s t) (x : Pmc) : Told { s with pmc := x } { t with pmc := x } := by
  have hrest := congrArg (fun y : State => { y with pmc := x }) h.rest
  exact ⟨hrest, h.regs, h.counters, h.out, h.fns⟩

theorem latchSnapshot_eq (t : State) : ∃ (p : Pmc) (d : Nat), p.snapSeq = (t.pmc.snapSeq + 1) % 2 ^ 32 ∧
    latchSnapshot true t = raiseHeld 0 0x1007 0 0 d { t with pmc := p } := by
  unfold latchSnapshot
  dsimp only
  refine ⟨_, _, ?_, rfl⟩
  split_ifs <;> rfl

/-- A latched snapshot takes the next number, and is told. -/
theorem told_latchSnapshot {s t : State} (h : Told s t) : (latchSnapshot true t).pmc.snapSeq = (s.pmc.snapSeq + 1) % 2 ^ 32 ∧
    Told { s with pmc := (latchSnapshot true t).pmc } (latchSnapshot true t) := by
  obtain ⟨p, d, hseq, heq⟩ := latchSnapshot_eq t
  have htold : Told { s with pmc := p } (latchSnapshot true t) := by
    rw [heq]
    exact (h.withPmc p).raiseHeld ..
  have hp : (latchSnapshot true t).pmc.snapSeq = p.snapSeq := by rw [pmc_of_told htold]
  have ht : t.pmc.snapSeq = s.pmc.snapSeq := by rw [pmc_of_told h]
  exact ⟨by rw [hp, hseq, ht], told_of_toldPmc htold⟩

/-- A latch acts at its instant, and not before (R414). -/
theorem execDomLatchInstant_of_one {s : State} (hlive : s.live = true) (board : Board) {l : Latch} (hone : s.domain.latches = [l]) :
    (toTotal s < instantNs l.sec l.ns → exec (.domLatchInstant board) s = .next s) ∧
    (instantNs l.sec l.ns ≤ toTotal s → l.resetKind = none →
      (l.snapshot = false → Gives (exec (.domLatchInstant board) s) (Told { s with domain := { s.domain with latches := [] } })) ∧
      (l.snapshot = true → Gives (exec (.domLatchInstant board) s) (fun t => t.pmc.snapSeq = (s.pmc.snapSeq + 1) % 2 ^ 32 ∧
        Told { s with pmc := t.pmc, domain := { s.domain with latches := [] } } t))) := by
  have hexec : exec (.domLatchInstant board) s = .next (latchInstant board s) := act_of_live hlive (latchInstant board)
  rw [hexec]
  refine ⟨fun hearly => by rw [latchInstant_of_early hone hearly], fun hdue hreset => ?_⟩
  rw [latchInstant_of_due hone hdue hreset]
  refine ⟨fun hshot => ?_, fun hshot => ?_⟩
  · rw [hshot, if_neg Bool.false_ne_true]
    exact ⟨_, rfl, told_unlatched s⟩
  · rw [hshot, if_pos rfl]
    exact ⟨_, rfl, told_latchSnapshot (told_unlatched s)⟩

/-- DOM_CONFIG in each of its roles (R420, R421). -/
theorem domConfig {c : Cmd} {s : State} {d : Domain} (hpass : Passes 0x0a01 specDomConfig c s) (hd : d = domSettings c s) :
    (∀ m, commOf s (c.get ⟨9, 0, 6⟩) = some m → (domSettings c s).cak = (slotOf s m.keySlot).key) ∧
    (∀ x, x = setDomain (c.flag 8 3) { domainOf s (c.flag 8 3) with agent := true } s →
      (c.get ⟨8, 0, 2⟩ = 2 → Answers c 0 (if c.flag 8 4 then { x with domain := d } else { s with domain := d }) (exec (.domConfig c) s)) ∧
      (c.get ⟨8, 0, 2⟩ = 1 → (∀ k, State.keysSettled { s with attar := { s.attar with domainKey := some k } } = true) →
        ∃ u : State, Answers c 0 u (exec (.domConfig c) s) ∧
          u.domain = { d with joined := true, member := some 0, stepped := false, reports := u.domain.reports
                              members := s.domain.members.set 0 { deviceId := s.boot.deviceId, sinceMs := msNow s } } ∧
          u.attar = { s.attar with domainKey := some (domKey d.cak (c.u32 12) s.attar.domainGen) } ∧
          Told { s with domain := u.domain, attar := u.attar, pair := { s.pair with dirty := u.pair.dirty } } u)) := by
  subst hd
  refine ⟨fun m hm => ?_, ?_⟩
  · simp only [domSettings, hm]
  · rintro x rfl
    exact ⟨fun hrole => answers_of_done hpass (by decide) (specDomConfig_worker hrole s), domConfig_manager hpass⟩

/-- Settles O55: each command, interval and instant changes the domain's own records, and what it tells leaves the rest as it is. -/
theorem domainCommands : Obligations.DomainCommands := by
  refine ⟨fun c s d hpass hd => ?_, fun c s op d sec ns hpass hop hrole hcomms hpeers hd hsec hns => ⟨fun hnone => ?_, fun hsome hops => ?_⟩,
    fun c s hpass => domMembers hpass, fun s hlive => ⟨fun hrole => ?_, fun hrole => ?_, fun hrole => ?_, execDomJoinRetry_of_live hlive,
      execDomTimeInterval_of_live hlive, execDomAckTimeout_of_none hlive, fun o r n hops hrole hwaiting hrunning hop hwait hxfer hbarrier hreset =>
        execDomAckTimeout_of_one hlive hops hrole hwaiting hrunning hop hwait hxfer hbarrier hreset,
      fun code object => execDomReportMerge_of_none hlive, fun code object severity mask k rest => execDomReportMerge_of_first hlive,
      fun n => execDomLinkLoss_of_none hlive, fun n hrole hmember hn htheirs hops hbarrier =>
        managerLosesLink hlive hrole hmember hn htheirs hops hbarrier, workerLosesParent hlive,
      execDomScheduledInstant_of_none hlive, fun x hone => ⟨fun hearly => ?_, fun hdue => ⟨fun hop => ?_, gateEpochSwaps hlive hone hdue,
        fun hop hloaded => ?_⟩⟩, fun board l hone => execDomLatchInstant_of_one hlive board hone⟩⟩
  · obtain ⟨hcak, hconfig⟩ := domConfig hpass hd
    exact ⟨hcak, hconfig, domConfig_off hpass⟩
  · subst hop
    refine ⟨fun h hbarrier hfree => domGlobal_barrier hpass hnone h hrole hbarrier hfree, fun h => ?_, fun h => ?_, fun h => ?_,
      fun h hserves hfree => ?_, fun h hkey => domGlobal_delete hpass hnone h hcomms hkey, fun h => domGlobal_rotate hpass hnone h hcomms,
      fun h => ?_⟩
    · rw [hd]
      exact domGlobal_broadcast hpass hnone h
    · rw [hd, hsec, hns]
      exact domGlobal_snapshot hpass hnone h
    · rw [hd, hsec, hns]
      exact domGlobal_reset hpass hnone h
    · rw [hd]
      exact domGlobal_create hpass hnone h hcomms hserves hfree
    · rw [hd]
      exact domGlobal_schedule hpass hnone h hpeers
  · subst hop
    exact domGlobal_waits hpass hsome hops
  · rw [execDomKeepaliveInterval_of_live hlive, keepaliveInterval_unconfigured hrole]
  · exact ⟨_, execDomKeepaliveInterval_of_live hlive, keepaliveInterval_manager hrole⟩
  · exact ⟨_, execDomKeepaliveInterval_of_live hlive, keepaliveInterval_worker hrole⟩
  · rw [execDomScheduledInstant_of_one hlive hone, if_pos hearly]
  · rw [execDomScheduledInstant_of_one hlive hone, if_neg (Nat.not_lt.mpr hdue), if_pos hop, unscheduled]
  · rw [execDomScheduledInstant_of_one hlive hone, if_neg (Nat.not_lt.mpr hdue), if_neg (not_not.mpr hop), if_neg (by rw [hloaded]; decide)]
    exact ⟨_, rfl, told_raiseDomState (.refl _) 3⟩

end Sys2Proof.Machine
end

section
/-!
PROOFS. What arrives on domain links (13_domain).
-/
namespace Sys2Proof.Machine

open Sys2Proof

/-! ## Messages in (R406) -/

/-- What a link does with a message: with one that it takes, something; with another, nothing more. -/
def received (f : DomIn → State → State) (r : Option DomIn × State) : State :=
  match r with
  | (some m, s) => f m s
  | (none, s) => s

/-- What a link takes from a message. -/
def domIn (b : Bytes) : DomIn := { src := byteAt b 16, dst := byteAt b 17, body := (b.drop 24).take (b.length - 40) }

theorem plus_setDx (off k n : Nat) (v : DomLink) (s : State) : State.plus off k (setDx n v s) = setDx n v (State.plus off k s) := by
  unfold setDx modDomain
  rfl

/-- What `domWhole` says of a message. -/
structure Whole (s : State) (n type : Nat) (b : Bytes) : Prop where
  link : (domLinks s).contains n = true
  own : (dxOf s n).epochOwn.isSome = true
  length : b.length = domLength type
  said : beAt b 2 2 = b.length
  kind : byteAt b 0 = type
  id : beAt b 8 4 = s.domain.domainId

theorem whole_of_domWhole {s : State} {n type : Nat} {b : Bytes} (h : s.domWhole n type b = true) : Whole s n type b := by
  simp only [State.domWhole, Bool.and_eq_true, beq_iff_eq, decide_eq_true_eq] at h
  obtain ⟨⟨⟨⟨⟨⟨⟨hlink, hown⟩, hlength⟩, hsaid⟩, hkind⟩, -⟩, -⟩, hid⟩ := h
  exact ⟨hlink, hown, hlength, hsaid, hkind, hid⟩

/-- A message that fails its CRC is counted and asked for again, and what is no link's is ignored. -/
theorem domReceive_of_bad_crc {s : State} {n type : Nat} {b : Bytes} (hlink : (domLinks s).contains n = true)
    (hown : (dxOf s n).epochOwn.isSome = true) :
    domReceive n type b false s = (none, State.plus 0xd110 1 (setDx n { dxOf s n with discarding := (dxOf s n).up } s)) := by
  have hnone : (dxOf s n).epochOwn.isNone = false := by rw [Option.isNone_eq_false_iff]; exact hown
  simp only [domReceive, hlink, hnone, Bool.not_true, Bool.or_self, Bool.false_eq_true, if_false, Bool.not_false, Bool.true_or, if_true, domCount_eq]

theorem domReceive_of_unlinked {s : State} {n : Nat} (h : (domLinks s).contains n = false ∨ (dxOf s n).epochOwn = none) (type : Nat) (b : Bytes)
    (crc : Bool) : domReceive n type b crc s = (none, s) := by
  have hout : (!(domLinks s).contains n || (dxOf s n).epochOwn.isNone) = true := by
    rcases h with h | h
    · rw [h]
      rfl
    · rw [h]
      exact Bool.or_true _
  simp only [domReceive, hout, if_true]

/-- A whole message with another TAG is refused. -/
theorem domReceive_of_forged {s : State} {n type : Nat} {b : Bytes} (h : Whole s n type b) (hforged : ¬s.domAuthentic b) :
    domReceive n type b true s = (none, domAuthFail n 0 s) := by
  have hnone : (dxOf s n).epochOwn.isNone = false := by rw [Option.isNone_eq_false_iff]; exact h.own
  have htag : b.drop (b.length - 16) ≠ domTag s.domain.linkKey (b.take (b.length - 16)) := hforged
  simp only [domReceive, h.link, hnone, h.kind, ← h.length, h.said, Bool.not_true, Bool.or_self, Bool.false_eq_true, if_false, ne_eq,
    not_true_eq_false, decide_false, Bool.or_self]
  rw [if_pos htag]

/-- A link as a message finds it: a fresh session begins with a KEEPALIVE of another EPOCH. -/
def DomLink.met (v : DomLink) (fresh : Bool) (epoch : Nat) : DomLink :=
  if fresh then { v with up := false, epochTheirs := some epoch, seqTx := 0, seqRx := 0, sent := [], discarding := false } else v

theorem DomLink.met_epochOwn (v : DomLink) (fresh : Bool) (epoch : Nat) : (v.met fresh epoch).epochOwn = v.epochOwn := by
  cases fresh <;> rfl

/-- Whether a message begins a session. -/
def begins (s : State) (n type : Nat) (b : Bytes) : Bool :=
  type == 1 && (dxOf s n).epochTheirs != some (beAt b 12 4) &&
    (beAt (domIn b).body 4 4 == 0 || (dxOf s n).epochOwn == some (beAt (domIn b).body 4 4))

/-- A whole message with the right TAG: what its session makes of it. -/
theorem domReceive_of_authentic {s : State} {n type : Nat} {b : Bytes} (h : Whole s n type b) (hauth : s.domAuthentic b) :
    domReceive n type b true s =
      if (dxOf s n).epochTheirs ≠ some (beAt b 12 4) ∧ !begins s n type b then (none, domAuthFail n 2 s)
      else domOrder n type (beAt b 4 4) (type == 1 && (dxOf s n).epochOwn == some (beAt (domIn b).body 4 4))
        ((dxOf s n).met (begins s n type b) (beAt b 12 4)) (domIn b) (State.plus 0xd108 1 s) := by
  have hnone : (dxOf s n).epochOwn.isNone = false := by rw [Option.isNone_eq_false_iff]; exact h.own
  have htag : ¬b.drop (b.length - 16) ≠ domTag s.domain.linkKey (b.take (b.length - 16)) := not_not.mpr hauth
  have hown := DomLink.met_epochOwn (dxOf s n) (begins s n type b) (beAt b 12 4)
  rw [← hown]
  simp only [domReceive, h.link, hnone, h.kind, ← h.length, h.said, h.id, Bool.not_true, Bool.or_self, Bool.false_eq_true, if_false, ne_eq,
    not_true_eq_false, decide_false, Bool.or_self, domCount_eq]
  rw [if_neg htag]
  rfl

/-- The next message of the session that stands is taken. -/
theorem domReceive_of_next {s : State} {n type : Nat} {b : Bytes} (h : s.domNext n type b = true) (hauth : s.domAuthentic b) :
    domReceive n type b true s = (some (domIn b), s.domTaken n) := by
  simp only [State.domNext, Bool.and_eq_true, beq_iff_eq] at h
  obtain ⟨⟨⟨hwhole, hup⟩, hepoch⟩, hseq⟩ := h
  have hgoes : begins s n type b = false := by simp [begins, hepoch]
  rw [domReceive_of_authentic (whole_of_domWhole hwhole) hauth, hgoes, if_neg (by simp [hepoch])]
  simp only [domOrder, DomLink.met, hup, hseq, Bool.not_true, Bool.and_false, Bool.false_eq_true, if_false, if_true, State.domTaken, plus_setDx]

theorem told_domAuthFail (n cause : Nat) (s : State) : Told (State.plus 0xd120 1 s) (domAuthFail n cause s) := by
  rw [domAuthFail, domCount_eq]
  exact (Told.refl _).raiseHeld ..

/-- A row whose message is the next in order: what it does once the message is taken is all that it does. -/
theorem takes_of_next {s : State} {n type : Nat} {b : Bytes} {i : Instr} {f : DomIn → State → State} {p : State → State → Prop}
    (hexec : exec i s = .next (received f (domReceive n type b true s))) (h : s.domNext n type b = true)
    (hp : p (s.domTaken n) (f (domIn b) (s.domTaken n))) : s.Takes n b i p := by
  have hwhole : s.domWhole n type b = true := by
    simp only [State.domNext, Bool.and_eq_true] at h
    exact h.1.1.1
  refine ⟨_, hexec, fun hauth => ?_, fun hforged => ?_⟩
  · rw [domReceive_of_next h hauth]
    exact hp
  · rw [domReceive_of_forged (whole_of_domWhole hwhole) hforged]
    exact told_domAuthFail n 0 s

/-! ## The state once a message has been taken -/

/-- A link that has taken a message. -/
theorem dxOf_domTaken_same (n : Nat) (s : State) :
    dxOf (s.domTaken n) n = { dxOf s n with seqRx := ((dxOf s n).seqRx + 1) % 2 ^ 32, discarding := false } := dxOf_setDx_same ..

theorem dxOf_domTaken_ne {n m : Nat} (h : m ≠ n) (hsome : m < 2 ∨ n < 2) (s : State) : dxOf (s.domTaken n) m = dxOf s m :=
  dxOf_setDx_ne h hsome _ s

/-- What a message that is taken leaves: everything but its link and a counter. -/
structure TakenFrom (s u : State) : Prop where
  work : DomainWork s u
  domain : u.domain = { s.domain with dx0 := u.domain.dx0, dx1 := u.domain.dx1, dx2 := u.domain.dx2 }
  links : ∀ m, (dxOf u m).up = (dxOf s m).up ∧ (dxOf u m).joined = (dxOf s m).joined ∧ (dxOf u m).epochOwn = (dxOf s m).epochOwn ∧
    (dxOf u m).seqTx = (dxOf s m).seqTx

theorem takenFrom_domTaken (n : Nat) (s : State) : TakenFrom s (s.domTaken n) := by
  have hset := setDx_domain n { dxOf s n with seqRx := ((dxOf s n).seqRx + 1) % 2 ^ 32, discarding := false } s
  have hdomain := congrArg State.domain hset
  refine ⟨(domainWork_setDx n _ s).trans (domainWork_plus ..), hdomain, fun m => ?_⟩
  by_cases hm : m = n
  · rw [hm, dxOf_domTaken_same]
    exact ⟨rfl, rfl, rfl, rfl⟩
  · by_cases hsome : m < 2 ∨ n < 2
    · rw [dxOf_domTaken_ne hm hsome]
      exact ⟨rfl, rfl, rfl, rfl⟩
    · have hsame (t : State) : dxOf t m = dxOf t n := by unfold dxOf; grind
      rw [hsame, hsame, dxOf_domTaken_same]
      exact ⟨rfl, rfl, rfl, rfl⟩

/-! ## The rows -/

/-- What a worker does with a message of its parent. -/
def fromParent (n : Nat) (g : DomIn → State → State) (m : DomIn) (s : State) : State :=
  if n = 0 ∧ s.domain.role = 2 then g m s else s

/-- What a member does with a GLOBAL_ACK, and with a REPORT, of a child. -/
def ackTaken (n : Nat) (m : DomIn) (s : State) : State :=
  if n = 0 ∨ !inDomain s then s else ackRx n (beAt m.body 0 4) (beAt m.body 4 2) (beAt m.body 8 8) s

def reportTaken (n : Nat) (m : DomIn) (s : State) : State :=
  if n = 0 ∨ !inDomain s then s else if s.domain.role = 1 then reportIn m.body s else domUp 8 m.body s

/-- What a member does with a JOIN of a child. -/
def joinTaken (n : Nat) (m : DomIn) (s : State) : State := if n = 0 then s else joinIn n m.src m.body s

/-- What a member does with a KEEPALIVE; the session stood before it where `was` says so. -/
def keepaliveTaken (n : Nat) (was : Bool) (m : DomIn) (s : State) : State := keepaliveIn n was m.body s

section
variable {s : State} (hlive : s.live = true) (n : Nat) (b : Bytes) (crc : Bool)
include hlive

theorem execDomKeepaliveRx_of_live : exec (.domKeepaliveRx n b crc) s =
    .next (received (keepaliveTaken n ((dxOf s n).up && (dxOf s n).epochTheirs == some (beAt b 12 4))) (domReceive n 1 b crc s)) := by
  rw [show exec (.domKeepaliveRx n b crc) s = execDomKeepaliveRx n b crc s from rfl, execDomKeepaliveRx, act_of_live hlive]
  obtain ⟨o, t⟩ := domReceive n 1 b crc s
  cases o <;> rfl

theorem execDomJoinRx_of_live : exec (.domJoinRx n b crc) s = .next (received (joinTaken n) (domReceive n 2 b crc s)) := by
  rw [show exec (.domJoinRx n b crc) s = execDomJoinRx n b crc s from rfl, execDomJoinRx, act_of_live hlive]
  obtain ⟨o, t⟩ := domReceive n 2 b crc s
  cases o <;> rfl

theorem execDomWelcomeRx_of_live :
    exec (.domWelcomeRx n b crc) s = .next (received (fromParent n fun m => welcomeIn m.body) (domReceive n 3 b crc s)) := by
  rw [show exec (.domWelcomeRx n b crc) s = execDomWelcomeRx n b crc s from rfl, execDomWelcomeRx, act_of_live hlive]
  obtain ⟨o, t⟩ := domReceive n 3 b crc s
  cases o <;> rfl

theorem execDomKeysRx_of_live : exec (.domKeysRx n b crc) s = .next (received (fromParent n keysIn) (domReceive n 4 b crc s)) := by
  rw [show exec (.domKeysRx n b crc) s = execDomKeysRx n b crc s from rfl, execDomKeysRx, act_of_live hlive]
  obtain ⟨o, t⟩ := domReceive n 4 b crc s
  cases o <;> rfl

theorem execDomTimeRx_of_live : exec (.domTimeRx n b crc) s = .next (received (fromParent n timeIn) (domReceive n 5 b crc s)) := by
  rw [show exec (.domTimeRx n b crc) s = execDomTimeRx n b crc s from rfl, execDomTimeRx, act_of_live hlive]
  obtain ⟨o, t⟩ := domReceive n 5 b crc s
  cases o <;> rfl

theorem execDomGlobalRx_of_live : exec (.domGlobalRx n b crc) s = .next (received (fromParent n globalIn) (domReceive n 6 b crc s)) := by
  rw [show exec (.domGlobalRx n b crc) s = execDomGlobalRx n b crc s from rfl, execDomGlobalRx, act_of_live hlive]
  obtain ⟨o, t⟩ := domReceive n 6 b crc s
  cases o <;> rfl

theorem execDomGlobalAckRx_of_live : exec (.domGlobalAckRx n b crc) s = .next (received (ackTaken n) (domReceive n 7 b crc s)) := by
  rw [show exec (.domGlobalAckRx n b crc) s = execDomGlobalAckRx n b crc s from rfl, execDomGlobalAckRx, act_of_live hlive]
  obtain ⟨o, t⟩ := domReceive n 7 b crc s
  cases o <;> rfl

theorem execDomReportRx_of_live : exec (.domReportRx n b crc) s = .next (received (reportTaken n) (domReceive n 8 b crc s)) := by
  rw [show exec (.domReportRx n b crc) s = execDomReportRx n b crc s from rfl, execDomReportRx, act_of_live hlive]
  obtain ⟨o, t⟩ := domReceive n 8 b crc s
  cases o <;> rfl

end

/-- The row of a message that its link does not take. -/
theorem domRx_of_untaken {i : Instr} {s : State} {n type : Nat} {b : Bytes} {f : DomIn → State → State}
    (hexec : exec i s = .next (received f (domReceive n type b false s))) :
    ((domLinks s).contains n = false ∨ (dxOf s n).epochOwn = none → exec i s = .next s) ∧
      ((domLinks s).contains n = true → (dxOf s n).epochOwn.isSome = true →
        Gives (exec i s) (Told (State.plus 0xd110 1 (setDx n { dxOf s n with discarding := (dxOf s n).up } s)))) := by
  refine ⟨fun h => ?_, fun hlink hown => ⟨_, hexec, ?_⟩⟩
  · rw [hexec, domReceive_of_unlinked h]
    rfl
  · rw [domReceive_of_bad_crc hlink hown]
    exact .refl _

/-- No row takes a message that fails its CRC (R406). -/
theorem untakenRows {s : State} (hlive : s.live = true) (n : Nat) (b : Bytes) :
    ∀ i ∈ [Instr.domKeepaliveRx n b false, .domJoinRx n b false, .domWelcomeRx n b false, .domKeysRx n b false, .domTimeRx n b false
            , .domGlobalRx n b false, .domGlobalAckRx n b false, .domReportRx n b false],
      ((domLinks s).contains n = false ∨ (dxOf s n).epochOwn = none → exec i s = .next s) ∧
      ((domLinks s).contains n = true → (dxOf s n).epochOwn.isSome = true →
        Gives (exec i s) (Told (State.plus 0xd110 1 (setDx n { dxOf s n with discarding := (dxOf s n).up } s)))) := by
  simp only [List.forall_mem_cons, List.not_mem_nil, false_implies, implies_true, and_true]
  exact ⟨domRx_of_untaken (execDomKeepaliveRx_of_live hlive n b false), domRx_of_untaken (execDomJoinRx_of_live hlive n b false),
    domRx_of_untaken (execDomWelcomeRx_of_live hlive n b false), domRx_of_untaken (execDomKeysRx_of_live hlive n b false),
    domRx_of_untaken (execDomTimeRx_of_live hlive n b false), domRx_of_untaken (execDomGlobalRx_of_live hlive n b false),
    domRx_of_untaken (execDomGlobalAckRx_of_live hlive n b false), domRx_of_untaken (execDomReportRx_of_live hlive n b false)⟩

/-! ## KEEPALIVE (R406, R407, R410) -/

/-- A KEEPALIVE of another session is refused. -/
theorem keepalive_of_foreign {s : State} (hlive : s.live = true) {n : Nat} {b : Bytes} (h : Whole s n 1 b)
    (htheirs : (dxOf s n).epochTheirs ≠ some (beAt b 12 4)) (hpeer : beAt (domIn b).body 4 4 ≠ 0)
    (hown : (dxOf s n).epochOwn ≠ some (beAt (domIn b).body 4 4)) :
    Gives (exec (.domKeepaliveRx n b true) s) (Told (State.plus 0xd120 1 s)) := by
  refine ⟨_, execDomKeepaliveRx_of_live hlive n b true, ?_⟩
  by_cases hauth : s.domAuthentic b
  · have hstays : begins s n 1 b = false := by simp [begins, hpeer, hown]
    rw [domReceive_of_authentic h hauth, hstays, if_pos ⟨htheirs, rfl⟩]
    exact told_domAuthFail n 2 s
  · rw [domReceive_of_forged h hauth]
    exact told_domAuthFail n 0 s

/-- A link once a KEEPALIVE has told of its sender. -/
def DomLink.heard (v : DomLink) (b : Bytes) (now : Nat) : DomLink :=
  { v with
    joined := bitOf (byteAt b 8) 1, timeLocked := bitOf (byteAt b 8) 2, member := byteAt b 9, txNs := beAt b 12 4, rxNs := now
    delays := if beAt b 16 4 = 0 then v.delays
      else (((now + 2 ^ 32 - beAt b 16 4) % 2 ^ 32 + 2 ^ 32 - beAt b 20 4) % 2 ^ 32) / 2 :: v.delays.take 63 }

/-- The sender of a KEEPALIVE is noted: its link, and what the manager's record of it says of its time. -/
theorem notePartner_domain (n : Nat) (b : Bytes) (s : State) : ∃ ms : Table Member,
    notePartner n b s = { setDx n ((dxOf s n).heard b (stamp s)) s with
      domain := { (setDx n ((dxOf s n).heard b (stamp s)) s).domain with members := ms } } := by
  have hkeeps (t : State) : t = { t with domain := { t.domain with members := t.domain.members } } := rfl
  have heq : notePartner n b s =
    match (setDx n ((dxOf s n).heard b (stamp s)) s).domain.role, childOf (setDx n ((dxOf s n).heard b (stamp s)) s) n with
    | 1, some c =>
      match (setDx n ((dxOf s n).heard b (stamp s)) s).domain.members.find c with
      | some r => setMemberRecord c { r with timeLocked := bitOf (byteAt b 8) 2 } (setDx n ((dxOf s n).heard b (stamp s)) s)
      | none => setDx n ((dxOf s n).heard b (stamp s)) s
    | _, _ => setDx n ((dxOf s n).heard b (stamp s)) s := rfl
  rw [heq]
  generalize setDx n ((dxOf s n).heard b (stamp s)) s = t
  split
  · split
    · exact ⟨_, rfl⟩
    · exact ⟨_, hkeeps t⟩
  · exact ⟨_, hkeeps t⟩

/-- The sender of a KEEPALIVE has been noted. -/
structure Heard (n : Nat) (b : Bytes) (s t : State) : Prop where
  work : DomainWork s t
  link : dxOf t n = (dxOf s n).heard b (stamp s)
  others : ∀ m, m ≠ n → m < 2 ∨ n < 2 → dxOf t m = dxOf s m
  records : t.domain.role = s.domain.role ∧ t.domain.joined = s.domain.joined ∧ t.domain.timeB = s.domain.timeB

theorem heard_notePartner (n : Nat) (b : Bytes) (s : State) : Heard n b s (notePartner n b s) := by
  obtain ⟨ms, heq⟩ := notePartner_domain n b s
  obtain ⟨hrole, hjoined, -, -, -, -, htime⟩ := setDx_kept n ((dxOf s n).heard b (stamp s)) s
  have hdx (m : Nat) : dxOf (notePartner n b s) m = dxOf (setDx n ((dxOf s n).heard b (stamp s)) s) m := by
    rw [heq]
    rfl
  refine ⟨?_, (hdx n).trans (dxOf_setDx_same ..), fun m hm hsome => (hdx m).trans (dxOf_setDx_ne hm hsome _ s), ?_⟩
  · rw [heq]
    exact (domainWork_setDx n _ s).trans (domainWork_domain ..)
  · rw [heq]
    exact ⟨hrole, hjoined, htime⟩

/-- A KEEPALIVE that asks for nothing again, of a child: its sender is noted. -/
theorem keepaliveIn_of_child {n : Nat} (hn : n ≠ 0) {b : Bytes} (hnack : bitOf (byteAt b 8) 0 = false) (was : Bool) (s : State) :
    keepaliveIn n was b s = notePartner n b s := by
  simp only [keepaliveIn, if_neg hn, hnack, Bool.false_eq_true, false_and, if_false]

/-- The same of the parent on a session that stands: its sender is noted and followed. -/
theorem keepaliveIn_of_parent {b : Bytes} (hnack : bitOf (byteAt b 8) 0 = false) (s : State) :
    keepaliveIn 0 true b s = followParent false b (notePartner 0 b s) := by
  simp only [keepaliveIn, if_true, hnack, Bool.false_eq_true, false_and, if_false, Bool.not_true, Bool.false_and]

theorem was_of_domNext {s : State} {n type : Nat} {b : Bytes} (h : s.domNext n type b = true) :
    ((dxOf s n).up && (dxOf s n).epochTheirs == some (beAt b 12 4)) = true := by
  simp only [State.domNext, Bool.and_eq_true] at h
  rw [Bool.and_eq_true]
  exact ⟨h.1.1.2, h.1.2⟩

theorem child_of_manager {s : State} {n : Nat} (hrole : s.domain.role = 1) (h : (domLinks s).contains n = true) : n = 1 ∨ n = 2 := by
  simpa [domLinks, hrole] using h

/-- What `DomainMessages` says of a link that a KEEPALIVE has told of its sender. -/
theorem heard_says {s t : State} {n : Nat} {b : Bytes} (h : dxOf t n = (dxOf (s.domTaken n) n).heard b (stamp s)) : ∃ delays,
    dxOf t n = { dxOf (s.domTaken n) n with
      joined := bitOf (byteAt b 8) 1, timeLocked := bitOf (byteAt b 8) 2, member := byteAt b 9, txNs := beAt b 12 4
      rxNs := stamp s, delays } ∧ (beAt b 16 4 = 0 → delays = (dxOf s n).delays) ∧
      (beAt b 16 4 ≠ 0 → ∃ d, delays = d :: (dxOf s n).delays.take 63) := by
  refine ⟨_, h, fun hzero => ?_, fun hsome => ?_⟩
  · rw [if_pos hzero, dxOf_domTaken_same]
  · rw [if_neg hsome, dxOf_domTaken_same]
    exact ⟨_, rfl⟩

theorem domain_domTaken (n : Nat) (s : State) : (s.domTaken n).domain = { s.domain with
    dx0 := (s.domTaken n).domain.dx0, dx1 := (s.domTaken n).domain.dx1, dx2 := (s.domTaken n).domain.dx2 } :=
  (takenFrom_domTaken n s).domain

/-- Fields of the domain that a message that is taken leaves. -/
theorem kept_domTaken (n : Nat) (s : State) : (s.domTaken n).domain.role = s.domain.role ∧ (s.domTaken n).domain.joined = s.domain.joined ∧
    (s.domTaken n).domain.member = s.domain.member ∧ (s.domTaken n).domain.members = s.domain.members ∧
    (s.domTaken n).domain.timeB = s.domain.timeB := by
  rw [domain_domTaken]
  exact ⟨rfl, rfl, rfl, rfl, rfl⟩

theorem stamp_of_time {s t : State} (h : t.time = s.time) : stamp t = stamp s := by simp only [stamp, toTotal, h]

theorem stamp_domTaken (n : Nat) (s : State) : stamp (s.domTaken n) = stamp s := by
  obtain ⟨-, -, htime, -⟩ := (takenFrom_domTaken n s).work.fixed
  exact stamp_of_time htime

section
variable {s : State} (hlive : s.live = true) {n : Nat} {b : Bytes} (h : s.domNext n 1 b = true)
  (hnack : bitOf (byteAt (domIn b).body 8) 0 = false)
include hlive h hnack

/-- A child's KEEPALIVE at the manager (R407). -/
theorem keepalive_of_child (hrole : s.domain.role = 1) : s.Takes n b (.domKeepaliveRx n b true) (fun u t => DomainWork u t ∧
    dxOf t n = (dxOf u n).heard (domIn b).body (stamp s)) := by
  refine takes_of_next (execDomKeepaliveRx_of_live hlive n b true) h ?_
  have hwhole : s.domWhole n 1 b = true := by
    simp only [State.domNext, Bool.and_eq_true] at h
    exact h.1.1.1
  have hchild := child_of_manager hrole (whole_of_domWhole hwhole).link
  have hheard := heard_notePartner n (domIn b).body (s.domTaken n)
  have hlink := hheard.link
  rw [stamp_domTaken] at hlink
  rw [keepaliveTaken, keepaliveIn_of_child (by omega) hnack]
  exact ⟨hheard.work, hlink⟩

/-- A KEEPALIVE of a parent that is in the domain tells its depth (R407). -/
theorem keepalive_of_parent (hn : n = 0) (hup : bitOf (byteAt (domIn b).body 8) 1 = true) :
    s.Takes n b (.domKeepaliveRx n b true) (fun u t => DomainWork u t ∧ dxOf t n = (dxOf u n).heard (domIn b).body (stamp s) ∧
      t.domain.depth = byteAt (domIn b).body 10 % 8 ∧ t.domain.joined = s.domain.joined) := by
  subst hn
  refine takes_of_next (execDomKeepaliveRx_of_live hlive 0 b true) h ?_
  have hheard := heard_notePartner 0 (domIn b).body (s.domTaken 0)
  have hlink := hheard.link
  rw [stamp_domTaken] at hlink
  obtain ⟨-, hjoined, -⟩ := hheard.records
  rw [was_of_domNext h, keepaliveTaken, keepaliveIn_of_parent hnack]
  have heq : followParent false (domIn b).body (notePartner 0 (domIn b).body (s.domTaken 0)) =
      modDomain (fun d => { d with depth := byteAt (domIn b).body 10 % 8 }) (notePartner 0 (domIn b).body (s.domTaken 0)) := by
    simp only [followParent, hup, if_true, Bool.not_true, Bool.false_and, Bool.false_eq_true, if_false]
  rw [heq]
  exact ⟨hheard.work.trans (domainWork_domain ..), hlink, rfl, hjoined.trans (kept_domTaken 0 s).2.1⟩

/-- A KEEPALIVE of a parent that has left takes a worker out of the domain (R410). -/
theorem keepalive_of_left (hn : n = 0) (hup : bitOf (byteAt (domIn b).body 8) 1 = false) (hjoined : s.domain.joined = true)
    (hagent : (domainOf s s.domain.timeB).agent = false) : s.Takes n b (.domKeepaliveRx n b true) (fun u t => DomainWork u t ∧
      t.domain.joined = false ∧ t.domain.member = none ∧ t.domain.retry = true) := by
  subst hn
  refine takes_of_next (execDomKeepaliveRx_of_live hlive 0 b true) h ?_
  have hheard := heard_notePartner 0 (domIn b).body (s.domTaken 0)
  obtain ⟨-, hjoined', htimeB⟩ := hheard.records
  obtain ⟨-, -, htime, -⟩ := ((takenFrom_domTaken 0 s).work.trans hheard.work).fixed
  rw [was_of_domNext h, keepaliveTaken, keepaliveIn_of_parent hnack]
  have heq : followParent false (domIn b).body (notePartner 0 (domIn b).body (s.domTaken 0)) =
      leaveDomain (notePartner 0 (domIn b).body (s.domTaken 0)) := by
    simp only [followParent, hup, Bool.false_eq_true, if_false, Bool.not_false, Bool.true_and, hjoined', kept_domTaken, hjoined, if_true]
  have hagent' : (domainOf (notePartner 0 (domIn b).body (s.domTaken 0)) (notePartner 0 (domIn b).body (s.domTaken 0)).domain.timeB).agent =
      false := by
    rw [htimeB, (kept_domTaken 0 s).2.2.2.2, domainOf_of_time htime]
    exact hagent
  have htold := told_leaveDomain hagent'
  have hdomain := domain_of_told htold
  rw [heq]
  refine ⟨hheard.work.trans (domainWork_of_toldDomain htold), ?_, ?_, ?_⟩
  · rw [hdomain]
    rfl
  · rw [hdomain]
    rfl
  · rw [hdomain]
    rfl

end

/-- A KEEPALIVE of a child begins a session (R406). -/
theorem keepalive_of_fresh {s : State} (hlive : s.live = true) {n : Nat} {b : Bytes} (h : Whole s n 1 b)
    (htheirs : (dxOf s n).epochTheirs ≠ some (beAt b 12 4))
    (hpeer : beAt (domIn b).body 4 4 = 0 ∨ (dxOf s n).epochOwn = some (beAt (domIn b).body 4 4)) (hrole : s.domain.role = 1)
    (hnack : bitOf (byteAt (domIn b).body 8) 0 = false) : Gives (exec (.domKeepaliveRx n b true) s) (fun t =>
      (s.domAuthentic b → DomainWork s t ∧ (dxOf t n).epochTheirs = some (beAt b 12 4) ∧ (dxOf t n).seqTx = 0 ∧ (dxOf t n).sent = [] ∧
        (dxOf t n).up = decide ((dxOf s n).epochOwn = some (beAt (domIn b).body 4 4)) ∧ ∀ m, m ≠ n → dxOf t m = dxOf s m ∨ 2 < m ∧ n = 2) ∧
      (¬s.domAuthentic b → Told (State.plus 0xd120 1 s) t)) := by
  have hbegins : begins s n 1 b = true := by
    simp only [begins, beq_self_eq_true, Bool.true_and, Bool.and_eq_true, Bool.or_eq_true, bne_iff_ne, beq_iff_eq]
    exact ⟨htheirs, hpeer⟩
  have hchild := child_of_manager hrole h.link
  refine ⟨_, execDomKeepaliveRx_of_live hlive n b true, fun hauth => ?_, fun hforged => ?_⟩
  · have hopened : ∃ v : DomLink, domReceive n 1 b true s = (some (domIn b), setDx n v (State.plus 0xd108 1 s)) ∧
        v.epochTheirs = some (beAt b 12 4) ∧ v.seqTx = 0 ∧ v.sent = [] ∧
        v.up = decide ((dxOf s n).epochOwn = some (beAt (domIn b).body 4 4)) := by
      rw [domReceive_of_authentic h hauth, hbegins, if_neg (by simp)]
      by_cases hecho : (dxOf s n).epochOwn = some (beAt (domIn b).body 4 4)
      · simp only [domOrder, DomLink.met, hecho, beq_self_eq_true, Bool.and_self, Bool.not_false, if_true, decide_true]
        exact ⟨_, rfl, rfl, rfl, rfl, rfl⟩
      · have hsilent : ((dxOf s n).epochOwn == some (beAt (domIn b).body 4 4)) = false := by simpa using hecho
        simp only [domOrder, DomLink.met, hsilent, hecho, Bool.and_false, Bool.false_and, Bool.false_eq_true, if_false, Bool.not_false, if_true,
          decide_false]
        exact ⟨_, rfl, rfl, rfl, rfl, rfl⟩
    obtain ⟨v, heq, hepoch, hseq, hsent, hup⟩ := hopened
    have hheard := heard_notePartner n (domIn b).body (setDx n v (State.plus 0xd108 1 s))
    have hlink := hheard.link
    rw [dxOf_setDx_same] at hlink
    rw [heq, received, keepaliveTaken, keepaliveIn_of_child (by omega) hnack, hlink]
    refine ⟨((domainWork_plus ..).trans (domainWork_setDx n v _)).trans hheard.work, hepoch, hseq, hsent, hup, fun m hm => ?_⟩
    by_cases hsome : m < 2 ∨ n < 2
    · exact .inl ((hheard.others m hm hsome).trans (dxOf_setDx_ne hm hsome v _))
    · exact .inr (by omega)
  · rw [domReceive_of_forged h hforged]
    exact told_domAuthFail n 0 s


/-! ## JOIN (R409) -/

/-- Where the members recorded are those of another state, so is the depth. -/
theorem domainDepth_of_members {s t : State} (h : t.domain.members = s.domain.members) : domainDepth t = domainDepth s := by
  rw [domainDepth, domainDepth, h]

theorem LinksSend.records {s t : State} (h : LinksSend s t) : t.domain.members = s.domain.members ∧ t.domain.depth = s.domain.depth ∧
    t.domain.role = s.domain.role ∧ t.domain.joined = s.domain.joined ∧ t.domain.member = s.domain.member ∧ ∀ n, (dxOf t n).joined = (dxOf s n).joined := by
  rw [h.domain]
  exact ⟨rfl, rfl, rfl, rfl, rfl, fun n => by rw [h.links n]⟩

theorem linksSend_domTo (m type : Nat) (body : Bytes) (s : State) : LinksSend s (domTo m type body s) := by
  unfold domTo
  cases hroute : routeTo s m with
  | none => exact .refl s
  | some n =>
    have hmem : n ∈ [1, 2] := List.mem_of_find?_eq_some hroute
    exact linksSend_domSend (by simp only [List.mem_cons, List.not_mem_nil, or_false] at hmem; omega) ..

/-- The three parts of what a new member is sent: keys, time and schedules. -/
def keysSent (m : Nat) (s : State) : State :=
  (s.attar.slots.keysIf (fun k _ => inRange s k && currentKey s k)).foldl (fun s k => domTo m 4 (keysBody s k 0 false (slotOf s k).persist) s) s

def timeSent (m : Nat) (s : State) : State :=
  if s.time.state = .unset then s else domTo m 5 (beBytes 6 s.time.clock.sec ++ beBytes 4 s.time.clock.ns ++ beBytes 6 0) s

def schedulesSent (m : Nat) (s : State) : State :=
  (s.domain.schedules.filter (fun x => decide (toTotal s < instantNs x.sec x.ns))).foldl (fun s x =>
    domTo m 6 (globalBody x.op 0 0 x.id 0 x.sec x.ns []) s) s

theorem linksSend_welcomeMember (m : Nat) (s : State) : LinksSend s (welcomeMember m s) := by
  have hkeys : LinksSend s (keysSent m s) := linksSend_foldl (fun _ _ => linksSend_domTo ..) _ s
  have htime (t : State) : LinksSend t (timeSent m t) := by
    unfold timeSent
    split_ifs
    · exact .refl _
    · exact linksSend_domTo ..
  have hschedules (t : State) : LinksSend t (schedulesSent m t) := linksSend_foldl (fun _ _ => linksSend_domTo ..) _ t
  exact hkeys.trans ((htime _).trans (hschedules _))

/-- The route to a child of the manager is its link. -/
theorem routeTo_child {s : State} {n : Nat} (hn : n = 1 ∨ n = 2) (hmember : s.domain.member = some 0) :
    routeTo s n = some n ∧ childOf s n = some n := by
  have h1 : (subtree 1).contains 1 = true := by decide
  have h12 : (subtree 1).contains 2 = false := by decide
  have h2 : (subtree 2).contains 2 = true := by decide
  have hbelow (k : Nat) : below s k = subtree k := by simp [below, childOf, hmember]
  refine ⟨?_, by simp [childOf, hmember]⟩
  rcases hn with rfl | rfl
  · simp only [routeTo, hbelow, List.find?_cons, h1]
  · simp only [routeTo, hbelow, List.find?_cons, h12, h2]

/-- A device that holds a number is joined under another DEVICE_ID. -/
def heldByAnother (s : State) (m deviceId : Nat) : Bool :=
  match s.domain.members.find m with
  | some v => v.joined && v.deviceId != deviceId
  | none => false

/-- The manager's records once a member has joined. -/
def memberJoined (deviceId m : Nat) (s : State) : State :=
  depthKnown (setMemberRecord m { deviceId, sinceMs := msNow s, lastReport := ((s.domain.members.find m).map (·.lastReport)).getD [] } s)

theorem managerJoin_eq (deviceId m : Nat) (s : State) : managerJoin deviceId m s =
    if heldByAnother s m deviceId then sendWelcome deviceId 2 m s
    else raiseHeld 0 0x0a02 0 0 (detailOf [(24, 2 ^ m)]) (welcomeMember m (sendWelcome deviceId 0 m (memberJoined deviceId m s))) := by
  unfold managerJoin heldByAnother
  rfl

theorem linksSend_refusal (deviceId m : Nat) {result : Nat} (hresult : result ≠ 0) (s : State) :
    LinksSend s (sendWelcome deviceId result m s) := by
  unfold sendWelcome
  cases hroute : routeTo s m with
  | none => exact .refl s
  | some n =>
    have hmem : n ∈ [1, 2] := List.mem_of_find?_eq_some hroute
    dsimp only
    rw [if_neg fun h => hresult h.1]
    exact linksSend_domSend (by simp only [List.mem_cons, List.not_mem_nil, or_false] at hmem; omega) ..

/-- WELCOME to a child of the manager joins its link. -/
theorem sendWelcome_child {s : State} {n : Nat} (hn : n = 1 ∨ n = 2) (hmember : s.domain.member = some 0) (deviceId : Nat) :
    LinksSend (setDx n { dxOf s n with joined := true } s) (sendWelcome deviceId 0 n s) := by
  obtain ⟨hroute, hchild⟩ := routeTo_child hn hmember
  simp only [sendWelcome, hroute, hchild, and_self, if_true]
  exact linksSend_domSend (by omega) ..

/-- The manager has taken a child into the domain. -/
structure ChildJoined (n deviceId : Nat) (s t : State) : Prop where
  work : DomainWork s t
  link : (dxOf t n).joined = true
  depth : t.domain.depth = domainDepth t
  others : ∀ m, m ≠ n → t.domain.members.find m = s.domain.members.find m
  record : ∃ v, t.domain.members.find n = some v ∧ v.deviceId = deviceId ∧ v.joined = true ∧ v.sinceMs = msNow s

theorem childJoined_managerJoin {s : State} {n deviceId : Nat} (hn : n = 1 ∨ n = 2) (hmember : s.domain.member = some 0)
    (hfree : heldByAnother s n deviceId = false) : ChildJoined n deviceId s (managerJoin deviceId n s) := by
  have hsent := (sendWelcome_child (s := memberJoined deviceId n s) hn hmember deviceId).trans
    (linksSend_welcomeMember n (sendWelcome deviceId 0 n (memberJoined deviceId n s)))
  obtain ⟨hmembers, hdepth, -, -, -, hjoined⟩ := hsent.records
  have htold : Told (welcomeMember n (sendWelcome deviceId 0 n (memberJoined deviceId n s))) (managerJoin deviceId n s) := by
    rw [managerJoin_eq, hfree, if_neg Bool.false_ne_true]
    exact (Told.refl _).raiseHeld ..
  have hdomain := domain_of_told htold
  obtain ⟨-, -, -, hset, -⟩ := setDx_kept n { dxOf (memberJoined deviceId n s) n with joined := true } (memberJoined deviceId n s)
  have hrecords : (managerJoin deviceId n s).domain.members = (memberJoined deviceId n s).domain.members := by
    rw [hdomain]
    exact hmembers.trans hset
  have hwork : DomainWork s (memberJoined deviceId n s) := domainWork_domain s _
  refine ⟨(hwork.trans ((domainWork_setDx ..).trans hsent.work)).trans (domainWork_of_told htold), ?_, ?_, fun m hm => ?_, ?_⟩
  · have hlink : dxOf (managerJoin deviceId n s) n = dxOf (welcomeMember n (sendWelcome deviceId 0 n (memberJoined deviceId n s))) n := by
      unfold dxOf
      rw [hdomain]
    rw [hlink, hjoined n, dxOf_setDx_same]
  · rw [domainDepth_of_members hrecords, hdomain]
    have hsetDepth := setDx_domain n { dxOf (memberJoined deviceId n s) n with joined := true } (memberJoined deviceId n s)
    have hsame := congrArg (fun t => t.domain.depth) hsetDepth
    exact hdepth.trans hsame
  · rw [hrecords]
    exact Table.find_set_ne hm ..
  · rw [hrecords]
    exact ⟨_, Table.find_set_same .., rfl, rfl, rfl⟩

section
variable {s : State} (hlive : s.live = true) {n : Nat} {b : Bytes} (h : s.domNext n 2 b = true) (hn : n = 1 ∨ n = 2)
include hlive h hn

/-- A device outside a domain refuses a JOIN. -/
theorem join_of_outside (hout : inDomain s = false) :
    s.Takes n b (.domJoinRx n b true) (fun u t => DomainWork u t ∧ t.domain.members = s.domain.members) := by
  refine takes_of_next (execDomJoinRx_of_live hlive n b true) h ?_
  have hout' : inDomain (s.domTaken n) = false := by
    rw [inDomain, (kept_domTaken n s).1, (kept_domTaken n s).2.1]
    exact hout
  have heq : joinTaken n (domIn b) (s.domTaken n) =
      domSend n 3 255 (welcomeBody (s.domTaken n) (beAt (domIn b).body 0 8) 3 255) (s.domTaken n) := by
    rw [joinTaken, if_neg (by omega)]
    simp only [joinIn, hout']
    split <;> simp_all
  have hsend := linksSend_domSend (by omega : n ≤ 2) 3 255 (welcomeBody (s.domTaken n) (beAt (domIn b).body 0 8) 3 255) (s.domTaken n)
  rw [heq]
  exact ⟨hsend.work, hsend.records.1.trans (kept_domTaken n s).2.2.2.1⟩

omit hlive in
/-- A JOIN at the manager from a child without a number. -/
theorem joinTaken_manager (hrole : s.domain.role = 1) (hjoined : s.domain.joined = true) (hmember : s.domain.member = some 0)
    (hsrc : byteAt b 16 = 255) : joinTaken n (domIn b) (s.domTaken n) = managerJoin (beAt (domIn b).body 0 8) n (s.domTaken n) := by
  obtain ⟨hrole', hjoined', hmember', -⟩ := kept_domTaken n s
  have hin : inDomain (s.domTaken n) = true := by simp [inDomain, hrole', hjoined', hrole, hjoined]
  have hchild : childOf (s.domTaken n) n = some n := by simp [childOf, hmember', hmember]
  have hlow : ¬5 < memberDepth n := by rcases hn with rfl | rfl <;> decide
  rw [joinTaken, if_neg (by omega)]
  simp only [joinIn, hin, hchild, if_neg hlow, hrole', hrole, if_true, show (domIn b).src = 255 from hsrc]

/-- The manager answers a JOIN. -/
theorem join_of_manager (hrole : s.domain.role = 1) (hjoined : s.domain.joined = true) (hmember : s.domain.member = some 0)
    (hsrc : byteAt b 16 = 255) :
    (∀ v, s.domain.members.find n = some v → v.joined = true → v.deviceId ≠ beAt (domIn b).body 0 8 →
      s.Takes n b (.domJoinRx n b true) (fun u t => DomainWork u t ∧ t.domain.members = s.domain.members)) ∧
    ((∀ v, s.domain.members.find n = some v → v.joined = true → v.deviceId = beAt (domIn b).body 0 8) →
      s.Takes n b (.domJoinRx n b true) (fun u t => ChildJoined n (beAt (domIn b).body 0 8) u t)) := by
  have heq := joinTaken_manager h hn hrole hjoined hmember hsrc
  obtain ⟨-, -, hmember', hmembers, -⟩ := kept_domTaken n s
  refine ⟨fun v hv hjoins hother => ?_, fun hsame => ?_⟩
  · refine takes_of_next (execDomJoinRx_of_live hlive n b true) h ?_
    have hheld : heldByAnother (s.domTaken n) n (beAt (domIn b).body 0 8) = true := by
      simp [heldByAnother, hmembers, hv, hjoins, hother]
    have hsend := linksSend_refusal (beAt (domIn b).body 0 8) n (by decide : (2 : Nat) ≠ 0) (s.domTaken n)
    rw [heq, managerJoin_eq, hheld, if_pos rfl]
    exact ⟨hsend.work, hsend.records.1.trans hmembers⟩
  · refine takes_of_next (execDomJoinRx_of_live hlive n b true) h ?_
    rw [heq]
    refine childJoined_managerJoin hn (hmember'.trans hmember) ?_
    simp only [heldByAnother, hmembers]
    cases hv : s.domain.members.find n with
    | none => rfl
    | some v =>
      cases hj : v.joined with
      | false => simp [hj]
      | true => simp [hj, hsame v hv hj]

end


/-! ## WELCOME (R409) -/

/-- What a worker's message of its parent does once it has been taken. -/
theorem takes_of_parent {s : State} {type : Nat} {b : Bytes} {i : Instr} {g : DomIn → State → State} {p : State → State → Prop}
    (hexec : exec i s = .next (received (fromParent 0 g) (domReceive 0 type b true s))) (h : s.domNext 0 type b = true)
    (hrole : s.domain.role = 2) (hp : p (s.domTaken 0) (g (domIn b) (s.domTaken 0))) : s.Takes 0 b i p := by
  refine takes_of_next hexec h ?_
  rw [fromParent, if_pos ⟨rfl, hrole⟩]
  exact hp

/-- The records of a worker that a WELCOME has joined. -/
def Domain.welcomed (d : Domain) (b : Bytes) (deviceId ms : Nat) : Domain :=
  { d with joined := true, member := some (byteAt b 9), depth := byteAt b 10 % 8, stepped := false, retry := false
           members := d.members.set (byteAt b 9) { deviceId, sinceMs := ms } }

def welcomeRecorded (b : Bytes) (u : State) : State := { u with domain := u.domain.welcomed b u.boot.deviceId (msNow u) }

theorem welcomed_eq {b : Bytes} {u : State} (hresult : byteAt b 8 = 0) (hnone : u.accord.communities = .empty)
    (hagent : (domainOf u u.domain.timeB).agent = false) :
    welcomed b u = raiseDomState 0 (setDomainGen (beAt b 12 4) (welcomeRecorded b u)) := by
  have hset := setDomainGen_of_none (s := welcomeRecorded b u) hnone (beAt b 12 4)
  have hagent' : (domainOf (setDomainGen (beAt b 12 4) (welcomeRecorded b u))
      (setDomainGen (beAt b 12 4) (welcomeRecorded b u)).domain.timeB).agent = false := by
    have htold := (regenerated_regenerated (beAt b 12 4) (welcomeRecorded b u)).told
    have htimeB := congrArg Domain.timeB (domain_of_told htold)
    rw [hset, domainOf_of_time htold.time, htimeB]
    exact hagent
  have heq : welcomed b u = raiseDomState 0
      (if (domainOf (setDomainGen (beAt b 12 4) (welcomeRecorded b u)) (setDomainGen (beAt b 12 4) (welcomeRecorded b u)).domain.timeB).agent then
        timeReset (setDomainGen (beAt b 12 4) (welcomeRecorded b u)).domain.timeB (setDomainGen (beAt b 12 4) (welcomeRecorded b u))
       else setDomainGen (beAt b 12 4) (welcomeRecorded b u)) := by
    unfold welcomed
    rw [if_neg (not_not.mpr hresult)]
    rfl
  rw [heq, hagent', if_neg Bool.false_ne_true]

section
variable {s : State} (hlive : s.live = true) {b : Bytes} (h : s.domNext 0 3 b = true) (hrole : s.domain.role = 2)
  (hjoined : s.domain.joined = false) (hdevice : beAt (domIn b).body 0 8 = s.boot.deviceId)
include hlive h hrole hjoined hdevice

/-- A WELCOME for the worker itself. -/
theorem takes_of_welcome {p : State → State → Prop} (hp : p (s.domTaken 0) (welcomed (domIn b).body (s.domTaken 0))) :
    s.Takes 0 b (.domWelcomeRx 0 b true) p := by
  refine takes_of_parent (execDomWelcomeRx_of_live hlive 0 b true) h hrole ?_
  have hmine : beAt (domIn b).body 0 8 = (s.domTaken 0).boot.deviceId ∧ (!(s.domTaken 0).domain.joined ∨
      (s.domTaken 0).domain.member = some (byteAt (domIn b).body 9)) := by
    refine ⟨hdevice, .inl ?_⟩
    rw [(kept_domTaken 0 s).2.1, hjoined]
    rfl
  rw [welcomeIn, if_pos hmine]
  exact hp

theorem welcome_of_refusal (hresult : byteAt (domIn b).body 8 ≠ 0) : s.Takes 0 b (.domWelcomeRx 0 b true) (fun u t =>
    Told (State.plus 0xd128 1 { u with domain := { u.domain with retry := true } }) t) := by
  refine takes_of_welcome hlive h hrole hjoined hdevice ?_
  rw [welcomed, if_pos hresult, domCount_eq]
  exact .refl _

theorem welcome_of_joined (hresult : byteAt (domIn b).body 8 = 0) (hnone : s.accord.communities = .empty)
    (hagent : (domainOf s s.domain.timeB).agent = false) : s.Takes 0 b (.domWelcomeRx 0 b true) (fun u t =>
      t.domain.joined = true ∧ t.domain.member = some (byteAt (domIn b).body 9) ∧ t.domain.depth = byteAt (domIn b).body 10 % 8 ∧
      t.domain.retry = false ∧
      t.attar = { s.attar with
        domainGen := beAt (domIn b).body 12 4
        domainKey := some (domKey s.domain.cak s.domain.domainId (beAt (domIn b).body 12 4)) } ∧
      DomainWork { u with attar := t.attar, pair := { s.pair with dirty := t.pair.dirty } } t) := by
  refine takes_of_welcome hlive h hrole hjoined hdevice ?_
  have hagent' : (domainOf (s.domTaken 0) (s.domTaken 0).domain.timeB).agent = false := by
    rw [(kept_domTaken 0 s).2.2.2.2]
    exact hagent
  have hregen := (regenerated_regenerated (beAt (domIn b).body 12 4) (welcomeRecorded (domIn b).body (s.domTaken 0))).and_told
    (told_raiseDomState (.refl _) 0)
  rw [← setDomainGen_of_none (s := welcomeRecorded (domIn b).body (s.domTaken 0)) hnone, ← welcomed_eq (u := s.domTaken 0) hresult hnone hagent'] at hregen
  have hdomain := domain_of_told hregen.told
  have hkey : domKey (welcomeRecorded (domIn b).body (s.domTaken 0)).domain.cak (welcomeRecorded (domIn b).body (s.domTaken 0)).domain.domainId
      (beAt (domIn b).body 12 4) = domKey s.domain.cak s.domain.domainId (beAt (domIn b).body 12 4) := rfl
  refine ⟨?_, ?_, ?_, ?_, hregen.attar.trans (by rw [hkey]; rfl), ?_⟩
  · rw [hdomain]; rfl
  · rw [hdomain]; rfl
  · rw [hdomain]; rfl
  · rw [hdomain]; rfl
  · exact (domainWork_domain { s.domTaken 0 with attar := _, pair := _ } _).trans hregen.work

end


/-! ## A worker's acknowledgement (R417) -/

/-- A worker without joined children, whose parent's session stands. -/
structure ChildlessWorker (s : State) : Prop where
  role : s.domain.role = 2
  childless : childLinks s = []
  up : s.domain.dx0.up = true
  own : s.domain.dx0.epochOwn.isSome = true

theorem ChildlessWorker.congr {s t : State} (h : ChildlessWorker s) (hrole : t.domain.role = s.domain.role) (h0 : t.domain.dx0 = s.domain.dx0)
    (h1 : t.domain.dx1 = s.domain.dx1) (h2 : t.domain.dx2 = s.domain.dx2) : ChildlessWorker t :=
  ⟨hrole.trans h.role, (childLinks_of_domain hrole h1 h2).trans h.childless, (congrArg DomLink.up h0).trans h.up,
    (congrArg (fun v => v.epochOwn.isSome) h0).trans h.own⟩

theorem ChildlessWorker.of_told {s t : State} (h : ChildlessWorker s) (htold : Told s t) : ChildlessWorker t := by
  have hdomain := domain_of_told htold
  exact h.congr (by rw [hdomain]) (by rw [hdomain]) (by rw [hdomain]) (by rw [hdomain])

theorem childLinks_domTaken (n : Nat) (s : State) : childLinks (s.domTaken n) = childLinks s := by
  have hlinks := (takenFrom_domTaken n s).links
  have hdom : domLinks (s.domTaken n) = domLinks s := by rw [domLinks, domLinks, (kept_domTaken n s).1]
  unfold childLinks
  rw [hdom]
  exact List.filter_congr fun m _ => by rw [(hlinks m).1, (hlinks m).2.1]

theorem childless_domTaken {s : State} {type : Nat} {b : Bytes} (h : s.domNext 0 type b = true) (hleaf : s.leafWorker) : ChildlessWorker (s.domTaken 0) := by
  obtain ⟨hrole, -, hnone, -⟩ := hleaf
  simp only [State.domNext, Bool.and_eq_true] at h
  obtain ⟨⟨⟨hwhole, hup⟩, -⟩, -⟩ := h
  obtain ⟨hup', -, hown', -⟩ := (takenFrom_domTaken 0 s).links 0
  exact ⟨(kept_domTaken 0 s).1.trans hrole, (childLinks_domTaken 0 s).trans hnone, hup'.trans hup,
    (congrArg Option.isSome hown').trans (whole_of_domWhole hwhole).own⟩

theorem inDomain_domTaken (n : Nat) (s : State) : inDomain (s.domTaken n) = inDomain s := by
  rw [inDomain, inDomain, (kept_domTaken n s).1, (kept_domTaken n s).2.1]

/-- From `s` to `t` a worker has sent its parent the acknowledgement of an operation. -/
structure Acked (s t : State) : Prop where
  sends : LinksSend { s with domain := { s.domain with ops := t.domain.ops } } t
  seq : t.domain.dx0.seqTx = (s.domain.dx0.seqTx + 1) % 2 ^ 32

theorem Acked.work {s t : State} (h : Acked s t) : DomainWork s t := (domainWork_domain s _).trans h.sends.work

theorem acked_startOp {s : State} (h : ChildlessWorker s) (op opid : Nat) (good : Bool) : Acked s (startOp op opid good s) := by
  have heq : startOp op opid good s = sendAck opid (b2n good) (if good then 0 else 2 ^ s.domain.member.getD 0)
      { s with domain := { s.domain with ops := s.domain.ops.filter (fun x => x.opid != opid) } } := by
    simp only [startOp, h.childless, if_true, finishOp, modDomain, h.role]
    rfl
  obtain ⟨hsend, hseq, -⟩ := domSend_links (n := 0) (type := 7) (by decide) (match s.domain.member with | some m => (m - 1) / 2 | none => 0)
    (beBytes 4 opid ++ beBytes 2 (b2n good) ++ beBytes 2 0 ++ beBytes 8 (if good then 0 else 2 ^ s.domain.member.getD 0))
    { s with domain := { s.domain with ops := s.domain.ops.filter (fun x => x.opid != opid) } }
  have hops := congrArg Domain.ops hsend.domain
  have hsends : sends { s with domain := { s.domain with ops := s.domain.ops.filter (fun x => x.opid != opid) } } 0 7 = true := by
    have hown := h.own
    have hup := h.up
    simp [sends, dxOf, hown, hup]
  rw [heq]
  refine ⟨?_, hseq hsends⟩
  have hops' : (sendAck opid (b2n good) (if good then 0 else 2 ^ s.domain.member.getD 0)
      { s with domain := { s.domain with ops := s.domain.ops.filter (fun x => x.opid != opid) } }).domain.ops =
    s.domain.ops.filter (fun x => x.opid != opid) := hops
  rw [hops']
  exact hsend

/-! ## KEYS (R412) -/

/-- A worker's own part of KEYS. -/
def keyPart (b : Bytes) (s : State) : Bool × State :=
  if bitOf (byteAt b 2) 0 then deleteKey (beAt b 0 2) s
  else
    match Config.unwrap (s.attar.domainKey.getD 0) (slice b 16 40) with
    | none => refuseKey s
    | some key => takeKey (beAt b 0 2) (key % 2 ^ 256) false s

theorem keysIn_of_all {m : DomIn} {s : State} (hin : inDomain s = true) (hdst : m.dst = 255) (hleaf : ChildlessWorker (keyPart m.body s).2) :
    keysIn m s = startOp 5 (beAt m.body 8 4) (keyPart m.body s).1 (keyPart m.body s).2 := by
  have heq : keysIn m s = startOp 5 (beAt m.body 8 4) (keyPart m.body s).1 (domDown 4 m.body (keyPart m.body s).2) := by
    simp only [keysIn, hin, hdst, keyPart, Bool.not_true, Bool.false_eq_true, if_false, beq_self_eq_true, Bool.true_or, ne_eq,
      not_true_eq_false] <;> rfl
  rw [heq, domDown_of_none hleaf.childless]

section
variable {s : State} (hlive : s.live = true) {b : Bytes} (h : s.domNext 0 4 b = true) (hworker : s.leafWorker) (hdst : byteAt b 17 = 255)
include hlive h hworker hdst

/-- KEYS at a worker: what its own part gives, and its acknowledgement. -/
theorem takes_of_keys {p : State → State → Prop} (hleaf : ChildlessWorker (keyPart (domIn b).body (s.domTaken 0)).2)
    (hp : ∀ t, Acked (keyPart (domIn b).body (s.domTaken 0)).2 t → p (s.domTaken 0) t) : s.Takes 0 b (.domKeysRx 0 b true) p := by
  refine takes_of_parent (execDomKeysRx_of_live hlive 0 b true) h hworker.1 ?_
  rw [keysIn_of_all ((inDomain_domTaken 0 s).trans hworker.2.1) hdst hleaf]
  exact hp _ (acked_startOp hleaf ..)

/-- A distributed key is written in a free slot, or refused where its block does not unwrap. -/
theorem keys_of_write (hrange : inRange s (beAt (domIn b).body 0 2) = true) (hwrite : bitOf (byteAt (domIn b).body 2) 0 = false)
    (hfree : occupied s (beAt (domIn b).body 0 2) = false) : s.Takes 0 b (.domKeysRx 0 b true) (fun u t =>
      t.domain.dx0.seqTx = (s.domain.dx0.seqTx + 1) % 2 ^ 32 ∧
      match Config.unwrap (s.attar.domainKey.getD 0) (slice (domIn b).body 16 40) with
      | none => DomainWork u t
      | some k => (∀ m, m ≠ beAt (domIn b).body 0 2 → slotOf t m = slotOf s m) ∧
        slotOf t (beAt (domIn b).body 0 2) = { key := k % 2 ^ 256, type := 1, usage := 1, parent := 0xfff2, parentGen := s.attar.domainGen
                                               gen := (slotOf s (beAt (domIn b).body 0 2)).gen } ∧
        DomainWork { u with attar := { s.attar with slots := t.attar.slots }, pair := { s.pair with dirty := t.pair.dirty } } t) := by
  have htaken := childless_domTaken h hworker
  have hseqs : (s.domTaken 0).domain.dx0.seqTx = s.domain.dx0.seqTx := ((takenFrom_domTaken 0 s).links 0).2.2.2
  cases hunwrap : Config.unwrap (s.attar.domainKey.getD 0) (slice (domIn b).body 16 40) with
  | none =>
    have hpart : keyPart (domIn b).body (s.domTaken 0) = (false, State.plus 0xd130 1 (s.domTaken 0)) := by
      have hunwrap' : Config.unwrap ((s.domTaken 0).attar.domainKey.getD 0) (slice (domIn b).body 16 40) = none := hunwrap
      simp only [keyPart, hwrite, hunwrap', Bool.false_eq_true, if_false, refuseKey, domCount_eq]
    refine takes_of_keys hlive h hworker hdst ?_ fun t hack => ?_
    · rw [hpart]
      exact htaken.congr rfl rfl rfl rfl
    · rw [hpart] at hack
      exact ⟨hack.seq.trans (by rw [← hseqs]; rfl), (domainWork_plus ..).trans hack.work⟩
  | some k =>
    have hpart : keyPart (domIn b).body (s.domTaken 0) =
        (true, writeShared (beAt (domIn b).body 0 2) (k % 2 ^ 256) false (s.domTaken 0)) := by
      have hunwrap' : Config.unwrap ((s.domTaken 0).attar.domainKey.getD 0) (slice (domIn b).body 16 40) = some k := hunwrap
      simp only [keyPart, hwrite, hunwrap', Bool.false_eq_true, if_false]
      exact takeKey_of_free (s := s.domTaken 0) hrange hfree ..
    have hwritten := keyWritten_writeShared (s := s.domTaken 0) hworker.2.2.2.1 (beAt (domIn b).body 0 2) (k % 2 ^ 256) false
    refine takes_of_keys hlive h hworker hdst ?_ fun t hack => ?_
    · rw [hpart]
      exact htaken.congr (by rw [hwritten.domain]) (by rw [hwritten.domain]) (by rw [hwritten.domain]) (by rw [hwritten.domain])
    · rw [hpart] at hack
      obtain ⟨hattar, -, -, -, -, hpair, -⟩ := hack.work.fixed
      refine ⟨hack.seq.trans (by rw [← hseqs, hwritten.domain]), fun m hm => (slotOf_of_attar hattar m).trans (hwritten.others m hm),
        (slotOf_of_attar hattar _).trans hwritten.slot, ?_⟩
      rw [hattar, hpair]
      exact hwritten.work.trans hack.work

/-- A distributed key is deleted. -/
theorem keys_of_delete (hrange : inRange s (beAt (domIn b).body 0 2) = true) (hdelete : bitOf (byteAt (domIn b).body 2) 0 = true)
    (hkey : distributed s (beAt (domIn b).body 0 2) = true) : s.Takes 0 b (.domKeysRx 0 b true) (fun u t =>
      t.domain.dx0.seqTx = (s.domain.dx0.seqTx + 1) % 2 ^ 32 ∧
      slotOf t (beAt (domIn b).body 0 2) = { gen := min genLimit ((slotOf s (beAt (domIn b).body 0 2)).gen + 1) } ∧
      (∀ m, m ≠ beAt (domIn b).body 0 2 → slotOf t m = slotOf s m) ∧
      DomainWork { u with attar := t.attar, pair := { s.pair with dirty := t.pair.dirty } } t) := by
  have htaken := childless_domTaken h hworker
  have hseqs : (s.domTaken 0).domain.dx0.seqTx = s.domain.dx0.seqTx := ((takenFrom_domTaken 0 s).links 0).2.2.2
  have hpart : keyPart (domIn b).body (s.domTaken 0) = (true, invalidateSlot (beAt (domIn b).body 0 2) 0 (s.domTaken 0)) := by
    simp only [keyPart, hdelete, if_true]
    exact deleteKey_of_distributed (s := s.domTaken 0) hrange hkey
  have hdeleted := keyDeleted_invalidateSlot (s := s.domTaken 0) hworker.2.2.2.1 (beAt (domIn b).body 0 2)
  have hdomain := hdeleted.domain
  refine takes_of_keys hlive h hworker hdst ?_ fun t hack => ?_
  · rw [hpart]
    exact htaken.congr (by rw [hdomain]) (by rw [hdomain]) (by rw [hdomain]) (by rw [hdomain])
  · rw [hpart] at hack
    obtain ⟨hattar, -, -, -, -, hpair, -⟩ := hack.work.fixed
    refine ⟨hack.seq.trans (by rw [← hseqs, hdomain]), (slotOf_of_attar hattar _).trans hdeleted.slot,
      fun m hm => (slotOf_of_attar hattar m).trans (hdeleted.others m hm), ?_⟩
    rw [hattar, hpair]
    exact hdeleted.work.trans hack.work

end


/-! ## TIME (R412, R413) -/

/-- A domain with another rate, in step with its time again (R431). -/
def TimeDomain.paced (d : TimeDomain) (rate : Nat) : TimeDomain := { d with rate, state := .locked }

theorem timeMoves_applyRate (b : Bool) (rate : Nat) (s : State) : TimeMoves b ((domainOf s b).paced rate) s (applyRate b rate s) := by
  by_cases hlocked : (domainOf s b).state = .locked
  · have hthis := domainOf_setDomain_same b { domainOf s b with rate } s
    have hd : (domainOf s b).paced rate = { domainOf s b with rate } := by
      rw [TimeDomain.paced, ← hlocked]
    rw [applyRate, enterDomain_of_same (by rw [hthis]; exact hlocked), hd]
    exact timeMoves_of_told (told_setDomain (Told.refl _))
  · exact (timeGains_enterDomain (d := { domainOf s b with rate }) hlocked 4).1

theorem domainWork_of_timeMoves {b : Bool} {d : TimeDomain} {s u : State} (h : TimeMoves b d s u) : DomainWork { s with time := u.time } u :=
  domainWork_of_told h.told

/-- The state in which a worker has received TIME, with the residence time drawn. -/
def timeArrived (s : State) : State := (drawFree 16 s).2

theorem domainWork_timeArrived (s : State) (x : Time) : DomainWork { s with time := x } { timeArrived s with time := x } := rfl

/-- TIME for every member at a worker without joined children. -/
theorem timeIn_of_all {m : DomIn} {s : State} {total : Nat} (hin : inDomain s = true) (hdst : m.dst = 255)
    (htotal : total = instantNs (beAt m.body 0 6) (beAt m.body 6 4) + linkDelay s.domain.dx0)
    (hnone : childLinks (discipline total (timeArrived s)) = []) : timeIn m s = discipline total (timeArrived s) := by
  have hin' : inDomain (timeArrived s) = true := hin
  subst htotal
  have heq : ∃ body, timeIn m s =
      domDown 5 body (discipline (instantNs (beAt m.body 0 6) (beAt m.body 6 4) + linkDelay s.domain.dx0) (timeArrived s)) := by
    unfold timeIn
    dsimp only
    rw [show (drawFree 16 s).2 = timeArrived s from rfl, hin', hdst]
    exact ⟨_, rfl⟩
  obtain ⟨body, hbody⟩ := heq
  rw [hbody, domDown_of_none hnone]

/-- Time, and values drawn, leave a worker's place in the tree. -/
theorem ChildlessWorker.at_time {s : State} (h : ChildlessWorker s) {freeIx : Nat} (x : Time) :
    ChildlessWorker { s with freeIx, time := x } := h.congr rfl rfl rfl rfl

theorem ChildlessWorker.at_keys {s : State} (h : ChildlessWorker s) (attar : Attar) (pair : Pair) : ChildlessWorker { s with attar, pair } :=
  h.congr rfl rfl rfl rfl

section
variable {s : State} {total : Nat}

theorem discipline_of_other (hagent : (domainOf s s.domain.timeB).agent = false) : discipline total s = s := by
  simp only [discipline, hagent, Bool.not_false, if_true]

theorem discipline_first (hagent : (domainOf s s.domain.timeB).agent = true) (hstepped : s.domain.stepped = false) :
    discipline total s = modDomain (fun d => { d with stepped := true })
      (applyStep s.domain.timeB (total / 10 ^ 9) (total % 10 ^ 9) s) := by
  simp only [discipline, hagent, hstepped, Bool.not_true, Bool.not_false, Bool.false_eq_true, if_false, if_true]
  rw [show secondNs = 10 ^ 9 by norm_num [secondNs]]

theorem discipline_next (hagent : (domainOf s s.domain.timeB).agent = true) (hstepped : s.domain.stepped = true) : ∃ r : Int,
    -3435973 ≤ r ∧ r ≤ 3435973 ∧
      discipline total s = applyRate s.domain.timeB (toSigned 32 (0x9999999a + r)) { s with freeIx := s.freeIx + 1 } := by
  have hlow : (Config.free s.freeIx % 2 ^ 32 % 6871947 : Nat) < 6871947 := Nat.mod_lt _ (by decide)
  refine ⟨((Config.free s.freeIx % 2 ^ 32 % 6871947 : Nat) : Int) - 3435973, by omega, by omega, ?_⟩
  simp only [discipline, hagent, hstepped, Bool.not_true, Bool.false_eq_true, if_false, drawFree, nominalRate, rateBound]
  congr 2
  omega

end

section
variable {s : State} (hlive : s.live = true) {b : Bytes} (h : s.domNext 0 5 b = true) (hworker : s.leafWorker) (hdst : byteAt b 17 = 255)
  {total : Nat} (htotal : total = instantNs (beAt (domIn b).body 0 6) (beAt (domIn b).body 6 4) + linkDelay s.domain.dx0)
include hlive h hworker hdst htotal

/-- TIME at a worker: it disciplines its domain. -/
theorem takes_of_time {p : State → State → Prop} (hleaf : ChildlessWorker (discipline total (timeArrived (s.domTaken 0))))
    (hp : p (s.domTaken 0) (discipline total (timeArrived (s.domTaken 0)))) : s.Takes 0 b (.domTimeRx 0 b true) p := by
  refine takes_of_parent (execDomTimeRx_of_live hlive 0 b true) h hworker.1 ?_
  have hdelay : linkDelay (s.domTaken 0).domain.dx0 = linkDelay s.domain.dx0 := rfl
  rw [timeIn_of_all ((inDomain_domTaken 0 s).trans hworker.2.1) hdst (htotal.trans (by rw [hdelay])) hleaf.childless]
  exact hp

theorem time_of_other (hagent : (domainOf s s.domain.timeB).agent = false) : s.Takes 0 b (.domTimeRx 0 b true) (fun u t => DomainWork u t) := by
  have heq : discipline total (timeArrived (s.domTaken 0)) = timeArrived (s.domTaken 0) := discipline_of_other hagent
  refine takes_of_time hlive h hworker hdst htotal ?_ ?_
  · rw [heq]
    exact (childless_domTaken h hworker).congr rfl rfl rfl rfl
  · rw [heq]
    rfl

theorem time_of_first (hagent : (domainOf s s.domain.timeB).agent = true) (hstepped : s.domain.stepped = false) :
    s.Takes 0 b (.domTimeRx 0 b true) (fun u t => t.domain.stepped = true ∧
      (domainOf t s.domain.timeB).clock = { sec := total / 10 ^ 9, ns := total % 10 ^ 9 } ∧ (domainOf t s.domain.timeB).state = .locked ∧
      DomainWork { u with time := t.time } t) := by
  have heq : discipline total (timeArrived (s.domTaken 0)) = modDomain (fun d => { d with stepped := true })
      (applyStep s.domain.timeB (total / 10 ^ 9) (total % 10 ^ 9) (timeArrived (s.domTaken 0))) := discipline_first hagent hstepped
  have hmoves := timeMoves_applyStep s.domain.timeB (total / 10 ^ 9) (total % 10 ^ 9) (timeArrived (s.domTaken 0))
  refine takes_of_time hlive h hworker hdst htotal ?_ ?_
  · rw [heq]
    exact (((childless_domTaken h hworker).at_time _).of_told hmoves.told).congr rfl rfl rfl rfl
  · rw [heq]
    refine ⟨rfl, congrArg TimeDomain.clock hmoves.1, congrArg TimeDomain.state hmoves.1, ?_⟩
    have hwork := domainWork_of_timeMoves hmoves
    exact ((domainWork_timeArrived (s.domTaken 0) _).trans hwork).trans (domainWork_domain ..)

theorem time_of_next (hagent : (domainOf s s.domain.timeB).agent = true) (hstepped : s.domain.stepped = true) :
    s.Takes 0 b (.domTimeRx 0 b true) (fun u t =>
      (∃ r : Int, -3435973 ≤ r ∧ r ≤ 3435973 ∧ (domainOf t s.domain.timeB).rate = toSigned 32 (0x9999999a + r)) ∧
      (domainOf t s.domain.timeB).clock = (domainOf s s.domain.timeB).clock ∧
      (domainOf t s.domain.timeB).state = .locked ∧ DomainWork { u with time := t.time } t) := by
  obtain ⟨r, hlow, hhigh, heq⟩ := discipline_next (s := timeArrived (s.domTaken 0)) (total := total) hagent hstepped
  have hmoves := timeMoves_applyRate s.domain.timeB (toSigned 32 (0x9999999a + r)) (timeArrived (timeArrived (s.domTaken 0)))
  have heq' : discipline total (timeArrived (s.domTaken 0)) =
    applyRate s.domain.timeB (toSigned 32 (0x9999999a + r)) (timeArrived (timeArrived (s.domTaken 0))) := heq
  refine takes_of_time hlive h hworker hdst htotal ?_ ?_
  · rw [heq']
    exact ((childless_domTaken h hworker).at_time _).of_told hmoves.told
  · rw [heq']
    have hwork := domainWork_of_timeMoves hmoves
    have hclock := congrArg TimeDomain.clock hmoves.1
    refine ⟨⟨r, hlow, hhigh, congrArg TimeDomain.rate hmoves.1⟩, hclock, congrArg TimeDomain.state hmoves.1, ?_⟩
    exact ((domainWork_timeArrived (s.domTaken 0) _).trans (domainWork_timeArrived (timeArrived (s.domTaken 0)) _)).trans hwork

end


/-! ## GLOBAL (R414, R416) -/

theorem globalIn_of_all {m : DomIn} {s v : State} {good : Bool} (hin : inDomain s = true) (hdst : m.dst = 255) (hop : byteAt m.body 0 ≠ 1)
    (hpart : actGlobal (byteAt m.body 0) (byteAt m.body 2) (beAt m.body 8 4) (beAt m.body 16 6) (beAt m.body 22 4) (slice m.body 32 64) s =
      (good, v)) (hleaf : ChildlessWorker v) : globalIn m s = startOp (byteAt m.body 0) (beAt m.body 4 4) good v := by
  have heq : globalIn m s = startOp (byteAt m.body 0) (beAt m.body 4 4) good (domDown 6 m.body v) := by
    simp only [globalIn, hin, hdst, hop, hpart, Bool.not_true, Bool.false_eq_true, if_false, beq_self_eq_true, Bool.true_or, ne_eq,
      not_true_eq_false]
  rw [heq, domDown_of_none hleaf.childless]

/-- What an acknowledgement leaves of the domain's records. -/
theorem Acked.records {s t : State} (h : Acked s t) : t.domain.broadcast = s.domain.broadcast ∧ t.domain.latches = s.domain.latches ∧
    t.domain.schedules = s.domain.schedules ∧ t.attar = s.attar ∧ t.pair = s.pair := by
  have hdomain := h.sends.domain
  obtain ⟨hattar, -, -, -, -, hpair, -⟩ := h.work.fixed
  rw [hdomain]
  exact ⟨rfl, rfl, rfl, hattar, hpair⟩

section
variable {s : State} (hlive : s.live = true) {b : Bytes} (h : s.domNext 0 6 b = true) (hworker : s.leafWorker) (hdst : byteAt b 17 = 255)
include hlive h hworker hdst

/-- GLOBAL at a worker: its own part, and its acknowledgement. -/
theorem takes_of_global {p : State → State → Prop} {good : Bool} {v : State} (hop : byteAt (domIn b).body 0 ≠ 1)
    (hpart : actGlobal (byteAt (domIn b).body 0) (byteAt (domIn b).body 2) (beAt (domIn b).body 8 4) (beAt (domIn b).body 16 6)
      (beAt (domIn b).body 22 4) (slice (domIn b).body 32 64) (s.domTaken 0) = (good, v))
    (hleaf : ChildlessWorker v) (hsame : v.domain.dx0 = (s.domTaken 0).domain.dx0) (hp : ∀ t, Acked v t → p (s.domTaken 0) t) :
    s.Takes 0 b (.domGlobalRx 0 b true) (fun u t => p u t ∧ t.domain.dx0.seqTx = (s.domain.dx0.seqTx + 1) % 2 ^ 32) := by
  refine takes_of_parent (execDomGlobalRx_of_live hlive 0 b true) h hworker.1 ?_
  have hacked := acked_startOp hleaf (byteAt (domIn b).body 0) (beAt (domIn b).body 4 4) good
  have hseqs : (s.domTaken 0).domain.dx0.seqTx = s.domain.dx0.seqTx := ((takenFrom_domTaken 0 s).links 0).2.2.2
  rw [globalIn_of_all ((inDomain_domTaken 0 s).trans hworker.2.1) hdst hop hpart hleaf]
  exact ⟨hp _ hacked, hacked.seq.trans (by rw [hsame, hseqs])⟩

/-- BROADCAST (R416). -/
theorem global_broadcast (hop : byteAt (domIn b).body 0 = 2) : s.Takes 0 b (.domGlobalRx 0 b true) (fun u t => (DomainWork u t ∧
    t.domain.broadcast = s.domain.broadcast ++ [BitVec.ofNat 512 (leNat (slice (domIn b).body 32 64))]) ∧
    t.domain.dx0.seqTx = (s.domain.dx0.seqTx + 1) % 2 ^ 32) := by
  have hpart : actGlobal (byteAt (domIn b).body 0) (byteAt (domIn b).body 2) (beAt (domIn b).body 8 4) (beAt (domIn b).body 16 6)
      (beAt (domIn b).body 22 4) (slice (domIn b).body 32 64) (s.domTaken 0) = (true, modDomain (fun d => { d with
        broadcast := d.broadcast ++ [BitVec.ofNat 512 (leNat (slice (domIn b).body 32 64))] }) (s.domTaken 0)) := by
    rw [hop]
    rfl
  refine takes_of_global hlive h hworker hdst (by omega) hpart ((childless_domTaken h hworker).congr rfl rfl rfl rfl) rfl fun t hack => ?_
  exact ⟨(domainWork_domain ..).trans hack.work, hack.records.1⟩

/-- SNAPSHOT and RESET (R416): the worker keeps a latch. -/
theorem global_latch (l : Latch) (hop : byteAt (domIn b).body 0 = 3 ∨ byteAt (domIn b).body 0 = 4)
    (hlatch : l = { sec := beAt (domIn b).body 16 6, ns := beAt (domIn b).body 22 4, snapshot := byteAt (domIn b).body 0 == 3
                    resetKind := if byteAt (domIn b).body 0 = 3 then none else some (byteAt (domIn b).body 2) }) :
    s.Takes 0 b (.domGlobalRx 0 b true) (fun u t => (DomainWork u t ∧ t.domain.latches = s.domain.latches ++ [l]) ∧
      t.domain.dx0.seqTx = (s.domain.dx0.seqTx + 1) % 2 ^ 32) := by
  have hpart : actGlobal (byteAt (domIn b).body 0) (byteAt (domIn b).body 2) (beAt (domIn b).body 8 4) (beAt (domIn b).body 16 6)
      (beAt (domIn b).body 22 4) (slice (domIn b).body 32 64) (s.domTaken 0) =
        (true, modDomain (fun d => { d with latches := d.latches ++ [l] }) (s.domTaken 0)) := by
    subst hlatch
    rcases hop with hop | hop <;> rw [hop] <;> rfl
  refine takes_of_global hlive h hworker hdst (by omega) hpart ((childless_domTaken h hworker).congr rfl rfl rfl rfl) rfl fun t hack => ?_
  exact ⟨(domainWork_domain ..).trans hack.work, hack.records.2.1⟩

/-- ROTATE (R405, R416). -/
theorem global_rotate (hop : byteAt (domIn b).body 0 = 7) : s.Takes 0 b (.domGlobalRx 0 b true) (fun u t =>
    (t.attar.domainGen = min genLimit (s.attar.domainGen + 1) ∧
      DomainWork { u with attar := t.attar, pair := { s.pair with dirty := t.pair.dirty } } t) ∧
    t.domain.dx0.seqTx = (s.domain.dx0.seqTx + 1) % 2 ^ 32) := by
  have hregen := regenerated_rotate (s := s.domTaken 0) hworker.2.2.2.1
  have hleaf : ChildlessWorker (rotate (s.domTaken 0)) :=
    ((childless_domTaken h hworker).at_keys _ _).of_told hregen.told
  have hdx : (rotate (s.domTaken 0)).domain.dx0 = (s.domTaken 0).domain.dx0 := by
    rw [domain_of_told hregen.told]
  refine takes_of_global hlive h hworker hdst (by rw [hop]; decide) (by rw [hop]; rfl) hleaf hdx fun t hack => ?_
  obtain ⟨-, -, -, hattar, hpair⟩ := hack.records
  refine ⟨?_, ?_⟩
  · rw [hattar, hregen.attar]
    rfl
  · rw [hattar, hpair]
    exact hregen.work.trans hack.work

/-- ROLL and GATE_EPOCH (R414): the worker keeps a schedule. -/
theorem global_schedule (x : Schedule) (hop : byteAt (domIn b).body 0 = 8 ∨ byteAt (domIn b).body 0 = 9)
    (hx : x = { op := byteAt (domIn b).body 0, id := beAt (domIn b).body 8 4, sec := beAt (domIn b).body 16 6, ns := beAt (domIn b).body 22 4 }) :
    s.Takes 0 b (.domGlobalRx 0 b true) (fun u t => (DomainWork u t ∧
      t.domain.schedules = s.domain.schedules.filter (fun y => !(y.op == byteAt (domIn b).body 0 && y.id == beAt (domIn b).body 8 4)) ++ [x]) ∧
      t.domain.dx0.seqTx = (s.domain.dx0.seqTx + 1) % 2 ^ 32) := by
  have hpart : ∃ good, actGlobal (byteAt (domIn b).body 0) (byteAt (domIn b).body 2) (beAt (domIn b).body 8 4) (beAt (domIn b).body 16 6)
      (beAt (domIn b).body 22 4) (slice (domIn b).body 32 64) (s.domTaken 0) = (good, scheduleTaken (byteAt (domIn b).body 0)
        (beAt (domIn b).body 8 4) (beAt (domIn b).body 16 6) (beAt (domIn b).body 22 4) (s.domTaken 0)) := by
    rw [← takeSchedule_of_no_peers (s := s.domTaken 0) hworker.2.2.2.2]
    rcases hop with hop | hop <;> rw [hop] <;> exact ⟨_, rfl⟩
  obtain ⟨good, hpart⟩ := hpart
  refine takes_of_global hlive h hworker hdst (by omega) hpart ((childless_domTaken h hworker).congr rfl rfl rfl rfl) rfl fun t hack => ?_
  subst hx
  exact ⟨(domainWork_domain ..).trans hack.work, hack.records.2.2.1⟩

/-- The release of a barrier completes the command that waits at it (R416). -/
theorem global_release {x : Barrier} {r : Running} (hop : byteAt (domIn b).body 0 = 1) (hbarrier : s.domain.barrier = some x)
    (hid : x.id = beAt (domIn b).body 8 4) (hrunning : s.running = [r]) (hisOp : r.isOp 0x0a02 = true) (hwait : r.wait = .work)
    (hxfer : r.xfer = none) (hglobal : r.cmd.get ⟨8, 0, 4⟩ = 1) : s.Takes 0 b (.domGlobalRx 0 b true) (fun u t => ∃ v,
      DomainWork { u with running := [] } v ∧ v.domain.barrier = none ∧
      Answered r.cmd stOk 0 (beAt (domIn b).body 12 4 * 2 ^ 32 + beAt (domIn b).body 28 4) v t) := by
  refine takes_of_parent (execDomGlobalRx_of_live hlive 0 b true) h hworker.1 ?_
  have hin : inDomain (s.domTaken 0) = true := (inDomain_domTaken 0 s).trans hworker.2.1
  have hdst' : (domIn b).dst = 255 := hdst
  have hbarrier' : (s.domTaken 0).domain.barrier = some x := hbarrier
  have hmatch : (r.isOp 0x0a02 && r.wait == .work && r.cmd.get ⟨8, 0, 4⟩ == 1) = true := by simp [hisOp, hwait, hglobal]
  have hopen : globalIn (domIn b) (s.domTaken 0) =
      releaseBarrier (beAt (domIn b).body 8 4) (beAt (domIn b).body 12 4 * 2 ^ 32 + beAt (domIn b).body 28 4) (s.domTaken 0) := by
    simp only [globalIn, hin, hdst', hop, Bool.not_true, Bool.false_eq_true, if_false, beq_self_eq_true, Bool.true_or, if_true]
    rw [domDown_of_none (childless_domTaken h hworker).childless]
  have hends : globalIn (domIn b) (s.domTaken 0) =
      finishRunning r { status := stOk, result := beAt (domIn b).body 12 4 * 2 ^ 32 + beAt (domIn b).body 28 4 }
        { withBarrier none (s.domTaken 0) with running := [] } := by
    rw [hopen]
    simp only [releaseBarrier, hbarrier', hid, ne_eq, not_true_eq_false, if_false, resultOf_byte8]
    exact completeRunning_only (s := withBarrier none (s.domTaken 0)) hrunning hmatch _
  rw [hends]
  exact ⟨_, domainWork_domain { s.domTaken 0 with running := [] } _, rfl, answered_finishRunning hxfer ..⟩

end

/-! ## GLOBAL_ACK (R417) -/

section
variable {s : State} (hlive : s.live = true) {n : Nat} {b : Bytes} (h : s.domNext n 7 b = true) (hn : n = 1 ∨ n = 2)
  (hin : inDomain s = true) {o : DomOp} (hops : s.domain.ops = [o]) (hopid : o.opid = beAt (domIn b).body 0 4)
include hlive h hn hin hops hopid

/-- The only operation takes an acknowledgement from a child that it waits for. -/
theorem takes_of_ack (hwaits : o.waiting.contains n = true) {p : State → State → Prop}
    (hp : p (s.domTaken n) (updateOp { o with
      waiting := o.waiting.filter (· != n), done := o.done + beAt (domIn b).body 4 2, failed := o.failed ||| beAt (domIn b).body 8 8 }
      (s.domTaken n))) : s.Takes n b (.domGlobalAckRx n b true) p := by
  refine takes_of_next (execDomGlobalAckRx_of_live hlive n b true) h ?_
  have hin' : inDomain (s.domTaken n) = true := (inDomain_domTaken n s).trans hin
  have hops' : (s.domTaken n).domain.ops = [o] := (congrArg Domain.ops (domain_domTaken n s)).trans hops
  have hfind : [o].find? (fun x => x.opid == beAt (domIn b).body 0 4 && x.waiting.contains n) = some o := by
    simp only [List.find?_cons, hopid, beq_self_eq_true, hwaits, Bool.and_self]
  have heq : ackTaken n (domIn b) (s.domTaken n) = ackRx n (beAt (domIn b).body 0 4) (beAt (domIn b).body 4 2) (beAt (domIn b).body 8 8)
      (s.domTaken n) := if_neg (by rw [hin']; simp; omega)
  rw [heq]
  simp only [ackRx, hops', hfind]
  exact hp

/-- Another child is still waited for. -/
theorem ack_of_more {k : Nat} (hwaiting : o.waiting = [n, k]) (hk : k ≠ n) : s.Takes n b (.domGlobalAckRx n b true) (fun u t => DomainWork u t ∧
    t.domain.ops = [{ o with waiting := [k], done := o.done + beAt (domIn b).body 4 2, failed := o.failed ||| beAt (domIn b).body 8 8 }]) := by
  have hops' : (s.domTaken n).domain.ops = [o] := (congrArg Domain.ops (domain_domTaken n s)).trans hops
  refine takes_of_ack hlive h hn hin hops hopid (by simp [hwaiting]) ?_
  have hleft : o.waiting.filter (· != n) = [k] := by simp [hwaiting, hk]
  rw [hleft, updateOp, if_neg (List.cons_ne_nil k [])]
  refine ⟨domainWork_domain .., ?_⟩
  simp only [modDomain, hops', List.map_cons, List.map_nil, if_true]

/-- The last acknowledgement completes the manager's command. -/
theorem ack_of_last {r : Running} (hwaiting : o.waiting = [n]) (hrole : s.domain.role = 1) (hrunning : s.running = [r])
    (hop : r.isOp 0x0a02 = true) (hwait : r.wait = .work) (hxfer : r.xfer = none) (hbarrier : r.cmd.get ⟨8, 0, 4⟩ ≠ 1)
    (hreset : r.cmd.get ⟨8, 0, 4⟩ ≠ 4) : s.Takes n b (.domGlobalAckRx n b true) (fun u t =>
      Answered r.cmd stOk 0 (knownMask s (o.failed ||| beAt (domIn b).body 8 8)) { u with
        running := [], domain := { u.domain with ops := [] } } t) := by
  obtain ⟨hrole', -, -, hmembers, -⟩ := kept_domTaken n s
  have hops' : (s.domTaken n).domain.ops = [o] := (congrArg Domain.ops (domain_domTaken n s)).trans hops
  have hrunning' : (s.domTaken n).running = [r] := by
    obtain ⟨-, -, -, hrun, -⟩ := (takenFrom_domTaken n s).work.fixed
    exact hrun.trans hrunning
  have hmask : knownMask s (o.failed ||| beAt (domIn b).body 8 8) = knownMask (s.domTaken n) (o.failed ||| beAt (domIn b).body 8 8) := by
    rw [knownMask, knownMask, hmembers]
  refine takes_of_ack hlive h hn hin hops hopid (by simp [hwaiting]) ?_
  have hleft : o.waiting.filter (· != n) = [] := by simp [hwaiting]
  rw [hleft, updateOp, if_pos rfl, hmask]
  exact answered_finishOp hops' (hrole'.trans hrole) hrunning' hop hwait hxfer hbarrier hreset { o with
    waiting := [], done := o.done + beAt (domIn b).body 4 2, failed := o.failed ||| beAt (domIn b).body 8 8 } rfl

end

/-! ## REPORT (R419) -/

/-- The records of a manager once it has gathered a REPORT of another CODE and OBJECT. -/
theorem reportIn_of_first {s : State} (hnone : s.domain.merging = []) (b : Bytes) : DomainWork s (reportIn b s) ∧
    (reportIn b s).domain.merging = [(leAt (slice b 8 32) 0 2, leAt (slice b 8 32) 12 4, byteAt (slice b 8 32) 2 % 4, 2 ^ byteAt b 0, 1)] ∧
    ∀ v, s.domain.members.find (byteAt b 0) = some v →
      (reportIn b s).domain.members.find (byteAt b 0) = some { v with lastReport := slice b 8 32 } := by
  unfold reportIn
  dsimp only
  cases hfind : s.domain.members.find (byteAt b 0) with
  | none =>
    refine ⟨domainWork_domain .., ?_, fun v hv => absurd hv (by simp)⟩
    simp only [modDomain, hnone, List.any_nil, Bool.false_eq_true, if_false, List.nil_append]
  | some w =>
    refine ⟨domainWork_domain .., ?_, fun v hv => ?_⟩
    · simp only [modDomain, setMemberRecord, hnone, List.any_nil, Bool.false_eq_true, if_false, List.nil_append]
    · obtain rfl := Option.some.inj hv
      exact Table.find_set_same ..

section
variable {s : State} (hlive : s.live = true) {n : Nat} {b : Bytes} (h : s.domNext n 8 b = true) (hn : n = 1 ∨ n = 2)
  (hin : inDomain s = true)
include hlive h hn hin

/-- The manager gathers a REPORT. -/
theorem report_of_manager (hrole : s.domain.role = 1) (hnone : s.domain.merging = []) : s.Takes n b (.domReportRx n b true) (fun u t =>
    DomainWork u t ∧ t.domain.merging = [(leAt (slice (domIn b).body 8 32) 0 2, leAt (slice (domIn b).body 8 32) 12 4
      , byteAt (slice (domIn b).body 8 32) 2 % 4, 2 ^ byteAt (domIn b).body 0, 1)] ∧
    ∀ v, s.domain.members.find (byteAt (domIn b).body 0) = some v →
      t.domain.members.find (byteAt (domIn b).body 0) = some { v with lastReport := slice (domIn b).body 8 32 }) := by
  refine takes_of_next (execDomReportRx_of_live hlive n b true) h ?_
  obtain ⟨hrole', -, -, hmembers, -⟩ := kept_domTaken n s
  have hin' : inDomain (s.domTaken n) = true := (inDomain_domTaken n s).trans hin
  have hnone' : (s.domTaken n).domain.merging = [] := (congrArg Domain.merging (domain_domTaken n s)).trans hnone
  have heq : reportTaken n (domIn b) (s.domTaken n) = reportIn (domIn b).body (s.domTaken n) :=
    (if_neg (by rw [hin']; simp; omega)).trans (if_pos (hrole'.trans hrole))
  have hgathered := reportIn_of_first hnone' (domIn b).body
  rw [hmembers] at hgathered
  rw [heq]
  exact hgathered

/-- A worker passes a REPORT up. -/
theorem report_of_worker (hrole : s.domain.role = 2) (hup : s.domain.dx0.up = true) (hown : s.domain.dx0.epochOwn.isSome = true) :
    s.Takes n b (.domReportRx n b true) (fun u t => DomainWork u t ∧ t.domain.merging = s.domain.merging ∧
      t.domain.dx0.seqTx = (s.domain.dx0.seqTx + 1) % 2 ^ 32) := by
  refine takes_of_next (execDomReportRx_of_live hlive n b true) h ?_
  obtain ⟨hrole', -⟩ := kept_domTaken n s
  have hin' : inDomain (s.domTaken n) = true := (inDomain_domTaken n s).trans hin
  have hparent : dxOf (s.domTaken n) 0 = dxOf s 0 := dxOf_domTaken_ne (by omega) (.inl (by decide)) s
  have heq : reportTaken n (domIn b) (s.domTaken n) = domUp 8 (domIn b).body (s.domTaken n) :=
    (if_neg (by rw [hin']; simp; omega)).trans (if_neg (by rw [hrole', hrole]; decide))
  have hsends : sends (s.domTaken n) 0 8 = true := by
    have hup' : (dxOf s 0).up = true := hup
    have hown' : (dxOf s 0).epochOwn.isSome = true := hown
    simp [sends, hparent, hup', hown']
  obtain ⟨hsend, hseq, -⟩ := domSend_links (n := 0) (type := 8) (by decide)
    (match (s.domTaken n).domain.member with | some m => (m - 1) / 2 | none => 0) (domIn b).body (s.domTaken n)
  have hmerging := congrArg Domain.merging hsend.domain
  have hmerging' := congrArg Domain.merging (domain_domTaken n s)
  have hseq' := hseq hsends
  rw [hparent] at hseq'
  rw [heq]
  exact ⟨hsend.work, Eq.trans hmerging hmerging', hseq'⟩

end


/-! ## The obligation -/

/-- KEEPALIVE (R406, R407, R410). -/
theorem keepaliveRows {s : State} (hlive : s.live = true) (n : Nat) (b : Bytes) (h : s.domNext n 1 b = true)
    (hnack : bitOf (byteAt (domIn b).body 8) 0 = false) :
    let told := fun (t : State) => ∃ delays, dxOf t n = { dxOf (s.domTaken n) n with
      joined := bitOf (byteAt (domIn b).body 8) 1, timeLocked := bitOf (byteAt (domIn b).body 8) 2, member := byteAt (domIn b).body 9
      txNs := beAt (domIn b).body 12 4, rxNs := stamp s, delays } ∧ (beAt (domIn b).body 16 4 = 0 → delays = (dxOf s n).delays) ∧
      (beAt (domIn b).body 16 4 ≠ 0 → ∃ d, delays = d :: (dxOf s n).delays.take 63)
    (s.domain.role = 1 → s.Takes n b (.domKeepaliveRx n b true) (fun u t => DomainWork u t ∧ told t)) ∧
    (s.domain.role = 2 → n = 0 → bitOf (byteAt (domIn b).body 8) 1 = true → s.Takes n b (.domKeepaliveRx n b true) (fun u t =>
      DomainWork u t ∧ told t ∧ t.domain.depth = byteAt (domIn b).body 10 % 8 ∧ t.domain.joined = s.domain.joined)) ∧
    (s.domain.role = 2 → n = 0 → bitOf (byteAt (domIn b).body 8) 1 = false → s.domain.joined = true →
      (domainOf s s.domain.timeB).agent = false → s.Takes n b (.domKeepaliveRx n b true) (fun u t => DomainWork u t ∧
        t.domain.joined = false ∧ t.domain.member = none ∧ t.domain.retry = true)) := by
  refine ⟨fun hrole => ?_, fun _ hn hup => ?_, fun _ hn hup hjoined hagent => keepalive_of_left hlive h hnack hn hup hjoined hagent⟩
  · obtain ⟨t, hexec, htakes, hrefuses⟩ := keepalive_of_child hlive h hnack hrole
    exact ⟨t, hexec, fun hauth => ⟨(htakes hauth).1, heard_says (htakes hauth).2⟩, hrefuses⟩
  · obtain ⟨t, hexec, htakes, hrefuses⟩ := keepalive_of_parent hlive h hnack hn hup
    refine ⟨t, hexec, fun hauth => ?_, hrefuses⟩
    obtain ⟨hwork, hlink, hrest⟩ := htakes hauth
    exact ⟨hwork, heard_says hlink, hrest⟩

/-- Settles O56: a message is refused, or taken by its link and then all that its row does is what its type says. -/
theorem domainMessages : Obligations.DomainMessages := by
  unfold Obligations.DomainMessages
  intro s n b body hlive hbody
  obtain rfl : body = (domIn b).body := hbody
  refine ⟨untakenRows hlive n b, fun hwhole htheirs => ⟨keepalive_of_foreign hlive (whole_of_domWhole hwhole) htheirs,
    keepalive_of_fresh hlive (whole_of_domWhole hwhole) htheirs⟩, keepaliveRows hlive n b, ?_, ?_, ?_, ?_, ?_, ?_, ?_⟩
  · refine fun h hn => ⟨join_of_outside hlive h hn, fun hrole hjoined hmember hsrc => ?_⟩
    obtain ⟨hrefuses, hjoins⟩ := join_of_manager hlive h hn hrole hjoined hmember hsrc
    refine ⟨hrefuses, fun hsame => ?_⟩
    obtain ⟨t, hexec, htakes, hforged⟩ := hjoins hsame
    refine ⟨t, hexec, fun hauth => ?_, hforged⟩
    have hchild := htakes hauth
    obtain ⟨-, -, -, hmembers, -⟩ := kept_domTaken n s
    exact ⟨hchild.work, hchild.link, hchild.depth, fun m hm => (hchild.others m hm).trans (by rw [hmembers]), hchild.record⟩
  · exact fun h hrole hjoined hdevice hnone hagent => ⟨welcome_of_refusal hlive h hrole hjoined hdevice,
      fun hresult => welcome_of_joined hlive h hrole hjoined hdevice hresult hnone hagent⟩
  · rintro _ h hworker hdst rfl hrange -
    exact ⟨keys_of_write hlive h hworker hdst hrange, keys_of_delete hlive h hworker hdst hrange⟩
  · exact fun total h hworker hdst htotal => ⟨time_of_other hlive h hworker hdst htotal, time_of_first hlive h hworker hdst htotal,
      time_of_next hlive h hworker hdst htotal⟩
  · rintro _ _ x h hworker hdst rfl rfl hx
    subst hx
    refine ⟨global_broadcast hlive h hworker hdst, fun hop => ?_, fun hop => ?_, global_rotate hlive h hworker hdst,
      fun hop => global_schedule hlive h hworker hdst _ hop rfl, fun x r hop hbarrier hid hrunning hisOp hwait hxfer hglobal =>
        global_release hlive h hworker hdst hop hbarrier hid hrunning hisOp hwait hxfer hglobal⟩
    · exact global_latch hlive h hworker hdst _ (.inl hop) (by rw [hop]; rfl)
    · exact global_latch hlive h hworker hdst _ (.inr hop) (by rw [hop]; rfl)
  · exact fun o h hn hin hops hopid => ⟨fun k hwaiting hk => ack_of_more hlive h hn hin hops hopid hwaiting hk,
      fun r hwaiting hrole hrunning hop hwait hxfer hbarrier hreset =>
        ack_of_last hlive h hn hin hops hopid hwaiting hrole hrunning hop hwait hxfer hbarrier hreset⟩
  · refine fun h hn hin => ⟨?_, report_of_worker hlive h hn hin⟩
    rintro _ _ _ _ hrole hnone rfl rfl rfl rfl
    exact report_of_manager hlive h hn hin hrole hnone

end Sys2Proof.Machine
end

section
/-!
PROOFS. The reservoir's channels, what counting leaves of it, and its commands and patrol (10_reservoir).
-/
namespace Sys2Proof.Machine

open Sys2Proof

/-! ## Channels -/

@[simp] theorem chOf_setCh_same (n : Nat) (c : Channel) (s : State) : chOf (setCh n c s) n = c := by
  match n with
  | 0 | 1 | 2 | _ + 3 => rfl

theorem chOf_setCh_ne {n m : Nat} (h : m ≠ n) (hm : m < 4) (hn : n < 4) (c : Channel) (s : State) : chOf (setCh n c s) m = chOf s m := by
  interval_cases n <;> interval_cases m <;> simp_all [chOf, setCh]

theorem setCh_setCh (n : Nat) (c d : Channel) (s : State) : setCh n d (setCh n c s) = setCh n d s := by
  match n with
  | 0 | 1 | 2 | _ + 3 => rfl

@[simp] theorem setCh_chOf (n : Nat) (s : State) : setCh n (chOf s n) s = s := by
  match n with
  | 0 | 1 | 2 | _ + 3 => rfl

theorem modCh_eq (n : Nat) (f : Channel → Channel) (s : State) : modCh n f s = setCh n (f (chOf s n)) s := rfl

theorem setCh_rest (n : Nat) (c : Channel) (s : State) : setCh n c s = { s with reservoir := (setCh n c s).reservoir } := by
  unfold setCh
  split <;> rfl

/-- What a write of a channel leaves of the reservoir's records. -/
theorem setCh_reservoir (n : Nat) (c : Channel) (s : State) : (setCh n c s).reservoir = { s.reservoir with
    ch0 := (setCh n c s).reservoir.ch0, ch1 := (setCh n c s).reservoir.ch1, ch2 := (setCh n c s).reservoir.ch2
    ch3 := (setCh n c s).reservoir.ch3 } := by
  unfold setCh
  split <;> rfl

theorem holdsStats_setCh (n : Nat) (c : Channel) (s : State) (m : Nat) : holdsStats (setCh n c s) m = holdsStats s m := by
  rw [holdsStats, holdsStats, setCh_reservoir]

theorem reservoir_of_told {s t : State} (h : Told s t) (n : Nat) : chOf t n = chOf s n := chOf_of_reservoir h.reservoir n

/-! ## Counting (R335) -/

theorem told_rsvCountBy (i n : Nat) (s : State) : Told (State.plus (0x7100 + 8 * i) n s) (rsvCountBy i n s) := told_countBy ..

theorem told_rsvCount (i : Nat) (s : State) : Told (State.plus (0x7100 + 8 * i) 1 s) (rsvCount i s) := told_countBy ..

theorem pairsKept_postHeld (owner scope : Nat) (e : Event) (s : State) : PairsKept s (postHeld owner scope e s) := by
  unfold postHeld
  split_ifs
  · exact .of_fns rfl
  · exact .trans (t := { s with holds := s.holds ++ [{ code := e.code, scope, gathered := 0, first := none }] }) (.of_fns rfl)
      (pairsKept_post ..)

theorem pairsKept_pmcOverflow (n : Nat) (s : State) : PairsKept s (pmcOverflow n s) :=
  .trans (t := setPmc n { pmcOf s n with overflow := true } s) (.of_fns rfl) (pairsKept_postHeld ..)

theorem pairsKept_pmcAdd (n k : Nat) (s : State) : PairsKept s (pmcAdd n k s) := by
  have hset (m : Nat) (x : PmcCounter) (u : State) : PairsKept u (setPmc m x u) := .of_fns rfl
  unfold pmcAdd
  dsimp only
  split_ifs
  · exact ((hset ..).trans (hset ..)).trans (pairsKept_pmcOverflow ..)
  · exact (hset ..).trans (hset ..)
  · exact (hset ..).trans (pairsKept_pmcOverflow ..)
  · exact hset ..

theorem pairsKept_pmcEvent (ev obj k : Nat) (s : State) : PairsKept s (pmcEvent ev obj k s) := by
  unfold pmcEvent
  generalize s.pmc.counters.keysIf _ = l
  induction l generalizing s with
  | nil => exact .refl s
  | cons n l ih => exact (pairsKept_pmcAdd n k s).trans (ih _)

/-- Counting changes no queue pair's record, even where a programmable counter overflows. -/
theorem pairsKept_countBy (off n : Nat) (s : State) : PairsKept (State.plus off n s) (countBy off n s) := by
  unfold countBy
  dsimp only
  split
  · exact pairsKept_pmcEvent ..
  · exact .of_fns rfl

theorem isReportReg_qpBase (f : Nat) {n k : Nat} (h : n < 4) (hk : k = 8 ∨ k = 12) : isReportReg (qpReg f n k) = false := by
  have hoff : qpReg f n k % 0x10000 = 0x100 + k + 0x20 * n := by unfold qpReg bar0; omega
  unfold isReportReg
  rw [hoff]
  have hn : n = 0 ∨ n = 1 ∨ n = 2 ∨ n = 3 := by omega
  rcases hk with rfl | rfl <;> rcases hn with rfl | rfl | rfl | rfl <;> simp

/-- Where only reporting has happened and no pair's record has changed, a command gets the same completion. -/
theorem Answered.of_told {c : Cmd} {status detail result : Nat} {s u t : State} (h : Told s u) (hpairs : PairsKept s u)
    (ha : Answered c status detail result u t) : Answered c status detail result s t := by
  refine ⟨h.trans ha.told, fun hqp hcq => ?_⟩
  have hpair : qpOf u c.fn c.qp = qpOf s c.fn c.qp := hpairs.pair ..
  have hbase : busBase u (qpReg c.fn c.qp 8) = busBase s (qpReg c.fn c.qp 8) := by
    have hlow := h.regs _ (isReportReg_qpBase c.fn hqp (.inl rfl))
    have hhigh : reg u (qpReg c.fn c.qp 8 + 4) = reg s (qpReg c.fn c.qp 8 + 4) := h.regs _ (isReportReg_qpBase c.fn hqp (.inr rfl))
    rw [busBase, busBase, hlow, hhigh]
  have hsame : completionFor u c status detail result = completionFor s c status detail result := by
    simp only [completionFor, hpair, hbase]
  obtain ⟨a, b, hout⟩ := ha.entry hqp (by rw [hpair]; exact hcq)
  obtain ⟨os, hos⟩ := h.out
  exact ⟨a, b ++ os, by rw [hout, hsame, hos, List.append_assoc]⟩

/-! ## Leaves and the reservoir's channels together -/

/-- `t` with the leaves, the buffer and the reservoir of `q`. -/
def withQueues (q t : State) : State := { t with sched := q.sched, fabric := q.fabric, reservoir := q.reservoir }

/-- Two states with the same leaves, buffer and reservoir. -/
structure SameQueues (s t : State) : Prop where
  sched : t.sched = s.sched
  fabric : t.fabric = s.fabric
  reservoir : t.reservoir = s.reservoir

theorem SameQueues.refl (s : State) : SameQueues s s := ⟨rfl, rfl, rfl⟩

theorem SameQueues.of_told {s t : State} (h : Told s t) : SameQueues s t := ⟨h.sched, h.fabric, h.reservoir⟩

section
variable {s t : State} (h : SameQueues s t)
include h

theorem SameQueues.leafOf (n : Nat) : leafOf t n = leafOf s n := by rw [Machine.leafOf, Machine.leafOf, h.sched]

theorem SameQueues.chOf (n : Nat) : chOf t n = chOf s n := chOf_of_reservoir h.reservoir n

theorem SameQueues.frameOf (f : Nat) : frameOf t f = frameOf s f := by rw [Machine.frameOf, Machine.frameOf, h.fabric]

theorem SameQueues.storedLength (f : Frame) : storedLength t f = storedLength s f := by
  simp only [Machine.storedLength, rawLength, h.frameOf]

theorem SameQueues.bytesOf (l : List Nat) : bytesOf t l = bytesOf s l := by simp only [Machine.bytesOf, h.frameOf, h.storedLength]

theorem SameQueues.pagesOf (leaf : Nat) : pagesOf t leaf = pagesOf s leaf := by
  simp only [Machine.pagesOf, channels, h.reservoir]

theorem SameQueues.oldestPage (leaf : Nat) : oldestPage t leaf = oldestPage s leaf := by simp only [Machine.oldestPage, h.chOf]

theorem SameQueues.classWords (c : Nat) : classWords t c = classWords s c := by simp only [Machine.classWords, h.fabric]

theorem SameQueues.classFull (c : Nat) : classFull t c = classFull s c := by
  have hquota : classQuota t c = classQuota s c := by
    unfold classQuota
    rw [h.fabric]
  rw [Machine.classFull, Machine.classFull, hquota, h.classWords]

theorem SameQueues.requests (leaf : Nat) : readsOf t leaf = readsOf s leaf ∧ readsInFlight t = readsInFlight s := by
  simp only [readsOf, readsInFlight, h.pagesOf, channels, h.reservoir, and_self]

end

/-- A change of the leaves, the buffer and the reservoir that nothing else in the state takes part in. -/
structure OfQueues (f : State → State) : Prop where
  eq : ∀ s t, SameQueues s t → f t = withQueues (f s) t

theorem OfQueues.same {f : State → State} (h : OfQueues f) {s t : State} (hq : SameQueues s t) : SameQueues (f s) (f t) := by
  rw [h.eq s t hq]
  exact ⟨rfl, rfl, rfl⟩

theorem OfQueues.self {f : State → State} (h : OfQueues f) (s : State) : f s = withQueues (f s) s := h.eq s s (.refl s)

theorem OfQueues.comp {f g : State → State} (hg : OfQueues g) (hf : OfQueues f) : OfQueues fun s => g (f s) := by
  refine ⟨fun s t hq => ?_⟩
  rw [hg.eq (f s) (f t) (hf.same hq), hf.eq s t hq]
  rfl

theorem OfQueues.id : OfQueues fun s => s := by
  refine ⟨fun s t hq => ?_⟩
  obtain ⟨hsched, hfabric, hreservoir⟩ := hq
  rw [withQueues, ← hsched, ← hfabric, ← hreservoir]

/-- A change that depends on the state through its leaves, buffer and reservoir alone. -/
theorem OfQueues.choose {g : State → State → State} (hg : ∀ q, OfQueues (g q)) (hsame : ∀ s t, SameQueues s t → g t = g s) :
    OfQueues fun s => g s s := ⟨fun s t hq => by rw [hsame s t hq]; exact (hg s).eq s t hq⟩

theorem Told.withQueues {s t : State} (h : Told s t) (q : State) : Told (withQueues q s) (withQueues q t) := by
  refine ⟨?_, h.regs, h.counters, h.out, h.fns⟩
  have hrest := congrArg (Machine.withQueues q) h.rest
  exact hrest

/-- Such a change goes along with reporting. -/
theorem OfQueues.told {f : State → State} (hf : OfQueues f) {s t : State} (h : Told s t) : Told (f s) (f t) := by
  rw [hf.eq s t (.of_told h), hf.self s]
  exact h.withQueues (f s)

/-- It goes along with counting. -/
theorem OfQueues.plus {f : State → State} (hf : OfQueues f) (off n : Nat) (s : State) : f (State.plus off n s) = State.plus off n (f s) := by
  rw [hf.eq s (State.plus off n s) ⟨rfl, rfl, rfl⟩, hf.self s]
  rfl


/-! ## Changes of the queues -/

theorem OfQueues.setCh (n : Nat) (c : Channel) : OfQueues (setCh n c) := by
  refine ⟨fun s t hq => ?_⟩
  obtain ⟨hsched, hfabric, hreservoir⟩ := hq
  match n with
  | 0 | 1 | 2 | _ + 3 => simp only [Machine.setCh, withQueues, hreservoir, ← hsched, ← hfabric]

theorem OfQueues.setLeaf (n : Nat) (l : Leaf) : OfQueues (setLeaf n l) := by
  refine ⟨fun s t hq => ?_⟩
  obtain ⟨hsched, hfabric, hreservoir⟩ := hq
  rw [Machine.setLeaf, Machine.setLeaf, withQueues, hsched, ← hfabric, ← hreservoir]

theorem OfQueues.modFrame (f : Nat) (g : Frame → Frame) : OfQueues (modFrame f g) := by
  refine ⟨fun s t hq => ?_⟩
  obtain ⟨hsched, hfabric, hreservoir⟩ := hq
  rw [Machine.modFrame, Machine.modFrame, withQueues, hfabric, ← hsched, ← hreservoir]

theorem OfQueues.setClassWords (c n : Nat) : OfQueues (setClassWords c n) := by
  refine ⟨fun s t hq => ?_⟩
  obtain ⟨hsched, hfabric, hreservoir⟩ := hq
  unfold Machine.setClassWords
  split <;> simp only [withQueues, hfabric, ← hsched, ← hreservoir]

/-- A change of a channel by what it holds. -/
theorem OfQueues.modCh (n : Nat) (f : Channel → Channel) : OfQueues (modCh n f) :=
  .choose (g := fun q => Machine.setCh n (f (Machine.chOf q n))) (fun _ => .setCh ..) fun s t hq => by rw [hq.chOf]

theorem OfQueues.freeWords (fid : Nat) : OfQueues (freeWords fid) := by
  refine .choose (g := fun q s => match Machine.frameOf q fid with
    | none => s
    | some f => Machine.setClassWords f.cls (Machine.classWords q f.cls - f.wordsHeld) (Machine.modFrame fid (fun f => { f with wordsHeld := 0 }) s))
    (fun q => ?_) fun s t hq => ?_
  · cases Machine.frameOf q fid with
    | none => exact .id
    | some f => exact (OfQueues.setClassWords ..).comp (.modFrame ..)
  · simp only [hq.frameOf, hq.classWords]

theorem OfQueues.holdWords (fid n : Nat) : OfQueues (holdWords fid n) := by
  refine .choose (g := fun q s => match Machine.frameOf q fid with
    | none => s
    | some f => Machine.setClassWords f.cls (Machine.classWords q f.cls + n)
        (Machine.modFrame fid (fun f => { f with wordsHeld := f.wordsHeld + n }) s))
    (fun q => ?_) fun s t hq => ?_
  · cases Machine.frameOf q fid with
    | none => exact .id
    | some f => exact (OfQueues.setClassWords ..).comp (.modFrame ..)
  · simp only [hq.frameOf, hq.classWords]

/-- A leaf requests its oldest page, where the conditions of R350 hold. -/
def requestable (leaf : Nat) (s : State) : Option (Nat × Page) :=
  match leafOf s leaf with
  | none => none
  | some l =>
    if l.spilling && 2 * bytesOf s l.onDie < 256 * l.spillAt && readsOf s leaf < 4 && readsInFlight s < 64 && !classFull s 3 then
      match oldestPage s leaf with
      | none => none
      | some (n, p) => if p.writing || (chOf s n).state != .online then none else some (n, p)
    else none

/-- The page that a leaf has requested is being read. -/
def markReading (leaf n : Nat) (p : Page) : State → State :=
  modCh n fun c => { c with pages := c.pages.map fun q => if q.queue = leaf ∧ q.pageSeq = p.pageSeq then { q with reading := true } else q }

theorem requestPages_succ (leaf k : Nat) (s : State) : requestPages leaf (k + 1) s =
    match requestable leaf s with
    | none => s
    | some (n, p) => requestPages leaf k (markReading leaf n p s) := by
  rw [requestPages, requestable]
  cases leafOf s leaf with
  | none => rfl
  | some l =>
    dsimp only
    split_ifs
    · cases oldestPage s leaf with
      | none => rfl
      | some x =>
        obtain ⟨n, p⟩ := x
        dsimp only
        split_ifs <;> rfl
    · rfl

theorem SameQueues.requestable {s t : State} (h : SameQueues s t) (leaf : Nat) : requestable leaf t = requestable leaf s := by
  obtain ⟨hreads, hflight⟩ := h.requests leaf
  simp only [Machine.requestable, h.leafOf, h.bytesOf, hreads, hflight, h.classFull, h.oldestPage, h.chOf]

theorem OfQueues.requestPages (leaf k : Nat) : OfQueues (requestPages leaf k) := by
  induction k with
  | zero => exact .id
  | succ k ih =>
    refine ⟨fun s t hq => ?_⟩
    rw [requestPages_succ, requestPages_succ, hq.requestable]
    cases Machine.requestable leaf s with
    | none => exact OfQueues.id.eq s t hq
    | some x => exact (OfQueues.comp ih (OfQueues.modCh ..)).eq s t hq

theorem OfQueues.settleLeaf (leaf : Nat) : OfQueues (settleLeaf leaf) := by
  refine .choose (g := fun q s => match Machine.leafOf q leaf with
    | none => s
    | some l => if l.spilling && (Machine.pagesOf q leaf).isEmpty then Machine.setLeaf leaf (joinTail l) s else s)
    (fun q => ?_) fun s t hq => ?_
  · cases Machine.leafOf q leaf with
    | none => exact .id
    | some l =>
      dsimp only
      split_ifs
      · exact .setLeaf ..
      · exact .id
  · simp only [hq.leafOf, hq.pagesOf]

/-! ## What spills -/

theorem reviewSpill_of_onDie {s : State} (h : s.onDie) : reviewSpill s = s := by
  have hnone : s.sched.leaves.keysIf (fun _ l => l.spilling) = [] := h
  simp only [reviewSpill, requestAll, hnone, List.foldl_nil]

theorem onDie_of_sched {s t : State} (h : t.sched = s.sched) (hdie : s.onDie) : t.onDie := by
  rw [State.onDie, h]
  exact hdie

/-! ## RSV_CONFIG and RSV_STATUS (R332, R333) -/

/-- The reservoir with the parameters that RSV_CONFIG gives. -/
def rsvConfigured (c : Cmd) (s : State) : State :=
  { s with reservoir := { s.reservoir with
      spillEnable := c.flag 8 0, drainMask := c.get ⟨9, 0, 4⟩, failThreshold := if c.u16 10 = 0 then 256 else c.u16 10
      pageFillUs := if c.get ⟨12, 0, 7⟩ = 0 then 2 else c.get ⟨12, 0, 7⟩ } }

theorem rsvConfig_settles {c : Cmd} {s : State} (hpass : Passes 0x0710 specRsvConfig c s) (hdie : s.onDie) :
    Settles c 0 (rsvConfigured c s) (exec (.rsvConfig c) s) := by
  have heff : specRsvConfig.effect c s = (reviewSpill (rsvConfigured c s), ok 0) := rfl
  rw [reviewSpill_of_onDie (s := rsvConfigured c s) hdie] at heff
  exact settles_of_done hpass heff

theorem rsvStatus_answers {c : Cmd} {s : State} (hpass : Passes 0x0711 specRsvStatus c s) :
    Answers c (rsvStatus s + 2 ^ 32 * (chFree s 0 + chFree s 1 + chFree s 2 + chFree s 3))
      (if c.dataPtr = 0 then s else emit (.hostWrite c.fn c.dataPtr (chRecord s 0 ++ chRecord s 1 ++ chRecord s 2 ++ chRecord s 3)) s)
      (exec (.rsvStatus c) s) := by
  have hdata : chRecord s 0 ++ chRecord s 1 ++ chRecord s 2 ++ chRecord s 3 ≠ [] := by
    have hrecord : chRecord s 3 ≠ [] := by
      intro h
      have hlength := congrArg List.length h
      simp [chRecord, length_leBytes] at hlength
    simp [hrecord]
  have heff : specRsvStatus.effect c s = (s, .done {
      status := stOk, data := blockFor c (chRecord s 0 ++ chRecord s 1 ++ chRecord s 2 ++ chRecord s 3)
      result := rsvStatus s + 2 ^ 32 * (chFree s 0 + chFree s 1 + chFree s 2 + chFree s 3) }) := by
    have hresult : resultOf [(8, rsvStatus s), (12, chFree s 0 + chFree s 1 + chFree s 2 + chFree s 3)] =
        rsvStatus s + 2 ^ 32 * (chFree s 0 + chFree s 1 + chFree s 2 + chFree s 3) := by
      rw [resultOf_cons, resultOf_cons, resultOf_nil]
      omega
    rw [← hresult]
    simp only [specRsvStatus, List.map_cons, List.map_nil, List.flatten_cons, List.flatten_nil, List.append_nil, List.append_assoc,
      List.foldl_cons, List.foldl_nil, Nat.zero_add]
  exact answers_of_block hpass (by decide) heff hdata

/-! ## A line that the code corrects (R318, R319, R325) -/

/-- A bad line of a channel, its only one, that the code corrects with no device near its threshold. -/
structure MildError (s : State) (n : Nat) (e : DramError) : Prop where
  symbol : ∃ d, e.bad = [(d, 1)] ∧ (chOf s n).corrected.get [] ((2 * e.sub + e.rank) * 10 + d) = []
  only : (chOf s n).latent = [e]
  untagged : e.tag = false
  kind : e.kind ≤ 3
  unmarked : (chOf s n).failedDev.find (2 * e.sub + e.rank) = none
  threshold : 1 < s.reservoir.failThreshold
  read : patrolled s n e = true

/-- The channel once such a line has been corrected and its symbol noted. -/
def Channel.fixed (c : Channel) (e : DramError) (tick : Nat) : Channel :=
  { c with latent := [], ce := c.ce + 1
           corrected := c.corrected.put [] ((2 * e.sub + e.rank) * 10 + (e.bad.headD (0, 0)).1) [(tick, 1)] }

theorem meetAll_nil (n : Nat) (s : State) : meetAll n [] s = s := rfl

theorem noteSymbols_of_first {n sub rank d : Nat} {s : State} (hnone : (chOf s n).corrected.get [] ((2 * sub + rank) * 10 + d) = [])
    (htop : 1 < s.reservoir.failThreshold) : noteSymbols n sub rank d 1 s =
      setCh n { chOf s n with corrected := (chOf s n).corrected.put [] ((2 * sub + rank) * 10 + d) [(s.tick, 1)] } s := by
  have hsame : (setCh n { chOf s n with corrected := (chOf s n).corrected.put [] ((2 * sub + rank) * 10 + d) [(s.tick, 1)] } s).reservoir.failThreshold =
      s.reservoir.failThreshold := by rw [setCh_reservoir]
  simp only [noteSymbols, hnone, List.filter_nil, List.nil_append, List.map_nil, List.foldl_nil, hsame, Nat.zero_add]
  rw [if_neg]
  simp only [Bool.and_eq_true, decide_eq_true_eq, not_and, not_le]
  exact fun _ => htop

theorem setCh_fns (n : Nat) (c : Channel) (s : State) : (setCh n c s).fns = s.fns := by rw [setCh_rest]

theorem setCh_tick (n : Nat) (c : Channel) (s : State) : (setCh n c s).tick = s.tick := by rw [setCh_rest]

/-- Meeting such a line: it is corrected, counted and noted. -/
theorem meetError_of_mild {s : State} {n : Nat} {e : DramError} (h : MildError s n e) :
    meetError n e s = setCh n ((chOf s n).fixed e s.tick) (rsvCount 2 (setCh n { chOf s n with latent := [] } s)) := by
  obtain ⟨d, hbad, hnone⟩ := h.symbol
  have hmet : modCh n (fun c => { c with latent := c.latent.erase e }) s = setCh n { chOf s n with latent := [] } s := by
    rw [modCh_eq, h.only, List.erase_cons_head]
  have hcorrects : (correctable (chOf (setCh n { chOf s n with latent := [] } s) n) e && !e.tag && e.kind != 4) = true := by
    have hkind : e.kind ≠ 4 := by have := h.kind; omega
    have hmarks := h.unmarked
    simp [correctable, hmarks, hbad, h.untagged, hkind]
  have htold := told_rsvCount 2 (setCh n { chOf s n with latent := [] } s)
  have hch : chOf (rsvCount 2 (setCh n { chOf s n with latent := [] } s)) n = { chOf s n with latent := [] } :=
    (reservoir_of_told htold n).trans (chOf_setCh_same ..)
  have htick : (rsvCount 2 (setCh n { chOf s n with latent := [] } s)).tick = s.tick := htold.tick.trans (setCh_tick ..)
  have htop : (rsvCount 2 (setCh n { chOf s n with latent := [] } s)).reservoir.failThreshold = s.reservoir.failThreshold := by
    have hset := congrArg Reservoir.failThreshold (setCh_reservoir n { chOf s n with latent := [] } s)
    exact (congrArg Reservoir.failThreshold htold.reservoir).trans hset
  have hcounts : modCh n (fun c => { c with ce := c.ce + 1 }) (rsvCount 2 (setCh n { chOf s n with latent := [] } s)) =
      setCh n { chOf s n with latent := [], ce := (chOf s n).ce + 1 } (rsvCount 2 (setCh n { chOf s n with latent := [] } s)) := by
    rw [modCh_eq, hch]
  have hnote := noteSymbols_of_first (n := n) (sub := e.sub) (rank := e.rank) (d := d)
    (s := setCh n { chOf s n with latent := [], ce := (chOf s n).ce + 1 } (rsvCount 2 (setCh n { chOf s n with latent := [] } s)))
    (by rw [chOf_setCh_same]; exact hnone) (by rw [setCh_reservoir]; exact lt_of_lt_of_eq h.threshold htop.symm)
  unfold meetError
  simp only [hmet, hcorrects, if_true, hcounts, hbad, List.foldl_cons, List.foldl_nil, Nat.one_ne_zero, if_false, hnote]
  rw [setCh_setCh, setCh_tick, htick, chOf_setCh_same, Channel.fixed, hbad]
  rfl

theorem meetAll_of_mild {s : State} {n : Nat} {e : DramError} (h : MildError s n e) :
    Told (State.plus 0x7110 1 (setCh n ((chOf s n).fixed e s.tick) s)) (meetAll n [e] s) ∧
      PairsKept (State.plus 0x7110 1 (setCh n ((chOf s n).fixed e s.tick) s)) (meetAll n [e] s) := by
  have heq : meetAll n [e] s = setCh n ((chOf s n).fixed e s.tick) (rsvCount 2 (setCh n { chOf s n with latent := [] } s)) := by
    rw [← meetError_of_mild h, meetAll, List.foldl_cons, List.foldl_nil, if_pos (by rw [h.only]; simp)]
  have hbase : State.plus 0x7110 1 (setCh n ((chOf s n).fixed e s.tick) s) =
      setCh n ((chOf s n).fixed e s.tick) (State.plus 0x7110 1 (setCh n { chOf s n with latent := [] } s)) := by
    rw [State.plus_setCh, State.plus_setCh, setCh_setCh]
  rw [heq, hbase]
  refine ⟨(told_rsvCount 2 _).setCh n _, ?_⟩
  exact (PairsKept.of_fns (setCh_fns ..).symm).trans ((pairsKept_countBy ..).trans (.of_fns (setCh_fns ..)))

/-! ## Scrub and patrol (R331, R334) -/

theorem patrol_of_clean {s : State} {n : Nat} (h : (chOf s n).latent = []) (p : Option Nat → Bool) : patrol n p s = s := by
  unfold patrol
  rw [h, List.filter_nil, meetAll_nil, ite_self]

theorem patrol_of_mild {s : State} {n : Nat} {e : DramError} (h : MildError s n e) (honline : (chOf s n).state = .online)
    (hfatal : s.reservoir.fatal = false) {p : Option Nat → Bool} (hin : p (errorFrame (chOf s n) e) = true) :
    patrol n p s = meetAll n [e] s := by
  unfold patrol
  rw [if_pos ⟨honline, hfatal⟩, h.only, List.filter_cons_of_pos (by rw [h.read, hin]; rfl), List.filter_nil]

/-- Whether a scrub reads a frame. -/
def scrubbed (lo frames : Nat) (f : Option Nat) : Bool := match f with | some f => decide (lo ≤ f) && decide (f < lo + frames) | none => false

theorem specRsvScrub_effect {c : Cmd} {s : State} {n lo frames : Nat} (hn : n = c.get ⟨8, 0, 2⟩) (hlo : lo = c.get ⟨12, 0, 25⟩)
    (hframes : frames = if c.get ⟨16, 0, 25⟩ = 0 then chFrames (chOf s n) - lo else c.get ⟨16, 0, 25⟩) :
    specRsvScrub.effect c s = (patrol n (scrubbed lo frames) s, ok (frames +
      2 ^ 32 * min 0xffff ((chOf (patrol n (scrubbed lo frames) s) n).ce - (chOf s n).ce) +
      2 ^ 48 * min 0xffff ((chOf (patrol n (scrubbed lo frames) s) n).ue - (chOf s n).ue))) := by
  subst hn hlo hframes
  have hresult (a b d : Nat) : resultOf [(8, a), (12, b), (14, d)] = a + 2 ^ 32 * b + 2 ^ 48 * d := by
    rw [resultOf_cons, resultOf_cons, resultOf_cons, resultOf_nil]
    omega
  simp only [specRsvScrub, hresult]
  rfl

theorem rsvScrub_of_clean {c : Cmd} {s : State} {n lo frames : Nat} (hpass : Passes 0x0712 specRsvScrub c s) (hn : n = c.get ⟨8, 0, 2⟩)
    (hlo : lo = c.get ⟨12, 0, 25⟩) (hframes : frames = if c.get ⟨16, 0, 25⟩ = 0 then chFrames (chOf s n) - lo else c.get ⟨16, 0, 25⟩)
    (hclean : (chOf s n).latent = []) : Answers c frames s (exec (.rsvScrub c) s) := by
  have heff := specRsvScrub_effect hn hlo hframes
  rw [patrol_of_clean hclean, Nat.sub_self, Nat.sub_self] at heff
  exact answers_of_done hpass (by decide) heff

theorem rsvScrub_of_mild {c : Cmd} {s : State} {n lo frames f : Nat} {e : DramError} (hpass : Passes 0x0712 specRsvScrub c s)
    (hn : n = c.get ⟨8, 0, 2⟩) (hlo : lo = c.get ⟨12, 0, 25⟩)
    (hframes : frames = if c.get ⟨16, 0, 25⟩ = 0 then chFrames (chOf s n) - lo else c.get ⟨16, 0, 25⟩) (hmild : MildError s n e)
    (hframe : errorFrame (chOf s n) e = some f) (hfrom : lo ≤ f) (hto : f < lo + frames) :
    Answers c (frames + 2 ^ 32) (State.plus 0x7110 1 (setCh n ((chOf s n).fixed e s.tick) s)) (exec (.rsvScrub c) s) := by
  have hstate := hpass.clear.state
  simp only [specRsvScrub, ← hn, Bool.or_eq_false_iff, bne_eq_false_iff_eq] at hstate
  have hin : scrubbed lo frames (errorFrame (chOf s n) e) = true := by
    rw [hframe]
    simp [scrubbed, hfrom, hto]
  have heff := specRsvScrub_effect hn hlo hframes
  obtain ⟨htold, hpairs⟩ := meetAll_of_mild hmild
  have hch : chOf (meetAll n [e] s) n = (chOf s n).fixed e s.tick := by
    rw [reservoir_of_told htold n]
    exact chOf_setCh_same ..
  rw [patrol_of_mild hmild hstate.2 hstate.1 hin, hch] at heff
  have hcount : frames + 2 ^ 32 * min 0xffff (((chOf s n).fixed e s.tick).ce - (chOf s n).ce) +
      2 ^ 48 * min 0xffff (((chOf s n).fixed e s.tick).ue - (chOf s n).ue) = frames + 2 ^ 32 := by
    have hce : ((chOf s n).fixed e s.tick).ce = (chOf s n).ce + 1 := rfl
    have hue : ((chOf s n).fixed e s.tick).ue = (chOf s n).ue := rfl
    rw [hce, hue]
    omega
  rw [hcount] at heff
  obtain ⟨t, hexec, hanswered⟩ := answers_of_done hpass (by decide) heff
  exact ⟨t, hexec, hanswered.of_told htold hpairs⟩

/-- The patrol of several channels. -/
def patrols (l : List Nat) (s : State) : State := l.foldl (fun s n => patrol n (fun _ => true) s) s

theorem patrols_of_clean {l : List Nat} {s : State} (h : ∀ m ∈ l, (chOf s m).latent = []) : patrols l s = s := by
  induction l with
  | nil => rfl
  | cons m l ih =>
    rw [patrols, List.foldl_cons, patrol_of_clean (h m List.mem_cons_self)]
    exact ih fun k hk => h k (List.mem_cons_of_mem _ hk)

section
variable {s : State} (hlive : s.live = true) (hup : s.watchdog.hk.up = true) (hperiod : regField s 0x7004 0 8 ≠ 0)
include hlive hup hperiod

theorem execRsvPatrol_of_live : exec (.rsvPatrol []) s = .next (patrols [0, 1, 2, 3] s) := by
  refine (act_of_live hlive _).trans (congrArg _ ?_)
  rw [if_pos (by simp [hkUp, hup, hperiod])]
  rfl

theorem rsvPatrol_of_clean (hclean : ∀ n, n < 4 → (chOf s n).latent = []) : exec (.rsvPatrol []) s = .next s := by
  rw [execRsvPatrol_of_live hlive hup hperiod, patrols_of_clean]
  simp only [List.mem_cons, List.not_mem_nil, or_false]
  exact fun m hm => hclean m (by omega)

theorem rsvPatrol_of_mild {n : Nat} {e : DramError} (hn : n < 4) (hfatal : s.reservoir.fatal = false)
    (honline : (chOf s n).state = .online) (hmild : MildError s n e) (hclean : ∀ m, m < 4 → m ≠ n → (chOf s m).latent = []) :
    Gives (exec (.rsvPatrol []) s) (Told (State.plus 0x7110 1 (setCh n ((chOf s n).fixed e s.tick) s))) := by
  obtain ⟨before, after, hlist, hothers⟩ : ∃ before after : List Nat, [0, 1, 2, 3] = before ++ n :: after ∧
      ∀ m ∈ before ++ after, m < 4 ∧ m ≠ n := by
    interval_cases n
    · exact ⟨[], [1, 2, 3], rfl, by decide⟩
    · exact ⟨[0], [2, 3], rfl, by decide⟩
    · exact ⟨[0, 1], [3], rfl, by decide⟩
    · exact ⟨[0, 1, 2], [], rfl, by decide⟩
  obtain ⟨htold, -⟩ := meetAll_of_mild hmild
  have hfirst : patrols before s = s :=
    patrols_of_clean fun m hm => let ⟨h4, hne⟩ := hothers m (List.mem_append_left _ hm); hclean m h4 hne
  have hlast : patrols after (meetAll n [e] s) = meetAll n [e] s := by
    refine patrols_of_clean fun m hm => ?_
    obtain ⟨h4, hne⟩ := hothers m (List.mem_append_right _ hm)
    have hsame : chOf (State.plus 0x7110 1 (setCh n ((chOf s n).fixed e s.tick) s)) m = chOf s m := chOf_setCh_ne hne h4 hn ..
    rw [reservoir_of_told htold m, hsame]
    exact hclean m h4 hne
  have heq : patrols [0, 1, 2, 3] s = meetAll n [e] s := by
    rw [hlist, patrols, List.foldl_append, List.foldl_cons]
    change patrols after (patrol n (fun _ => true) (patrols before s)) = _
    rw [hfirst, patrol_of_mild hmild honline hfatal rfl, hlast]
  exact ⟨_, execRsvPatrol_of_live hlive hup hperiod, heq ▸ htold⟩

end

end Sys2Proof.Machine
end

section
/-!
PROOFS. Pages written and read back, and rests (10_reservoir).
-/
namespace Sys2Proof.Machine

open Sys2Proof

/-! ## A page that has been written (R314) -/

/-- The pages of a leaf in a channel that are written and not yet confirmed. -/
def writingOf (s : State) (leaf n : Nat) : List Page := ((chOf s n).pages.filter (fun p => p.queue == leaf)).filter (·.writing)

theorem pagesOf_writing (s : State) (leaf : Nat) : (pagesOf s leaf).filter (·.writing) =
    writingOf s leaf 0 ++ writingOf s leaf 1 ++ writingOf s leaf 2 ++ writingOf s leaf 3 := by
  simp only [pagesOf, channels, List.map_cons, List.map_nil, List.flatten_cons, List.flatten_nil, List.append_nil, List.filter_append,
    writingOf, chOf, List.append_assoc]

theorem mem_writingOf {s : State} {leaf n : Nat} {p : Page} : p ∈ writingOf s leaf n ↔ p ∈ (chOf s n).pages ∧ p.queue = leaf ∧ p.writing = true := by
  simp only [writingOf, List.mem_filter, beq_iff_eq, and_assoc]

/-- Where one page of a leaf is being written, its channel is the only one with such a page. -/
theorem writingOf_of_one {s : State} {leaf n : Nat} {p : Page} (hn : n < 4) (hone : (pagesOf s leaf).filter (·.writing) = [p])
    (hmem : p ∈ writingOf s leaf n) : ∀ m, m < 4 → writingOf s leaf m = if m = n then [p] else [] := by
  rw [pagesOf_writing] at hone
  have hlength := congrArg List.length hone
  simp only [List.length_append, List.length_singleton] at hlength
  have hpos : 0 < (writingOf s leaf n).length := List.length_pos_of_mem hmem
  have hnone (m : Nat) (hm : m < 4) (hne : m ≠ n) : writingOf s leaf m = [] := by
    rw [← List.length_eq_zero_iff]
    interval_cases n <;> interval_cases m <;> omega
  have hsome : writingOf s leaf n = [p] := by
    interval_cases n <;> simpa [hnone] using hone
  intro m hm
  split_ifs with h
  · rw [h, hsome]
  · exact hnone m hm h

/-- The only channel with a property is the first with it. -/
theorem find_channel {n : Nat} (hn : n < 4) {p : Nat → Bool} (hthis : p n = true) (hother : ∀ m, m < 4 → m ≠ n → p m = false) :
    [0, 1, 2, 3].find? p = some n := by
  interval_cases n <;> simp [hthis, hother]

/-- Whether a page is the one of a leaf that has been written under a number. -/
def isWritten (leaf seq : Nat) (p : Page) : Bool := p.queue == leaf && p.pageSeq == seq && p.writing

theorem isWritten_iff {leaf seq : Nat} {p : Page} : isWritten leaf seq p = true ↔ p.queue = leaf ∧ p.pageSeq = seq ∧ p.writing = true := by
  simp only [isWritten, Bool.and_eq_true, beq_iff_eq, and_assoc]

/-- The state once a page has been confirmed. -/
def pageConfirmed (n : Nat) (p : Page) (s : State) : State :=
  setCh n { chOf s n with pages := (chOf s n).pages.map (fun q => if q = p then { q with writing := false } else q) } s

theorem sameQueues_rsvCountBy (i n : Nat) (s : State) : SameQueues s (rsvCountBy i n s) := by
  obtain ⟨hsched, hfabric, hreservoir⟩ := SameQueues.of_told (told_rsvCountBy i n s)
  exact ⟨hsched, hfabric, hreservoir⟩

/-- The cells of the frames that end in pages written are free, but for those that the staging tail or a page in writing holds. -/
def framesFreed (leaf : Nat) (fids : List Nat) (s : State) : State :=
  let staging := match leafOf s leaf with | some l => l.staging | none => []
  let pending := ((pagesOf s leaf).filter (·.writing)).map (·.fids) |>.flatten
  fids.foldl (fun s f => if staging.contains f || pending.contains f then s else freeWords f s) s

theorem pageWritten_cases (leaf seq : Nat) (s : State) : pageWritten leaf seq s =
    match [0, 1, 2, 3].find? (fun n => (chOf s n).state == .online && (chOf s n).pages.any (isWritten leaf seq)) with
    | none => s
    | some n => requestPages leaf 4 (framesFreed leaf (framesIn s n (isWritten leaf seq)) (rsvCount 0 (modCh n (fun c => { c with
        pages := c.pages.map (fun q => if isWritten leaf seq q then { q with writing := false } else q) }) s))) := rfl

/-- The cells of a frame that the page ends are free, unless the staging tail still holds the frame (09 R285). -/
def wordsFreed (staged : Bool) (f : Nat) (s : State) : State := if staged then s else freeWords f s

theorem OfQueues.wordsFreed (staged : Bool) (f : Nat) : OfQueues (wordsFreed staged f) := by
  unfold Machine.wordsFreed
  split_ifs
  · exact .id
  · exact .freeWords f

section
variable {s : State} {leaf n f : Nat} {p : Page} {v : Frame} {l : Leaf} (hn : n < 4) (honline : (chOf s n).state = .online)
  (hleaf : leafOf s leaf = some l) (hparts : p.parts.map (·.1) = [f]) (hwriting : p.writing = true) (hqueue : p.queue = leaf)
  (hone : (pagesOf s leaf).filter (·.writing) = [p]) (hmem : p ∈ (chOf s n).pages) (hframe : frameOf s f = some v)
include hn hwriting hqueue hone hmem

/-- Of the pages of a channel only that one is the page written. -/
theorem isWritten_of_mem {m : Nat} (hm : m < 4) {q : Page} (hq : q ∈ (chOf s m).pages) (his : isWritten leaf p.pageSeq q = true) :
    m = n ∧ q = p := by
  obtain ⟨hqueue', -, hwriting'⟩ := isWritten_iff.mp his
  have hall := writingOf_of_one hn hone (mem_writingOf.mpr ⟨hmem, hqueue, hwriting⟩) m hm
  have hqm : q ∈ writingOf s leaf m := mem_writingOf.mpr ⟨hq, hqueue', hwriting'⟩
  rw [hall] at hqm
  split_ifs at hqm with h
  · exact ⟨h, List.mem_singleton.mp hqm⟩
  · exact absurd hqm List.not_mem_nil

omit hn hone hmem in
theorem isWritten_self : isWritten leaf p.pageSeq p = true := isWritten_iff.mpr ⟨hqueue, rfl, hwriting⟩

include honline in
theorem find_writtenChannel : [0, 1, 2, 3].find? (fun n => (chOf s n).state == .online && (chOf s n).pages.any (isWritten leaf p.pageSeq)) =
    some n := by
  have hthis : ((chOf s n).state == .online && (chOf s n).pages.any (isWritten leaf p.pageSeq)) = true := by
    simp only [honline, beq_self_eq_true, Bool.true_and]
    exact List.any_eq_true.mpr ⟨p, hmem, isWritten_self hwriting hqueue⟩
  have hother (m : Nat) (hm : m < 4) (hne : m ≠ n) : ((chOf s m).state == .online && (chOf s m).pages.any (isWritten leaf p.pageSeq)) = false := by
    rw [Bool.and_eq_false_iff]
    right
    rw [List.any_eq_false]
    exact fun q hq his => hne (isWritten_of_mem hn hwriting hqueue hone hmem hm hq his).1
  exact find_channel hn hthis hother

theorem confirm_eq : modCh n (fun c => { c with
      pages := c.pages.map (fun q => if isWritten leaf p.pageSeq q then { q with writing := false } else q) }) s = pageConfirmed n p s := by
  have hpages : (chOf s n).pages.map (fun q => if isWritten leaf p.pageSeq q then { q with writing := false } else q) =
      (chOf s n).pages.map (fun q => if q = p then { q with writing := false } else q) := by
    refine List.map_congr_left fun q hq => ?_
    by_cases his : isWritten leaf p.pageSeq q = true
    · rw [if_pos his, if_pos (isWritten_of_mem hn hwriting hqueue hone hmem hn hq his).2]
    · rw [if_neg his, if_neg fun h => his (by rw [h]; exact isWritten_self hwriting hqueue)]
  rw [modCh_eq, pageConfirmed, hpages]

include hparts hframe in
theorem framesIn_written : framesIn s n (isWritten leaf p.pageSeq) = [f] := by
  have hall := writingOf_of_one hn hone (mem_writingOf.mpr ⟨hmem, hqueue, hwriting⟩) n hn
  have hsplit : (chOf s n).pages.filter (isWritten leaf p.pageSeq) = (writingOf s leaf n).filter (fun q => q.pageSeq == p.pageSeq) := by
    rw [writingOf, List.filter_filter, List.filter_filter]
    refine List.filter_congr fun q _ => ?_
    rw [isWritten]
    cases q.queue == leaf <;> cases q.pageSeq == p.pageSeq <;> cases q.writing <;> rfl
  have hfids : p.fids = [f] := hparts
  rw [framesIn, hsplit, hall, if_pos rfl]
  simp [hfids, hframe, List.eraseDups_cons]

/-- Once it has been confirmed no page of the leaf is being written. -/
theorem writing_confirmed : (pagesOf (pageConfirmed n p s) leaf).filter (·.writing) = [] := by
  have hnone (m : Nat) (hm : m < 4) : writingOf (pageConfirmed n p s) leaf m = [] := by
    rw [List.eq_nil_iff_forall_not_mem]
    intro q hq
    obtain ⟨hqm, hqueue', hwriting'⟩ := mem_writingOf.mp hq
    by_cases hmn : m = n
    · subst hmn
      rw [pageConfirmed, chOf_setCh_same] at hqm
      obtain ⟨x, hx, rfl⟩ := List.mem_map.mp hqm
      by_cases hxp : x = p
      · rw [if_pos hxp] at hwriting'
        exact absurd hwriting' Bool.false_ne_true
      · rw [if_neg hxp] at hqueue' hwriting'
        have hxw : x ∈ writingOf s leaf m := mem_writingOf.mpr ⟨hx, hqueue', hwriting'⟩
        rw [writingOf_of_one hn hone (mem_writingOf.mpr ⟨hmem, hqueue, hwriting⟩) m hm, if_pos rfl] at hxw
        exact hxp (List.mem_singleton.mp hxw)
    · rw [pageConfirmed, chOf_setCh_ne hmn hm hn] at hqm
      have hqw : q ∈ writingOf s leaf m := mem_writingOf.mpr ⟨hqm, hqueue', hwriting'⟩
      rw [writingOf_of_one hn hone (mem_writingOf.mpr ⟨hmem, hqueue, hwriting⟩) m hm, if_neg hmn] at hqw
      exact absurd hqw List.not_mem_nil
  rw [pagesOf_writing, hnone 0 (by decide), hnone 1 (by decide), hnone 2 (by decide), hnone 3 (by decide)]
  rfl

include honline hleaf hparts hframe in
theorem pageWritten_eq : pageWritten leaf p.pageSeq s =
    requestPages leaf 4 (wordsFreed (l.staging.contains f) f (rsvCount 0 (pageConfirmed n p s))) := by
  have hsame : SameQueues (pageConfirmed n p s) (rsvCount 0 (pageConfirmed n p s)) := sameQueues_rsvCountBy 0 1 _
  have hpending : ((pagesOf (rsvCount 0 (pageConfirmed n p s)) leaf).filter (·.writing)) = [] := by
    rw [hsame.pagesOf]
    exact writing_confirmed hn hwriting hqueue hone hmem
  have hleaf' : leafOf (rsvCount 0 (pageConfirmed n p s)) leaf = some l := by
    have hset : leafOf (pageConfirmed n p s) leaf = leafOf s leaf := by rw [pageConfirmed, setCh_rest]; rfl
    rw [hsame.leafOf, hset, hleaf]
  have hfind := find_writtenChannel hn honline hwriting hqueue hone hmem
  have hfreed : framesFreed leaf [f] (rsvCount 0 (pageConfirmed n p s)) =
      wordsFreed (l.staging.contains f) f (rsvCount 0 (pageConfirmed n p s)) := by
    simp only [framesFreed, hleaf', hpending, List.map_nil, List.flatten_nil, List.foldl_cons, List.foldl_nil, List.contains_nil,
      Bool.or_false, wordsFreed]
  rw [pageWritten_cases, hfind]
  dsimp only
  rw [framesIn_written hn hparts hwriting hqueue hone hmem hframe, confirm_eq hn hwriting hqueue hone hmem, hfreed]

end

theorem pageWriteComplete {s : State} (hlive : s.live = true) {leaf n f : Nat} {p : Page} {v : Frame} {l : Leaf} (hn : n < 4)
    (honline : (chOf s n).state = .online) (hleaf : leafOf s leaf = some l) (hparts : p.parts.map (·.1) = [f]) (hwriting : p.writing = true)
    (hqueue : p.queue = leaf) (hone : (pagesOf s leaf).filter (·.writing) = [p]) (hmem : p ∈ (chOf s n).pages) (hframe : frameOf s f = some v) :
    Gives (exec (.pageWriteComplete leaf p.pageSeq) s)
      (Told (State.plus 0x7100 1 (requestPages leaf 4 (wordsFreed (l.staging.contains f) f (pageConfirmed n p s))))) := by
  have hwork : OfQueues fun x => requestPages leaf 4 (wordsFreed (l.staging.contains f) f x) := (OfQueues.requestPages ..).comp (.wordsFreed ..)
  refine ⟨_, act_of_live hlive _, ?_⟩
  rw [pageWritten_eq hn honline hleaf hparts hwriting hqueue hone hmem hframe, ← hwork.plus]
  exact hwork.told (told_rsvCount 0 _)

/-! ## A page that has been read back (R314, R350) -/

/-- The older of two pages, as a fold keeps it. -/
def olderPage (best : Option (Nat × Page)) (p : Nat × Page) : Option (Nat × Page) :=
  match best with
  | none => some p
  | some b => if p.2.pageSeq < b.2.pageSeq then some p else best

theorem mem_of_foldl_olderPage {l : List (Nat × Page)} {best : Option (Nat × Page)} {x : Nat × Page} (h : l.foldl olderPage best = some x) :
    best = some x ∨ x ∈ l := by
  induction l generalizing best with
  | nil => exact .inl h
  | cons y l ih =>
    rw [List.foldl_cons] at h
    rcases ih h with hbest | hmem
    · cases best with
      | none => exact .inr (by rw [← Option.some.inj hbest]; exact List.mem_cons_self)
      | some b =>
        simp only [olderPage] at hbest
        split_ifs at hbest
        · exact .inr (by rw [← Option.some.inj hbest]; exact List.mem_cons_self)
        · exact .inl hbest
    · exact .inr (List.mem_cons_of_mem _ hmem)

/-- The pages of a leaf in a channel that have been requested. -/
def readingOf (s : State) (leaf n : Nat) : List (Nat × Page) := ((chOf s n).pages.filter (fun p => p.queue == leaf && p.reading)).map (fun p => (n, p))

theorem requestedPage_eq (s : State) (leaf : Nat) :
    requestedPage s leaf = ([0, 1, 2, 3].map (readingOf s leaf)).flatten.foldl olderPage none := rfl

theorem mem_of_requestedPage {s : State} {leaf n : Nat} {p : Page} (h : requestedPage s leaf = some (n, p)) : p ∈ (chOf s n).pages := by
  rw [requestedPage_eq] at h
  have hmem := (mem_of_foldl_olderPage h).resolve_left (by simp)
  obtain ⟨l, hl, hnp⟩ := List.mem_flatten.mp hmem
  obtain ⟨m, -, rfl⟩ := List.mem_map.mp hl
  obtain ⟨q, hq, heq⟩ := List.mem_map.mp hnp
  obtain ⟨rfl, rfl⟩ := Prod.mk.inj heq
  exact (List.mem_filter.mp hq).1

theorem pathErrors_of_clean {c : Channel} (h : c.latent = []) (place : Nat) : pathErrors c place = [] ∧ dataErrors c place = [] := by
  simp [pathErrors, dataErrors, h]

/-- The state once a page's place is free. -/
def pageErased (n : Nat) (p : Page) (s : State) : State := setCh n { chOf s n with pages := (chOf s n).pages.erase p } s

/-- The frame that ends in the page joins the leaf, which settles and requests what it may. -/
def frameJoined (leaf f words : Nat) (l : Leaf) (s : State) : State :=
  settleLeaf leaf (requestPages leaf 4 (setLeaf leaf { l with onDie := l.onDie ++ [f] }
    (holdWords f words (modFrame f (fun v => { v with spilled := false }) s))))

theorem OfQueues.frameJoined (leaf f words : Nat) (l : Leaf) : OfQueues (frameJoined leaf f words l) :=
  (OfQueues.settleLeaf leaf).comp ((OfQueues.requestPages leaf 4).comp ((OfQueues.setLeaf ..).comp
    ((OfQueues.holdWords ..).comp (.modFrame ..))))

theorem modLeaf_of_some {s : State} {leaf : Nat} {l : Leaf} (h : leafOf s leaf = some l) (g : Leaf → Leaf) :
    modLeaf leaf g s = setLeaf leaf (g l) s := by
  have hfind : s.sched.leaves.find leaf = some l := h
  rw [modLeaf, setLeaf, Table.modify, hfind]

theorem setCh_sched (n : Nat) (c : Channel) (s : State) : (setCh n c s).sched = s.sched := by rw [setCh_rest]

theorem setCh_fabric (n : Nat) (c : Channel) (s : State) : (setCh n c s).fabric = s.fabric := by rw [setCh_rest]

theorem storedLength_of_fabric {s t : State} (h : t.fabric = s.fabric) (v : Frame) : storedLength t v = storedLength s v := by
  simp only [storedLength, rawLength, frameOf_of_fabric h]

theorem joinPage_of_one {s : State} {leaf f : Nat} {p : Page} {v : Frame} {l : Leaf} (hleaf : leafOf s leaf = some l)
    (hstaging : l.staging.contains f = false) (hparts : p.parts.map (·.1) = [f]) (hframe : frameOf s f = some v)
    (hlast : (pagesOf s leaf).all (fun q => !(q.parts.map (·.1)).contains f) = true) :
    settleLeaf leaf (requestPages leaf 4 (joinPage leaf p s)) = frameJoined leaf f (ceilDiv (storedLength s v) 64) l s := by
  have hfids : p.fids = [f] := hparts
  have hlater : (((pagesOf s leaf).map (·.fids)).flatten).contains f = false := by
    simp only [List.all_eq_true, Bool.not_eq_true', List.contains_eq_mem, decide_eq_false_iff_not] at hlast
    simp only [List.contains_eq_mem, decide_eq_false_iff_not, List.mem_flatten, List.mem_map, not_exists, not_and]
    rintro _ ⟨q, hq, rfl⟩
    exact hlast q hq
  have hleaf' : leafOf (holdWords f (ceilDiv (storedLength s v) 64) (modFrame f (fun v => { v with spilled := false }) s)) leaf = some l := by
    have hsched : (holdWords f (ceilDiv (storedLength s v) 64) (modFrame f (fun v => { v with spilled := false }) s)).sched = s.sched := by
      unfold holdWords
      split
      · rfl
      · unfold setClassWords
        split <;> rfl
    rw [leafOf, hsched]
    exact hleaf
  have hjoin : joinPage leaf p s = setLeaf leaf { l with onDie := l.onDie ++ [f] }
      (holdWords f (ceilDiv (storedLength s v) 64) (modFrame f (fun v => { v with spilled := false }) s)) := by
    rw [← modLeaf_of_some hleaf' fun l => { l with onDie := l.onDie ++ [f] }]
    simp only [joinPage, hfids, hleaf, List.foldl_cons, List.foldl_nil, hframe, hlater, hstaging, Bool.or_self, Bool.false_eq_true, if_false]
  rw [hjoin, frameJoined]

theorem pageReadComplete {s : State} (hlive : s.live = true) {leaf n f misses : Nat} {p : Page} {v : Frame} {l : Leaf}
    (hrequested : requestedPage s leaf = some (n, p)) (honline : (chOf s n).state = .online) (hclean : (chOf s n).latent = [])
    (hleaf : leafOf s leaf = some l) (hstaging : l.staging.contains f = false) (hparts : p.parts.map (·.1) = [f]) (hframe : frameOf s f = some v)
    (hlast : (pagesOf (pageErased n p s) leaf).all (fun q => !(q.parts.map (·.1)).contains f) = true) :
    Gives (exec (.pageReadComplete leaf misses []) s) (Told (State.plus 0x7108 1 (State.plus 0x7150 misses
      (frameJoined leaf f (ceilDiv (storedLength s v) 64) l (pageErased n p s))))) := by
  have htold : Told (State.plus 0x7108 1 (State.plus 0x7150 misses (pageErased n p s))) (rsvCount 1 (pageErased n p (rsvCountBy 10 misses s))) := by
    have hfirst := told_rsvCountBy 10 misses s
    have hch : chOf (rsvCountBy 10 misses s) n = chOf s n := reservoir_of_told hfirst n
    have herase : Told (State.plus 0x7150 misses (pageErased n p s)) (pageErased n p (rsvCountBy 10 misses s)) := by
      rw [pageErased, pageErased, State.plus_setCh, hch]
      exact hfirst.setCh n _
    exact herase.countBy (off := 0x7100 + 8 * 1) (by decide) 1
  have hsame : SameQueues (pageErased n p s) (rsvCount 1 (pageErased n p (rsvCountBy 10 misses s))) :=
    ⟨htold.sched, htold.fabric, htold.reservoir⟩
  have hfabric : (pageErased n p s).fabric = s.fabric := setCh_fabric ..
  have hleaf' : leafOf (pageErased n p s) leaf = leafOf s leaf := by rw [leafOf, leafOf, pageErased, setCh_sched]
  have hframe' : frameOf (pageErased n p s) f = frameOf s f := frameOf_of_fabric hfabric f
  have hlength : storedLength (pageErased n p s) v = storedLength s v := storedLength_of_fabric hfabric v
  have heq : pageRead leaf misses [] s =
      settleLeaf leaf (requestPages leaf 4 (joinPage leaf p (rsvCount 1 (pageErased n p (rsvCountBy 10 misses s))))) := by
    have hch : chOf (rsvCountBy 10 misses s) n = chOf s n := (sameQueues_rsvCountBy 10 misses s).chOf n
    obtain ⟨hpath, hdata⟩ := pathErrors_of_clean (c := chOf s n) hclean p.place
    have hmem : (chOf s n).pages.contains p = true := List.contains_iff_mem.mpr (mem_of_requestedPage hrequested)
    simp only [pageRead, hrequested, honline, ne_eq, not_true_eq_false, if_false, applyUpsets, List.foldl_nil, hch, hpath, hdata,
      List.append_nil, meetAll_nil, hmem, Bool.not_true, Bool.false_eq_true, modCh_eq, pageErased]
  have hjoin := joinPage_of_one (s := rsvCount 1 (pageErased n p (rsvCountBy 10 misses s))) (p := p) (v := v)
    (by rw [hsame.leafOf, hleaf', hleaf]) hstaging hparts (by rw [hsame.frameOf, hframe', hframe]) (by rw [hsame.pagesOf]; exact hlast)
  rw [hsame.storedLength, hlength] at hjoin
  have hwork := OfQueues.frameJoined leaf f (ceilDiv (storedLength s v) 64) l
  refine ⟨_, act_of_live hlive _, ?_⟩
  rw [heq, hjoin, ← hwork.plus, ← hwork.plus]
  exact hwork.told htold

/-! ## Rests (R323) -/

theorem execRsvLapRestEnd_of_live {s : State} (hlive : s.live = true) {n : Nat} (hn : n < 4) :
    exec (.rsvLapRestEnd n) s = .next (if (chOf s n).resting then setCh n { chOf s n with
      pointer := if holdsStats s n then 16384 else 0, laps := (chOf s n).laps + 1, lapTick := s.tick, resting := false } s else s) := by
  refine (act_of_live hlive _).trans (congrArg _ ?_)
  simp only [hn, true_and]
  rfl

end Sys2Proof.Machine
end

section
/-!
PROOFS. Counter blocks and lines written, spill pages and statistics sweeps (10_reservoir).
-/
namespace Sys2Proof.Machine

open Sys2Proof

/-! ## Counter blocks (R320, R321) -/

/-- A channel with a counter block written. -/
def Channel.withBlock (c : Channel) (level idx : Nat) (b : CounterBlock) : Channel :=
  { c with blocks := c.blocks.set (counterKey level idx) b, highMajor := max c.highMajor b.major }

theorem setBlock_eq (n level idx : Nat) (b : CounterBlock) (s : State) : setBlock n level idx b s = setCh n ((chOf s n).withBlock level idx b) s := rfl

theorem blockOf_withBlock_same (c : Channel) (level idx : Nat) (b : CounterBlock) : blockOf (c.withBlock level idx b) level idx = b := by
  simp [blockOf, Channel.withBlock, Table.get]

theorem blockOf_withBlock_ne {level idx level' idx' : Nat} (h : counterKey level' idx' ≠ counterKey level idx) (c : Channel) (b : CounterBlock) :
    blockOf (c.withBlock level idx b) level' idx' = blockOf c level' idx' := by
  simp only [blockOf, Channel.withBlock, Table.get, Table.find_set_ne h]

/-- Blocks of two places are two blocks, for all indices that a channel has. -/
theorem counterKey_ne {level idx level' idx' : Nat} (hidx : idx < 2 ^ 25) (hidx' : idx' < 2 ^ 25) (h : level' ≠ level ∨ idx' ≠ idx) :
    counterKey level' idx' ≠ counterKey level idx := by
  unfold counterKey
  omega

/-- A counter block once lines under it have been written. -/
def CounterBlock.lined (b : CounterBlock) (writes : List Nat) : CounterBlock :=
  if writes.any (fun i => b.minors.get 0 i == 127) then { major := b.major + 1 }
  else { b with minors := writes.foldl (fun t i => t.put 0 i (t.get 0 i + 1)) b.minors }

/-- Whether lines can be written under a block: it is in no quarantine, and where a minor is at its end its major is not. -/
structure CounterBlock.Takes (b : CounterBlock) (writes : List Nat) : Prop where
  sound : b.quarantine = none
  room : writes.any (fun i => b.minors.get 0 i == 127) = true → b.major + 1 < 2 ^ 56

/-- A block in no quarantine whose major is not at its end. -/
structure CounterBlock.Ready (b : CounterBlock) : Prop where
  sound : b.quarantine = none
  room : b.major + 1 < 2 ^ 56

theorem CounterBlock.Ready.takes {b : CounterBlock} (h : b.Ready) (writes : List Nat) : b.Takes writes := ⟨h.sound, fun _ => h.room⟩

/-- A channel with lines written under a block. -/
def Channel.lined (c : Channel) (level idx : Nat) (writes : List Nat) : Channel := c.withBlock level idx ((blockOf c level idx).lined writes)

theorem blockOf_lined_same (c : Channel) (level idx : Nat) (writes : List Nat) :
    blockOf (c.lined level idx writes) level idx = (blockOf c level idx).lined writes := blockOf_withBlock_same ..

theorem blockOf_lined_ne {level idx level' idx' : Nat} (h : counterKey level' idx' ≠ counterKey level idx) (c : Channel) (writes : List Nat) :
    blockOf (c.lined level idx writes) level' idx' = blockOf c level' idx' := blockOf_withBlock_ne h ..

/-- From `s` to `t` nothing has changed but counter blocks of a channel, the counter of their majors, and what counting changes. -/
structure BlocksWritten (n : Nat) (s t : State) : Prop where
  told : Told { s with reservoir := t.reservoir, counters := t.counters } t
  reservoir : t.reservoir = (setCh n (chOf t n) s).reservoir
  channel : chOf t n = { chOf s n with blocks := (chOf t n).blocks, highMajor := (chOf t n).highMajor }
  counters : ∀ off, off ≠ 0x7158 → off ≠ 0xd138 → counter t off = counter s off

theorem BlocksWritten.refl (n : Nat) (s : State) : BlocksWritten n s s := ⟨.refl s, by rw [setCh_chOf], rfl, fun _ _ _ => rfl⟩

theorem setCh_of_reservoir {s t : State} (h : t.reservoir = s.reservoir) (n : Nat) (c : Channel) : (setCh n c t).reservoir = (setCh n c s).reservoir := by
  unfold setCh
  split <;> simp only [h]

theorem Told.withReservoir {s t : State} (h : Told s t) (x : Reservoir) (k : Table Quad) :
    Told { s with reservoir := x, counters := k } { t with reservoir := x, counters := k } := by
  refine ⟨?_, h.regs, fun _ _ => rfl, h.out, h.fns⟩
  have hrest := congrArg (fun y : State => { y with reservoir := x, counters := k }) h.rest
  exact hrest

theorem BlocksWritten.trans {n : Nat} {s t u : State} (h : BlocksWritten n s t) (k : BlocksWritten n t u) : BlocksWritten n s u := by
  refine ⟨(h.told.withReservoir u.reservoir u.counters).trans k.told, ?_, ?_, fun off h1 h2 => (k.counters off h1 h2).trans (h.counters off h1 h2)⟩
  · have ht : (setCh n (chOf u n) t).reservoir = (setCh n (chOf u n) (setCh n (chOf t n) s)).reservoir := setCh_of_reservoir h.reservoir ..
    rw [k.reservoir, ht, setCh_setCh]
  · have hk := k.channel
    rw [h.channel] at hk
    exact hk

/-- The other channels are as they were. -/
theorem BlocksWritten.others {n m : Nat} {s t : State} (h : BlocksWritten n s t) (hne : m ≠ n) (hm : m < 4) (hn : n < 4) : chOf t m = chOf s m := by
  rw [chOf_of_reservoir h.reservoir, chOf_setCh_ne hne hm hn]

theorem blocksWritten_setBlock (n level idx : Nat) (b : CounterBlock) (s : State) : BlocksWritten n s (setBlock n level idx b s) := by
  have hch : chOf (setBlock n level idx b s) n = (chOf s n).withBlock level idx b := chOf_setCh_same ..
  refine ⟨?_, ?_, ?_, fun off _ _ => ?_⟩
  · rw [setBlock_eq, setCh_rest]
    exact .refl _
  · rw [hch]
    rfl
  · rw [hch]
    rfl
  · rw [setBlock_eq, setCh_rest]
    rfl

theorem blocksWritten_rsvCount (n : Nat) (s : State) : BlocksWritten n s (rsvCount 11 s) ∧ chOf (rsvCount 11 s) n = chOf s n := by
  have htold := told_rsvCount 11 s
  have hch : chOf (rsvCount 11 s) n = chOf s n := reservoir_of_told htold n
  refine ⟨⟨?_, ?_, ?_, fun off h1 h2 => (htold.counters off h2).trans (counter_plus_ne h1 ..)⟩, hch⟩
  · have hcounted := htold.withReservoir (rsvCount 11 s).reservoir (rsvCount 11 s).counters
    exact hcounted
  · rw [hch, setCh_chOf]
    exact htold.reservoir
  · rw [hch]

/-- Lines are written under a block that takes them. -/
theorem written_writeLines {n level idx : Nat} {writes : List Nat} {s : State} (h : (blockOf (chOf s n) level idx).Takes writes) :
    BlocksWritten n s (writeLines n level idx writes s) ∧ chOf (writeLines n level idx writes s) n = (chOf s n).lined level idx writes := by
  have hsound := h.sound
  cases hend : writes.any (fun i => (blockOf (chOf s n) level idx).minors.get 0 i == 127) with
  | true =>
    have hroom : ¬2 ^ 56 - 1 < (blockOf (chOf s n) level idx).major + 1 := by
      have := h.room hend
      omega
    have heq : writeLines n level idx writes s =
        rsvCount 11 (setBlock n level idx { major := (blockOf (chOf s n) level idx).major + 1 } s) := by
      simp only [writeLines, hsound, hend, Option.isSome_none, Bool.false_eq_true, if_false, if_true, if_neg hroom]
    obtain ⟨hcount, hch⟩ := blocksWritten_rsvCount n (setBlock n level idx { major := (blockOf (chOf s n) level idx).major + 1 } s)
    rw [heq, hch, Channel.lined, CounterBlock.lined, hend, if_pos rfl]
    exact ⟨(blocksWritten_setBlock ..).trans hcount, chOf_setCh_same ..⟩
  | false =>
    have heq : writeLines n level idx writes s = setBlock n level idx ((blockOf (chOf s n) level idx).lined writes) s := by
      simp only [writeLines, hsound, hend, Option.isSome_none, Bool.false_eq_true, if_false, CounterBlock.lined]
    rw [heq]
    exact ⟨blocksWritten_setBlock .., chOf_setCh_same ..⟩

/-! ## Blocks written back (R321, R323) -/

/-- Lines that wait to be written under the blocks above them: each block is sound, and its major is not at its end or the line is new. -/
def Awaits (c : Channel) (level : Nat) (idxs : List Nat) : Prop := ∀ i ∈ idxs, (blockOf c level (i / 64)).quarantine = none ∧
  ((blockOf c level (i / 64)).major + 1 < 2 ^ 56 ∨ (blockOf c level (i / 64)).minors.get 0 (i % 64) = 0)

theorem takes_of_awaits {c : Channel} {level i : Nat} {idxs : List Nat} (h : Awaits c level (i :: idxs)) :
    (blockOf c level (i / 64)).Takes [i % 64] := by
  obtain ⟨hsound, hroom⟩ := h i List.mem_cons_self
  refine ⟨hsound, fun hend => hroom.resolve_right fun hnew => ?_⟩
  simp [hnew] at hend

/-- A line written leaves the lines that wait. -/
theorem Awaits.lined {c : Channel} {level i : Nat} {idxs : List Nat} (h : Awaits c level (i :: idxs)) (hnodup : i ∉ idxs)
    (hsmall : ∀ j ∈ i :: idxs, j < 2 ^ 25) : Awaits (c.lined level (i / 64) [i % 64]) level idxs := by
  have hi := hsmall i List.mem_cons_self
  obtain ⟨hsound, hroom⟩ := h i List.mem_cons_self
  intro j hj
  have hjs := hsmall j (List.mem_cons_of_mem _ hj)
  obtain ⟨hjsound, hjroom⟩ := h j (List.mem_cons_of_mem _ hj)
  by_cases hsame : j / 64 = i / 64
  · have hline : j % 64 ≠ i % 64 := fun heq => hnodup (by rwa [show i = j by omega])
    rw [hsame, blockOf_lined_same, CounterBlock.lined]
    rw [hsame] at hjroom
    split_ifs with hend
    · exact ⟨rfl, .inr rfl⟩
    · refine ⟨hsound, hjroom.imp_right fun hnew => ?_⟩
      rw [List.foldl_cons, List.foldl_nil, Table.get_put_ne hline]
      exact hnew
  · rw [blockOf_lined_ne (counterKey_ne (by omega) (by omega) (.inr hsame))]
    exact ⟨hjsound, hjroom⟩

/-- Blocks that a pass leaves are written back: nothing but blocks of the next level has changed. -/
theorem written_writeBack {n level : Nat} {idxs : List Nat} {s : State} (hnodup : idxs.Nodup) (hsmall : ∀ i ∈ idxs, i < 2 ^ 25)
    (h : Awaits (chOf s n) (level + 1) idxs) : BlocksWritten n s (writeBack n level idxs s) ∧
      ∀ l i, i < 2 ^ 25 → l ≠ level + 1 → blockOf (chOf (writeBack n level idxs s) n) l i = blockOf (chOf s n) l i := by
  induction idxs generalizing s with
  | nil => exact ⟨.refl n s, fun _ _ _ _ => rfl⟩
  | cons i idxs ih =>
    obtain ⟨hnew, hrest⟩ := List.nodup_cons.mp hnodup
    obtain ⟨hwrite, hch⟩ := written_writeLines (takes_of_awaits h)
    have hi := hsmall i List.mem_cons_self
    have hwaits : Awaits (chOf (writeLines n (level + 1) (i / 64) [i % 64] s) n) (level + 1) idxs := by
      rw [hch]
      exact h.lined hnew hsmall
    obtain ⟨hwrites, hblocks⟩ := ih hrest (fun j hj => hsmall j (List.mem_cons_of_mem _ hj)) hwaits
    rw [writeBack, List.foldl_cons]
    refine ⟨hwrite.trans hwrites, fun l j hj hl => (hblocks l j hj hl).trans ?_⟩
    rw [hch]
    exact blockOf_lined_ne (counterKey_ne (by omega) hj (.inl hl)) ..

/-- Every block of a level can be written. -/
def Channel.ReadyAt (c : Channel) (level : Nat) : Prop := ∀ i, i < 2 ^ 25 → (blockOf c level i).Ready

theorem Channel.ReadyAt.awaits {c : Channel} {level : Nat} (h : c.ReadyAt level) {idxs : List Nat} (hsmall : ∀ i ∈ idxs, i < 2 ^ 25) :
    Awaits c level idxs := by
  intro i hi
  have hready := h (i / 64) (by have := hsmall i hi; omega)
  exact ⟨hready.sound, .inl hready.room⟩

/-- The write-back of the levels of a pass, of the blocks that it has left. -/
theorem written_levels {n : Nat} {g : Nat → State → State} {idxs : Nat → List Nat}
    (hg : ∀ level s, g level s = s ∨ g level s = writeBack n level (idxs level) s) (hnodup : ∀ level, (idxs level).Nodup)
    (hsmall : ∀ level, ∀ i ∈ idxs level, i < 2 ^ 25) {levels : List Nat} (hlevels : levels.Nodup) {s : State}
    (h : ∀ level ∈ levels, (chOf s n).ReadyAt (level + 1)) : BlocksWritten n s (levels.foldl (fun s level => g level s) s) ∧
      ∀ i, i < 2 ^ 25 → blockOf (chOf (levels.foldl (fun s level => g level s) s) n) 0 i = blockOf (chOf s n) 0 i := by
  induction levels generalizing s with
  | nil => exact ⟨.refl n s, fun _ _ => rfl⟩
  | cons level levels ih =>
    obtain ⟨hnew, hrest⟩ := List.nodup_cons.mp hlevels
    have hstep : BlocksWritten n s (g level s) ∧
        ∀ l i, i < 2 ^ 25 → l ≠ level + 1 → blockOf (chOf (g level s) n) l i = blockOf (chOf s n) l i := by
      rcases hg level s with hg | hg
      · rw [hg]
        exact ⟨.refl n s, fun _ _ _ _ => rfl⟩
      · rw [hg]
        exact written_writeBack (hnodup level) (hsmall level) ((h level List.mem_cons_self).awaits (hsmall level))
    obtain ⟨hwrite, hblocks⟩ := hstep
    have hready : ∀ l ∈ levels, (chOf (g level s) n).ReadyAt (l + 1) := fun l hl i hi => by
      have hne : l ≠ level := fun heq => hnew (heq ▸ hl)
      rw [hblocks (l + 1) i hi (by omega)]
      exact h l (List.mem_cons_of_mem _ hl) i hi
    obtain ⟨hwrites, hzero⟩ := ih hrest hready
    rw [List.foldl_cons]
    exact ⟨hwrite.trans hwrites, fun i hi => (hzero i hi).trans (hblocks 0 i hi (by omega))⟩

/-! ## A sound channel -/

structure SoundChannel (c : Channel) : Prop where
  clean : c.latent = []
  capacity : c.capacity ≤ 2
  ready : ∀ level i, (blockOf c level i).Ready

theorem soundChannel_of_sound {c : Channel} (h : c.sound = true) : SoundChannel c := by
  simp only [Channel.sound, Bool.and_eq_true, decide_eq_true_eq, List.isEmpty_iff] at h
  obtain ⟨⟨⟨hclean, hcapacity⟩, hstats⟩, hblocks⟩ := h
  refine ⟨hclean, hcapacity, fun level i => ?_⟩
  unfold blockOf Table.get
  cases hfind : c.blocks.find (counterKey level i) with
  | none =>
    refine ⟨rfl, ?_⟩
    dsimp only [Option.getD_none]
    split_ifs <;> omega
  | some b =>
    have hmem : (counterKey level i, b) ∈ c.blocks.cells := mem_of_cellsFind hfind
    have hblock := List.all_eq_true.mp hblocks _ hmem
    simp only [Bool.and_eq_true, decide_eq_true_eq, Option.isNone_iff_eq_none] at hblock
    obtain ⟨hsound, hmajor⟩ := hblock
    exact ⟨hsound, by dsimp only [Option.getD_some]; omega⟩

theorem reinitPath_of_sound {s : State} {n frame : Nat}
    (h : ∀ level, level = 1 ∨ level = 2 ∨ level = 3 → (blockOf (chOf s n) level (frame / 64 ^ level)).quarantine = none) : reinitPath n frame s = s := by
  have hstep (level : Nat) (hl : level = 1 ∨ level = 2 ∨ level = 3) : reinitBlock n level (frame / 64 ^ level) s = s := by
    simp only [reinitBlock, h level hl]
  simp only [reinitPath, List.foldl_cons, List.foldl_nil, hstep 3 (by decide), hstep 2 (by decide), hstep 1 (by decide)]

/-- Every line of a list, each named once, has its minor raised by one. -/
theorem minors_raised {l : List Nat} (hnodup : l.Nodup) (t : Table Nat) (i : Nat) :
    (l.foldl (fun t i => t.put 0 i (t.get 0 i + 1)) t).get 0 i = if i ∈ l then t.get 0 i + 1 else t.get 0 i := by
  induction l generalizing t with
  | nil => simp
  | cons j l ih =>
    obtain ⟨hnew, hrest⟩ := List.nodup_cons.mp hnodup
    rw [List.foldl_cons, ih hrest]
    by_cases hij : i = j
    · subst hij
      simp [hnew]
    · simp [hij, Table.get_put_ne hij]

/-- What a page's leaf block has become (R321). -/
theorem lined_page (b : CounterBlock) : if (List.range 64).any (fun i => b.minors.get 0 i == 127) then b.lined (List.range 64) = { major := b.major + 1 }
    else (b.lined (List.range 64)).major = b.major ∧ ∀ i, i < 64 → (b.lined (List.range 64)).minors.get 0 i = b.minors.get 0 i + 1 := by
  split_ifs with hend
  · rw [CounterBlock.lined, if_pos hend]
  · rw [CounterBlock.lined, if_neg hend]
    refine ⟨rfl, fun i hi => ?_⟩
    rw [minors_raised List.nodup_range, if_pos (List.mem_range.mpr hi)]

/-! ## What a page takes (R311, R312) -/

theorem foldl_add_eq (l : List Nat) : l.foldl (· + ·) 0 = l.sum := by
  induction l with
  | nil => rfl
  | cons x l ih => rw [List.foldl_cons, foldl_add_start, ih, List.sum_cons, Nat.zero_add]

/-- Records that fit are taken whole. -/
theorem cutPage_of_fits {l : List (Nat × Nat)} {room : Nat} (h : (l.map (·.2)).sum < room) : cutPage room l = l := by
  induction l generalizing room with
  | nil => rfl
  | cons x l ih =>
    obtain ⟨f, b⟩ := x
    simp only [List.map_cons, List.sum_cons] at h
    rw [cutPage, if_neg (by omega), if_pos (by omega), ih (by omega)]

/-- A page's records, and what they leave of the staging tail: the frames not wholly taken, and the bytes of the first already taken. -/
def partOf (parts : List (Nat × Nat)) (f : Nat) : Option (Nat × Nat) := parts.find? (fun p => p.1 == f)

def stagingLeft (parts avail : List (Nat × Nat)) (staging : List Nat) : List Nat :=
  staging.filter (fun f => !((partOf parts f).isSome && partOf parts f == partOf avail f))

def stagedAfter (parts : List (Nat × Nat)) (l : Leaf) (left : List Nat) : Nat :=
  match left with
  | [] => 0
  | f :: _ => (match partOf parts f with | some p => p.2 + (if l.staging.head? = some f then l.stagedOut else 0) | none => 0)

theorem partOf_isSome (parts : List (Nat × Nat)) (f : Nat) : (partOf parts f).isSome = (parts.map (·.1)).contains f := by
  rw [Bool.eq_iff_iff]
  simp [partOf, List.find?_isSome, List.contains_eq_mem]

/-- A padded page takes all that is gathered. -/
theorem left_of_padded (avail : List (Nat × Nat)) (l : Leaf) :
    stagingLeft avail avail l.staging = l.staging.filter (fun f => !(avail.map (·.1)).contains f) ∧
      stagedAfter avail l (stagingLeft avail avail l.staging) = 0 := by
  have hleft : stagingLeft avail avail l.staging = l.staging.filter (fun f => !(avail.map (·.1)).contains f) := by
    simp only [stagingLeft, beq_self_eq_true, Bool.and_true, partOf_isSome]
  refine ⟨hleft, ?_⟩
  rw [hleft]
  cases hfilter : l.staging.filter (fun f => !(avail.map (·.1)).contains f) with
  | nil => rfl
  | cons f rest =>
    have hmem : f ∈ l.staging.filter (fun f => !(avail.map (·.1)).contains f) := hfilter ▸ List.mem_cons_self
    have hout := (List.mem_filter.mp hmem).2
    rw [← partOf_isSome, Bool.not_eq_true', Option.isSome_eq_false_iff, Option.isNone_iff_eq_none] at hout
    simp only [stagedAfter, hout]

/-- A full page takes 4,080 bytes of the first record. -/
theorem left_of_full {f b : Nat} {more : List (Nat × Nat)} {l : Leaf} {rest : List Nat} (hstaging : l.staging = f :: rest) (hb : 4080 < b) :
    stagingLeft [(f, 4080)] ((f, b) :: more) l.staging = l.staging ∧
      stagedAfter [(f, 4080)] l (stagingLeft [(f, 4080)] ((f, b) :: more) l.staging) = 4080 + l.stagedOut := by
  have hleft : stagingLeft [(f, 4080)] ((f, b) :: more) l.staging = l.staging := by
    refine List.filter_eq_self.mpr fun g _ => ?_
    by_cases hfg : f = g
    · have hne : (4080 : Nat) ≠ b := by omega
      simp [partOf, hfg, hne]
    · simp [partOf, hfg]
  refine ⟨hleft, ?_⟩
  rw [hleft]
  simp [stagedAfter, hstaging, partOf]

/-- The first record gathered is that of the first staging frame. -/
theorem staging_of_gathered {s : State} {l : Leaf} {f b : Nat} {more : List (Nat × Nat)} (h : gathered s l = (f, b) :: more) :
    ∃ rest, l.staging = f :: rest := by
  cases hstaging : l.staging with
  | nil => simp [gathered, hstaging] at h
  | cons g rest =>
    refine ⟨rest, ?_⟩
    simp only [gathered, hstaging, List.takeWhile_cons] at h
    split at h
    · exact absurd h (by simp)
    · next g' b' rest' hall =>
      split_ifs at hall
      · simp only [List.map_cons, List.cons.injEq, Prod.mk.injEq] at h hall
        rw [← h.1.1, hall.1.1]
      · exact absurd hall (by simp)

/-! ## A page written (R312, R323) -/

theorem SameQueues.place {s t : State} (h : SameQueues s t) (n : Nat) : mayTake t n = mayTake s n ∧ takePlace t n = takePlace s n := by
  have hstats : holdsStats t n = holdsStats s n := by rw [holdsStats, holdsStats, h.reservoir]
  unfold mayTake takePlace
  rw [h.chOf, hstats, h.reservoir]
  exact ⟨rfl, rfl⟩

theorem SameQueues.gathered {s t : State} (h : SameQueues s t) (l : Leaf) : gathered t l = gathered s l := by
  simp only [Machine.gathered, h.frameOf, h.storedLength]

theorem choosePlace_of_turn {s : State} {n place : Nat} (hturn : s.reservoir.nextChannel = n) (hn : n < 4) (hmay : mayTake s n = true)
    (hplace : takePlace s n = some place) : choosePlace s (turnOrder s) = (some (n, place), s) := by
  have hrange : List.range 4 = [0, 1, 2, 3] := rfl
  have horder : turnOrder s = [n, (n + 1) % 4, (n + 2) % 4, (n + 3) % 4] := by
    simp only [turnOrder, hturn, hrange, List.map_cons, List.map_nil, Nat.add_zero, Nat.mod_eq_of_lt hn]
  rw [horder, choosePlace]
  simp only [hmay, hplace, Bool.not_true, Bool.false_eq_true, if_false]

/-- A place that a channel's pointer gives lies among its frames. -/
theorem lt_of_takePlace {s : State} {n place : Nat} (hplace : takePlace s n = some place) (hcapacity : (chOf s n).capacity ≤ 2) : place < 2 ^ 25 := by
  unfold takePlace at hplace
  dsimp only at hplace
  split_ifs at hplace with hhigh
  obtain rfl := Option.some.inj hplace
  have hframes : chFrames (chOf s n) ≤ 2 ^ 24 := by
    have hcases : (chOf s n).capacity = 0 ∨ (chOf s n).capacity = 1 ∨ (chOf s n).capacity = 2 := by omega
    rcases hcases with h | h | h <;> simp [chFrames, h]
  have hbelow : spillHigh (chOf s n) ≤ chFrames (chOf s n) := by
    simp only [spillHigh, spillTotal]
    omega
  omega

/-- A leaf's tail once a page has taken from it. -/
def Leaf.paged (l : Leaf) (parts avail : List (Nat × Nat)) : Leaf :=
  { l with staging := stagingLeft parts avail l.staging, stagedOut := stagedAfter parts l (stagingLeft parts avail l.staging)
           pageSeq := (l.pageSeq + 1) % 2 ^ 32 }

/-- A channel with a page at a place. -/
def Channel.paged (c : Channel) (page : Page) : Channel :=
  { c with pages := c.pages ++ [page], pointer := page.place + 1, latent := c.latent.filter (fun e => !(e.kind == 0 && e.index == page.place)) }

/-- The page is in its channel, and the next channel has the next turn. -/
def pagePlaced (leaf n : Nat) (l : Leaf) (parts : List (Nat × Nat)) (page : Page) (s : State) : State :=
  let t := modCh n (·.paged page) (setLeaf leaf (l.paged parts (gathered s l)) s)
  { t with reservoir := { t.reservoir with nextChannel := (n + 1) % 4 } }

/-- The blocks that the pointer leaves (R321). -/
def leavesBlock (n place level : Nat) (s : State) : Bool :=
  let next := nextPlace (chOf s n) (chOf s n).pages.length (place + 1)
  next / 64 ^ level != place / 64 ^ level || decide (spillHigh (chOf s n) ≤ next)

/-- The lines of a page are written, and the blocks that the pointer leaves. -/
def linesWritten (n place : Nat) (s : State) : State :=
  let t := writeLines n 0 place (List.range 64) s
  [0, 1, 2].foldl (fun u level => if leavesBlock n place level t then writeBack n level [place / 64 ^ level] u else u) t

theorem writePage_eq {leaf n place : Nat} {parts : List (Nat × Nat)} {s : State} {l : Leaf} (hclean : (chOf s n).latent = [])
    (honline : (chOf s n).state = .online) (hfatal : s.reservoir.fatal = false) (hleaf : leafOf s leaf = some l)
    (hpath : reinitPath n place s = s) : writePage leaf n place parts s =
      linesWritten n place (pagePlaced leaf n l parts { queue := leaf, pageSeq := l.pageSeq, parts, place } s) := by
  obtain ⟨hpathErrors, -⟩ := pathErrors_of_clean hclean place
  have hgoes : ¬((chOf s n).state ≠ .online ∨ s.reservoir.fatal = true) := by simp [honline, hfatal]
  unfold writePage
  dsimp only
  rw [hpathErrors, meetAll_nil, if_neg hgoes]
  simp only [hleaf, hpath]
  rfl

/-- The lines of a page in a sound channel. -/
theorem written_linesWritten {n place : Nat} {s : State} (hplace : place < 2 ^ 25) (hready : ∀ level, (chOf s n).ReadyAt level) :
    BlocksWritten n s (linesWritten n place s) ∧
      blockOf (chOf (linesWritten n place s) n) 0 place = (blockOf (chOf s n) 0 place).lined (List.range 64) := by
  obtain ⟨hwrite, hch⟩ := written_writeLines ((hready 0 place hplace).takes (List.range 64))
  have hafter : ∀ level ∈ [0, 1, 2], (chOf (writeLines n 0 place (List.range 64) s) n).ReadyAt (level + 1) := fun level _ i hi => by
    rw [hch, blockOf_lined_ne (counterKey_ne hplace hi (.inl (by omega)))]
    exact hready (level + 1) i hi
  obtain ⟨hlevels, hzero⟩ := written_levels (n := n)
    (g := fun level u => if leavesBlock n place level (writeLines n 0 place (List.range 64) s) then writeBack n level [place / 64 ^ level] u else u)
    (idxs := fun level => [place / 64 ^ level])
    (fun level u => by split_ifs; exacts [.inr rfl, .inl rfl]) (fun level => List.nodup_singleton _)
    (fun level i hi => by rw [List.mem_singleton.mp hi]; exact lt_of_le_of_lt (Nat.div_le_self ..) hplace) (by decide) hafter
  refine ⟨hwrite.trans hlevels, (hzero place hplace).trans ?_⟩
  rw [hch]
  exact blockOf_lined_same ..

theorem spillPage_eq {s : State} {leaf n place misses : Nat} {l : Leaf} {partial_ : Bool} {parts : List (Nat × Nat)}
    (hleaf : leafOf s leaf = some l) (hspilling : l.spilling = true) (hspill : rsvSpilling s = true) (hturn : s.reservoir.nextChannel = n)
    (hn : n < 4) (hmay : mayTake s n = true) (hplace : takePlace s n = some place) (hsound : SoundChannel (chOf s n))
    (hsome : ((gathered s l).map (·.2)).sum ≠ 0) (hfull : partial_ = false → 4080 ≤ ((gathered s l).map (·.2)).sum)
    (hparts : cutPage pageRoom (gathered s l) = parts) : spillPage leaf partial_ misses [] s =
      linesWritten n place (pagePlaced leaf n l parts { queue := leaf, pageSeq := l.pageSeq, parts, place } (rsvCountBy 10 misses s)) := by
  have hsame := sameQueues_rsvCountBy 10 misses s
  have hgoes : (!l.spilling || decide (((gathered s l).map (·.2)).foldl (· + ·) 0 = 0) ||
      (!partial_ && decide (((gathered s l).map (·.2)).foldl (· + ·) 0 < pageRoom)) || !rsvSpilling s) = false := by
    have hlong : (!partial_ && decide (((gathered s l).map (·.2)).sum < pageRoom)) = false := by
      cases hp : partial_ with
      | true => rfl
      | false =>
        have hroom : pageRoom = 4080 := rfl
        have := hfull hp
        simp [hroom]
        omega
    rw [foldl_add_eq, hlong]
    simp [hspilling, hsome, hspill]
  have hchoose : choosePlace (rsvCountBy 10 misses s) (turnOrder (rsvCountBy 10 misses s)) = (some (n, place), rsvCountBy 10 misses s) := by
    obtain ⟨hmay', hplace'⟩ := hsame.place n
    exact choosePlace_of_turn (by rw [hsame.reservoir]; exact hturn) hn (hmay'.trans hmay) (hplace'.trans hplace)
  have hch : chOf (rsvCountBy 10 misses s) n = chOf s n := hsame.chOf n
  have honline : (chOf s n).state = .online := by
    simp only [mayTake, Bool.and_eq_true, beq_iff_eq] at hmay
    exact hmay.1.1.1
  have hfatal : s.reservoir.fatal = false := by
    simp only [rsvSpilling, rsvOnline, Bool.and_eq_true, Bool.not_eq_true'] at hspill
    exact hspill.2.1.1
  have hpath : reinitPath n place (rsvCountBy 10 misses s) = rsvCountBy 10 misses s :=
    reinitPath_of_sound fun level _ => by rw [hch]; exact (hsound.ready ..).sound
  have heq : spillPage leaf partial_ misses [] s = writePage leaf n place (cutPage pageRoom (gathered s l)) (rsvCountBy 10 misses s) := by
    simp only [spillPage, hleaf, hgoes, Bool.false_eq_true, if_false, applyUpsets, List.foldl_nil, hchoose]
  rw [heq, hparts, writePage_eq (by rw [hch]; exact hsound.clean) (by rw [hch]; exact honline) (by rw [hsame.reservoir]; exact hfatal)
    (by rw [hsame.leafOf]; exact hleaf) hpath]

theorem pagePlaced_rest (leaf n : Nat) (l : Leaf) (parts : List (Nat × Nat)) (page : Page) (s : State) :
    pagePlaced leaf n l parts page s = { s with
      sched := { s.sched with leaves := s.sched.leaves.set leaf (l.paged parts (gathered s l)) }
      reservoir := (pagePlaced leaf n l parts page s).reservoir } := by
  unfold pagePlaced
  rw [modCh_eq, setCh_rest]
  rfl

theorem pagePlaced_channel (leaf n : Nat) (l : Leaf) (parts : List (Nat × Nat)) (page : Page) (s : State) :
    chOf (pagePlaced leaf n l parts page s) n = (chOf s n).paged page ∧
      ∀ m, m < 4 → n < 4 → m ≠ n → chOf (pagePlaced leaf n l parts page s) m = chOf s m :=
  ⟨chOf_setCh_same .., fun _ hm hn hne => chOf_setCh_ne hne hm hn ..⟩

theorem pagePlaced_reservoir (leaf n : Nat) (l : Leaf) (parts : List (Nat × Nat)) (page : Page) (s : State) (c : Channel) :
    (setCh n c (pagePlaced leaf n l parts page s)).reservoir =
      (setCh n c { s with reservoir := { s.reservoir with nextChannel := (n + 1) % 4 } }).reservoir := by
  match n with
  | 0 | 1 | 2 | _ + 3 => rfl

theorem paged_of_clean {c : Channel} (h : c.latent = []) (page : Page) :
    c.paged page = { c with pages := c.pages ++ [page], pointer := page.place + 1 } := by
  simp only [Channel.paged, h, List.filter_nil]

/-- A page has been put at its place: what has become of its leaf, its channel and the blocks above it. -/
structure PagePut (leaf n place misses : Nat) (l : Leaf) (parts : List (Nat × Nat)) (s t : State) : Prop where
  tail : leafOf t leaf = some (l.paged parts (gathered s l))
  leaves : ∀ m, m ≠ leaf → leafOf t m = leafOf s m
  channel : chOf t n = { chOf s n with
    pages := (chOf s n).pages ++ [{ queue := leaf, pageSeq := l.pageSeq, parts, place }], pointer := place + 1
    blocks := (chOf t n).blocks, highMajor := (chOf t n).highMajor }
  others : ∀ m, m < 4 → m ≠ n → chOf t m = chOf s m
  block : blockOf (chOf t n) 0 place = (blockOf (chOf s n) 0 place).lined (List.range 64)
  told : Told { State.plus 0x7150 misses s with
    sched := { s.sched with leaves := t.sched.leaves }, counters := t.counters, reservoir := t.reservoir } t
  reservoir : t.reservoir = (setCh n (chOf t n) { s with reservoir := { s.reservoir with nextChannel := (n + 1) % 4 } }).reservoir
  counters : ∀ off, off ≠ 0x7150 → off ≠ 0x7158 → off ≠ 0xd138 → counter t off = counter s off

theorem Told.withStores {s t : State} (h : Told s t) (x : Scheduling) (r : Reservoir) (k : Table Quad) :
    Told { s with sched := x, reservoir := r, counters := k } { t with sched := x, reservoir := r, counters := k } := by
  refine ⟨?_, h.regs, fun _ _ => rfl, h.out, h.fns⟩
  have hrest := congrArg (fun y : State => { y with sched := x, reservoir := r, counters := k }) h.rest
  exact hrest

theorem pagePut {s : State} {leaf n place misses : Nat} {l : Leaf} {parts : List (Nat × Nat)} (hn : n < 4) (hplace : place < 2 ^ 25)
    (hsound : SoundChannel (chOf s n)) : PagePut leaf n place misses l parts s
      (linesWritten n place (pagePlaced leaf n l parts { queue := leaf, pageSeq := l.pageSeq, parts, place } (rsvCountBy 10 misses s))) := by
  have hcount := told_rsvCountBy 10 misses s
  have hsame := sameQueues_rsvCountBy 10 misses s
  have hrest := pagePlaced_rest leaf n l parts { queue := leaf, pageSeq := l.pageSeq, parts, place } (rsvCountBy 10 misses s)
  obtain ⟨hch, hothers⟩ := pagePlaced_channel leaf n l parts { queue := leaf, pageSeq := l.pageSeq, parts, place } (rsvCountBy 10 misses s)
  have hreservoir := pagePlaced_reservoir leaf n l parts { queue := leaf, pageSeq := l.pageSeq, parts, place } (rsvCountBy 10 misses s)
  generalize pagePlaced leaf n l parts { queue := leaf, pageSeq := l.pageSeq, parts, place } (rsvCountBy 10 misses s) = u at *
  rw [hsame.chOf] at hch
  have hready : ∀ level, (chOf u n).ReadyAt level := fun level i _ => by
    rw [hch]
    exact hsound.ready level i
  obtain ⟨hwritten, hblock⟩ := written_linesWritten hplace hready
  generalize linesWritten n place u = t at *
  have hsched : t.sched = { s.sched with leaves := s.sched.leaves.set leaf (l.paged parts (gathered s l)) } := by
    have ht : t.sched = u.sched := hwritten.told.sched
    rw [ht, hrest, hsame.sched, hsame.gathered]
  refine ⟨?_, fun m hm => ?_, ?_, fun m hm hne => ?_, ?_, ?_, ?_, fun off h1 h2 h3 => ?_⟩
  · rw [leafOf, hsched]
    exact Table.find_set_same ..
  · rw [leafOf, hsched]
    exact Table.find_set_ne hm ..
  · have hchannel := hwritten.channel
    rw [hch, paged_of_clean hsound.clean] at hchannel
    exact hchannel
  · rw [hwritten.others hne hm hn, hothers m hm hn hne, hsame.chOf]
  · rw [hblock, hch]
    rfl
  · have hfirst := hcount.withStores t.sched t.reservoir t.counters
    have hsecond : Told { rsvCountBy 10 misses s with sched := t.sched, reservoir := t.reservoir, counters := t.counters } t := by
      have ht : t.sched = u.sched := hwritten.told.sched
      have hbase : ({ rsvCountBy 10 misses s with sched := t.sched, reservoir := t.reservoir, counters := t.counters } : State) =
          { u with reservoir := t.reservoir, counters := t.counters } := by
        rw [ht, hrest]
      rw [hbase]
      exact hwritten.told
    have hleaves : t.sched = { s.sched with leaves := t.sched.leaves } := by rw [hsched]
    rw [← hleaves]
    exact hfirst.trans hsecond
  · have hnext : (setCh n (chOf t n) { rsvCountBy 10 misses s with
        reservoir := { (rsvCountBy 10 misses s).reservoir with nextChannel := (n + 1) % 4 } }).reservoir =
      (setCh n (chOf t n) { s with reservoir := { s.reservoir with nextChannel := (n + 1) % 4 } }).reservoir :=
      setCh_of_reservoir (by rw [hsame.reservoir]) ..
    rw [← hnext, ← hreservoir]
    exact hwritten.reservoir
  · have hu : counter u off = counter (rsvCountBy 10 misses s) off := by rw [hrest]; rfl
    rw [hwritten.counters off h2 h3, hu, hcount.counters off h3, counter_plus_ne h1]

end Sys2Proof.Machine
end

section
/-!
PROOFS. Spill pages written, statistics sweeps, the reservoir's key and its retrains (10_reservoir).
-/
namespace Sys2Proof.Machine

open Sys2Proof

/-! ## SPILL_PAGE_WRITE and PAGE_FILL_TIMEOUT (R312, R323) -/

/-- A page is put at the place of the channel that has the turn. -/
theorem spillPage_puts {s : State} {leaf n place misses : Nat} {l : Leaf} {partial_ : Bool} {parts : List (Nat × Nat)}
    (hleaf : leafOf s leaf = some l) (hspilling : l.spilling = true) (hspill : rsvSpilling s = true) (hturn : s.reservoir.nextChannel = n)
    (hn : n < 4) (hmay : mayTake s n = true) (hplace : takePlace s n = some place) (hsound : SoundChannel (chOf s n))
    (hsome : ((gathered s l).map (·.2)).sum ≠ 0) (hfull : partial_ = false → 4080 ≤ ((gathered s l).map (·.2)).sum)
    (hparts : cutPage pageRoom (gathered s l) = parts) : PagePut leaf n place misses l parts s (spillPage leaf partial_ misses [] s) := by
  rw [spillPage_eq hleaf hspilling hspill hturn hn hmay hplace hsound hsome hfull hparts]
  exact pagePut hn (lt_of_takePlace hplace hsound.capacity) hsound

/-- What a padded page takes, and what it leaves of the staging tail. -/
theorem padded_takes {s : State} {l : Leaf} (hroom : ((gathered s l).map (·.2)).sum < 4080) : cutPage pageRoom (gathered s l) = gathered s l ∧
    l.paged (gathered s l) (gathered s l) = { l with
      staging := l.staging.filter (fun f => !((gathered s l).map (·.1)).contains f), stagedOut := 0, pageSeq := (l.pageSeq + 1) % 2 ^ 32 } := by
  obtain ⟨hleft, hout⟩ := left_of_padded (gathered s l) l
  refine ⟨cutPage_of_fits hroom, ?_⟩
  rw [Leaf.paged, hout, hleft]

/-- What a full page takes of a long first record, and what it leaves. -/
theorem full_takes {s : State} {l : Leaf} {f b : Nat} {more : List (Nat × Nat)} (hall : gathered s l = (f, b) :: more) (hb : 4080 < b) :
    cutPage pageRoom (gathered s l) = [(f, 4080)] ∧
      l.paged [(f, 4080)] (gathered s l) = { l with stagedOut := 4080 + l.stagedOut, pageSeq := (l.pageSeq + 1) % 2 ^ 32 } := by
  obtain ⟨rest, hstaging⟩ := staging_of_gathered hall
  obtain ⟨hleft, hout⟩ := left_of_full (more := more) hstaging hb
  have hroom : pageRoom = 4080 := rfl
  constructor
  · rw [hall, cutPage, hroom, if_neg (by omega), if_neg (by omega)]
  · rw [hall, Leaf.paged, hout, hleft]

theorem execSpill_of_live {s : State} (hlive : s.live = true) (leaf misses : Nat) (partial_ : Bool) :
    exec (if partial_ then .pageFillTimeout leaf misses [] else .spillPageWrite leaf misses []) s = .next (spillPage leaf partial_ misses [] s) := by
  cases partial_ with
  | true => exact act_of_live hlive _
  | false => exact act_of_live hlive _

/-- What a page takes of a leaf: all that is gathered, where it is padded, or 4,080 bytes of a longer first record. -/
def Takes (s : State) (l : Leaf) (partial_ : Bool) (parts : List (Nat × Nat)) (staging : List Nat) (stagedOut : Nat) : Prop :=
  if partial_ then
    0 < ((gathered s l).map (·.2)).foldl (· + ·) 0 ∧ ((gathered s l).map (·.2)).foldl (· + ·) 0 < 4080 ∧ parts = gathered s l ∧
      staging = l.staging.filter (fun f => !((gathered s l).map (·.1)).contains f) ∧ stagedOut = 0
  else ∃ f b more, gathered s l = (f, b) :: more ∧ 4080 < b ∧ parts = [(f, 4080)] ∧ staging = l.staging ∧ stagedOut = 4080 + l.stagedOut

/-- A page's parts are what the cut of the gathered records gives. -/
structure Cut (s : State) (l : Leaf) (partial_ : Bool) (parts : List (Nat × Nat)) (staging : List Nat) (stagedOut : Nat) : Prop where
  any : ((gathered s l).map (·.2)).sum ≠ 0
  full : partial_ = false → 4080 ≤ ((gathered s l).map (·.2)).sum
  taken : cutPage pageRoom (gathered s l) = parts
  left : l.paged parts (gathered s l) = { l with staging, stagedOut, pageSeq := (l.pageSeq + 1) % 2 ^ 32 }

theorem Takes.cut {s : State} {l : Leaf} {partial_ : Bool} {parts : List (Nat × Nat)} {staging : List Nat} {stagedOut : Nat}
    (h : Takes s l partial_ parts staging stagedOut) : Cut s l partial_ parts staging stagedOut := by
  cases partial_ with
  | true =>
    obtain ⟨hsome, hroom, rfl, rfl, rfl⟩ := h
    rw [foldl_add_eq] at hsome hroom
    obtain ⟨hcut, hleft⟩ := padded_takes hroom
    exact ⟨hsome.ne', fun hp => absurd hp (by decide), hcut, hleft⟩
  | false =>
    obtain ⟨f, b, more, hall, hb, rfl, rfl, rfl⟩ := h
    obtain ⟨hcut, hleft⟩ := full_takes hall hb
    have hsum : 4080 < ((gathered s l).map (·.2)).sum := by
      rw [hall, List.map_cons, List.sum_cons]
      omega
    exact ⟨by omega, fun _ => hsum.le, hcut, hleft⟩

theorem spillPageWrite {s : State} (hlive : s.live = true) {leaf n place misses stagedOut : Nat} {l : Leaf} {parts : List (Nat × Nat)}
    {staging : List Nat} {partial_ : Bool} (hleaf : leafOf s leaf = some l) (hspilling : l.spilling = true) (hspill : rsvSpilling s = true)
    (hturn : s.reservoir.nextChannel = n) (hn : n < 4) (hmay : mayTake s n = true) (hplace : takePlace s n = some place)
    (hsound : (chOf s n).sound = true) (htakes : Takes s l partial_ parts staging stagedOut) :
    Gives (exec (if partial_ then .pageFillTimeout leaf misses [] else .spillPageWrite leaf misses []) s) (fun t =>
      leafOf t leaf = some { l with staging, stagedOut, pageSeq := (l.pageSeq + 1) % 2 ^ 32 } ∧ PagePut leaf n place misses l parts s t) := by
  have hcut := htakes.cut
  have hput := spillPage_puts (misses := misses) hleaf hspilling hspill hturn hn hmay hplace (soundChannel_of_sound hsound) hcut.any hcut.full hcut.taken
  exact ⟨_, execSpill_of_live hlive leaf misses partial_, hput.tail.trans (congrArg _ hcut.left), hput⟩

/-! ## STATS_SWEEP (R173, R323) -/

theorem nodup_eraseDups (l : List Nat) : l.eraseDups.Nodup := by
  induction hlen : l.length using Nat.strong_induction_on generalizing l with
  | _ k ih =>
    cases l with
    | nil => exact List.nodup_nil
    | cons a l =>
      rw [List.eraseDups_cons]
      refine List.nodup_cons.mpr ⟨fun hmem => ?_, ih _ ?_ _ rfl⟩
      · have hin := List.mem_filter.mp (List.mem_eraseDups.mp hmem)
        exact absurd hin.2 (by simp)
      · have := List.length_filter_le (fun b => !b == a) l
        rw [List.length_cons] at hlen
        omega

theorem cellsFind_of_lt {α : Type} {lo a : Nat} {l : List (Nat × α)} (h : cellsRise lo l = true) (hlt : a < lo) : cellsFind a l = none := by
  induction l generalizing lo with
  | nil => rfl
  | cons x l ih =>
    obtain ⟨j, v⟩ := x
    simp only [cellsRise, Bool.and_eq_true, decide_eq_true_eq] at h
    rw [cellsFind, if_neg (by omega)]
    exact ih h.2 (by omega)

/-- The totals once the waiting counts of a table have been added: each record by its own, once. -/
theorem get_totals {l : List (Nat × Counts)} {lo : Nat} (h : cellsRise lo l = true) (t : Table Counts) (a : Nat) :
    (l.foldl (fun t m => t.set m.1 ((t.get {} m.1).add m.2)) t).get {} a =
      match cellsFind a l with | some m => (t.get {} a).add m | none => t.get {} a := by
  induction l generalizing lo t with
  | nil => rfl
  | cons x l ih =>
    obtain ⟨j, v⟩ := x
    simp only [cellsRise, Bool.and_eq_true, decide_eq_true_eq] at h
    rw [List.foldl_cons, ih h.2, cellsFind]
    by_cases hja : j = a
    · subst hja
      rw [cellsFind_of_lt h.2 (by omega), if_pos rfl]
      simp [Table.get]
    · have hget : (t.set j ((t.get {} j).add v)).get {} a = t.get {} a := by
        rw [Table.get, Table.find_set_ne (Ne.symm hja), Table.get]
      rw [if_neg hja, hget]

/-- The lines of a statistics frame that the waiting records change. -/
def sweptLines (sas : List Nat) (f : Nat) : List Nat := ((sas.filter (fun a => a / 128 == f)).map (fun a => a / 2 % 64)).eraseDups

def framesSwept (n : Nat) (sas frames : List Nat) (s : State) : State :=
  frames.foldl (fun s f => writeLines n 0 f (sweptLines sas f) (reinitPath n f s)) s

theorem written_framesSwept {n : Nat} {sas frames : List Nat} {s : State} (hnodup : frames.Nodup) (hsmall : ∀ f ∈ frames, f < 2 ^ 25)
    (hzero : ∀ f ∈ frames, (blockOf (chOf s n) 0 f).Ready) (hready : ∀ level, 1 ≤ level → (chOf s n).ReadyAt level) :
    BlocksWritten n s (framesSwept n sas frames s) ∧ ∀ level, 1 ≤ level → (chOf (framesSwept n sas frames s) n).ReadyAt level := by
  induction frames generalizing s with
  | nil => exact ⟨.refl n s, hready⟩
  | cons f frames ih =>
    obtain ⟨hnew, hrest⟩ := List.nodup_cons.mp hnodup
    have hf := hsmall f List.mem_cons_self
    have hpath : reinitPath n f s = s := reinitPath_of_sound fun level hlevel =>
      (hready level (by omega) _ (lt_of_le_of_lt (Nat.div_le_self ..) hf)).sound
    obtain ⟨hwrite, hch⟩ := written_writeLines (n := n) ((hzero f List.mem_cons_self).takes (sweptLines sas f))
    have hzero' : ∀ g ∈ frames, (blockOf (chOf (writeLines n 0 f (sweptLines sas f) s) n) 0 g).Ready := fun g hg => by
      have hne : g ≠ f := fun heq => hnew (heq ▸ hg)
      rw [hch, blockOf_lined_ne (counterKey_ne hf (hsmall g (List.mem_cons_of_mem _ hg)) (.inr hne))]
      exact hzero g (List.mem_cons_of_mem _ hg)
    have hready' : ∀ level, 1 ≤ level → (chOf (writeLines n 0 f (sweptLines sas f) s) n).ReadyAt level := fun level hlevel i hi => by
      rw [hch, blockOf_lined_ne (counterKey_ne hf hi (.inl (by omega)))]
      exact hready level hlevel i hi
    obtain ⟨hwrites, hafter⟩ := ih hrest (fun g hg => hsmall g (List.mem_cons_of_mem _ hg)) hzero' hready'
    rw [framesSwept, List.foldl_cons, hpath]
    exact ⟨hwrite.trans hwrites, hafter⟩

/-- The totals with the merge buffer's counts, and the buffer empty. -/
def countsMerged (s : State) : State :=
  { s with channels := { s.channels with
             saTotals := s.channels.merge.cells.foldl (fun t m => t.set m.1 ((t.get {} m.1).add m.2)) s.channels.saTotals, merge := .empty }
           reservoir := { s.reservoir with statsMoving := false } }

/-- The frames of the statistics region that the waiting records lie in. -/
def sweptFrames (s : State) : List Nat := (s.channels.merge.keys.map (fun a => a / 128)).eraseDups

def levelsWritten (n : Nat) (frames : List Nat) (s : State) : State :=
  [0, 1, 2].foldl (fun s level => writeBack n level ((frames.map (fun f => f / 64 ^ level)).eraseDups) s) s

theorem statsSweep_eq {s : State} {n : Nat} (hstats : s.reservoir.statsChannel = some n) (honline : (chOf s n).state = .online)
    (hclean : (chOf s n).latent = []) :
    statsSweep s = levelsWritten n (sweptFrames s) (framesSwept n s.channels.merge.keys (sweptFrames s) (countsMerged s)) := by
  have hpath : (((s.channels.merge.keys.map (fun a => a / 128)).eraseDups).map (pathErrors (chOf s n))).flatten = [] := by
    refine List.flatten_eq_nil_iff.mpr fun l hl => ?_
    obtain ⟨f, -, rfl⟩ := List.mem_map.mp hl
    exact (pathErrors_of_clean hclean f).1
  unfold statsSweep
  split
  next hnone => exact absurd (hnone.symm.trans hstats) (by simp)
  next m hm =>
    obtain rfl := Option.some.inj (hm.symm.trans hstats)
    simp only [hclean, List.filter_nil, meetAll_nil, hpath, List.eraseDups_nil, honline, ne_eq, not_true_eq_false, if_false]
    rfl

theorem chOf_countsMerged (s : State) (n : Nat) : chOf (countsMerged s) n = chOf s n := by
  match n with
  | 0 | 1 | 2 | _ + 3 => rfl

theorem mem_sweptFrames {s : State} (hsas : s.channels.merge.cells.all (fun k => decide (k.1 < 262144)) = true) : ∀ f ∈ sweptFrames s, f < 2 ^ 25 := by
  intro f hf
  obtain ⟨a, ha, rfl⟩ := List.mem_map.mp (List.mem_eraseDups.mp hf)
  obtain ⟨k, hk, rfl⟩ := List.mem_map.mp ha
  have := of_decide_eq_true (List.all_eq_true.mp hsas k hk)
  omega

/-- What a sweep of a sound channel leaves: the counts merged, and blocks of the channel written. -/
theorem written_statsSweep {s : State} {n : Nat} (hstats : s.reservoir.statsChannel = some n) (honline : (chOf s n).state = .online)
    (hsound : SoundChannel (chOf s n)) (hsas : s.channels.merge.cells.all (fun k => decide (k.1 < 262144)) = true) :
    BlocksWritten n (countsMerged s) (statsSweep s) := by
  have hsmall := mem_sweptFrames hsas
  have hready (level i : Nat) : (blockOf (chOf (countsMerged s) n) level i).Ready := by
    rw [chOf_countsMerged]
    exact hsound.ready level i
  obtain ⟨hframes, hafter⟩ := written_framesSwept (sas := s.channels.merge.keys) (nodup_eraseDups _) hsmall (fun f _ => hready 0 f)
    (fun level _ i _ => hready level i)
  rw [statsSweep_eq hstats honline hsound.clean]
  obtain ⟨hback, -⟩ := written_levels (n := n) (levels := [0, 1, 2])
    (g := fun level t => writeBack n level (((sweptFrames s).map (fun f => f / 64 ^ level)).eraseDups) t)
    (idxs := fun level => ((sweptFrames s).map (fun f => f / 64 ^ level)).eraseDups) (fun _ _ => .inr rfl) (fun _ => nodup_eraseDups _)
    (fun level i hi => by
      obtain ⟨f, hf, rfl⟩ := List.mem_map.mp (List.mem_eraseDups.mp hi)
      exact lt_of_le_of_lt (Nat.div_le_self ..) (hsmall f hf))
    (by decide) (fun level _ => hafter (level + 1) (by omega))
  exact hframes.trans hback

/-- A statistics sweep has ended: the totals hold the counts that waited. -/
structure Swept (n : Nat) (s t : State) : Prop where
  totals : ∀ a, t.channels.saTotals.get {} a = match s.channels.merge.find a with
    | some m => (s.channels.saTotals.get {} a).add m
    | none => s.channels.saTotals.get {} a
  merge : t.channels = { s.channels with saTotals := t.channels.saTotals, merge := .empty }
  channel : chOf t n = { chOf s n with blocks := (chOf t n).blocks, highMajor := (chOf t n).highMajor }
  reservoir : t.reservoir = (setCh n (chOf t n) { s with reservoir := { s.reservoir with statsMoving := false } }).reservoir
  told : Told { s with channels := t.channels, reservoir := t.reservoir, counters := t.counters } t
  counters : ∀ off, off ≠ 0x7158 → off ≠ 0xd138 → counter t off = counter s off

theorem swept_of_written {n : Nat} {s t : State} (hwf : s.channels.merge.wf = true) (h : BlocksWritten n (countsMerged s) t) : Swept n s t := by
  have hchannels : t.channels = (countsMerged s).channels := h.told.channels
  refine ⟨fun a => ?_, ?_, ?_, ?_, ?_, h.counters⟩
  · rw [hchannels]
    exact get_totals hwf s.channels.saTotals a
  · rw [hchannels]
    rfl
  · have hchannel := h.channel
    rw [chOf_countsMerged] at hchannel
    exact hchannel
  · have hstored : (setCh n (chOf t n) (countsMerged s)).reservoir =
        (setCh n (chOf t n) { s with reservoir := { s.reservoir with statsMoving := false } }).reservoir := setCh_of_reservoir (by rfl) ..
    exact h.reservoir.trans hstored
  · have htold := h.told
    rw [hchannels]
    exact htold

theorem statsSweep_sweeps {s : State} (hlive : s.live = true) {n : Nat} (hup : s.watchdog.hk.up = true) (hstats : s.reservoir.statsChannel = some n)
    (honline : (chOf s n).state = .online) (hsound : (chOf s n).sound = true) (hwf : s.channels.merge.wf = true)
    (hsas : s.channels.merge.cells.all (fun k => decide (k.1 < 262144)) = true) : Gives (exec (.statsSweep []) s) (Swept n s) := by
  have hexec : exec (.statsSweep []) s = .next (if hkUp s then statsSweep (applyUpsets [] s) else s) := act_of_live hlive _
  rw [if_pos (show hkUp s = true from hup)] at hexec
  exact ⟨_, hexec, swept_of_written hwf (written_statsSweep hstats honline (soundChannel_of_sound hsound) hsas)⟩

end Sys2Proof.Machine
end

section
/-!
PROOFS. The reservoir's key and the bring-up of its channels (10_reservoir).
-/
namespace Sys2Proof.Machine

open Sys2Proof

/-! ## RSV_KEY_DRAWN (R308, R310, R330) -/

/-- A trained channel is ONLINE, its lap begun. -/
def Channel.brought (c : Channel) (tick : Nat) : Channel := if c.state = .trained then { c with state := .online, lapTick := tick } else c

/-- From `s` to `t` nothing has changed but channels of the reservoir. -/
structure ChannelsOnly (s t : State) : Prop where
  rest : t = { s with reservoir := t.reservoir }
  reservoir : t.reservoir = { s.reservoir with
    ch0 := t.reservoir.ch0, ch1 := t.reservoir.ch1, ch2 := t.reservoir.ch2, ch3 := t.reservoir.ch3 }

theorem ChannelsOnly.trans {s t u : State} (h : ChannelsOnly s t) (k : ChannelsOnly t u) : ChannelsOnly s u := by
  refine ⟨?_, ?_⟩
  · have hrest := k.rest
    rw [h.rest] at hrest
    exact hrest
  · have hreservoir := k.reservoir
    rw [h.reservoir] at hreservoir
    exact hreservoir

theorem channelsOnly_setCh (n : Nat) (c : Channel) (s : State) : ChannelsOnly s (setCh n c s) := ⟨setCh_rest n c s, setCh_reservoir n c s⟩

/-- A channel is brought up. -/
def bring (n : Nat) (s : State) : State := setCh n ((chOf s n).brought s.tick) s

theorem bring_eq (n : Nat) (s : State) :
    (if (chOf s n).state = .trained then modCh n (fun c => { c with state := .online, lapTick := s.tick }) s else s) = bring n s := by
  unfold bring Channel.brought
  split_ifs
  · rfl
  · exact (setCh_chOf n s).symm

/-- The trained channels of a list are ONLINE. -/
def broughtUp (l : List Nat) (s : State) : State := l.foldl (fun s n => bring n s) s

theorem channelsOnly_broughtUp (l : List Nat) (s : State) : ChannelsOnly s (broughtUp l s) := by
  induction l generalizing s with
  | nil => exact ⟨rfl, rfl⟩
  | cons n l ih => exact (channelsOnly_setCh ..).trans (ih (bring n s))

theorem chOf_broughtUp {l : List Nat} (hnodup : l.Nodup) (hsmall : ∀ m ∈ l, m < 4) (s : State) {n : Nat} (hn : n < 4) :
    chOf (broughtUp l s) n = if n ∈ l then (chOf s n).brought s.tick else chOf s n := by
  induction l generalizing s with
  | nil => rfl
  | cons m l ih =>
    obtain ⟨hnew, hrest⟩ := List.nodup_cons.mp hnodup
    have hm := hsmall m List.mem_cons_self
    have htick : (bring m s).tick = s.tick := setCh_tick ..
    rw [broughtUp, List.foldl_cons]
    refine (ih hrest (fun k hk => hsmall k (List.mem_cons_of_mem _ hk)) (bring m s)).trans ?_
    by_cases hnm : n = m
    · subst hnm
      rw [if_neg hnew, if_pos List.mem_cons_self, bring, chOf_setCh_same]
    · have hch : chOf (bring m s) n = chOf s n := chOf_setCh_ne hnm hn hm ..
      simp only [htick, hch, List.mem_cons, hnm, false_or]

/-- The lowest channel holds the statistics region, and its pointer stands behind it. -/
def statsPlaced (first : Option Nat) (s : State) : State :=
  let t := { s with reservoir := { s.reservoir with statsChannel := first } }
  match first with
  | some n => modCh n (fun c => { c with pointer := 16384 }) t
  | none => t

theorem chOf_withStats (first : Option Nat) (s : State) (n : Nat) :
    chOf { s with reservoir := { s.reservoir with statsChannel := first } } n = chOf s n := by
  match n with
  | 0 | 1 | 2 | _ + 3 => rfl

theorem chOf_statsPlaced {first : Option Nat} (hfirst : ∀ m, first = some m → m < 4) (s : State) {n : Nat} (hn : n < 4) :
    chOf (statsPlaced first s) n = { chOf s n with pointer := if first = some n then 16384 else (chOf s n).pointer } := by
  cases first with
  | none =>
    rw [if_neg (by simp)]
    exact chOf_withStats none s n
  | some m =>
    rw [statsPlaced, modCh_eq]
    by_cases hmn : m = n
    · subst hmn
      rw [chOf_setCh_same, chOf_withStats, if_pos rfl]
    · rw [chOf_setCh_ne (Ne.symm hmn) hn (hfirst m rfl), chOf_withStats, if_neg (by simpa using hmn)]

theorem channelsOnly_statsPlaced (first : Option Nat) (s : State) :
    ChannelsOnly { s with reservoir := { s.reservoir with statsChannel := first } } (statsPlaced first s) := by
  cases first with
  | none => exact ⟨rfl, rfl⟩
  | some m => exact channelsOnly_setCh ..

/-- The key is drawn. -/
def keyTaken (s : State) : State :=
  { s with freeIx := s.freeIx + 1, reservoir := { s.reservoir with keyReady := true, key := Config.free s.freeIx % 2 ^ 256 } }

theorem chOf_keyTaken (s : State) (n : Nat) : chOf (keyTaken s) n = chOf s n := by
  match n with
  | 0 | 1 | 2 | _ + 3 => rfl

theorem keyDrawn_eq {s : State} (hkey : s.reservoir.keyReady = false) (hserves : entServes s 1 = true) : keyDrawn s =
    let u := broughtUp [0, 1, 2, 3] (keyTaken (entServe 1 32 s))
    let t := statsPlaced (onlineChannels u).head? u
    raiseRsvState (if rsvOnline t then 0 else 2) 0 t := by
  unfold keyDrawn
  rw [if_neg (by simp [hkey, hserves])]
  dsimp only [drawFree]
  simp only [bring_eq]
  rfl

/-- The key is drawn and the trained channels are ONLINE, the lowest with the statistics region. -/
structure KeyDrawn (first : Option Nat) (s t : State) : Prop where
  channel : ∀ n, n < 4 → chOf t n = if (chOf s n).state = .trained then { chOf s n with
    state := .online, lapTick := s.tick, pointer := if first = some n then 16384 else (chOf s n).pointer } else chOf s n
  reservoir : t.reservoir = { s.reservoir with
    ch0 := t.reservoir.ch0, ch1 := t.reservoir.ch1, ch2 := t.reservoir.ch2, ch3 := t.reservoir.ch3
    keyReady := true, key := t.reservoir.key, statsChannel := first }
  entropy : t.entropy = { s.entropy with requests := t.entropy.requests, seeds := t.entropy.seeds }
  told : Told { s with reservoir := t.reservoir, freeIx := s.freeIx + 1, entropy := t.entropy, counters := t.counters } t

theorem entServe_entropy (n bytes : Nat) (s : State) : (entServe n bytes s).entropy = { s.entropy with
    requests := (entServe n bytes s).entropy.requests, seeds := (entServe n bytes s).entropy.seeds } := by
  simp only [entServe, entCount_eq]
  rfl

theorem chOf_entServe (n bytes : Nat) (s : State) (m : Nat) : chOf (entServe n bytes s) m = chOf s m := by
  rw [entServe_rest]
  exact chOf_of_reservoir rfl m

/-- The lowest channel ONLINE after the bring-up is the lowest trained one before it. -/
theorem head_onlineChannels {s u : State} (hch : ∀ n, n < 4 → chOf u n = (chOf s n).brought s.tick)
    (hstates : ∀ n, n < 4 → (chOf s n).state = .absent ∨ (chOf s n).state = .trained) :
    (onlineChannels u).head? = [0, 1, 2, 3].find? (fun n => (chOf s n).state == .trained) := by
  have honline : ∀ n ∈ [0, 1, 2, 3], ((chOf u n).state == .online) = ((chOf s n).state == .trained) := fun n hmem => by
    have hn : n < 4 := by
      simp only [List.mem_cons, List.not_mem_nil, or_false] at hmem
      omega
    rw [hch n hn, Channel.brought]
    rcases hstates n hn with h | h <;> simp [h]
  rw [onlineChannels, List.filter_congr honline, List.head?_filter]

/-- The state before RSV_STATE is told, of the channels that are brought up. -/
structure KeyHeld (first : Option Nat) (s t : State) : Prop where
  rest : t = { s with reservoir := t.reservoir, freeIx := s.freeIx + 1, entropy := (entServe 1 32 s).entropy, counters := (entServe 1 32 s).counters }
  reservoir : t.reservoir = { s.reservoir with
    ch0 := t.reservoir.ch0, ch1 := t.reservoir.ch1, ch2 := t.reservoir.ch2, ch3 := t.reservoir.ch3
    keyReady := true, key := t.reservoir.key, statsChannel := first }

theorem keyHeld_statsPlaced (first : Option Nat) (s : State) :
    KeyHeld first s (statsPlaced first (broughtUp [0, 1, 2, 3] (keyTaken (entServe 1 32 s)))) := by
  have hplaced := channelsOnly_statsPlaced first (broughtUp [0, 1, 2, 3] (keyTaken (entServe 1 32 s)))
  have hchannels := channelsOnly_broughtUp [0, 1, 2, 3] (keyTaken (entServe 1 32 s))
  generalize statsPlaced first (broughtUp [0, 1, 2, 3] (keyTaken (entServe 1 32 s))) = t at *
  generalize broughtUp [0, 1, 2, 3] (keyTaken (entServe 1 32 s)) = u at *
  have hserve := entServe_rest 1 32 s
  generalize he : entServe 1 32 s = e at hserve hplaced hchannels
  refine ⟨?_, ?_⟩
  · have hrest := hplaced.rest
    rw [hchannels.rest, keyTaken, hserve] at hrest
    rw [he]
    exact hrest
  · have hreservoir := hplaced.reservoir
    have hkept : e.reservoir = s.reservoir := by rw [hserve]
    rw [hchannels.reservoir, keyTaken, hkept] at hreservoir
    rw [hreservoir]

theorem told_raiseRsvState (code lost : Nat) (s : State) : Told s (raiseRsvState code lost s) := (Told.refl s).raiseHeld ..

theorem keyDrawn_draws {s : State} {first : Option Nat} (hkey : s.reservoir.keyReady = false) (hserves : entServes s 1 = true)
    (hstates : ∀ n, n < 4 → (chOf s n).state = .absent ∨ (chOf s n).state = .trained)
    (hfirst : first = [0, 1, 2, 3].find? (fun n => (chOf s n).state == .trained)) : KeyDrawn first s (keyDrawn s) := by
  have hkeyed (n : Nat) : chOf (keyTaken (entServe 1 32 s)) n = chOf s n := (chOf_keyTaken ..).trans (chOf_entServe ..)
  have htick : (keyTaken (entServe 1 32 s)).tick = s.tick := by rw [keyTaken, entServe_rest]
  have hup (n : Nat) (hn : n < 4) : chOf (broughtUp [0, 1, 2, 3] (keyTaken (entServe 1 32 s))) n = (chOf s n).brought s.tick := by
    have hmem : n ∈ [0, 1, 2, 3] := by
      simp only [List.mem_cons, List.not_mem_nil, or_false]
      omega
    rw [chOf_broughtUp (by decide) (by decide) _ hn, if_pos hmem, hkeyed, htick]
  have hhead := (head_onlineChannels hup hstates).trans hfirst.symm
  have hlow : ∀ m, first = some m → m < 4 ∧ (chOf s m).state = .trained := fun m hm => by
    obtain ⟨htrained, hmem⟩ := List.find?_eq_some_iff_append.mp (hfirst ▸ hm) |>.imp id fun _ => List.mem_of_find?_eq_some (hfirst ▸ hm)
    simp only [List.mem_cons, List.not_mem_nil, or_false] at hmem
    exact ⟨by omega, by simpa using htrained⟩
  have hlast (n : Nat) (hn : n < 4) := chOf_statsPlaced (fun m hm => (hlow m hm).1) (broughtUp [0, 1, 2, 3] (keyTaken (entServe 1 32 s))) hn
  have hheld := keyHeld_statsPlaced first s
  rw [keyDrawn_eq hkey hserves]
  dsimp only
  rw [hhead]
  have htold := told_raiseRsvState (if rsvOnline (statsPlaced first (broughtUp [0, 1, 2, 3] (keyTaken (entServe 1 32 s)))) then 0 else 2) 0
    (statsPlaced first (broughtUp [0, 1, 2, 3] (keyTaken (entServe 1 32 s))))
  generalize statsPlaced first (broughtUp [0, 1, 2, 3] (keyTaken (entServe 1 32 s))) = p at *
  generalize raiseRsvState (if rsvOnline p then 0 else 2) 0 p = t at *
  have hentropy : t.entropy = (entServe 1 32 s).entropy := by rw [htold.entropy, hheld.rest]
  refine ⟨fun n hn => ?_, ?_, ?_, ?_⟩
  · rw [reservoir_of_told htold n, hlast n hn, hup n hn, Channel.brought]
    by_cases htrained : (chOf s n).state = .trained
    · rw [if_pos htrained, if_pos htrained]
    · rw [if_neg htrained, if_neg htrained, if_neg fun hfirst => htrained (hlow n hfirst).2]
  · rw [htold.reservoir]
    exact hheld.reservoir
  · rw [hentropy]
    exact entServe_entropy ..
  · have hkept := htold.withReservoir t.reservoir t.counters
    rw [hheld.rest] at hkept
    rw [hentropy]
    exact hkept

theorem rsvKeyDrawn {s : State} (hlive : s.live = true) {first : Option Nat} (hkey : s.reservoir.keyReady = false) (hserves : entServes s 1 = true)
    (hstates : ∀ n, n < 4 → (chOf s n).state = .absent ∨ (chOf s n).state = .trained)
    (hfirst : first = [0, 1, 2, 3].find? (fun n => (chOf s n).state == .trained)) : Gives (exec .rsvKeyDrawn s) (KeyDrawn first s) :=
  ⟨_, act_of_live hlive _, keyDrawn_draws hkey hserves hstates hfirst⟩

end Sys2Proof.Machine
end

section
/-!
PROOFS. Retrains of the reservoir's channels and what a lost channel takes with it (10_reservoir).
-/
namespace Sys2Proof.Machine

open Sys2Proof

/-! ## What a discarded frame leaves (R326, R329) -/

/-- From `s` to `t` frames have been given up: none is new, no port receives another one, and the channels are as they were. -/
structure Shed (s t : State) : Prop where
  reservoir : t.reservoir = s.reservoir
  rx : t.fabric.rx = s.fabric.rx
  frames : ∀ m g, frameOf t m = some g → ∃ f, frameOf s m = some f ∧ f.ingress = g.ingress
  onDie : s.onDie → t.onDie

theorem Shed.refl (s : State) : Shed s s := ⟨rfl, rfl, fun _ g h => ⟨g, h, rfl⟩, id⟩

theorem Shed.trans {s t u : State} (h : Shed s t) (k : Shed t u) : Shed s u := by
  refine ⟨k.reservoir.trans h.reservoir, k.rx.trans h.rx, fun m g hg => ?_, fun hdie => k.onDie (h.onDie hdie)⟩
  obtain ⟨f, hf, hfg⟩ := k.frames m g hg
  obtain ⟨e, he, hef⟩ := h.frames m f hf
  exact ⟨e, he, hef.trans hfg⟩

theorem Shed.of_told {s t : State} (h : Told s t) : Shed s t := by
  refine ⟨h.reservoir, by rw [h.fabric], fun m g hg => ⟨g, ?_, rfl⟩, onDie_of_sched h.sched⟩
  rwa [← frameOf_of_fabric h.fabric]

theorem Shed.gone {s t : State} (h : Shed s t) {f : Nat} (hnone : frameOf s f = none) : frameOf t f = none := by
  cases hf : frameOf t f with
  | none => rfl
  | some g =>
    obtain ⟨e, he, -⟩ := h.frames f g hf
    rw [hnone] at he
    exact absurd he (by simp)

theorem receiving_eq_false {s : State} {f : Nat} : receiving s f = false ↔ ∀ g, frameOf s f = some g → s.fabric.rx.find g.ingress ≠ some f := by
  unfold receiving
  cases frameOf s f with
  | none => simp
  | some g => simp

/-- What is not being received is not received later. -/
theorem Shed.receiving {s t : State} (h : Shed s t) {f : Nat} (hdone : receiving s f = false) : receiving t f = false := by
  rw [receiving_eq_false] at hdone ⊢
  intro g hg
  obtain ⟨e, he, hingress⟩ := h.frames f g hg
  rw [h.rx, ← hingress]
  exact hdone e he

theorem shed_modFrame {g : Frame → Frame} (hg : ∀ f, (g f).ingress = f.ingress) (n : Nat) (s : State) : Shed s (modFrame n g s) := by
  refine ⟨rfl, rfl, fun m v hv => ?_, id⟩
  rw [frameOf_modFrame] at hv
  split_ifs at hv with hm
  · obtain ⟨f, hf, rfl⟩ := Option.map_eq_some_iff.mp hv
    exact ⟨f, hm ▸ hf, (hg f).symm⟩
  · exact ⟨v, hv, rfl⟩

theorem shed_setClassWords (c n : Nat) (s : State) : Shed s (setClassWords c n s) := by
  unfold setClassWords
  split <;> exact ⟨rfl, rfl, fun _ g h => ⟨g, h, rfl⟩, id⟩

theorem shed_setEgress (p : Nat) (e : Egress) (s : State) : Shed s (setEgress p e s) := ⟨rfl, rfl, fun _ g h => ⟨g, h, rfl⟩, id⟩

theorem mem_cellsInsert {α : Type} {k : Nat} {v : α} {l : List (Nat × α)} {c : Nat × α} (h : c ∈ cellsInsert k v l) : c = (k, v) ∨ c ∈ l := by
  induction l with
  | nil => exact .inl (List.mem_singleton.mp h)
  | cons x l ih =>
    obtain ⟨j, w⟩ := x
    simp only [cellsInsert] at h
    split_ifs at h
    · exact (List.mem_cons.mp h).imp_right fun h => h
    · exact (List.mem_cons.mp h).imp_right (List.mem_cons_of_mem _)
    · rcases List.mem_cons.mp h with h | h
      · exact .inr (h ▸ List.mem_cons_self)
      · exact (ih h).imp_right (List.mem_cons_of_mem _)

theorem onDie_iff (s : State) : s.onDie ↔ ∀ c ∈ s.sched.leaves.cells, c.2.spilling = false := by
  simp [State.onDie, Table.keysIf, List.filter_eq_nil_iff]

theorem shed_modLeaf {g : Leaf → Leaf} (hg : ∀ l, (g l).spilling = l.spilling) (n : Nat) (s : State) : Shed s (modLeaf n g s) := by
  refine ⟨rfl, rfl, fun _ g h => ⟨g, h, rfl⟩, fun hdie => ?_⟩
  rw [onDie_iff] at hdie ⊢
  intro c hc
  unfold modLeaf Table.modify at hc
  dsimp only at hc
  split at hc
  next l hl =>
    rcases mem_cellsInsert hc with rfl | hc
    · exact (hg l).trans (hdie _ (mem_of_cellsFind hl))
    · exact hdie c hc
  next => exact hdie c hc

theorem shed_unlinkFrame (fid : Nat) (s : State) : Shed s (unlinkFrame fid s) := by
  unfold unlinkFrame
  split
  · exact .refl s
  · dsimp only
    split_ifs
    · exact shed_setEgress ..
    · refine Shed.trans ?_ (shed_setEgress ..)
      exact shed_modLeaf (fun l => by rfl) ..

theorem shed_freeWords (fid : Nat) (s : State) : Shed s (freeWords fid s) := by
  unfold freeWords
  split
  · exact .refl s
  · refine Shed.trans ?_ (shed_setClassWords ..)
    exact shed_modFrame (fun f => by rfl) ..

theorem shed_eraseFrame (fid : Nat) (s : State) : Shed s { s with fabric := { s.fabric with frames := s.fabric.frames.erase fid } } := by
  refine ⟨rfl, rfl, fun m g hg => ?_, id⟩
  by_cases hm : m = fid
  · subst hm
    have hnone : (s.fabric.frames.erase m).find m = none := Table.find_erase_same ..
    exact absurd (hnone.symm.trans hg) (by simp)
  · exact ⟨g, (Table.find_erase_ne hm s.fabric.frames).symm.trans hg, rfl⟩

theorem shed_removeFrame (fid : Nat) (s : State) : Shed s (removeFrame fid s) := by
  unfold removeFrame
  dsimp only
  split_ifs
  · refine (shed_freeWords fid s).trans ?_
    exact shed_modFrame (fun f => by rfl) ..
  · exact (shed_freeWords fid s).trans (shed_eraseFrame ..)

theorem removeFrame_gone {fid : Nat} {s : State} (hdone : receiving s fid = false) : frameOf (removeFrame fid s) fid = none := by
  have hreceiving := (shed_freeWords fid s).receiving hdone
  unfold removeFrame
  dsimp only
  rw [if_neg (by simp [hreceiving])]
  exact Table.find_erase_same ..

theorem shed_releaseRef (g : Nat) (s : State) : Shed s (releaseRef g s) := by
  unfold releaseRef
  split
  · exact .refl s
  · split_ifs
    · exact shed_removeFrame ..
    · exact shed_modFrame (fun f => by rfl) ..

theorem shed_discard (fid : Nat) (s : State) : Shed s (discard fid s) := by
  have hremoved := (shed_unlinkFrame fid s).trans (shed_removeFrame fid (unlinkFrame fid s))
  unfold discard
  split
  · exact .refl s
  · dsimp only
    split
    · exact hremoved.trans (shed_releaseRef ..)
    · exact hremoved

theorem discard_gone {fid : Nat} {s : State} (hdone : receiving s fid = false) : frameOf (discard fid s) fid = none := by
  have hremoved := removeFrame_gone ((shed_unlinkFrame fid s).receiving hdone)
  unfold discard
  split
  next hnone => exact hnone
  · dsimp only
    split
    · exact (shed_releaseRef ..).gone hremoved
    · exact hremoved

theorem shed_rsvCount (i : Nat) (s : State) : Shed s (rsvCount i s) := by
  have htold := told_rsvCount i s
  refine ⟨htold.reservoir, by rw [htold.fabric]; rfl, fun m g hg => ⟨g, ?_, rfl⟩, onDie_of_sched htold.sched⟩
  rw [frameOf_of_fabric htold.fabric] at hg
  exact hg

theorem shed_loseFrames (i : Nat) (fids : List Nat) (s : State) : Shed s (loseFrames i fids s) := by
  induction fids generalizing s with
  | nil => exact .refl s
  | cons f fids ih =>
    have hfirst : Shed s (discard f (rsvCount i s)) := (shed_rsvCount i s).trans (shed_discard ..)
    exact hfirst.trans (ih _)

theorem loseFrames_gone {i : Nat} {fids : List Nat} {s : State} {f : Nat} (hf : f ∈ fids) (hdone : receiving s f = false) :
    frameOf (loseFrames i fids s) f = none := by
  induction fids generalizing s with
  | nil => exact absurd hf List.not_mem_nil
  | cons g fids ih =>
    have hcounted := shed_rsvCount i s
    by_cases hfg : f = g
    · subst hfg
      exact (shed_loseFrames i fids _).gone (discard_gone (hcounted.receiving hdone))
    · have hrest := (List.mem_cons.mp hf).resolve_left hfg
      exact ih hrest ((shed_discard ..).receiving (hcounted.receiving hdone))

/-! ## RSV_RETRAIN_ATTEMPT_END (R329) -/

/-- A channel as its loss leaves it. -/
def Channel.lost (c : Channel) : Channel := { c with state := .failed, pages := [], latent := [], resting := false, retrain := 0 }

/-- The channel is lost and the reservoir degraded. -/
def channelLost (n : Nat) (s : State) : State :=
  let t := setCh n (chOf s n).lost s
  { t with reservoir := { t.reservoir with degraded := true } }

theorem chOf_channelLost (n m : Nat) (s : State) : chOf (channelLost n s) m = chOf (setCh n (chOf s n).lost s) m := by
  match m with
  | 0 | 1 | 2 | _ + 3 => rfl

theorem losePages_all (n i : Nat) (s : State) : losePages n i (fun _ => true) s = ((framesIn s n fun _ => true).length,
    setCh n { chOf (loseFrames i (framesIn s n fun _ => true) s) n with pages := [] } (loseFrames i (framesIn s n fun _ => true) s)) := by
  have hnone (l : List Page) : l.filter (fun _ => !true) = [] := List.filter_eq_nil_iff.mpr fun _ _ => by decide
  simp only [losePages, modCh_eq, hnone]

/-- How the loss of a channel is told, and what follows from it. -/
def lossTold (n cause lost : Nat) (s : State) : State :=
  let t := raiseHeld 0 0x0709 3 n (detailOf [(20, cause), (24, lost)]) (driveLed 3 true s)
  let u := if holdsStats t n then moveStats t else t
  reviewSpill (raiseRsvState (if rsvOnline u then 1 else 2) lost u)

theorem loseChannel_eq (n cause : Nat) (s : State) : loseChannel n cause s = lossTold n cause (framesIn s n fun _ => true).length
    (channelLost n (loseFrames 6 (framesIn s n fun _ => true) s)) := by
  unfold loseChannel
  rw [losePages_all]
  dsimp only
  rw [modCh_eq, chOf_setCh_same, setCh_setCh]
  rfl

theorem told_lossTold {n : Nat} {s : State} (hdie : s.onDie) (hstats : holdsStats s n = false) (cause lost : Nat) : Told s (lossTold n cause lost s) := by
  have hraised : Told s (raiseHeld 0 0x0709 3 n (detailOf [(20, cause), (24, lost)]) (driveLed 3 true s)) := ((Told.refl s).driveLed ..).raiseHeld ..
  unfold lossTold
  dsimp only
  generalize raiseHeld 0 0x0709 3 n (detailOf [(20, cause), (24, lost)]) (driveLed 3 true s) = t at *
  have hnot : holdsStats t n = false := by
    rw [holdsStats, hraised.reservoir]
    exact hstats
  have hstate := hraised.trans (told_raiseRsvState (if rsvOnline t then 1 else 2) lost t)
  rw [hnot, if_neg Bool.false_ne_true, reviewSpill_of_onDie (onDie_of_sched hstate.sched hdie)]
  exact hstate

/-- What the loss of a channel leaves. -/
structure ChannelLost (n : Nat) (s t : State) : Prop where
  channel : chOf t n = (chOf s n).lost
  degraded : t.reservoir.degraded = true
  others : ∀ m, m < 4 → m ≠ n → chOf t m = chOf s m
  frames : ∀ f, f ∈ framesIn s n (fun _ => true) → receiving s f = false → frameOf t f = none

theorem channelLost_loseChannel {n cause : Nat} {s : State} (hn : n < 4) (hdie : s.onDie) (hstats : holdsStats s n = false) :
    ChannelLost n s (loseChannel n cause s) := by
  have hshed := shed_loseFrames 6 (framesIn s n fun _ => true) s
  have hgone (f : Nat) (hf : f ∈ framesIn s n fun _ => true) (hdone : receiving s f = false) := loseFrames_gone (i := 6) hf hdone
  rw [loseChannel_eq]
  generalize (framesIn s n fun _ => true).length = k
  generalize loseFrames 6 (framesIn s n fun _ => true) s = u at *
  have hch (m : Nat) : chOf u m = chOf s m := chOf_of_reservoir hshed.reservoir m
  have hsched : (channelLost n u).sched = u.sched := setCh_sched ..
  have hfabric : (channelLost n u).fabric = u.fabric := setCh_fabric ..
  have hnot : holdsStats (channelLost n u) n = false := by
    have hkept : holdsStats u n = holdsStats s n := by rw [holdsStats, holdsStats, hshed.reservoir]
    exact (holdsStats_setCh n (chOf u n).lost u n).trans (hkept.trans hstats)
  have htold := told_lossTold (onDie_of_sched hsched (hshed.onDie hdie)) hnot cause k
  generalize lossTold n cause k (channelLost n u) = t at *
  refine ⟨?_, ?_, fun m hm hne => ?_, fun f hf hdone => ?_⟩
  · rw [reservoir_of_told htold, chOf_channelLost, chOf_setCh_same, hch]
  · rw [htold.reservoir]
    rfl
  · rw [reservoir_of_told htold, chOf_channelLost, chOf_setCh_ne hne hm hn, hch]
  · rw [frameOf_of_fabric htold.fabric, frameOf_of_fabric hfabric]
    exact hgone f hf hdone

section
variable {s : State} (hlive : s.live = true) {n : Nat} (hn : n < 4)
include hlive hn

theorem execRsvRetrain_of_live (ok : Bool) : exec (.rsvRetrainAttemptEnd n ok) s = .next (retrainEnd n ok s) := by
  refine (act_of_live hlive _).trans (congrArg _ ?_)
  rw [if_pos hn]

variable (hstate : (chOf s n).state = .retraining)
include hstate

theorem rsvRetrain_resumes (hdie : s.onDie) :
    Gives (exec (.rsvRetrainAttemptEnd n true) s) (Told (setCh n { chOf s n with state := .online, retrain := 0 } s)) := by
  refine ⟨_, execRsvRetrain_of_live hlive hn true, ?_⟩
  have htold : Told (setCh n { chOf s n with state := .online, retrain := 0 } s)
      (raiseRetrain n (chOf s n).retrain true (setCh n { chOf s n with state := .online, retrain := 0 } s)) := (Told.refl _).raiseHeld ..
  have hsched := htold.sched.trans (setCh_sched n { chOf s n with state := .online, retrain := 0 } s)
  unfold retrainEnd
  dsimp only
  rw [if_neg (by simp [hstate]), if_pos rfl, reviewSpill_of_onDie (onDie_of_sched hsched hdie)]
  exact htold

theorem rsvRetrain_goesOn (hfew : (chOf s n).retrain < 3) : Gives (exec (.rsvRetrainAttemptEnd n false) s)
    (Told (State.plus 0x7148 1 (setCh n { chOf s n with retrain := (chOf s n).retrain + 1 } s))) := by
  refine ⟨_, execRsvRetrain_of_live hlive hn false, ?_⟩
  have hsame : ({ chOf s n with state := .retraining, retrain := (chOf s n).retrain + 1 } : Channel) =
      { chOf s n with retrain := (chOf s n).retrain + 1 } := by rw [← hstate]
  have htold := told_rsvCount 9 (setCh n { chOf s n with retrain := (chOf s n).retrain + 1 } s)
  unfold retrainEnd beginRetrain
  dsimp only
  rw [if_neg (by simp [hstate]), if_neg Bool.false_ne_true, if_neg (by omega), modCh_eq, hsame]
  exact htold.raiseHeld ..

theorem rsvRetrain_loses (hdie : s.onDie) (hmany : 3 ≤ (chOf s n).retrain) (hstats : holdsStats s n = false) :
    Gives (exec (.rsvRetrainAttemptEnd n false) s) (ChannelLost n s) := by
  refine ⟨_, execRsvRetrain_of_live hlive hn false, ?_⟩
  unfold retrainEnd
  dsimp only
  rw [if_neg (by simp [hstate]), if_neg Bool.false_ne_true, if_pos hmany]
  exact channelLost_loseChannel hn hdie hstats

end

end Sys2Proof.Machine
end

section
/-!
PROOFS. The reservoir (10_reservoir).
-/
namespace Sys2Proof.Machine

open Sys2Proof

/-- Settles O50: the reservoir's commands, pages, retrains, patrol and sweeps, each by the lemma of its row. -/
theorem reservoir : Obligations.Reservoir := by
  intro s
  refine ⟨fun c => ⟨rsvConfig_settles, rsvStatus_answers, fun n lo frames hpass hn hlo hframes =>
    ⟨rsvScrub_of_clean hpass hn hlo hframes, fun e f hmild hframe hfrom hto => ?_⟩⟩, fun hlive => ⟨?_, ?_, ?_, ?_, ?_, ?_, ?_, ?_⟩⟩
  · obtain ⟨hsymbol, honly, htag, hkind, hunmarked, hthreshold, hread⟩ := hmild
    exact rsvScrub_of_mild hpass hn hlo hframes ⟨hsymbol, honly, htag, hkind, hunmarked, hthreshold, hread⟩ hframe hfrom hto
  · intro leaf l n place parts staging stagedOut misses partial_ hleaf hspilling hspill hturn hn hmay hplace hsound htakes
    obtain ⟨t, hexec, htail, hput⟩ := spillPageWrite hlive hleaf hspilling hspill hturn hn hmay hplace hsound htakes
    have hblock := lined_page (blockOf (chOf s n) 0 place)
    rw [← hput.block] at hblock
    exact ⟨t, hexec, htail, hput.leaves, hput.channel, hput.others, hblock, hput.told, hput.reservoir, hput.counters⟩
  · intro leaf n p f v l hn honline hleaf hparts hwriting hqueue hone hmem hframe
    exact pageWriteComplete hlive hn honline hleaf hparts hwriting hqueue hone hmem hframe
  · intro leaf n p f v l misses _ hrequested honline hclean hleaf hstaging hparts hframe u hu hlast
    subst hu
    exact pageReadComplete hlive hrequested honline hclean hleaf hstaging hparts hframe hlast
  · exact fun n hn => execRsvLapRestEnd_of_live hlive hn
  · intro first hkey hserves hstates hfirst
    obtain ⟨t, hexec, ht⟩ := rsvKeyDrawn hlive hkey hserves hstates hfirst
    exact ⟨t, hexec, ht.channel, ht.reservoir, ht.entropy, ht.told⟩
  · intro n ok hn hstate hdie
    refine ⟨fun hok => ?_, fun hok hfew => ?_, fun hok hmany hstats => ?_⟩
    · subst hok
      exact rsvRetrain_resumes hlive hn hstate hdie
    · subst hok
      exact rsvRetrain_goesOn hlive hn hstate hfew
    · subst hok
      obtain ⟨t, hexec, ht⟩ := rsvRetrain_loses hlive hn hstate hdie hmany hstats
      exact ⟨t, hexec, ht.channel, ht.degraded, ht.others, ht.frames⟩
  · intro hup hperiod
    refine ⟨rsvPatrol_of_clean hlive hup hperiod, fun n e hn hfatal honline hmild hclean => ?_⟩
    obtain ⟨hsymbol, honly, htag, hkind, hunmarked, hthreshold, hread⟩ := hmild
    exact rsvPatrol_of_mild hlive hup hperiod hn hfatal honline ⟨hsymbol, honly, htag, hkind, hunmarked, hthreshold, hread⟩ hclean
  · intro n hup hstats _ honline hsound hwf hsas
    obtain ⟨t, hexec, ht⟩ := statsSweep_sweeps hlive hup hstats honline hsound hwf hsas
    exact ⟨t, hexec, ht.totals, ht.merge, ht.channel, ht.reservoir, ht.told, ht.counters⟩

end Sys2Proof.Machine
end
